-- ==== Sys2Proof/Word.lean ====
section
/-! DEFINITION. The plainest data of the links: a byte of a frame and the 16-bit check word (R147, R148). -/

namespace Sys2Proof

/-- One character of a link frame: eight data bits (R146). -/
abbrev Byte := BitVec 8

/-- The 16-bit check of a link frame (R148). -/
abbrev Word := BitVec 16

end Sys2Proof
end

