-- ==== Sys2Proof/Config.lean ====
section
/-! DEFINITION. The fixed sizes of the AF-412's collections and the fixed numbers of its arithmetic, each with
the rule that gives it. The one free value of the model, `Config.ownPayload`, stands in Machine/Frames.lean, where its
argument's type is known (log entry 35). -/

namespace Sys2Proof.Config

/-- Stall records (R1). -/
abbrev stallCount : Nat := 640
/-- Hook records (R64). -/
abbrev hookCount : Nat := 576
/-- Panel records (R65). -/
abbrev panelCount : Nat := 9
/-- Hooks in one panel (R64). -/
abbrev hooksPerPanel : Nat := 64
/-- Runner records (R84). -/
abbrev runnerCount : Nat := 32
/-- Lift records (R105). -/
abbrev liftCount : Nat := 4
/-- Lane records (R118). -/
abbrev laneCount : Nat := 6
/-- Station records (R150). -/
abbrev stationCount : Nat := 60
/-- Pass table rules (R158). -/
abbrev passRuleCount : Nat := 32
/-- Timer channels (R165). -/
abbrev channelCount : Nat := 8
/-- Event sources, occur flags and notice masks (R183, R185, R186). -/
abbrev sourceCount : Nat := 30
/-- Event routes (R190). -/
abbrev routeCount : Nat := 16
/-- Latches (R192). -/
abbrev latchCount : Nat := 4
/-- Open tickets at most (R38). -/
abbrev maxTickets : Nat := 512
/-- The highest ticket number (R38). -/
abbrev maxTicketNumber : Nat := 9999
/-- Places of the unplaced list (R31). -/
abbrev maxUnplaced : Nat := 32
/-- Entries of the call schedule (R127). -/
abbrev maxSchedule : Nat := 64
/-- Places of the dispatch queue (R89). -/
abbrev maxQueue : Nat := 64
/-- WAITING tenures to which a filing may bring a lift's queue (R107). -/
abbrev maxFiled : Nat := 32
/-- Cars of one lift that may be on the way down or staged before a DOWN grant stops (R109). -/
abbrev stagingSlots : Nat := 2
/-- Frames a forwarded-frame queue holds (R160). -/
abbrev maxForwarded : Nat := 32
/-- Marks one ZONE_OCCUPANCY report may carry, and stalls one hub may serve (R10, R151). -/
abbrev maxMarks : Nat := 32
/-- Entries shown on the curb board (R143). -/
abbrev boardEntries : Nat := 8
/-- Members of one group (R131). -/
abbrev maxGroup : Nat := 4
/-- Payload bytes of one frame (R147). -/
abbrev maxPayload : Nat := 32
/-- Tenths of one day (R180). -/
abbrev dayTenths : Nat := 864000
/-- Days of the site clock before it wraps (R180). -/
abbrev dayCount : Nat := 65536
/-- Top of a channel's count and saturation value of a capture (R141, R173). -/
abbrev countTop : Nat := 65535
/-- Clocks of one panel exchange, and bits read in it (R75). -/
abbrev exchangeClocks : Nat := 66
/-- Further clocks the scanner gives while it waits for an end mark (R76). -/
abbrev furtherClocks : Nat := 32
/-- The generator's lower sixteen terms (R148). -/
abbrev crcGenerator : Word := 0x1021#16
/-- The preset of the check register (R148). -/
abbrev crcPreset : Word := 0xFFFF#16

end Sys2Proof.Config
end

