-- ==== Sys2Proof/Syntax.lean ====
section
/-! DEFINITION. The commands the AF-412 takes, one constructor of `Instr` per row of the table of steps, with the
operands each carries: the port and source station of a frame, and the fields of its payload as received. -/

namespace Sys2Proof

/-! ### Fields as received -/

/-- A field of a payload that should hold a value of a stated set: the value, or something outside the set
(R43, R196). Numbers with a range are plain `Nat` fields, since a number outside its range is itself readable. -/
inductive Sent (α : Type) where
  | value (a : α)
  | outside
  deriving DecidableEq, Repr

/-- A payload as received: too short for its kind or request (R43, R195), or its fields. -/
inductive Wire (α : Type) where
  | tooShort
  | fields (a : α)
  deriving DecidableEq, Repr

/-! ### Names of the manual -/

/-- The two attachments of the controller, to the curb link and to the deck link. -/
inductive Port where
  | curb | deck
  deriving DecidableEq, Repr

/-- The port a good frame arrives on and its source address. -/
structure From where
  port : Port
  source : Nat
  deriving DecidableEq, Repr

/-- Size classes 0 to 3, of stalls and cars. -/
inductive SizeClass where
  | compact | standard | large | oversize
  deriving DecidableEq, Repr

/-- Expected length of a stay (R26). -/
inductive StayClass where
  | short | evening | overnight | multiday
  deriving DecidableEq, Repr

/-- Service level of a ticket, 0 to 2. -/
inductive Tier where
  | standard | preferred | reserved
  deriving DecidableEq, Repr

/-- A sensor's mark for one stall, in a report (R10). -/
inductive Mark where
  | occupied | empty
  deriving DecidableEq, Repr

/-- The link a station is on (R150). -/
inductive Segment where
  | curb | deck | none
  deriving DecidableEq, Repr

/-- What a station is (R150). -/
inductive StationClass where
  | desk | podium | runnerBase | laneLoop | sensorHub | lift | display | gate | other
  deriving DecidableEq, Repr

/-- The permissions of a station, a set of three (R150). -/
structure Permissions where
  manage : Bool
  notice : Bool
  service : Bool
  deriving DecidableEq, Repr

/-- What a station serves (R150): a lane, a lift, or a first and a last stall. -/
inductive Served where
  | lane (n : Nat)
  | lift (n : Nat)
  | stalls (first last : Nat)
  deriving DecidableEq, Repr

/-- Destination of a pass rule (R158). -/
inductive PassDest where
  | address (a : Nat)
  | any
  | broadcast
  deriving DecidableEq, Repr

/-- Direction of a pass rule (R158). -/
inductive PassDirection where
  | curbToDeck | deckToCurb | either
  deriving DecidableEq, Repr

/-- Verdict of a pass rule (R158, R159). -/
inductive Verdict where
  | forward | snoopForward | absorb | drop
  deriving DecidableEq, Repr

/-- Action of a route as loaded (R190). -/
inductive RouteAction where
  | none
  | timerStart (channel : Nat)
  | timerStop (channel : Nat)
  | latch (number : Nat)
  deriving DecidableEq, Repr

/-- Modes of a timer channel (R165). -/
inductive TimerMode where
  | off | interval | delay | window | capture
  deriving DecidableEq, Repr

/-- Count clocks of a timer channel (R165). -/
inductive TimerClock where
  | tenth | second | tenSeconds | event
  deriving DecidableEq, Repr

/-- Output line of a timer channel (R165). -/
inductive OutputLine where
  | none | out1 | out2 | out3 | out4
  deriving DecidableEq, Repr

/-- Capture target of a timer channel (R165). -/
inductive CaptureTarget where
  | none | liftCycle1 | liftCycle2 | liftCycle3 | liftCycle4 | taskMean | laneDrive
  deriving DecidableEq, Repr

/-- What SET_STALL_SERVICE asks (R18). -/
inductive ServiceValue where
  | out | free
  deriving DecidableEq, Repr

/-- A parameter value as received: a number, a set given by its members, or a flag (R198). -/
inductive ParamValue where
  | number (n : Nat)
  | members (xs : List Nat)
  | flag (b : Sent Bool)
  deriving DecidableEq, Repr

/-! ### Frames read as bytes -/

/-- A link frame: destination, source, kind, length, payload and check (R147). -/
structure Frame where
  destination : Byte
  source : Byte
  kind : Byte
  length : Byte
  payload : List Byte
  check : Word
  deriving DecidableEq, Repr

/-- What a port receives in answer to a poll: characters ended as a bad frame (R146), or the bytes of a frame as they
came, not yet judged (R147). -/
inductive Received where
  | badCharacters
  | bytes (bs : List Byte)
  deriving DecidableEq, Repr

/-- The frame kinds of the manual, in the order of their table (R149). -/
inductive FrameKind where
  | poll | idle | arrive | call | schedule | cancel | groupLink | quoteAsk | serviceReply
  | runnerStatus | taskAccept | taskDecline | taskStep | taskOffer | taskWithdraw | runnerReply
  | liftStatus | liftOrder | laneStatus | zoneOccupancy | curbBoard | vacancy
  | manageRequest | manageReply | notice
  deriving DecidableEq, Repr

/-- A ZONE_OCCUPANCY report: the first stall and one mark per stall from it upward; the count of the report is the
number of marks (R10). -/
structure ZoneReport where
  first : Nat
  marks : List Mark
  deriving DecidableEq, Repr

/-- A frame addressed to the controller that no block takes as one of its frames: a kind without a block (R149), a
frame of a block's kind whose own code lies outside the set of that kind (R85, R99, R106, R120), or a frame of a runner,
lift, lane or sensor kind with a payload that does not hold its fields, of which the manual says nothing (log entry
34). -/
inductive Unhandled where
  | kind (k : Byte)
  | statusRequest (badge level : Nat)
  | stepKind (badge ticket : Nat)
  | liftReport
  | laneReport
  | badPayload (k : FrameKind)
  deriving DecidableEq, Repr

/-! ### Records of the service requests -/

/-- ARRIVE (R44). -/
structure ArriveFields where
  size : Sent SizeClass
  charger : Sent Bool
  stay : Sent StayClass
  tier : Sent Tier
  plate : Option (List Byte)
  deriving DecidableEq, Repr

/-- CALL (R49). -/
structure CallFields where
  ticket : Nat
  wholeGroup : Sent Bool
  deriving DecidableEq, Repr

/-- SCHEDULE (R128). -/
structure ScheduleFields where
  ticket : Nat
  day : Nat
  tenth : Nat
  deriving DecidableEq, Repr

/-- GROUP_LINK (R132). -/
structure GroupFields where
  group : Nat
  ticket : Nat
  deriving DecidableEq, Repr

/-! ### Records of the management requests -/

/-- LOAD_STATION (R151). -/
structure StationFields where
  address : Nat
  segment : Sent Segment
  cls : Sent StationClass
  permissions : Sent Permissions
  served : Option Served
  deriving DecidableEq, Repr

/-- LOAD_STALL (R17); the walk is a byte and never out of range. -/
structure StallFields where
  stall : Nat
  level : Nat
  zone : Nat
  walk : Byte
  size : Sent SizeClass
  charger : Sent Bool
  lift : Nat
  deriving DecidableEq, Repr

/-- The fields of a pass rule as received (R158). -/
structure RuleFields where
  low : Byte
  high : Byte
  source : Sent (Option StationClass)
  destination : Sent PassDest
  direction : Sent PassDirection
  verdict : Sent Verdict
  deriving DecidableEq, Repr

/-- LOAD_PASS_RULE: a rule number and the fields of a rule, or the clear mark (`none`) (R158). -/
structure PassRuleFields where
  number : Nat
  rule : Option RuleFields
  deriving DecidableEq, Repr

/-- LOAD_ROUTE; filter `none` is ANY (R190). -/
structure RouteFields where
  number : Nat
  source : Nat
  filter : Option Nat
  action : Sent RouteAction
  deriving DecidableEq, Repr

/-- LOAD_TIMER (R167). -/
structure TimerFields where
  channel : Nat
  mode : Sent TimerMode
  clock : Sent TimerClock
  clockSource : Option Nat
  reload : Nat
  master : Option Nat
  output : Sent OutputLine
  target : Sent CaptureTarget
  deriving DecidableEq, Repr

/-- LOAD_PARAMS (R198). -/
structure ParamFields where
  number : Nat
  value : ParamValue
  deriving DecidableEq, Repr

/-- SET_STALL_SERVICE (R18). -/
structure StallServiceFields where
  stall : Nat
  service : Sent ServiceValue
  deriving DecidableEq, Repr

/-- SET_CLOCK (R182). -/
structure ClockFields where
  day : Nat
  tenth : Nat
  deriving DecidableEq, Repr

/-- READ_TICKET (R61, R197). -/
structure ReadTicketFields where
  ticket : Nat
  part : Nat
  deriving DecidableEq, Repr

/-- REBIND_HOOK (R72). -/
structure RebindFields where
  hook : Nat
  ticket : Nat
  deriving DecidableEq, Repr

/-- RESTAGE (R102). -/
structure RestageFields where
  ticket : Nat
  target : Nat
  deriving DecidableEq, Repr

/-! ### One panel exchange -/

/-- What the scanner reads in one exchange with the selected panel (R75, R76): the data line at selection, the bits
read at the 66 clocks in order, and after how many further clocks the line was low (`some 0`: right after the
66th clock; `none`: not within the further clocks). -/
structure PanelExchange where
  highAtSelection : Bool
  bits : List Bool
  endMark : Option Nat
  deriving DecidableEq, Repr

/-! ### The commands -/

/-- One constructor per row of the table of steps. A frame addressed to the controller carries where it comes from
and its fields; a step of the controller's own carries what names its object. -/
inductive Instr where
  | arrive (f : From) (r : Wire ArriveFields)
  | call (f : From) (r : Wire CallFields)
  | schedule (f : From) (r : Wire ScheduleFields)
  | cancel (f : From) (r : Wire Nat)
  | groupLink (f : From) (r : Wire GroupFields)
  | quoteAsk (f : From) (r : Wire Nat)
  | runnerReady (f : From) (badge level : Nat)
  | runnerBreak (f : From) (badge level : Nat)
  | runnerOffDuty (f : From) (badge level : Nat)
  | runnerPosition (f : From) (badge level : Nat)
  | taskAccept (f : From) (badge ticket : Nat)
  | taskDecline (f : From) (badge ticket : Nat)
  | atLobby (f : From) (badge ticket level : Nat)
  | departed (f : From) (badge ticket : Nat)
  | parked (f : From) (badge ticket stall : Nat) (slotFree : Bool)
  | keyRequest (f : From) (badge ticket : Nat)
  | handover (f : From) (badge ticket : Nat) (slotFree : Bool)
  | liftIdleReport (f : From) (level : Nat)
  | liftLoadedReport (f : From) (level : Nat)
  | liftArrivedReport (f : From) (level : Nat)
  | liftUnloadedReport (f : From) (level : Nat)
  | liftObstructedReport (f : From) (level : Nat)
  | liftFaultReport (f : From) (level : Nat)
  | laneOccupiedReport (f : From)
  | laneClearReport (f : From)
  | zoneOccupancy (f : From) (r : ZoneReport)
  | loadStation (f : From) (r : Wire StationFields)
  | loadStall (f : From) (r : Wire StallFields)
  | loadParams (f : From) (r : Wire ParamFields)
  | loadPassRule (f : From) (r : Wire PassRuleFields)
  | loadRoute (f : From) (r : Wire RouteFields)
  | loadTimer (f : From) (r : Wire TimerFields)
  | loadMasks (f : From) (r : Wire (Vector (Sent Bool) Config.sourceCount))
  | setStallService (f : From) (r : Wire StallServiceFields)
  | setClock (f : From) (r : Wire ClockFields)
  | startTimer (f : From) (r : Wire Nat)
  | stopTimer (f : From) (r : Wire Nat)
  | readTicket (f : From) (r : Wire ReadTicketFields)
  | readStall (f : From) (r : Wire Nat)
  | readHook (f : From) (r : Wire Nat)
  | readRunner (f : From) (r : Wire Nat)
  | readCounts (f : From) (r : Wire Nat)
  | readFlags (f : From)
  | readLatch (f : From) (r : Wire Nat)
  | readEstimates (f : From)
  | clearFlags (f : From) (r : Wire (Vector Bool Config.sourceCount))
  | rebindHook (f : From) (r : Wire RebindFields)
  | restage (f : From) (r : Wire RestageFields)
  | forceClose (f : From) (r : Wire Nat)
  | restart (f : From) (strap : Fin 16)
  | manageUnknownKind (f : From) (code : Option Nat)
  | unhandledKind (f : From) (u : Unhandled)
  | routeFrame (p : Port) (fr : Frame) (zone : Option ZoneReport)
  | poll (p : Port)
  | idle (f : From)
  | badAnswer (p : Port) (rx : Received)
  | pollTimeout (p : Port)
  | strayFrame (p : Port) (rx : Received)
  | transmitOpportunity (p : Port)
  | scanCycle
  | panelSample (x : PanelExchange)
  | clockTick
  | confirmDeadline (stall : Nat)
  | releaseDeadline (hook : Nat)
  | offerDeadline (badge : Nat)
  | clearingDeadline (lane : Nat)
  | overdueDeadline (ticket : Nat)
  | scheduleRelease
  | intervalExpiry (channel : Nat)
  | delayExpiry (channel : Nat)
  | windowExpiry (channel : Nat)
  | pulseEnd (channel : Nat)
  | eventTaken
  | powerOn (strap : Fin 16)
  | powerLoss
  | batteryDropout
  | destination61Or62 (f : From) (destination : Nat)
  deriving DecidableEq, Repr

end Sys2Proof
end

