-- ==== Sys2Proof/Decode.lean ====
section
/-! DEFINITION. The command a word spells by the bits of the table: no row of the table gives bits, so no word spells one
(log entry 4). -/

namespace Sys2Proof

/-- The command that an instruction word spells: none of the rows gives bits. -/
def decodeTableWord (_nbits _w : Nat) : Option Instr := none

end Sys2Proof
end

