-- ==== Sys2Proof/Machine/State.lean ====
section
/-! DEFINITION. Everything the manual gives the controller, as plain data, block by block; the cold values each
chapter gives; and `State.reset`, the controller right after a cold start. -/

namespace Sys2Proof.Machine

open Sys2Proof

/-! ### Time -/

/-- A site time: a day 0 to 65535 and a tenth of it 0 to 863,999 (R180). -/
structure SiteTime where
  day : Nat
  tenth : Nat
  deriving DecidableEq, Repr

/-- Day 0, tenth 0: the site clock after a cold start (R180). -/
def SiteTime.zero : SiteTime := ⟨0, 0⟩

/-- A deadline held in a record (R181). `reached` is the model's own mark: the site clock has come to it and its
owning block has not yet taken it (log entry 2). -/
structure Deadline where
  time : SiteTime
  reached : Bool
  deriving DecidableEq, Repr

/-! ### The stall map (chapter 1) -/

/-- Stall states (R1). -/
inductive StallState where
  | undefined | free | held | occupied | blocked | out
  deriving DecidableEq, Repr

/-- The occupancy the sensors last established (R1). -/
inductive Sensed where
  | occupied | empty | unknown
  deriving DecidableEq, Repr

/-- The static fields of a stall, written by LOAD_STALL (R1). -/
structure StallSite where
  level : Nat
  zone : Nat
  walk : Nat
  size : SizeClass
  charger : Bool
  lift : Nat
  deriving DecidableEq, Repr

/-- A stall record (R1). `site` is absent exactly while the record was never loaded. -/
structure Stall where
  site : Option StallSite
  state : StallState
  ticket : Option Nat
  sensed : Sensed
  pending : Option Mark
  confirmed : Bool
  confirmBy : Option Deadline
  recheck : Bool
  deriving DecidableEq, Repr

/-- A stall record after a cold start (R2). -/
def Stall.cold : Stall :=
  { site := none, state := .undefined, ticket := none, sensed := .unknown, pending := none,
    confirmed := false, confirmBy := none, recheck := false }

/-- One whole number for each size class: the free counts (R9), the reserves (R24). -/
structure PerSize where
  compact : Nat
  standard : Nat
  large : Nat
  oversize : Nat
  deriving DecidableEq, Repr

/-- The stall map: 640 records and the four free counts (R1, R9). -/
structure StallMap where
  records : Vector Stall Config.stallCount
  free : PerSize
  deriving DecidableEq, Repr

/-! ### The ticket table (chapter 3) -/

/-- Ticket states (R39). -/
inductive TicketState where
  | unplaced | assigned | parking | parked | restaging | scheduled | called | fetching | descending
  | staged | toCurb | atCurb
  deriving DecidableEq, Repr

/-- A ticket record (R38). `group` holds the group number and the place in its ring. -/
structure Ticket where
  number : Nat
  state : TicketState
  plate : Option (List Byte)
  size : SizeClass
  charger : Bool
  stay : StayClass
  tier : Tier
  stall : Option Nat
  target : Option Nat
  restageWanted : Bool
  hook : Option Nat
  group : Option (Nat × Nat)
  runner : Option Nat
  lift : Option Nat
  lane : Option Nat
  laneRequest : Option SiteTime
  turnbacks : Nat
  arrived : SiteTime
  parkedAt : Option SiteTime
  calledAt : Option SiteTime
  atCurbAt : Option SiteTime
  promise : Option Nat
  callPending : Bool
  backlog : Bool
  verify : Bool
  keyAlert : Bool
  overdue : Bool
  overduePending : Bool
  deriving DecidableEq, Repr

/-! ### Key custody and the cabinet scan (chapter 4) -/

/-- Custody of a hook (R64). -/
inductive Custody where
  | vacant | expecting | cabinet | released | out | missing | found
  deriving DecidableEq, Repr

/-- Accepted presence of a key on a hook (R64). -/
inductive Presence where
  | present | absent | unknown
  deriving DecidableEq, Repr

/-- A hook record (R64). `pending` is the sampled value seen once: `true` for PRESENT. -/
structure Hook where
  custody : Custody
  ticket : Option Nat
  runner : Option Nat
  releaseBy : Option Deadline
  accepted : Presence
  pending : Option Bool
  deriving DecidableEq, Repr

/-- A hook record after a cold start (R64). -/
def Hook.cold : Hook :=
  { custody := .vacant, ticket := none, runner := none, releaseBy := none, accepted := .unknown, pending := none }

/-- Panel states (R65). -/
inductive PanelState where
  | ok | suspect | faulted
  deriving DecidableEq, Repr

/-- Cabinet door as last read (R65). -/
inductive Door where
  | closed | opened | unknown
  deriving DecidableEq, Repr

/-- A panel record (R65). Whether it is configured follows from the panel count parameter, which is kept in the
parameter table alone. -/
structure Panel where
  state : PanelState
  bad : Nat
  good : Nat
  door : Door
  deriving DecidableEq, Repr

/-- A panel record after any start (R65, R83). -/
def Panel.cold : Panel := { state := .suspect, bad := 0, good := 0, door := .unknown }

/-- The scan port (R74, R75): the interval of the current cycle in milliseconds, the panels the cycle has still to
exchange with after the selected one, the panel on the select lines (`none`: the lines stand at 0), the unlock bits
built at its selection, position 0 first, and the bits put out to the panel in the latest exchange, one for each clock in
the order of the clocks (the model's own record of an output, log entry 43). -/
structure Scan where
  interval : Nat
  remaining : List Nat
  selected : Option Nat
  unlock : List Bool
  out : List Bool
  deriving DecidableEq, Repr

/-- The scan port before its first cycle (R74, R198). -/
def Scan.cold : Scan := { interval := 250, remaining := [], selected := none, unlock := [], out := [] }

/-- The key custody unit with its scanner. `latches` is the cabinet's side: for each panel the unlock bits it took at
its last end mark (R75), position 0 first. -/
structure Keys where
  hooks : Vector Hook Config.hookCount
  panels : Vector Panel Config.panelCount
  scan : Scan
  latches : Vector (List Bool) Config.panelCount
  deriving DecidableEq, Repr

/-! ### Runners and dispatch (chapter 5) -/

/-- Task kinds (R88). -/
inductive TaskKind where
  | park | fetch | restage
  deriving DecidableEq, Repr

/-- Place of a task; OFFERED and HELD carry the holder's badge (R88). -/
inductive TaskPlace where
  | queued
  | backlog
  | offered (badge : Nat)
  | held (badge : Nat)
  deriving DecidableEq, Repr

/-- A task record (R88). -/
structure Task where
  kind : TaskKind
  ticket : Nat
  age : SiteTime
  declined : List Nat
  place : TaskPlace
  deriving DecidableEq, Repr

/-- Runner states (R84). -/
inductive RunnerState where
  | offDuty | ready | offered | tasked | onBreak | silent
  deriving DecidableEq, Repr

/-- Frames of the runner base that owe a reply (R86). -/
inductive RunnerFrameKind where
  | runnerStatus | taskAccept | taskDecline | atLobby | departed | parked | keyRequest | handover | taskStep
  deriving DecidableEq, Repr

/-- The outcomes of every reply of the controller: service (R43), runner (R86) and management (R196). -/
inductive Answer where
  | done | clamped | placedLater | noSpace | full | permission | range | busy | state | unknownKind
  | already | tooLate | tasked | withdrawn | notHolder | stallTaken | keyState | keyPanel
  deriving DecidableEq, Repr

/-- A runner reply slot's content (R86). -/
structure RunnerReply where
  kind : RunnerFrameKind
  ticket : Option Nat
  outcome : Answer
  overrun : Bool
  deriving DecidableEq, Repr

/-- The owed task frame of a runner, with the ticket it concerns (R87). -/
inductive OwedTask where
  | offer (ticket : Nat)
  | withdraw (ticket : Nat)
  deriving DecidableEq, Repr

/-- A runner record with its owed task frame and reply slot (R84, R86, R87). -/
structure Runner where
  state : RunnerState
  level : Nat
  readySince : SiteTime
  base : Option Nat
  task : Option (Nat × TaskKind)
  offerBy : Option Deadline
  owed : Option OwedTask
  reply : Option RunnerReply
  deriving DecidableEq, Repr

/-- A runner record after a start at time `t` (R84, R86, R87). -/
def Runner.atStart (t : SiteTime) : Runner :=
  { state := .offDuty, level := 0, readySince := t, base := none, task := none, offerBy := none,
    owed := none, reply := none }

/-- The dispatch unit: the roster and the task records (R84, R88). -/
structure DispatchUnit where
  runners : Vector Runner Config.runnerCount
  tasks : List Task
  deriving DecidableEq, Repr

/-! ### Lift and lane tenures (chapter 6) -/

/-- Lift states (R105). -/
inductive LiftState where
  | unknown | idle | busy | fault | absent
  deriving DecidableEq, Repr

/-- Direction of a ride (R107). -/
inductive Direction where
  | up | down
  deriving DecidableEq, Repr

/-- Tenure states (R107). -/
inductive TenureState where
  | waiting | granted | riding
  deriving DecidableEq, Repr

/-- A lift tenure (R107). -/
structure Tenure where
  ticket : Option Nat
  runner : Option Nat
  direction : Direction
  fromLevel : Nat
  toLevel : Nat
  state : TenureState
  requested : SiteTime
  passes : Nat
  deriving DecidableEq, Repr

/-- A lift record (R105). The configured flag and served levels stand in the parameter table; the staging count is
`stagingCount`, the number of tickets by which R108 defines it. -/
structure Lift where
  state : LiftState
  parkedLevel : Nat
  queue : List Tenure
  current : Option Tenure
  orderOwed : Bool
  deriving DecidableEq, Repr

/-- A lift record after any start (R105, R125). -/
def Lift.cold : Lift :=
  { state := .unknown, parkedLevel := 0, queue := [], current := none, orderOwed := false }

/-- Lane states (R118). -/
inductive LaneState where
  | free | reserved | occupied | blocked | clearing | out
  deriving DecidableEq, Repr

/-- A curb lane record (R118). The configured flag and preferred lifts stand in the parameter table. -/
structure Lane where
  state : LaneState
  ticket : Option Nat
  turnbackHold : Bool
  clearingBy : Option Deadline
  deriving DecidableEq, Repr

/-- A lane record after a cold start (R118). -/
def Lane.cold : Lane := { state := .free, ticket := none, turnbackHold := false, clearingBy := none }

/-- The tenure arbiter (R105, R118). -/
structure Arbiter where
  lifts : Vector Lift Config.liftCount
  lanes : Vector Lane Config.laneCount
  deriving DecidableEq, Repr

/-! ### Calls, groups, quotes and boards (chapter 7) -/

/-- A call schedule entry (R127). `reached` as in `Deadline`. -/
structure ScheduleEntry where
  ticket : Nat
  requested : SiteTime
  release : SiteTime
  reached : Bool
  deriving DecidableEq, Repr

/-- The estimates table, seconds (R140). -/
structure Estimates where
  liftCycle : Vector Nat Config.liftCount
  taskMean : Nat
  laneDrive : Nat
  deriving DecidableEq, Repr

/-- The estimates after a cold start (R140). -/
def Estimates.cold : Estimates :=
  { liftCycle := Vector.replicate _ 60, taskMean := 120, laneDrive := 30 }

/-- An entry of the curb board list (R142). -/
structure BoardEntry where
  ticket : Nat
  time : SiteTime
  deriving DecidableEq, Repr

/-- The call scheduler and quote unit. The group table is the group fields of the tickets (R131). -/
structure Calls where
  schedule : List ScheduleEntry
  estimates : Estimates
  board : List BoardEntry
  deriving DecidableEq, Repr

/-! ### Events (chapter 10) -/

/-- Event sources (R183). -/
inductive Source where
  | arrival | unplaced | reserveLow | phantomCar | stallMismatch | keyMissing | keyFound | panelFault
  | taskStart | taskEnd | runnerSilent | liftGrant | liftDone | liftFault | laneTurnback | laneBlocked
  | atCurb | curbOverdue | stationAbsent | congestion | tableFull | scheduleRelease
  | timer (channel : Nat)
  deriving DecidableEq, Repr

/-- An event: a source and a subject (R183). -/
structure Event where
  source : Source
  subject : Nat
  deriving DecidableEq, Repr

/-- A route (R190); filter `none` is ANY. -/
structure Route where
  source : Nat
  filter : Option Nat
  action : RouteAction
  deriving DecidableEq, Repr

/-- A route after a cold start (R190). -/
def Route.cold : Route := { source := 0, filter := none, action := .none }

/-- The content of a FULL latch (R192). -/
structure LatchContent where
  time : SiteTime
  source : Source
  subject : Nat
  overrun : Bool
  deriving DecidableEq, Repr

/-- The event unit: the site clock, flags, masks (`true` is OPEN), routes, latches (`none` is EMPTY) and the events
reported and not yet taken, in the order in which they were reported (R180 to R192). -/
structure EventUnit where
  clock : SiteTime
  flags : Vector Bool Config.sourceCount
  masks : Vector Bool Config.sourceCount
  routes : Vector Route Config.routeCount
  latches : Vector (Option LatchContent) Config.latchCount
  waiting : List Event
  deriving DecidableEq, Repr

/-! ### The timer array (chapter 9) -/

/-- States of a timer channel (R165). -/
inductive ChannelState where
  | stopped | armed | counting
  deriving DecidableEq, Repr

/-- A timer channel (R165). `drive` is `true` for ASSERTED. `elapsed` counts the tenths of the running period since the
last step (R166); `due` is the model's own mark: the step that brings the counter to 0 has come and is not yet
taken (log entry 2). -/
structure Channel where
  mode : TimerMode
  clock : TimerClock
  clockSource : Option Nat
  reload : Nat
  master : Option Nat
  output : OutputLine
  target : CaptureTarget
  state : ChannelState
  counter : Nat
  drive : Bool
  pulseEnd : Option Deadline
  captured : Option Nat
  elapsed : Nat
  due : Bool
  deriving DecidableEq, Repr

/-- A channel after a cold start (R165). -/
def Channel.cold : Channel :=
  { mode := .off, clock := .tenth, clockSource := none, reload := 1, master := none, output := .none,
    target := .none, state := .stopped, counter := 0, drive := false, pulseEnd := none, captured := none,
    elapsed := 0, due := false }

/-! ### The parameter table (chapter 11) -/

/-- The 46 parameters (R198), grouped by kind. Sets are ascending lists of members. -/
structure Params where
  levelTime : Nat
  stayTarget : Vector Nat 4
  stayWeight : Vector Nat 4
  sizePenalty : Nat
  chargerPenalty : Nat
  liftLoadPenalty : Nat
  reserve : PerSize
  parkSkip : Nat
  clearanceTime : Nat
  curbHold : Nat
  confirmWindow : Nat
  acceptWindow : Nat
  releaseWindow : Nat
  leadTime : Nat
  agingStep : Nat
  scanInterval : Nat
  panelCount : Nat
  servedLevels : Vector (List Nat) Config.liftCount
  preferredLifts : Vector (List Nat) Config.laneCount
  liftConfigured : Vector Bool Config.liftCount
  laneConfigured : Vector Bool Config.laneCount
  deriving DecidableEq, Repr

/-- The cold values of the parameters (R198). -/
def Params.cold : Params :=
  { levelTime := 20, stayTarget := #v[0, 180, 330, 465], stayWeight := #v[6, 3, 2, 1], sizePenalty := 40,
    chargerPenalty := 150, liftLoadPenalty := 25, reserve := ⟨0, 0, 0, 0⟩, parkSkip := 2, clearanceTime := 30,
    curbHold := 10, confirmWindow := 120, acceptWindow := 20, releaseWindow := 30, leadTime := 15,
    agingStep := 180, scanInterval := 250, panelCount := 9,
    servedLevels := Vector.replicate _ (List.range 8), preferredLifts := Vector.replicate _ (List.range 5),
    liftConfigured := Vector.replicate _ false, laneConfigured := Vector.replicate _ false }

/-! ### The site links and the frame switch (chapter 8) -/

/-- Presence of a station, kept by polling (R150). -/
inductive StationPresence where
  | unknown | present | absent
  deriving DecidableEq, Repr

/-- Kinds of service requests (R43). -/
inductive ServiceKind where
  | arrive | call | schedule | cancel | groupLink | quoteAsk
  deriving DecidableEq, Repr

/-- A service reply slot's content: kind, outcome, ticket number, and for a group call the number of other members
called; `commissioning` marks a reply owed by a request of the commissioning station (R43, R134, R163). -/
structure ServiceSlot where
  kind : ServiceKind
  outcome : Answer
  ticket : Option Nat
  members : Option Nat
  overrun : Bool
  commissioning : Bool
  deriving DecidableEq, Repr

/-- Codes of the management requests (R196); `unknown none` stands for a payload that is empty and holds no code (log
entry 56). -/
inductive ManageCode where
  | loadStation | loadStall | loadParams | loadPassRule | loadRoute | loadTimer | loadMasks | setStallService
  | setClock | startTimer | stopTimer | readTicket | readStall | readHook | readRunner | readCounts | readFlags
  | readLatch | readEstimates | clearFlags | rebindHook | restage | forceClose | restart
  | unknown (code : Option Nat)
  deriving DecidableEq, Repr

/-- The record of a management request as received: `empty` for a request without one or of a code that names no request,
`tooShort` for one that does not hold its fields (R195, R196). -/
inductive ManageRecord where
  | empty
  | tooShort
  | station (x : StationFields)
  | stall (x : StallFields)
  | param (x : ParamFields)
  | passRule (x : PassRuleFields)
  | route (x : RouteFields)
  | timer (x : TimerFields)
  | masks (values : Vector (Sent Bool) Config.sourceCount)
  | marks (marks : Vector Bool Config.sourceCount)
  | stallService (x : StallServiceFields)
  | clock (x : ClockFields)
  | ticketPart (x : ReadTicketFields)
  | number (n : Nat)
  | rebind (x : RebindFields)
  | restage (x : RestageFields)
  deriving DecidableEq, Repr

/-- A management reply slot's content: request code, outcome, the request's record, and for READ_LATCH what was taken
from the latch (`some none`: it was EMPTY) (R163, R193, R195). -/
structure ManageSlot where
  code : ManageCode
  outcome : Answer
  record : ManageRecord
  latch : Option (Option LatchContent)
  overrun : Bool
  commissioning : Bool
  deriving DecidableEq, Repr

/-- A station record with its reply slots and own-frame markers (R150, R161, R163). -/
structure Station where
  segment : Segment
  cls : StationClass
  permissions : Permissions
  served : Option Served
  presence : StationPresence
  silent : Nat
  serviceReply : Option ServiceSlot
  manageReply : Option ManageSlot
  orderMark : Bool
  noticeMark : Bool
  boardMark : Bool
  vacancyMark : Bool
  deriving DecidableEq, Repr

/-- A station record after a cold start (R150, R164). -/
def Station.cold : Station :=
  { segment := .none, cls := .other, permissions := ⟨false, false, false⟩, served := none, presence := .unknown,
    silent := 0, serviceReply := none, manageReply := none, orderMark := false, noticeMark := false,
    boardMark := false, vacancyMark := false }

/-- A loaded pass rule; source `none` is ANY (R158). -/
structure PassRule where
  low : Byte
  high : Byte
  source : Option StationClass
  destination : PassDest
  direction : PassDirection
  verdict : Verdict
  deriving DecidableEq, Repr

/-- Where a port stands in its round (R153): about to poll, waiting for the polled station's answer, or about to take
its transmit opportunity. -/
inductive Phase where
  | ready
  | window (address : Nat)
  | opportunity
  deriving DecidableEq, Repr

/-- Classes of own frames, in the order of the table of R161. -/
inductive OwnClass where
  | serviceReplies | manageReplies | runnerFrames | liftOrders | notices | boards
  deriving DecidableEq, Repr

/-- The last address served in each class (R162). -/
structure DestPositions where
  serviceReplies : Nat
  manageReplies : Nat
  runnerFrames : Nat
  liftOrders : Nat
  notices : Nat
  boards : Nat
  deriving DecidableEq, Repr

/-! ### Frames the controller sends -/

/-- SERVICE_REPLY as built (R43, R45, R49, R129, R132, R139). -/
structure ServiceReplyFrame where
  kind : ServiceKind
  outcome : Answer
  overrun : Bool
  ticket : Option Nat
  state : Option TicketState
  stall : Option Nat
  level : Option Nat
  hook : Option Nat
  lane : Option Nat
  quote : Option Nat
  promise : Option Nat
  release : Option SiteTime
  group : Option (Nat × Nat)
  members : Option Nat
  deriving DecidableEq, Repr

/-- A channel as READ_COUNTS gives it (R177). -/
structure ChannelView where
  mode : TimerMode
  state : ChannelState
  counter : Nat
  drive : Bool
  captured : Option Nat
  deriving DecidableEq, Repr

/-- A lift as READ_COUNTS gives it (R124). -/
structure LiftView where
  state : LiftState
  parkedLevel : Nat
  staging : Nat
  waiting : Nat
  current : Option (TenureState × Option Nat)
  deriving DecidableEq, Repr

/-- Section 0 of READ_COUNTS (R197). -/
structure CountsView where
  free : PerSize
  tickets : Nat
  unplaced : Nat
  schedule : Nat
  queued : Nat
  backlog : Nat
  runnersReady : Nat
  runnersOffered : Nat
  runnersTasked : Nat
  stationsUnknown : Nat
  stationsPresent : Nat
  stationsAbsent : Nat
  curbQueue : Nat
  deckQueue : Nat
  deriving DecidableEq, Repr

/-- What a management reply carries besides its outcome (R19, R61, R73, R103, R140, R189, R193, R197). -/
inductive ManageContent where
  | nothing
  | ticketClosed (number : Nat)
  | ticketPart0 (number : Nat) (state : TicketState) (stall target hook : Option Nat) (group : Option (Nat × Nat))
      (runner lift lane : Option Nat) (turnbacks : Nat) (promise : Option Nat)
      (restageWanted callPending backlog verify keyAlert overdue overduePending : Bool)
  | ticketPart1 (number : Nat) (state : TicketState) (plate : Option (List Byte)) (arrived : SiteTime)
      (parkedAt calledAt atCurbAt laneRequest requested release : Option SiteTime)
      (size : SizeClass) (charger : Bool) (stay : StayClass) (tier : Tier)
  | stall (number : Nat) (record : Stall)
  | hook (number : Nat) (record : Hook) (configured : Bool) (panel : Panel)
  | runner (badge : Nat) (state : RunnerState) (level : Nat) (readySince : SiteTime) (base : Option Nat)
      (offerBy : Option SiteTime) (task : Option Task)
  | counts (v : CountsView)
  | lifts (vs : List LiftView)
  | lanes (vs : List (LaneState × Option Nat)) (outs : List Bool)
  | channels (vs : List ChannelView)
  | flags (time : SiteTime) (flags masks : Vector Bool Config.sourceCount) (alert : Bool) (latches : List (Bool × Bool))
  | latch (number : Nat) (content : Option LatchContent)
  | estimates (e : Estimates)
  deriving DecidableEq, Repr

/-- An own frame as built at its sending, with the station it is addressed to (R161). -/
inductive OwnFrame where
  | serviceReply (dest : Nat) (r : ServiceReplyFrame)
  | manageReply (dest : Nat) (code : ManageCode) (outcome : Answer) (overrun : Bool) (numbers : List Nat)
      (content : ManageContent)
  | taskOffer (dest badge ticket : Nat) (kind : TaskKind) (stall target level zone hook : Option Nat)
      (size : Option SizeClass) (plate : Option (List Byte)) (verify keyAlert : Bool)
  | taskWithdraw (dest badge ticket : Nat)
  | runnerReply (dest badge : Nat) (r : RunnerReply) (hook : Option Nat)
  | liftOrder (dest lift : Nat) (direction : Direction) (fromLevel toLevel : Nat) (ticket runner : Option Nat)
  | notice (dest : Nat) (time : SiteTime) (flags : Vector Bool Config.sourceCount) (latches : List (Bool × Bool))
  | curbBoard (dest : Nat) (entries : List (Nat × TicketState × Option Nat × Bool))
  | vacancy (dest : Nat) (free : PerSize)
  deriving DecidableEq, Repr

/-- The block that takes a kind of frame addressed to the controller (R149). -/
inductive Taker where
  | presence | ticketTable | callScheduler | quoteUnit | dispatchUnit | tenureArbiter | stallMap | managementUnit
  deriving DecidableEq, Repr

/-- A frame the controller puts on a link: a POLL, an own frame with its bytes, or a forwarded frame (R153, R162). -/
inductive LineFrame where
  | poll (f : Frame)
  | own (f : OwnFrame) (bytes : Frame)
  | forwarded (f : Frame)
  deriving DecidableEq, Repr

/-- A port: its forwarded-frame queue, poll position, place in the round, class and destination positions, and the
frames of its latest poll or transmit opportunity as they went onto the pair (R153, R160, R162). -/
structure PortState where
  forwarded : List Frame
  pollPosition : Nat
  phase : Phase
  classPosition : OwnClass
  destPositions : DestPositions
  line : List LineFrame
  deriving DecidableEq, Repr

/-- A port after any start: lowest address polled first, service replies served first (R164). -/
def PortState.cold : PortState :=
  { forwarded := [], pollPosition := 0, phase := .ready, classPosition := .boards,
    destPositions := ⟨0, 0, 0, 0, 0, 0⟩, line := [] }

/-- The frame switch with both ports: the station table, the pass table (`none` is EMPTY) and the commissioning
address read from the strap pins (R146, R150, R158). -/
structure Links where
  stations : Vector Station Config.stationCount
  passTable : Vector (Option PassRule) Config.passRuleCount
  curb : PortState
  deck : PortState
  strap : Fin 16
  deriving DecidableEq, Repr

/-! ### Power and the retained memory (R200, R201) -/

/-- Main power, whether the retained memory has been written by a cold start, and whether the battery monitor has
recorded a dropout since. -/
structure Power where
  main : Bool
  written : Bool
  dropout : Bool
  deriving DecidableEq, Repr

/-! ### The controller -/

/-- The whole controller, block by block, and the queue of commands that wait, the first at the front. -/
structure State where
  pending : List Instr
  stalls : StallMap
  unplaced : List Nat
  tickets : List Ticket
  issue : Nat
  keys : Keys
  dispatch : DispatchUnit
  arbiter : Arbiter
  calls : Calls
  timers : Vector Channel Config.channelCount
  events : EventUnit
  links : Links
  params : Params
  power : Power
  deriving DecidableEq, Repr

/-- Why a command could stop the machine: nothing does. The manual gives every command an effect or an answer in every
state, so no command raises a fault (NOTES.md, Stops). -/
inductive Fault where
  deriving DecidableEq, Repr

/-- Why a command has no meaning in the model. -/
inductive Refusal where
  /-- Raised by `exec` alone, for a command whose meaning is not written; no arm does so. Safe: nothing can be
  proved of a refused step. -/
  | notModelled (mnemonic : String)
  deriving DecidableEq, Repr

/-- The controller after a cold start with `strap` read at the strap pins (R2, R31, R38, R39, R64, R65, R84, R104,
R105, R118, R127, R131, R140, R142, R150, R158, R164, R165, R180, R194, R198, R201). -/
def State.cold (strap : Fin 16) : State :=
  { pending := []
    stalls := { records := Vector.replicate _ Stall.cold, free := ⟨0, 0, 0, 0⟩ }
    unplaced := []
    tickets := []
    issue := 1
    keys := { hooks := Vector.replicate _ Hook.cold, panels := Vector.replicate _ Panel.cold,
              scan := Scan.cold, latches := Vector.replicate _ (List.replicate Config.hooksPerPanel false) }
    dispatch := { runners := Vector.replicate _ (Runner.atStart SiteTime.zero), tasks := [] }
    arbiter := { lifts := Vector.replicate _ Lift.cold, lanes := Vector.replicate _ Lane.cold }
    calls := { schedule := [], estimates := Estimates.cold, board := [] }
    timers := Vector.replicate _ Channel.cold
    events := { clock := SiteTime.zero, flags := Vector.replicate _ false, masks := Vector.replicate _ false,
                routes := Vector.replicate _ Route.cold, latches := Vector.replicate _ none, waiting := [] }
    links := { stations := Vector.replicate _ Station.cold, passTable := Vector.replicate _ none,
               curb := PortState.cold, deck := PortState.cold, strap := strap }
    params := Params.cold
    power := { main := true, written := true, dropout := false } }

/-- The machine right after reset: a cold start. The strap pins have no value of their own in the manual; at reset they
are read as 0 (log entry 1: DESIGN CHOICE). -/
def State.reset : State := State.cold 0

end Sys2Proof.Machine
end

