-- ==== Sys2Proof/Machine/Ops.lean ====
section
/-! DEFINITION. Shared operations: site-time arithmetic, ordered lists, reading and writing the records of State,
reporting events, and the owing of replies and own frames. -/

namespace Sys2Proof

/-- Size class numbers. -/
def SizeClass.num : SizeClass → Nat
  | .compact => 0 | .standard => 1 | .large => 2 | .oversize => 3

/-- Tier numbers. -/
def Tier.num : Tier → Nat
  | .standard => 0 | .preferred => 1 | .reserved => 2

/-- The place of a stay class in the parameter table's order (R198). -/
def StayClass.index : StayClass → Nat
  | .short => 0 | .evening => 1 | .overnight => 2 | .multiday => 3

/-- The tenths of one period of a time clock; an EVENT clock has none (R166). -/
def TimerClock.period : TimerClock → Nat
  | .tenth => 1
  | .second => 10
  | .tenSeconds => 100
  | .event => 0

end Sys2Proof

namespace Sys2Proof.Machine

open Sys2Proof

/-! ### Site time (R180, Conventions) -/

/-- The tenths from day 0, tenth 0 to `t`. -/
def SiteTime.tenths (t : SiteTime) : Nat := t.day * Config.dayTenths + t.tenth

/-- `a` is earlier than `b`: a lower day, or the same day and a lower tenth (R180). -/
def SiteTime.before (a b : SiteTime) : Bool := a.day < b.day || (a.day == b.day && a.tenth < b.tenth)

/-- `a` is not later than `b`. -/
def SiteTime.notAfter (a b : SiteTime) : Bool := !b.before a

/-- `t` plus a duration in tenths, whole days carried and the day wrapping after 65535 (R180). -/
def SiteTime.plus (t : SiteTime) (tenths : Nat) : SiteTime :=
  { day := (t.day + (t.tenth + tenths) / Config.dayTenths) % Config.dayCount
    tenth := (t.tenth + tenths) % Config.dayTenths }

/-- `t` plus a duration in seconds. -/
def SiteTime.plusSeconds (t : SiteTime) (seconds : Nat) : SiteTime := t.plus (10 * seconds)

/-- `t` less a duration in tenths, the tenth borrowing from the day, and day 0, tenth 0 at the lowest (R128). -/
def SiteTime.less (t : SiteTime) (tenths : Nat) : SiteTime :=
  if t.tenths < tenths then SiteTime.zero
  else { day := (t.tenths - tenths) / Config.dayTenths, tenth := (t.tenths - tenths) % Config.dayTenths }

/-- Whole seconds from `t` to `now`, 0 while `now` lies before `t` (R90, R182). -/
def secondsSince (t now : SiteTime) : Nat := (now.tenths - t.tenths) / 10

/-- A deadline just set (R181). -/
def Deadline.at (t : SiteTime) : Deadline := { time := t, reached := false }

/-! ### Lists kept in an order -/

/-- Puts `x` before the first element that does not stand before it; `before a b` says that `a` stands before `b`. -/
def insertBy {α : Type} (before : α → α → Bool) (x : α) : List α → List α
  | [] => [x]
  | y :: ys => if before x y then x :: y :: ys else y :: insertBy before x ys

/-- The list in the order `before`, elements that tie in the order they had. -/
def sortBy {α : Type} (before : α → α → Bool) (xs : List α) : List α :=
  xs.foldl (fun acc x => insertBy before x acc) []

/-- The first element that no other stands before. -/
def firstBy {α : Type} (before : α → α → Bool) : List α → Option α
  | [] => none
  | x :: xs =>
    match firstBy before xs with
    | none => some x
    | some y => if before y x then some y else some x

/-- Earlier time first, then the lower number: the tie rule of most collections (R33, R42, R89, R104, R107, R119). -/
def earlier (a b : SiteTime × Nat) : Bool := a.1.before b.1 || (a.1 == b.1 && a.2 < b.2)

/-- Runs `f` on the state for each element in order. -/
def forEach {α σ : Type} (xs : List α) (f : α → σ → σ) (s : σ) : σ := xs.foldl (fun s x => f x s) s

/-! ### Records numbered from 0 and from 1 -/

/-- Record `i` of a bank numbered from 0; `d` outside it. -/
def nth {α : Type} {n : Nat} (v : Vector α n) (i : Nat) (d : α) : α := v[i]?.getD d

/-- The bank with record `i` replaced; unchanged when `i` lies outside it. -/
def setNth {α : Type} {n : Nat} (v : Vector α n) (i : Nat) (x : α) : Vector α n := v.setIfInBounds i x

/-- Record `i` of a bank numbered from 1; `d` outside it. -/
def nth1 {α : Type} {n : Nat} (v : Vector α n) (i : Nat) (d : α) : α :=
  match i with
  | 0 => d
  | k + 1 => nth v k d

/-- The bank numbered from 1 with record `i` replaced; unchanged when `i` lies outside it. -/
def setNth1 {α : Type} {n : Nat} (v : Vector α n) (i : Nat) (x : α) : Vector α n :=
  match i with
  | 0 => v
  | k + 1 => setNth v k x

/-- The bank with every record changed by `f`. -/
def mapBank {α : Type} {n : Nat} (v : Vector α n) (f : α → α) : Vector α n :=
  ⟨⟨v.toList.map f⟩, by simp⟩

/-- Two banks combined record by record. -/
def zipBank {α β γ : Type} {n : Nat} (f : α → β → γ) (v : Vector α n) (w : Vector β n) : Vector γ n :=
  ⟨⟨v.toList.zipWith f w.toList⟩, by simp⟩

/-- The numbers 1 to `n`. -/
def oneTo (n : Nat) : List Nat := (List.range n).map (· + 1)

/-! ### Reading and writing records -/

/-- The site time (R180). -/
def State.now (s : State) : SiteTime := s.events.clock

/-- Stall record `k` (R1). -/
def State.stall (s : State) (k : Nat) : Stall := nth s.stalls.records k Stall.cold

/-- Hook record `h` (R64). -/
def State.hook (s : State) (h : Nat) : Hook := nth s.keys.hooks h Hook.cold

/-- Writes hook record `h`. -/
def State.setHook (s : State) (h : Nat) (r : Hook) : State := { s with keys.hooks := setNth s.keys.hooks h r }

/-- Panel record `p`, 1 to 9 (R65). -/
def State.panel (s : State) (p : Nat) : Panel := nth1 s.keys.panels p Panel.cold

/-- Writes panel record `p`. -/
def State.setPanel (s : State) (p : Nat) (r : Panel) : State := { s with keys.panels := setNth1 s.keys.panels p r }

/-- Runner record of a badge 1 to 32 (R84). -/
def State.runner (s : State) (b : Nat) : Runner := nth1 s.dispatch.runners b (Runner.atStart SiteTime.zero)

/-- Writes the runner record of badge `b`. -/
def State.setRunner (s : State) (b : Nat) (r : Runner) : State :=
  { s with dispatch.runners := setNth1 s.dispatch.runners b r }

/-- Lift record 1 to 4 (R105). -/
def State.lift (s : State) (l : Nat) : Lift := nth1 s.arbiter.lifts l Lift.cold

/-- Writes lift record `l`. -/
def State.setLift (s : State) (l : Nat) (r : Lift) : State := { s with arbiter.lifts := setNth1 s.arbiter.lifts l r }

/-- Lane record 1 to 6 (R118). -/
def State.lane (s : State) (n : Nat) : Lane := nth1 s.arbiter.lanes n Lane.cold

/-- Writes lane record `n`. -/
def State.setLane (s : State) (n : Nat) (r : Lane) : State := { s with arbiter.lanes := setNth1 s.arbiter.lanes n r }

/-- Channel record 0 to 7 (R165). -/
def State.channel (s : State) (c : Nat) : Channel := nth s.timers c Channel.cold

/-- Writes channel record `c`. -/
def State.setChannel (s : State) (c : Nat) (r : Channel) : State := { s with timers := setNth s.timers c r }

/-- Station record of an address 1 to 60 (R150). -/
def State.station (s : State) (a : Nat) : Station := nth1 s.links.stations a Station.cold

/-- Writes the station record of address `a`. -/
def State.setStation (s : State) (a : Nat) (r : Station) : State :=
  { s with links.stations := setNth1 s.links.stations a r }

/-- Changes every station record. -/
def State.mapStations (s : State) (f : Station → Station) : State :=
  { s with links.stations := mapBank s.links.stations f }

/-- A port's state. -/
def State.port (s : State) : Port → PortState
  | .curb => s.links.curb
  | .deck => s.links.deck

/-- Writes a port's state. -/
def State.setPort (s : State) (p : Port) (r : PortState) : State :=
  match p with
  | .curb => { s with links.curb := r }
  | .deck => { s with links.deck := r }

/-- The open ticket of a number, if there is one (R38). -/
def State.ticket (s : State) (n : Nat) : Option Ticket := s.tickets.find? (·.number == n)

/-- The open ticket of a number 1 to 9999: a request naming any other number is refused with RANGE (R49, R54). -/
def State.named (s : State) (n : Nat) : Option Ticket :=
  if 1 ≤ n ∧ n ≤ Config.maxTicketNumber then s.ticket n else none

/-- Changes the record of ticket `n`. -/
def State.modifyTicket (s : State) (n : Nat) (f : Ticket → Ticket) : State :=
  { s with tickets := s.tickets.map fun t => if t.number = n then f t else t }

/-- The task record of a ticket, if it has one (R88). -/
def State.task (s : State) (n : Nat) : Option Task := s.dispatch.tasks.find? (·.ticket == n)

/-- Changes the task record of ticket `n`. -/
def State.modifyTask (s : State) (n : Nat) (f : Task → Task) : State :=
  { s with dispatch.tasks := s.dispatch.tasks.map fun t => if t.ticket = n then f t else t }

/-- Removes the task record of ticket `n`. -/
def State.dropTask (s : State) (n : Nat) : State :=
  { s with dispatch.tasks := s.dispatch.tasks.filter (·.ticket != n) }

/-! ### Values by size class, stay class and tier -/

/-- The value for a size class. -/
def PerSize.get (v : PerSize) : SizeClass → Nat
  | .compact => v.compact | .standard => v.standard | .large => v.large | .oversize => v.oversize

/-- The values with the one for a size class replaced. -/
def PerSize.set (v : PerSize) (c : SizeClass) (n : Nat) : PerSize :=
  match c with
  | .compact => { v with compact := n }
  | .standard => { v with standard := n }
  | .large => { v with large := n }
  | .oversize => { v with oversize := n }

/-- The configured flag of a lift (R105). -/
def State.liftConfigured (s : State) (l : Nat) : Bool := nth1 s.params.liftConfigured l false

/-- The served levels of a lift (R105). -/
def State.servedLevels (s : State) (l : Nat) : List Nat := nth1 s.params.servedLevels l []

/-- The configured flag of a lane (R118). -/
def State.laneConfigured (s : State) (n : Nat) : Bool := nth1 s.params.laneConfigured n false

/-- The preferred lifts of a lane (R118). -/
def State.preferredLifts (s : State) (n : Nat) : List Nat := nth1 s.params.preferredLifts n []

/-- The panel a hook belongs to (R64). -/
def panelOf (hook : Nat) : Nat := hook / Config.hooksPerPanel + 1

/-- The hooks of a panel 1 to 9, ascending (R64). -/
def hooksOf (panel : Nat) : List Nat :=
  (List.range Config.hooksPerPanel).map ((panel - 1) * Config.hooksPerPanel + ·)

/-- A panel is configured when its number is not greater than the panel count (R65). -/
def State.panelConfigured (s : State) (p : Nat) : Bool := 1 ≤ p && p ≤ s.params.panelCount

/-- A lift is serviceable when it is configured and IDLE or BUSY (R23). -/
def State.serviceable (s : State) (l : Nat) : Bool :=
  s.liftConfigured l && ((s.lift l).state == .idle || (s.lift l).state == .busy)

/-- The staging count of a lift: the open tickets on it that are DESCENDING, STAGED or TO_CURB (R108). -/
def State.stagingCount (s : State) (l : Nat) : Nat :=
  s.tickets.countP fun t =>
    t.lift == some l && (t.state == .descending || t.state == .staged || t.state == .toCurb)

/-! ### Stations as the controller judges them (R152) -/

/-- Some station record carries MANAGE. -/
def State.hasManager (s : State) : Bool := s.links.stations.toList.any (·.permissions.manage)

/-- `a` is the commissioning station: no record carries MANAGE and the strap value is `a`, not 0 (R152). -/
def State.commissioning (s : State) (a : Nat) : Bool := !s.hasManager && a != 0 && a == s.links.strap.val

/-- The segment a station is judged to be on (R152). -/
def State.segmentOf (s : State) (a : Nat) : Segment := if s.commissioning a then .curb else (s.station a).segment

/-- The class a station is judged to have (R152). -/
def State.classOf (s : State) (a : Nat) : StationClass := if s.commissioning a then .desk else (s.station a).cls

/-- The permissions a station is judged to have (R152). -/
def State.permissionsOf (s : State) (a : Nat) : Permissions :=
  if s.commissioning a then ⟨true, false, false⟩ else (s.station a).permissions

/-- The station is judged to be on the port's own segment. -/
def State.onPort (s : State) (p : Port) (a : Nat) : Bool :=
  match p with
  | .curb => s.segmentOf a == .curb
  | .deck => s.segmentOf a == .deck

/-- The addresses 1 to 60, ascending. -/
def addresses : List Nat := oneTo Config.stationCount

/-! ### Reporting an event (R184) -/

/-- Reports an event: it waits until the event unit takes it, after those reported before it (R184). -/
def State.raise (s : State) (source : Source) (subject : Nat) : State :=
  { s with events.waiting := s.events.waiting ++ [⟨source, subject⟩] }

/-! ### Owing replies and board frames -/

/-- Fills a PODIUM or DESK station's service reply slot; a reply still unsent is replaced, with OVERRUN (R43, R163). -/
def State.oweService (s : State) (a : Nat) (kind : ServiceKind) (outcome : Answer) (ticket : Option Nat)
    (members : Option Nat := none) : State :=
  s.setStation a { s.station a with
    serviceReply := some { kind, outcome, ticket, members, overrun := (s.station a).serviceReply.isSome,
                           commissioning := s.commissioning a } }

/-- Fills a DESK station's management reply slot; a reply still unsent is replaced, with OVERRUN (R163, R195).
`treated` says that the request came from the commissioning station. -/
def State.oweManage (s : State) (a : Nat) (treated : Bool) (code : ManageCode) (outcome : Answer)
    (record : ManageRecord) (latch : Option (Option LatchContent) := none) : State :=
  s.setStation a { s.station a with
    manageReply := some { code, outcome, record, latch, overrun := (s.station a).manageReply.isSome,
                          commissioning := treated } }

/-- Fills a runner's reply slot; a reply still unsent is replaced, with OVERRUN (R86). -/
def State.oweRunner (s : State) (b : Nat) (kind : RunnerFrameKind) (outcome : Answer) (ticket : Option Nat) : State :=
  s.setRunner b { s.runner b with
    reply := some { kind, ticket, outcome, overrun := (s.runner b).reply.isSome } }

/-- A VACANCY becomes owed to every station of class DISPLAY (R144). -/
def State.oweVacancy (s : State) : State :=
  s.mapStations fun r => if r.cls = .display then { r with vacancyMark := true } else r

/-- A CURB_BOARD becomes owed to every station of class DISPLAY (R143). -/
def State.oweBoard (s : State) : State :=
  s.mapStations fun r => if r.cls = .display then { r with boardMark := true } else r

/-! ### The curb board (R142, R143) -/

/-- The content of the curb board: number, state, lane and overdue flag of the first eight entries (R143). -/
def State.boardContent (s : State) : List (Nat × TicketState × Option Nat × Bool) :=
  (s.calls.board.take Config.boardEntries).filterMap fun e =>
    (s.ticket e.ticket).map fun t => (t.number, t.state, t.lane, t.overdue)

/-- Owes a CURB_BOARD when the content differs from what it was in `before` (R143). -/
def State.boardSince (s before : State) : State :=
  if s.boardContent = before.boardContent then s else s.oweBoard

/-- The list order of the curb board: board time, then the lower ticket number (R142). -/
def boardBefore (a b : BoardEntry) : Bool := earlier (a.time, a.ticket) (b.time, b.ticket)

/-- The ticket joins the curb board list with board time now (R142). -/
def State.joinBoard (s : State) (n : Nat) : State :=
  { s with calls.board := insertBy boardBefore { ticket := n, time := s.now } s.calls.board }

/-- The ticket leaves the curb board list (R142). -/
def State.leaveBoard (s : State) (n : Nat) : State :=
  { s with calls.board := s.calls.board.filter (·.ticket != n) }

/-! ### A ticket's change of state -/

/-- TO_CURB and AT_CURB, the states that stand on the curb board (R142). -/
def TicketState.onBoard (x : TicketState) : Bool := x == .toCurb || x == .atCurb

/-- A ticket's fields at its entry to a state: the verify flag is cleared (R60), and at entry to AT_CURB the at-curb
time is now and overdue pending is set (R53, R58). -/
def Ticket.enter (t : Ticket) (x : TicketState) (now : SiteTime) : Ticket :=
  if x = .atCurb then { t with state := x, verify := false, atCurbAt := some now, overduePending := true }
  else { t with state := x, verify := false }

/-- A ticket changes its state: its record, its place in the curb board list, and the CURB_BOARD that a change of
content owes (R58, R60, R142, R143). Every change of a ticket's state outside a start is made here. -/
def State.moveTicket (s : State) (n : Nat) (x : TicketState) : State :=
  match s.ticket n with
  | none => s
  | some t =>
    let moved := s.modifyTicket n (·.enter x s.now)
    let listed :=
      if x.onBoard then (if t.state.onBoard then moved else moved.joinBoard n)
      else (if t.state.onBoard then moved.leaveBoard n else moved)
    listed.boardSince s

end Sys2Proof.Machine
end

