-- ==== Sys2Proof/Machine/Frames.lean ====
section
/-! DEFINITION. Link frames as bytes: the kinds with their values and blocks, the check, the frames the controller builds,
and the judging of a received frame (R147, R148, R149, R154). -/

namespace Sys2Proof

/-! ### Kinds (R149) -/

/-- The value of a kind (R149). -/
def FrameKind.value : FrameKind → Byte
  | .poll => 0x01#8 | .idle => 0x02#8
  | .arrive => 0x10#8 | .call => 0x11#8 | .schedule => 0x12#8 | .cancel => 0x13#8 | .groupLink => 0x14#8
  | .quoteAsk => 0x15#8 | .serviceReply => 0x1F#8
  | .runnerStatus => 0x20#8 | .taskAccept => 0x21#8 | .taskDecline => 0x22#8 | .taskStep => 0x23#8
  | .taskOffer => 0x28#8 | .taskWithdraw => 0x29#8 | .runnerReply => 0x2A#8
  | .liftStatus => 0x30#8 | .liftOrder => 0x31#8 | .laneStatus => 0x38#8 | .zoneOccupancy => 0x40#8
  | .curbBoard => 0x48#8 | .vacancy => 0x49#8
  | .manageRequest => 0x50#8 | .manageReply => 0x51#8 | .notice => 0x52#8

/-- The block that takes a frame of a kind addressed to the controller; `presence` is IDLE's, and `none` a kind the
controller itself sends (R149). -/
def FrameKind.taker : FrameKind → Option Machine.Taker
  | .idle => some .presence
  | .arrive => some .ticketTable | .call => some .ticketTable | .cancel => some .ticketTable
  | .schedule => some .callScheduler | .groupLink => some .callScheduler
  | .quoteAsk => some .quoteUnit
  | .runnerStatus => some .dispatchUnit | .taskAccept => some .dispatchUnit | .taskDecline => some .dispatchUnit
  | .taskStep => some .dispatchUnit
  | .liftStatus => some .tenureArbiter | .laneStatus => some .tenureArbiter
  | .zoneOccupancy => some .stallMap
  | .manageRequest => some .managementUnit
  | .poll => none | .serviceReply => none | .taskOffer => none | .taskWithdraw => none | .runnerReply => none
  | .liftOrder => none | .curbBoard => none | .vacancy => none | .manageReply => none | .notice => none

/-- The kind of the frame that a command is the taking of, when it is addressed to the controller (R149). A frame routed by
ROUTE_FRAME carries its kind as a byte. -/
def Instr.frameKind : Instr → Option FrameKind
  | .idle _ => some .idle
  | .arrive _ _ => some .arrive | .call _ _ => some .call | .schedule _ _ => some .schedule
  | .cancel _ _ => some .cancel | .groupLink _ _ => some .groupLink | .quoteAsk _ _ => some .quoteAsk
  | .runnerReady _ _ _ => some .runnerStatus | .runnerBreak _ _ _ => some .runnerStatus
  | .runnerOffDuty _ _ _ => some .runnerStatus | .runnerPosition _ _ _ => some .runnerStatus
  | .taskAccept _ _ _ => some .taskAccept | .taskDecline _ _ _ => some .taskDecline
  | .atLobby _ _ _ _ => some .taskStep | .departed _ _ _ => some .taskStep | .parked _ _ _ _ _ => some .taskStep
  | .keyRequest _ _ _ => some .taskStep | .handover _ _ _ _ => some .taskStep
  | .liftIdleReport _ _ => some .liftStatus | .liftLoadedReport _ _ => some .liftStatus
  | .liftArrivedReport _ _ => some .liftStatus | .liftUnloadedReport _ _ => some .liftStatus
  | .liftObstructedReport _ _ => some .liftStatus | .liftFaultReport _ _ => some .liftStatus
  | .laneOccupiedReport _ => some .laneStatus | .laneClearReport _ => some .laneStatus
  | .zoneOccupancy _ _ => some .zoneOccupancy
  | .loadStation _ _ => some .manageRequest | .loadStall _ _ => some .manageRequest
  | .loadParams _ _ => some .manageRequest | .loadPassRule _ _ => some .manageRequest
  | .loadRoute _ _ => some .manageRequest | .loadTimer _ _ => some .manageRequest
  | .loadMasks _ _ => some .manageRequest | .setStallService _ _ => some .manageRequest
  | .setClock _ _ => some .manageRequest | .startTimer _ _ => some .manageRequest
  | .stopTimer _ _ => some .manageRequest | .readTicket _ _ => some .manageRequest
  | .readStall _ _ => some .manageRequest | .readHook _ _ => some .manageRequest
  | .readRunner _ _ => some .manageRequest | .readCounts _ _ => some .manageRequest
  | .readFlags _ => some .manageRequest | .readLatch _ _ => some .manageRequest
  | .readEstimates _ => some .manageRequest | .clearFlags _ _ => some .manageRequest
  | .rebindHook _ _ => some .manageRequest | .restage _ _ => some .manageRequest
  | .forceClose _ _ => some .manageRequest | .restart _ _ => some .manageRequest
  | .manageUnknownKind _ _ => some .manageRequest
  | .unhandledKind _ (.statusRequest _ _) => some .runnerStatus
  | .unhandledKind _ (.stepKind _ _) => some .taskStep
  | .unhandledKind _ .liftReport => some .liftStatus
  | .unhandledKind _ .laneReport => some .laneStatus
  | .unhandledKind _ (.badPayload k) => some k
  | .unhandledKind _ (.kind _) => none
  | .routeFrame _ _ _ => none
  | .poll _ => none
  | .badAnswer _ _ => none
  | .pollTimeout _ => none
  | .strayFrame _ _ => none
  | .transmitOpportunity _ => none
  | .scanCycle => none
  | .panelSample _ => none
  | .clockTick => none
  | .confirmDeadline _ => none
  | .releaseDeadline _ => none
  | .offerDeadline _ => none
  | .clearingDeadline _ => none
  | .overdueDeadline _ => none
  | .scheduleRelease => none
  | .intervalExpiry _ => none
  | .delayExpiry _ => none
  | .windowExpiry _ => none
  | .pulseEnd _ => none
  | .eventTaken => none
  | .powerOn _ => none
  | .powerLoss => none
  | .batteryDropout => none
  | .destination61Or62 _ _ => none

/-- The payload bytes of an own frame: a free value. The manual gives each own frame its fields and no byte layout, so
nothing is known of them but that a payload has at most 32 bytes (log entry 35). -/
opaque Config.ownPayload : Machine.OwnFrame → List Byte

end Sys2Proof

namespace Sys2Proof.Machine

open Sys2Proof

/-! ### The check (R148) -/

/-- One data bit shifted into the check register (R148). -/
def crcBit (register : Word) (bit : Bool) : Word :=
  if register.msb = bit then register <<< 1 else (register <<< 1) ^^^ Config.crcGenerator

/-- The bits of a byte, most significant first. -/
def bitsOf (b : Byte) : List Bool := [7, 6, 5, 4, 3, 2, 1, 0].map b.getLsbD

/-- One byte taken into the check register, most significant bit first (R148). -/
def crcByte (register : Word) (b : Byte) : Word := (bitsOf b).foldl crcBit register

/-- The check over a list of bytes, from the preset register (R148). -/
def crc (bytes : List Byte) : Word := bytes.foldl crcByte Config.crcPreset

/-! ### Frames (R147) -/

/-- The bytes the check covers: the destination through the last payload byte (R147). -/
def coveredBytes (f : Frame) : List Byte :=
  [f.destination, f.source, f.kind, f.length] ++ f.payload

/-- The frame carries the check of its bytes (R147). -/
def checkMatches (f : Frame) : Bool := f.check == crc (coveredBytes f)

/-- A frame from the controller with its check (R147). -/
def ownFrame (destination kind : Byte) (payload : List Byte) : Frame :=
  let f : Frame := { destination, source := 0, kind, length := BitVec.ofNat 8 payload.length, payload, check := 0 }
  { f with check := crc (coveredBytes f) }

/-- The kinds of the manual, in the order of their table (R149). -/
def frameKinds : List FrameKind :=
  [.poll, .idle, .arrive, .call, .schedule, .cancel, .groupLink, .quoteAsk, .serviceReply, .runnerStatus, .taskAccept,
    .taskDecline, .taskStep, .taskOffer, .taskWithdraw, .runnerReply, .liftStatus, .liftOrder, .laneStatus,
    .zoneOccupancy, .curbBoard, .vacancy, .manageRequest, .manageReply, .notice]

/-- The broadcast destination (R147). -/
def broadcast : Nat := 63

/-- The POLL of a station: length 0 (R153). -/
def pollFrame (address : Nat) : Frame := ownFrame (BitVec.ofNat 8 address) FrameKind.poll.value []

/-- The kind of an own frame (R149). -/
def OwnFrame.kind : OwnFrame → FrameKind
  | .serviceReply _ _ => .serviceReply
  | .manageReply _ _ _ _ _ _ => .manageReply
  | .taskOffer _ _ _ _ _ _ _ _ _ _ _ _ _ => .taskOffer
  | .taskWithdraw _ _ _ => .taskWithdraw
  | .runnerReply _ _ _ _ => .runnerReply
  | .liftOrder _ _ _ _ _ _ _ => .liftOrder
  | .notice _ _ _ _ => .notice
  | .curbBoard _ _ => .curbBoard
  | .vacancy _ _ => .vacancy

/-- The station an own frame is addressed to (R161). -/
def OwnFrame.destination : OwnFrame → Nat
  | .serviceReply a _ => a
  | .manageReply a _ _ _ _ _ => a
  | .taskOffer a _ _ _ _ _ _ _ _ _ _ _ _ => a
  | .taskWithdraw a _ _ => a
  | .runnerReply a _ _ _ => a
  | .liftOrder a _ _ _ _ _ _ => a
  | .notice a _ _ _ => a
  | .curbBoard a _ => a
  | .vacancy a _ => a

/-- An own frame as it goes onto a link: its destination, source 0, its kind, and its payload, of at most 32 bytes, with
the length and the check of it (R147). -/
def OwnFrame.frame (f : OwnFrame) : Frame :=
  ownFrame (BitVec.ofNat 8 f.destination) f.kind.value ((Config.ownPayload f).take Config.maxPayload)

/-- An own frame on a link: its fields and its bytes. -/
def OwnFrame.onLine (f : OwnFrame) : LineFrame := .own f f.frame

/-! ### Judging (R146, R147) -/

/-- The bytes of a frame as they stand on a link, the check high byte first (R147). -/
def frameBytes (f : Frame) : List Byte :=
  coveredBytes f ++ [f.check.extractLsb' 8 8, f.check.extractLsb' 0 8]

/-- The frame that received bytes make; `none` for a malformed one: a length field above 32, or a byte count that differs
from four plus the length plus two (R147). -/
def parseFrame (bs : List Byte) : Option Frame :=
  match bs with
  | destination :: source :: kind :: length :: rest =>
    if length.toNat ≤ Config.maxPayload ∧ rest.length = length.toNat + 2 then
      some { destination, source, kind, length, payload := rest.take length.toNat,
             check := rest.getD length.toNat 0 ++ rest.getD (length.toNat + 1) 0 }
    else none
  | _ => none

/-- What a received frame is judged to be: discarded, a frame for destination 61 or 62, or good (R147). -/
inductive Judged where
  | discarded
  | unroutable (f : Frame)
  | good (f : Frame)
  deriving DecidableEq, Repr

/-- The judging of a frame that is not malformed: its check, its source, its destination (R147). -/
def judgeFrame (f : Frame) : Judged :=
  if !checkMatches f then .discarded
  else if Config.stationCount < f.source.toNat then .discarded
  else if f.destination.toNat = 61 ∨ f.destination.toNat = 62 then .unroutable f
  else .good f

/-- The judging of what a port received, in the order of R147. -/
def judge (rx : Received) : Judged :=
  match rx with
  | .badCharacters => .discarded
  | .bytes bs =>
    match parseFrame bs with
    | none => .discarded
    | some f => judgeFrame f

end Sys2Proof.Machine
end

