-- ==== Sys2Proof/Machine/Runners.lean ====
section
/-! DEFINITION. The dispatch unit: tasks, the dispatch queue, pairing, offers, withdrawals and the end of a task
(R84 to R100, chapter 5). -/

namespace Sys2Proof.Machine

open Sys2Proof

/-! ### The queue (R88 to R90) -/

/-- The badges 1 to 32, ascending. -/
def badges : List Nat := oneTo Config.runnerCount

/-- A task that takes a place of the dispatch queue: QUEUED or OFFERED (R89). -/
def Task.inQueue (t : Task) : Bool :=
  match t.place with
  | .queued => true
  | .offered _ => true
  | .backlog => false
  | .held _ => false

/-- The places of the queue taken (R89). -/
def State.placesTaken (s : State) : Nat := s.dispatch.tasks.countP (·.inQueue)

/-- The base value of a kind (R90). -/
def TaskKind.base : TaskKind → Nat
  | .fetch => 3
  | .park => 2
  | .restage => 1

/-- The tier number of a ticket (R90). -/
def State.tierOf (s : State) (n : Nat) : Nat :=
  match s.ticket n with
  | none => 0
  | some t => t.tier.num

/-- The whole aging steps passed since an age (R90). -/
def State.agingSteps (s : State) (age : SiteTime) : Nat := secondsSince age s.now / s.params.agingStep

/-- The effective priority of a task now, at most 7 (R90). -/
def State.priority (s : State) (t : Task) : Nat := min 7 (t.kind.base + s.tierOf t.ticket + s.agingSteps t.age)

/-- One rank stands before another in the queue: the higher priority, then the older age, then the lower ticket
number (R90). -/
def rankBefore (a b : Nat × SiteTime × Nat) : Bool :=
  b.1 < a.1 || (a.1 == b.1 && earlier a.2 b.2)

/-- The rank of a task in the queue (R90). -/
def State.rank (s : State) (t : Task) : Nat × SiteTime × Nat := (s.priority t, t.age, t.ticket)

/-- The QUEUED tasks in the order of the queue (R90). -/
def State.queueOrder (s : State) : List Task :=
  sortBy (fun a b => rankBefore (s.rank a) (s.rank b)) (s.dispatch.tasks.filter (·.place == .queued))

/-! ### Pairing (R91 to R93) -/

/-- The runner is on duty (R84). -/
def Runner.onDuty (r : Runner) : Bool := r.state == .ready || r.state == .offered || r.state == .tasked

/-- The runner's base is ABSENT (R91). -/
def State.baseAbsent (s : State) (r : Runner) : Bool :=
  match r.base with
  | none => false
  | some a => (s.station a).presence == .absent

/-- The runner is READY and its base is not ABSENT (R91). -/
def State.offerable (s : State) (b : Nat) : Bool := (s.runner b).state == .ready && !s.baseAbsent (s.runner b)

/-- The level a ticket's task starts from (R92). -/
def State.startLevel (s : State) (t : Task) : Nat :=
  let levelOf (k : Nat) : Nat := ((s.stall k).site.map (·.level)).getD 0
  match t.kind, s.ticket t.ticket with
  | .park, _ => 0
  | _, none => 0
  | .fetch, some k => (k.stall.map levelOf).getD 0
  | .restage, some k =>
    match k.stall, k.target with
    | some a, _ => levelOf a
    | none, some a => levelOf a
    | none, none => 0

/-- Two numbers' difference, taken without sign. -/
def distance (a b : Nat) : Nat := (a - b) + (b - a)

/-- One runner is chosen before another for a start level: nearer, then READY for longer, then the lower badge (R92). -/
def State.runnerBefore (s : State) (level : Nat) (a b : Nat) : Bool :=
  let da := distance (s.runner a).level level
  let db := distance (s.runner b).level level
  da < db || (da == db && earlier ((s.runner a).readySince, a) ((s.runner b).readySince, b))

/-- The runner chosen for a task among the eligible ones (R91, R92). -/
def State.chooseRunner (s : State) (t : Task) : Option Nat :=
  firstBy (s.runnerBefore (s.startLevel t)) (badges.filter fun b => s.offerable b && !t.declined.contains b)

/-- A QUEUED task is offered to a READY runner (R93). -/
def State.offer (s : State) (t : Task) (b : Nat) : State :=
  (s.modifyTask t.ticket fun t => { t with place := .offered b }).setRunner b { s.runner b with
    state := .offered, task := some (t.ticket, t.kind),
    offerBy := some (Deadline.at (s.now.plusSeconds s.params.acceptWindow)), owed := some (.offer t.ticket) }

/-- Every on-duty runner has declined the task (R91). -/
def State.allDeclined (s : State) (t : Task) : Bool :=
  badges.all fun b => !(s.runner b).onDuty || t.declined.contains b

/-- One task's turn in a pairing; with no READY runner left whose base answers, the pairing is over (R91). -/
def State.pairTask (s : State) (n : Nat) : State :=
  if badges.any s.offerable then
    match s.task n with
    | none => s
    | some t =>
      let emptied := s.allDeclined t
      let s := if emptied then s.modifyTask n fun t => { t with declined := [] } else s
      let t := if emptied then { t with declined := [] } else t
      match s.chooseRunner t with
      | none => s
      | some b => s.offer t b
  else s

/-- A pairing: each QUEUED task in queue order is offered to the runner chosen for it (R91). -/
def State.pair (s : State) : State := forEach (s.queueOrder.map (·.ticket)) (fun n s => s.pairTask n) s

/-! ### Making, promoting and removing tasks (R88, R89, R97, R100) -/

/-- A task is made for a ticket: QUEUED when a place is free, which starts a pairing; else BACKLOG with the ticket's
backlog flag set (R88, R89, R91). -/
def State.makeTask (s : State) (kind : TaskKind) (n : Nat) (age : SiteTime) : State :=
  let task (place : TaskPlace) : Task := { kind, ticket := n, age, declined := [], place }
  if s.placesTaken < Config.maxQueue then
    { s with dispatch.tasks := s.dispatch.tasks ++ [task .queued] }.pair
  else
    { s with dispatch.tasks := s.dispatch.tasks ++ [task .backlog] }.modifyTicket n fun t => { t with backlog := true }

/-- A freed place takes the BACKLOG task of oldest age, then lowest ticket number, which starts a pairing (R89). -/
def State.promote (s : State) : State :=
  if s.placesTaken < Config.maxQueue then
    match firstBy (fun a b => earlier (a.age, a.ticket) (b.age, b.ticket))
        (s.dispatch.tasks.filter (·.place == .backlog)) with
    | none => s
    | some t =>
      ((s.modifyTask t.ticket fun t => { t with place := .queued }).modifyTicket t.ticket
        fun k => { k with backlog := false }).pair
  else s

/-- The runner enters READY now, without task or offer (R95, R97, R100). -/
def Runner.enterReady (r : Runner) (now : SiteTime) : Runner :=
  { r with state := .ready, readySince := now, task := none, offerBy := none }

/-- The offer of a runner ends without acceptance and its task returns to QUEUED (R95, R96). -/
def State.returnOffer (s : State) (b : Nat) : State :=
  match (s.runner b).task with
  | none => s
  | some (n, _) => s.modifyTask n fun t => { t with place := .queued }

/-- A withdrawal by expiry, absence of the base, or the runner's own BREAK or OFF_DUTY: the task returns to QUEUED, a
TASK_WITHDRAW is owed, and the runner enters state `x` (R96). -/
def State.endOffer (s : State) (b : Nat) (x : RunnerState) : State :=
  let r := s.runner b
  (s.returnOffer b).setRunner b { r with
    state := x, task := none, offerBy := none,
    owed := match r.task with
      | none => r.owed
      | some (n, _) => some (.withdraw n) }

/-- An offer expires: the runner becomes SILENT, RUNNER_SILENT is raised, and the returned task starts a pairing
(R96, R98). -/
def State.expireOffer (s : State) (b : Nat) : State :=
  if (s.runner b).state = .offered then ((s.endOffer b .silent).raise .runnerSilent b).pair else s

/-- The ticket table asks for a ticket's task to be withdrawn (R97). -/
def State.withdrawTask (s : State) (n : Nat) : State :=
  match s.task n with
  | none => s
  | some t =>
    let dropped := s.dropTask n
    let freed (b : Nat) (s : State) : State :=
      s.setRunner b { (s.runner b).enterReady s.now with owed := some (.withdraw n) }
    match t.place with
    | .queued => dropped.promote
    | .backlog => dropped.modifyTicket n fun k => { k with backlog := false }
    | .offered b => ((freed b dropped).promote).pair
    | .held b => (freed b dropped).modifyTicket n (fun k => { k with runner := none }) |>.pair

/-- A task ends at its final step (R100): with the slot-free mark the runner becomes READY, which starts a pairing,
else SILENT. -/
def State.endTask (s : State) (b n : Nat) (slotFree : Bool) : State :=
  let r := s.runner b
  let ended := ((s.dropTask n).setRunner b
    (if slotFree then r.enterReady s.now else { r with state := .silent, task := none })).raise .taskEnd b
  if slotFree then ended.pair else ended

/-- The runner is TASKED and holds the task of a ticket (R46, R99). -/
def State.holdsTask (s : State) (b n : Nat) : Bool :=
  (s.runner b).state == .tasked && ((s.runner b).task.map (·.1)) == some n

/-- Sets a runner's level (R99). -/
def State.setLevel (s : State) (b level : Nat) : State := s.setRunner b { s.runner b with level := level }

end Sys2Proof.Machine
end

