-- ==== Sys2Proof/Machine/Stalls.lean ====
section
/-! DEFINITION. The stall map's changes of a stall (R3 to R9), the allocator's placement (R21 to R29), and what a stall's
entry into FREE hands on (R8, R33, R101). -/

namespace Sys2Proof.Machine

open Sys2Proof

/-! ### Writing a stall record and the free counts (R9) -/

/-- The size class in whose free count a stall stands: that of a FREE stall (R9). -/
def Stall.freeClass (r : Stall) : Option SizeClass := if r.state = .free then r.site.map (·.size) else none

/-- A free count falls by one; at or below its reserve RESERVE_LOW is raised (R9). -/
def State.countFall (s : State) (c : SizeClass) : State :=
  let n := s.stalls.free.get c - 1
  let fallen := { s with stalls.free := s.stalls.free.set c n }
  if n ≤ s.params.reserve.get c then fallen.raise .reserveLow c.num else fallen

/-- A free count rises by one (R9). -/
def State.countRise (s : State) (c : SizeClass) : State :=
  { s with stalls.free := s.stalls.free.set c (s.stalls.free.get c + 1) }

/-- Stores the record of stall `k` and moves the free counts with it; a change of a count owes VACANCY (R9, R144). Every
change of a stall record outside a start is made here. -/
def State.putStall (s : State) (k : Nat) (r : Stall) : State :=
  if k < Config.stallCount then
    let stored := { s with stalls.records := setNth s.stalls.records k r }
    let old := (s.stall k).freeClass
    if old = r.freeClass then stored
    else
      let fallen := match old with
        | none => stored
        | some c => stored.countFall c
      let risen := match r.freeClass with
        | none => fallen
        | some c => fallen.countRise c
      risen.oweVacancy
  else s

/-! ### Holds, releases and departures (R4 to R7) -/

/-- A hold asked for stall `k` and ticket `n` is granted: the stall is FREE, or already HELD for the ticket (R4). -/
def State.holdable (s : State) (k n : Nat) : Bool :=
  (s.stall k).state == .free || ((s.stall k).state == .held && (s.stall k).ticket == some n)

/-- A hold of a FREE stall; one already HELD for the ticket stands unchanged, any other is unchanged (R4). -/
def State.hold (s : State) (k n : Nat) : State :=
  let r := s.stall k
  if r.state = .free then
    s.putStall k { r with state := .held, ticket := some n, confirmed := false, recheck := false }
  else s

/-- The stall is HELD for the ticket. -/
def State.heldFor (s : State) (k n : Nat) : Bool := (s.stall k).state == .held && (s.stall k).ticket == some n

/-- The stall is OCCUPIED for the ticket. -/
def State.occupiedBy (s : State) (k n : Nat) : Bool :=
  (s.stall k).state == .occupied && (s.stall k).ticket == some n

/-- A release of a hold, before its hand-on; nothing happens to a stall not HELD for the ticket (R5). -/
def State.releaseStall (s : State) (k n : Nat) : State :=
  if s.heldFor k n then
    s.putStall k { s.stall k with state := .free, ticket := none, confirmed := false, recheck := true }
  else s

/-- An OCCUPIED stall is freed, before its hand-on; recheck due is set as the cause asks (R7). -/
def State.freeOccupied (s : State) (k : Nat) (recheck : Bool) : State :=
  let r := s.stall k
  s.putStall k { r with state := .free, ticket := none, confirmed := false, confirmBy := none,
                        recheck := r.recheck || recheck }

/-- A departure from stall `k` by step or sensor: the stall is freed and leaves the ticket, whose lift field takes the
stall's lift (R7). -/
def State.depart (s : State) (k n : Nat) : State :=
  if s.occupiedBy k n then
    let lift := (s.stall k).site.map (·.lift)
    (s.freeOccupied k false).modifyTicket n fun t => { t with stall := none, lift := lift }
  else s

/-! ### Eligibility and cost (R22 to R28) -/

/-- What a placement reads of one stall: its number, record and static fields. -/
structure Candidate where
  number : Nat
  record : Stall
  site : StallSite

/-- The stalls that have ever been loaded, ascending. -/
def State.candidates (s : State) : List Candidate :=
  s.stalls.records.toList.zipIdx.filterMap fun (r, k) => r.site.map fun site => { number := k, record := r, site }

/-- The stall is HELD for the ticket that is being re-placed (R22, R24). -/
def Candidate.isOwn (c : Candidate) (t : Ticket) (replacing : Bool) : Bool :=
  replacing && c.record.state == .held && c.record.ticket == some t.number

/-- The reserve condition; the ticket's own HELD stall is judged as if it were FREE (R24). -/
def State.reserveAdmits (s : State) (t : Ticket) (c : Candidate) (replacing : Bool) : Bool :=
  t.tier == .reserved ||
    s.params.reserve.get c.site.size < s.stalls.free.get c.site.size + (if c.isOwn t replacing then 1 else 0)

/-- A stall is eligible for a ticket; `needCharger` is whether the try judges the charger condition (R22, R25). -/
def State.eligible (s : State) (t : Ticket) (replacing needCharger : Bool) (c : Candidate) : Bool :=
  (c.record.state == .free || c.isOwn t replacing)
    && t.size.num ≤ c.site.size.num
    && (c.site.lift == 0 || s.serviceable c.site.lift)
    && (!needCharger || c.site.charger)
    && s.reserveAdmits t c replacing

/-- The retrieval seconds of a stall (R26). -/
def State.retrievalSeconds (s : State) (site : StallSite) : Nat := site.walk + site.level * s.params.levelTime

/-- The stay term (R26). -/
def State.stayTerm (s : State) (t : Ticket) (site : StallSite) : Nat :=
  nth s.params.stayWeight t.stay.index 0
    * distance (s.retrievalSeconds site) (nth s.params.stayTarget t.stay.index 0)

/-- The tenures of a lift: its queue and its current tenure (R105). -/
def Lift.tenures (r : Lift) : List Tenure := r.queue ++ r.current.toList

/-- The load term: the tenures on the stall's lift, counted up to 16, times the lift load penalty (R28). -/
def State.loadTerm (s : State) (site : StallSite) : Nat :=
  if site.lift = 0 then 0 else min 16 (s.lift site.lift).tenures.length * s.params.liftLoadPenalty

/-- The cost of a stall for a ticket (R26 to R28). -/
def State.cost (s : State) (t : Ticket) (site : StallSite) : Nat :=
  s.stayTerm t site + (site.size.num - t.size.num) * s.params.sizePenalty
    + (if site.charger && !t.charger then s.params.chargerPenalty else 0) + s.loadTerm site

/-- One candidate is chosen before another: the lower cost, then the lower level, then the lower number (R28). -/
def State.cheaper (s : State) (t : Ticket) (a b : Candidate) : Bool :=
  let ca := s.cost t a.site
  let cb := s.cost t b.site
  ca < cb || (ca == cb && (a.site.level < b.site.level || (a.site.level == b.site.level && a.number < b.number)))

/-- The choice among the stalls of one try (R25, R28). -/
def State.choose (s : State) (t : Ticket) (replacing needCharger : Bool) : Option Nat :=
  (firstBy (s.cheaper t) (s.candidates.filter (s.eligible t replacing needCharger))).map (·.number)

/-- A placement: the chosen stall and whether it was found in the second try (R21, R25). -/
def State.placement (s : State) (t : Ticket) (replacing : Bool) : Option (Nat × Bool) :=
  match s.choose t replacing t.charger with
  | some k => some (k, false)
  | none => if t.charger then (s.choose t replacing false).map (·, true) else none

/-- A chosen stall is held and written to the ticket, restage wanted set or cleared with the try that found it
(R25, R29). -/
def State.bindStall (s : State) (n k : Nat) (second : Bool) : State :=
  (s.hold k n).modifyTicket n fun t => { t with stall := some k, restageWanted := second }

/-- The ticket a placement has chosen a stall for becomes ASSIGNED and its PARK task is handed over (R29). -/
def State.assign (s : State) (n k : Nat) (second : Bool) (arrived : SiteTime) : State :=
  ((s.bindStall n k second).moveTicket n .assigned).makeTask .park n arrived

/-! ### The unplaced list (R31 to R35) -/

/-- One ticket's turn in an attempt of the unplaced list (R33). -/
def State.attemptTicket (s : State) (n : Nat) : State :=
  match s.ticket n with
  | none => s
  | some t =>
    match s.placement t false with
    | none => s
    | some (k, second) => { s with unplaced := s.unplaced.filter (· != n) }.assign n k second t.arrived

/-- An attempt of the unplaced list, from the earliest ticket to the latest (R33). -/
def State.attemptUnplaced (s : State) : State := forEach s.unplaced (fun n s => s.attemptTicket n) s

/-! ### A charger stall looks for a restage (R101) -/

/-- A ticket may be restaged to a stall that stands FREE (R101). -/
def State.restageable (s : State) (site : StallSite) (t : Ticket) : Bool :=
  t.state == .parked && t.restageWanted && t.size.num ≤ site.size.num &&
    match t.stall with
    | none => false
    | some k => ((s.stall k).site.map (·.lift)) == some site.lift

/-- A RESTAGE task is made for a PARKED ticket: the target is held and written, the ticket becomes RESTAGING, and the
task is made with age now (R48, R101). -/
def State.beginRestage (s : State) (n k : Nat) : State :=
  (((s.hold k n).modifyTicket n fun t => { t with target := some k }).moveTicket n .restaging).makeTask .restage n s.now

/-- The ticket chosen for a charger stall: the earliest parked, then the lowest number (R101). -/
def State.restageCandidate (s : State) (site : StallSite) : Option Ticket :=
  firstBy (fun a b => earlier (a.parkedAt.getD SiteTime.zero, a.number) (b.parkedAt.getD SiteTime.zero, b.number))
    (s.tickets.filter (s.restageable site))

/-- A charger stall still FREE is handed to the dispatch unit (R8, R101). -/
def State.lookRestage (s : State) (k : Nat) : State :=
  match (s.stall k).state, (s.stall k).site with
  | .free, some site =>
    if site.charger && (site.lift == 0 || s.serviceable site.lift) then
      match s.restageCandidate site with
      | none => s
      | some t => s.beginRestage t.number k
    else s
  | _, _ => s

/-- A stall that entered FREE is handed on: the unplaced list, then a restage (R8). -/
def State.handOn (s : State) (k : Nat) : State := s.attemptUnplaced.lookRestage k

/-- A release of a hold with its hand-on (R5). -/
def State.release (s : State) (k n : Nat) : State :=
  if s.heldFor k n then (s.releaseStall k n).handOn k else s

/-! ### Re-placement (R36, R37) -/

/-- The ticket's PARK task is OFFERED to a runner. -/
def State.parkOffered (s : State) (n : Nat) : Bool :=
  match s.task n with
  | none => false
  | some t =>
    match t.place with
    | .offered _ => true
    | _ => false

/-- The ASSIGNED ticket may be re-placed: its PARK task is not OFFERED, and, where a lift is named, its bound stall is on
that lift (R36, R37). -/
def State.replaceable (s : State) (lift : Option Nat) (t : Ticket) : Bool :=
  t.state == .assigned && !s.parkOffered t.number &&
    match lift with
    | none => true
    | some l => ((t.stall.bind fun k => (s.stall k).site).map (·.lift)) == some l

/-- One ASSIGNED ticket is re-placed (R36): the new stall is held, the bound stall changed, and the hold on the old
stall released and handed on; a placement that keeps the own stall, or finds none, moves nothing. -/
def State.replaceTicket (s : State) (lift : Option Nat) (n : Nat) : State :=
  match s.ticket n with
  | none => s
  | some t =>
    if s.replaceable lift t then
      match s.placement t true with
      | none => s
      | some (k, second) =>
        let bound := s.bindStall n k second
        match t.stall with
        | none => bound
        | some old => if old = k then bound else bound.release old n
    else s

/-- The ASSIGNED tickets are re-placed in order of arrived time, then ticket number (R36, R37). The tickets are those that
are to be re-placed as the pass begins; each is judged again at its turn: the model's choice (log entry 38). -/
def State.replaceAll (s : State) (lift : Option Nat) : State :=
  let order := sortBy (fun a b => earlier (a.arrived, a.number) (b.arrived, b.number))
    (s.tickets.filter (s.replaceable lift))
  forEach (order.map (·.number)) (fun n s => s.replaceTicket lift n) s

/-- A lift has become serviceable: the unplaced list is attempted, then every ASSIGNED ticket re-placed (R23, R37). -/
def State.becameServiceable (s : State) : State := s.attemptUnplaced.replaceAll none

/-! ### What the sensors see (R10 to R15) -/

/-- The sensed value a mark gives. -/
def sensedOf : Mark → Sensed
  | .occupied => .occupied
  | .empty => .empty

/-- A FREE stall with a car in it becomes BLOCKED (R12, R14). RESERVE_LOW of the fall is reported before PHANTOM_CAR: the
model's choice of an order (log entry 37). -/
def State.block (s : State) (k : Nat) : State :=
  (s.putStall k { s.stall k with state := .blocked, recheck := false }).raise .phantomCar k

/-- The sensed value of stall `k` has changed to OCCUPIED (R12). -/
def State.sensedOccupied (s : State) (k : Nat) : State :=
  let r := s.stall k
  match r.state with
  | .free => s.block k
  | .held => s.putStall k { r with confirmed := true }
  | .occupied => s.putStall k { r with confirmed := true, confirmBy := none }
  | .undefined => s
  | .blocked => s
  | .out => s

/-- The sensed value of stall `k`, OCCUPIED for ticket `t`, has changed to EMPTY (R13). -/
def State.emptyUnder (s : State) (k : Nat) (t : Ticket) : State :=
  match t.state with
  | .parked | .scheduled | .called =>
    (s.putStall k { s.stall k with confirmed := false }).raise .stallMismatch k
  | .fetching => if s.occupiedBy k t.number then (s.depart k t.number).handOn k else s
  | .restaging => if t.stall = some k ∧ s.occupiedBy k t.number then (s.depart k t.number).handOn k else s
  | _ => s

/-- The sensed value of stall `k` has changed to EMPTY (R13). -/
def State.sensedEmpty (s : State) (k : Nat) : State :=
  let r := s.stall k
  match r.state with
  | .held => s.putStall k { r with confirmed := false }
  | .occupied =>
    match r.ticket.bind s.ticket with
    | none => s
    | some t => s.emptyUnder k t
  | .blocked => (s.putStall k { r with state := .free }).handOn k
  | .undefined => s
  | .free => s
  | .out => s

/-- A mark for one stall (R11): two agreeing marks change the sensed value, and the change takes effect. -/
def State.takeMark (s : State) (k : Nat) (m : Mark) : State :=
  let r := s.stall k
  if r.sensed = sensedOf m then s.putStall k { r with pending := none }
  else if r.pending = some m then
    let accepted := s.putStall k { r with sensed := sensedOf m, pending := none }
    match m with
    | .occupied => accepted.sensedOccupied k
    | .empty => accepted.sensedEmpty k
  else s.putStall k { r with pending := some m }

/-- The recheck of a stall that had recheck due when its mark was taken (R14). -/
def State.recheckStall (s : State) (k : Nat) : State :=
  let cleared := s.putStall k { s.stall k with recheck := false }
  if (s.stall k).state = .free ∧ (s.stall k).sensed = .occupied then cleared.block k else cleared

/-- A mark and then the recheck, of one stall (R10, R11, R14). -/
def State.takeStallMark (s : State) (k : Nat) (m : Mark) : State :=
  let due := (s.stall k).recheck
  let marked := s.takeMark k m
  if due then marked.recheckStall k else marked

/-- The stalls of a report within the served range and the map, with their marks, ascending (R10). -/
def coveredStalls (r : ZoneReport) (first last : Nat) : List (Nat × Mark) :=
  (r.marks.zipIdx.map fun (m, i) => (r.first + i, m)).filter fun (k, _) =>
    first ≤ k && k ≤ last && k < Config.stallCount

/-- A ZONE_OCCUPANCY report from a station is taken, or ignored whole (R10). -/
def State.takeReport (s : State) (source : Nat) (r : ZoneReport) : State :=
  if s.classOf source = .sensorHub ∧ r.marks.length ≤ Config.maxMarks then
    match (s.station source).served with
    | some (.stalls first last) =>
      forEach (coveredStalls r first last) (fun km s => s.takeStallMark km.1 km.2) s
    | _ => s
  else s

/-- The hub of a served range is ABSENT: its stalls' sensed values become UNKNOWN (R15). -/
def State.hubAbsent (s : State) (first last : Nat) : State :=
  forEach ((List.range Config.stallCount).filter fun k => first ≤ k && k ≤ last)
    (fun k s => s.putStall k { s.stall k with sensed := .unknown, pending := none }) s

/-- A confirm deadline that has been reached is taken (R16). -/
def State.confirmReached (s : State) (k : Nat) : State :=
  match (s.stall k).confirmBy with
  | none => s
  | some d =>
    if d.reached then
      let taken := s.putStall k { s.stall k with confirmBy := none }
      if (s.stall k).sensed = .empty then taken.raise .stallMismatch k else taken
    else s

end Sys2Proof.Machine
end

