-- ==== Sys2Proof/Machine/Tenures.lean ====
section
/-! DEFINITION. The tenure arbiter: lane grant checks, lift grant checks, the ride, turnbacks, faults and recovery, and
the curb lanes (R105 to R123, chapter 6). -/

namespace Sys2Proof.Machine

open Sys2Proof

/-- The lifts 1 to 4, ascending. -/
def liftNumbers : List Nat := oneTo Config.liftCount

/-- The lanes 1 to 6, ascending. -/
def laneNumbers : List Nat := oneTo Config.laneCount

/-! ### Lane requests and grants (R119) -/

/-- The ticket has a lane request (R119). -/
def Ticket.wantsLane (t : Ticket) : Bool :=
  (t.state == .descending || t.state == .staged) && t.laneRequest.isSome && t.lane.isNone

/-- The oldest lane request: the earliest request time, then the lower ticket number (R119). -/
def State.oldestRequest (s : State) : Option Ticket :=
  firstBy (fun a b => earlier (a.laneRequest.getD SiteTime.zero, a.number) (b.laneRequest.getD SiteTime.zero, b.number))
    (s.tickets.filter (·.wantsLane))

/-- The configured lanes that stand FREE, ascending (R119). -/
def State.freeLanes (s : State) : List Nat :=
  laneNumbers.filter fun n => s.laneConfigured n && (s.lane n).state == .free

/-- The lane for a ticket: the lowest that prefers its lift, else the lowest (R119). -/
def State.laneFor (s : State) (t : Ticket) : Option Nat :=
  match s.freeLanes.find? fun n => (s.preferredLifts n).contains (t.lift.getD 0) with
  | some n => some n
  | none => s.freeLanes.head?

/-- A lane is reserved for a ticket, which writes the lane; a STAGED ticket becomes TO_CURB (R53, R119). -/
def State.reserveLane (s : State) (lane : Nat) (t : Ticket) : State :=
  let reserved := (s.setLane lane { s.lane lane with state := .reserved, ticket := some t.number }).modifyTicket t.number
    fun t => { t with lane := some lane }
  if t.state = .staged then reserved.moveTicket t.number .toCurb else reserved

/-- Serves lane requests, oldest first, at most `fuel` of them (R119). -/
def State.serveLanes : Nat → State → State
  | 0, s => s
  | fuel + 1, s =>
    match s.oldestRequest with
    | none => s
    | some t =>
      match s.laneFor t with
      | none => s
      | some lane => serveLanes fuel (s.reserveLane lane t)

/-- A lane grant check: while a configured lane is FREE and a request stands, the oldest is served. Each service takes a
lane out of FREE, so six serve them all (R119). -/
def State.laneGrantCheck (s : State) : State := s.serveLanes Config.laneCount

/-! ### Lift orders (R111, R161) -/

/-- The record is a station of class LIFT that serves the lift. -/
def Station.servesLift (r : Station) (l : Nat) : Bool := r.cls == .lift && r.served == some (.lift l)

/-- Order owed is set, and the order marker of every station of class LIFT that serves the lift (R111, R161). Where no such
station serves the lift, order owed is set all the same and stands until a LOAD_STATION settles it: the model's choice
(log entry 49). -/
def State.setOrder (s : State) (l : Nat) : State :=
  (s.setLift l { s.lift l with orderOwed := true }).mapStations
    fun r => if r.servesLift l then { r with orderMark := true } else r

/-- Order owed is cleared with the markers of the lift's stations (R115, R161). -/
def State.clearOrder (s : State) (l : Nat) : State :=
  (s.setLift l { s.lift l with orderOwed := false }).mapStations
    fun r => if r.servesLift l then { r with orderMark := false } else r

/-- Order owed stands exactly while any of the lift's stations has its marker set (R161): after a marker was cleared, or a
load has taken a station with its marker to the lift or from it. -/
def State.settleOrder (s : State) (l : Nat) : State :=
  s.setLift l { s.lift l with orderOwed := s.links.stations.toList.any fun r => r.servesLift l && r.orderMark }

/-! ### Granting a lift (R107 to R111) -/

/-- One tenure stands before another in a request queue: the earlier request time, then the lower ticket number (R105). -/
def tenureBefore (a b : Tenure) : Bool := earlier (a.requested, a.ticket.getD 0) (b.requested, b.ticket.getD 0)

/-- A WAITING tenure qualifies: UP always, DOWN while the staging count is below 2 (R109). -/
def State.tenureQualifies (s : State) (l : Nat) (t : Tenure) : Bool :=
  t.direction == .up || s.stagingCount l < Config.stagingSlots

/-- Of the tenures behind the oldest, the first that starts at the parked level, with those ahead of it; none if there
is none, or if one ahead of it has a pass count of 3 (R110). -/
def skipTo (parked : Nat) (ahead : List Tenure) : List Tenure → Option (Tenure × List Tenure)
  | [] => none
  | t :: rest =>
    if t.fromLevel = parked then (if ahead.all (·.passes < 3) then some (t, ahead) else none)
    else skipTo parked (ahead ++ [t]) rest

/-- The tenure chosen among the qualifying ones, and those it passes (R110). -/
def chooseTenure (parked skip : Nat) : List Tenure → Option (Tenure × List Tenure)
  | [] => none
  | oldest :: rest =>
    if oldest.fromLevel = parked then some (oldest, [])
    else
      match skipTo parked [oldest] (rest.take skip) with
      | some choice => some choice
      | none => some (oldest, [])

/-- A FETCHING ticket's DOWN grant: DESCENDING, its lane request time now if it had none, and a lane grant check (R53,
R111, R119). -/
def State.tellGrant (s : State) (t : Tenure) : State :=
  match t.ticket.bind s.ticket with
  | none => s
  | some k =>
    if k.state = .fetching ∧ t.direction = .down then
      ((s.modifyTicket k.number fun k => { k with laneRequest := some (k.laneRequest.getD s.now) }).moveTicket
        k.number .descending).laneGrantCheck
    else s

/-- The chosen tenure is GRANTED (R110, R111): it leaves the queue, those passed gain one in their pass counts, the lift
becomes BUSY, an order is owed, LIFT_GRANT is raised, and the ticket is told. -/
def State.grant (s : State) (l : Nat) (t : Tenure) (passed : List Tenure) : State :=
  let r := s.lift l
  let queue := (r.queue.erase t).map fun w => if passed.contains w then { w with passes := w.passes + 1 } else w
  (((s.setLift l { r with queue := queue, current := some { t with state := .granted }, state := .busy }).setOrder
    l).raise .liftGrant l).tellGrant t

/-- A grant check of a lift (R109). -/
def State.grantCheck (s : State) (l : Nat) : State :=
  let r := s.lift l
  if s.liftConfigured l ∧ r.state = .idle ∧ r.current = none then
    match chooseTenure r.parkedLevel s.params.parkSkip (r.queue.filter (s.tenureQualifies l)) with
    | none => s
    | some (t, passed) => s.grant l t passed
  else s

/-- A grant check of the lift a ticket's car came down by, after its staging count fell (R108). -/
def State.stagingFell (s : State) (lift : Option Nat) : State :=
  match lift with
  | none => s
  | some l => s.grantCheck l

/-- The tenures of a ticket's number on a lift. -/
def Lift.hasTenure (r : Lift) (n : Nat) : Bool := r.tenures.any (·.ticket == some n)

/-- The ticket has a tenure on some lift (R107). -/
def State.hasTenure (s : State) (n : Nat) : Bool := liftNumbers.any fun l => (s.lift l).hasTenure n

/-- A lift tenure is filed, or the filing refused (R107). -/
def State.fileTenure (s : State) (n badge l : Nat) (direction : Direction) (fromLevel toLevel : Nat) : State × Answer :=
  let r := s.lift l
  if ¬((s.servedLevels l).contains fromLevel && (s.servedLevels l).contains toLevel) then (s, .range)
  else if Config.maxFiled ≤ r.queue.length then (s, .full)
  else
    let t : Tenure := { ticket := some n, runner := some badge, direction, fromLevel, toLevel, state := .waiting,
                        requested := s.now, passes := 0 }
    (((s.setLift l { r with queue := insertBy tenureBefore t r.queue }).modifyTicket n
        fun k => { k with lift := some l }).grantCheck l, .done)

/-- A ticket lets go of its tenure (R114): a WAITING one is removed, a GRANTED or RIDING one goes on without it. -/
def State.letGo (s : State) (n : Nat) : State :=
  forEach liftNumbers (fun l s =>
    let r := s.lift l
    if r.queue.any (·.ticket == some n) then
      (s.setLift l { r with queue := r.queue.filter (·.ticket != some n) }).grantCheck l
    else
      match r.current with
      | none => s
      | some t =>
        if t.ticket = some n then s.setLift l { r with current := some { t with ticket := none, runner := none } } else s) s

/-! ### Lane reservations that end without a car (R123) -/

/-- The lane is RESERVED for the ticket. -/
def State.reservedFor (s : State) (lane n : Nat) : Bool :=
  (s.lane lane).state == .reserved && (s.lane lane).ticket == some n

/-- A ticket's lane reservation, if it has one, is cancelled: the lane FREE, the ticket's lane field removed; the lane
grant check is left to the caller (R123). -/
def State.cancelLane (s : State) (n : Nat) : State :=
  forEach laneNumbers (fun lane s =>
    if s.reservedFor lane n then
      (s.setLane lane { s.lane lane with state := .free, ticket := none }).modifyTicket n fun t => { t with lane := none }
    else s) s

/-- The lane's ticket is told that its lane went: a TO_CURB ticket becomes STAGED, and the lane field is removed
(R53, R123). -/
def State.loseLane (s : State) (lane : Nat) : State :=
  match (s.lane lane).state, (s.lane lane).ticket.bind s.ticket with
  | .reserved, some t =>
    let told := if t.state = .toCurb then s.moveTicket t.number .staged else s
    told.modifyTicket t.number fun t => { t with lane := none }
  | _, _ => s

/-- A lane-loop station is ABSENT: its lane becomes OUT, and a lane grant check follows (R123). -/
def State.laneAbsent (s : State) (lane : Nat) : State :=
  ((s.loseLane lane).setLane lane { state := .out, ticket := none, turnbackHold := false, clearingBy := none }
    ).laneGrantCheck

/-- A lane's configured flag was cleared: a reservation is cancelled and the lane FREE; any other state is kept (R123). -/
def State.laneUnconfigured (s : State) (lane : Nat) : State :=
  if (s.lane lane).state = .reserved then
    ((s.loseLane lane).setLane lane { s.lane lane with state := .free, ticket := none }).laneGrantCheck
  else s

/-! ### Turnbacks at the lift (R113) -/

/-- The ticket is told of a turnback: a DESCENDING one returns to FETCHING, its lane reservation is cancelled and the
lane granted on (R53, R113). -/
def State.tellTurnback (s : State) (ticket : Option Nat) : State :=
  match ticket.bind s.ticket with
  | none => s
  | some t =>
    if t.state = .descending then ((s.moveTicket t.number .fetching).cancelLane t.number).laneGrantCheck else s

/-- A GRANTED tenure is turned back: with a ticket it returns to WAITING in its place, without one it is removed; the lift
takes state `x`, and the ticket is told (R113, R116). -/
def State.turnBack (s : State) (l : Nat) (t : Tenure) (x : LiftState) : State :=
  let r := s.lift l
  let queue := match t.ticket with
    | none => r.queue
    | some _ => insertBy tenureBefore { t with state := .waiting } r.queue
  (s.setLift l { r with queue := queue, current := none, state := x }).tellTurnback t.ticket

/-! ### LIFT_STATUS by report (R106, R111 to R116) -/

/-- Sets a lift's parked level. -/
def State.setParked (s : State) (l level : Nat) : State := s.setLift l { s.lift l with parkedLevel := level }

/-- A passage to serviceable is handed to the allocator (R23, R116). -/
def State.passage (s : State) (l : Nat) (before : Bool) : State :=
  if !before && s.serviceable l then s.becameServiceable else s

/-- Recovery of a lift in UNKNOWN or FAULT at an IDLE report (R116). The passage comes before the grant check, as R116 orders
them, also at the first report after a retained start, where R125 names them the other way round: the model's choice (log
entry 17). -/
def State.recover (s : State) (l : Nat) : State :=
  let before := s.serviceable l
  let recovered :=
    match (s.lift l).current with
    | none => s.setLift l { s.lift l with state := .idle }
    | some t =>
      match t.state with
      | .riding => s.setLift l { s.lift l with state := .busy }
      | _ => s.turnBack l t .idle
  (recovered.passage l before).grantCheck l

/-- An IDLE report, by the lift's state (R106, R116). -/
def State.liftIdle (s : State) (l level : Nat) : State :=
  let s1 := s.setParked l level
  match (s.lift l).state with
  | .absent => s
  | .unknown => s1.recover l
  | .fault => s1.recover l
  | .idle => s1
  | .busy =>
    match (s.lift l).current with
    | none => (s1.setLift l { s1.lift l with state := .idle }).grantCheck l
    | some t => if t.state = .granted then s1.setOrder l else s1

/-- A LOADED report (R106, R112). -/
def State.liftLoaded (s : State) (l : Nat) : State :=
  match (s.lift l).state, (s.lift l).current with
  | .busy, some t =>
    if t.state = .granted then s.setLift l { s.lift l with current := some { t with state := .riding } } else s
  | _, _ => s

/-- An ARRIVED report (R106, R112). -/
def State.liftArrived (s : State) (l level : Nat) : State :=
  match (s.lift l).state, (s.lift l).current with
  | .busy, some _ => s.setParked l level
  | _, _ => s

/-- The ticket is told of an unloading: a DESCENDING one becomes TO_CURB when a lane is reserved for it, else STAGED
(R53, R112). -/
def State.tellUnloaded (s : State) (ticket : Option Nat) : State :=
  match ticket.bind s.ticket with
  | none => s
  | some t => if t.state = .descending then s.moveTicket t.number (if t.lane.isSome then .toCurb else .staged) else s

/-- An UNLOADED report ends the ride (R106, R112). -/
def State.liftUnloaded (s : State) (l : Nat) : State :=
  match (s.lift l).state, (s.lift l).current with
  | .busy, some t =>
    (((s.setLift l { s.lift l with current := none, parkedLevel := t.toLevel, state := .idle }).raise .liftDone
      l).tellUnloaded t.ticket).grantCheck l
  | _, _ => s

/-- An OBSTRUCTED report turns a GRANTED tenure back (R106, R113). -/
def State.liftObstructed (s : State) (l : Nat) : State :=
  match (s.lift l).state, (s.lift l).current with
  | .busy, some t => if t.state = .granted then (s.turnBack l t .busy).grantCheck l else s
  | _, _ => s

/-- A lift enters FAULT or ABSENT: LIFT_FAULT is raised, its order is no longer owed, and if it was serviceable the
allocator re-places the ASSIGNED tickets on it (R36, R115). -/
def State.liftLost (s : State) (l : Nat) (x : LiftState) : State :=
  let before := s.serviceable l
  let lost := ((s.setLift l { s.lift l with state := x }).clearOrder l).raise .liftFault l
  if before then lost.replaceAll (some l) else lost

/-- A FAULT report (R106, R115). -/
def State.liftFaulted (s : State) (l : Nat) : State :=
  match (s.lift l).state with
  | .fault => s
  | .absent => s
  | _ => s.liftLost l .fault

/-- A station of class LIFT became ABSENT: its lift becomes ABSENT when every station that serves it is then ABSENT
(R115). -/
def State.liftStationAbsent (s : State) (l : Nat) : State :=
  if s.links.stations.toList.all fun r => !r.servesLift l || r.presence == .absent then s.liftLost l .absent else s

/-- A station of class LIFT became PRESENT: an ABSENT lift becomes UNKNOWN (R115). -/
def State.liftStationPresent (s : State) (l : Nat) : State :=
  if (s.lift l).state = .absent then s.setLift l { s.lift l with state := .unknown } else s

/-! ### LANE_STATUS by report (R120 to R122) -/

/-- A lane is BLOCKED by a car the controller did not send (R120). -/
def State.blockLane (s : State) (lane : Nat) (hold : Bool) : State :=
  (s.setLane lane { state := .blocked, ticket := none, turnbackHold := hold, clearingBy := none }).raise .laneBlocked lane

/-- A TO_CURB ticket's car stands in its lane (R120). -/
def State.deliver (s : State) (lane : Nat) (t : Ticket) : State :=
  (((s.setLane lane { s.lane lane with state := .occupied }).moveTicket t.number .atCurb).raise .atCurb
    lane).stagingFell t.lift

/-- A lane turnback (R121). -/
def State.laneTurnback (s : State) (lane : Nat) (t : Ticket) : State :=
  (((s.setLane lane { state := .blocked, ticket := none, turnbackHold := true, clearingBy := none }).modifyTicket
    t.number fun t => { t with lane := none, turnbacks := min 255 (t.turnbacks + 1) }).raise .laneTurnback
    lane).laneGrantCheck

/-- An occupied report, by the lane's state (R120). -/
def State.laneOccupied (s : State) (lane : Nat) : State :=
  let r := s.lane lane
  match r.state with
  | .free => s.blockLane lane false
  | .reserved =>
    match r.ticket.bind s.ticket with
    | none => s
    | some t =>
      match t.state with
      | .toCurb => s.deliver lane t
      | .descending => s.laneTurnback lane t
      | _ => s
  | .occupied => s
  | .blocked => s
  | .clearing => s.blockLane lane true
  | .out => s.blockLane lane false

/-- A lane enters FREE and a lane grant check follows (R119, R120). -/
def State.freeLane (s : State) (lane : Nat) : State :=
  (s.setLane lane { state := .free, ticket := none, turnbackHold := false, clearingBy := none }).laneGrantCheck

/-- A clear report, by the lane's state (R120, R122). -/
def State.laneClear (s : State) (lane : Nat) : State :=
  let r := s.lane lane
  match r.state with
  | .occupied => s.freeLane lane
  | .blocked =>
    if r.turnbackHold then
      s.setLane lane { r with state := .clearing, turnbackHold := false,
                              clearingBy := some (Deadline.at (s.now.plusSeconds s.params.clearanceTime)) }
    else s.freeLane lane
  | .out => s.freeLane lane
  | .free => s
  | .reserved => s
  | .clearing => s

/-- A clearing deadline that has been reached is taken (R122). -/
def State.clearingReached (s : State) (lane : Nat) : State :=
  match (s.lane lane).clearingBy with
  | none => s
  | some d => if d.reached ∧ (s.lane lane).state = .clearing then s.freeLane lane else s

end Sys2Proof.Machine
end

