-- ==== Sys2Proof/Machine/Links.lean ====
section
/-! DEFINITION. Polling, presence and its hand-on (R153 to R156), and the frame switch: routing, the pass table and the
forwarded-frame queues (R157 to R160). -/

namespace Sys2Proof.Machine

open Sys2Proof

/-! ### Handing presence on (R15, R98, R115, R123, R145, R156) -/

/-- The offers to the runners of an absent base expire, in ascending badge order (R98). -/
def State.baseLost (s : State) (a : Nat) : State :=
  forEach (badges.filter fun b => (s.runner b).base == some a) (fun b s => s.expireOffer b) s

/-- The absence of station `a`, under a class and served object, is handed on (R156). -/
def State.handAbsence (s : State) (a : Nat) (cls : StationClass) (served : Option Served) : State :=
  match cls, served with
  | .sensorHub, some (.stalls first last) => s.hubAbsent first last
  | .lift, some (.lift l) => s.liftStationAbsent l
  | .laneLoop, some (.lane n) => s.laneAbsent n
  | .runnerBase, _ => s.baseLost a
  | _, _ => s

/-- The presence of station `a`, under a class and served object, is handed on (R145, R156). -/
def State.handPresence (s : State) (a : Nat) (cls : StationClass) (served : Option Served) : State :=
  match cls, served with
  | .lift, some (.lift l) => s.liftStationPresent l
  | .runnerBase, _ => s.pair
  | .display, _ => s.setStation a { s.station a with boardMark := true, vacancyMark := true }
  | _, _ => s

/-! ### A poll's effect on presence (R155) -/

/-- A good answer: the station is PRESENT with silent count 0, and a change is handed on (R155). It is handed on by the class
the station is judged by, so that a commissioning station whose record says DISPLAY is a DESK and comes to be owed no board
frame here (R145, R152): the model's choice (log entry 23). -/
def State.goodAnswer (s : State) (a : Nat) : State :=
  let r := s.station a
  let answered := s.setStation a { r with presence := .present, silent := 0 }
  if r.presence = .present then answered else answered.handPresence a (s.classOf a) r.served

/-- A miss: one more in the silent count, up to 3; at 3 a station not ABSENT becomes so (R155). -/
def State.miss (s : State) (a : Nat) : State :=
  let r := s.station a
  let silent := min 3 (r.silent + 1)
  if silent = 3 ∧ r.presence ≠ .absent then
    ((s.setStation a { r with presence := .absent, silent := silent }).raise .stationAbsent a).handAbsence a
      (s.classOf a) r.served
  else s.setStation a { r with silent := silent }

/-! ### The poll exchange (R153, R154) -/

/-- The next address at or after which a cyclic search stands: the lowest above `position`, else the lowest (R153,
R162). -/
def nextAbove (position : Nat) (candidates : List Nat) : Option Nat :=
  match candidates.find? (position < ·) with
  | some a => some a
  | none => candidates.head?

/-- The stations a port polls, ascending (R152, R153). -/
def State.polled (s : State) (p : Port) : List Nat := addresses.filter (s.onPort p)

/-- A port ready for its next poll sends it (R153); at any other moment, or with no station to poll, nothing is sent. -/
def State.sendPoll (s : State) (p : Port) : State :=
  match (s.port p).phase, nextAbove (s.port p).pollPosition (s.polled p) with
  | .ready, some a =>
    s.setPort p { s.port p with pollPosition := a, phase := .window a, line := [.poll (pollFrame a)] }
  | _, _ => s

/-- The poll exchange of a port ends: its transmit opportunity comes next (R153). -/
def State.endExchange (s : State) (p : Port) : State := s.setPort p { s.port p with phase := .opportunity }

/-- A bad answer, or none, within a port's reply window (R154, R155). -/
def State.missOn (s : State) (p : Port) : State :=
  match (s.port p).phase with
  | .window a => (s.endExchange p).miss a
  | _ => s

/-- A good frame from source `a` on port `p`: in a reply window of that station it is its good answer, and `k` is what the
frame then does; in the window of another it is a bad answer; outside any window it is discarded (R154, R155). -/
def State.answerFrom (s : State) (f : From) (k : State → State) : State :=
  match (s.port f.port).phase with
  | .window a => if a = f.source then k ((s.endExchange f.port).goodAnswer a) else s.missOn f.port
  | _ => s

/-! ### The pass table and the forwarded queues (R158 to R160) -/

/-- The other port. -/
def otherPort : Port → Port
  | .curb => .deck
  | .deck => .curb

/-- The subject of CONGESTION for a port (R160). -/
def portNumber : Port → Nat
  | .curb => 1
  | .deck => 2

/-- A rule's destination matches a frame's (R158). -/
def destinationMatches (d : PassDest) (address : Nat) : Bool :=
  match d with
  | .address a => a == address
  | .any => 1 ≤ address && address ≤ Config.stationCount
  | .broadcast => address == broadcast

/-- A rule's direction covers the way from a port to the other (R158). -/
def directionMatches (d : PassDirection) (arrival : Port) : Bool :=
  match d, arrival with
  | .either, _ => true
  | .curbToDeck, .curb => true
  | .deckToCurb, .deck => true
  | .curbToDeck, .deck => false
  | .deckToCurb, .curb => false

/-- A frame matches a rule (R158). -/
def State.ruleMatches (s : State) (p : Port) (f : Frame) (r : PassRule) : Bool :=
  r.low.toNat ≤ f.kind.toNat && f.kind.toNat ≤ r.high.toNat
    && (r.source == none || r.source == some (s.classOf f.source.toNat))
    && destinationMatches r.destination f.destination.toNat && directionMatches r.direction p

/-- The verdict on a frame: that of the first rule it matches, else DROP (R158). -/
def State.verdict (s : State) (p : Port) (f : Frame) : Verdict :=
  match s.links.passTable.toList.findSome? fun r =>
      match r with
      | none => none
      | some r => if s.ruleMatches p f r then some r.verdict else none with
  | none => .drop
  | some v => v

/-- A copy is placed in a port's forwarded-frame queue, or dropped with CONGESTION when it holds 32 (R160). -/
def State.enqueue (s : State) (p : Port) (f : Frame) : State :=
  if (s.port p).forwarded.length < Config.maxForwarded then
    s.setPort p { s.port p with forwarded := (s.port p).forwarded ++ [f] }
  else s.raise .congestion (portNumber p)

/-- A verdict copies the frame to the other port (R159). -/
def copies : Verdict → Bool
  | .forward => true
  | .snoopForward => true
  | .absorb => false
  | .drop => false

/-- A verdict has the frame read by the controller (R159). -/
def reads : Verdict → Bool
  | .forward => false
  | .snoopForward => true
  | .absorb => true
  | .drop => false

/-- A frame is read by the controller: a ZONE_OCCUPANCY goes to the stall map, any other to no block (R159). `zone` is its
payload as a report. -/
def State.readFrame (s : State) (f : Frame) (zone : Option ZoneReport) : State :=
  match zone with
  | none => s
  | some r => if f.kind = FrameKind.zoneOccupancy.value then s.takeReport f.source.toNat r else s

/-- The pass table's verdict acts on a frame (R159). -/
def State.passFrame (s : State) (p : Port) (f : Frame) (zone : Option ZoneReport) : State :=
  let v := s.verdict p f
  let copied := if copies v then s.enqueue (otherPort p) f else s
  if reads v then copied.readFrame f zone else copied

/-- A good frame addressed to a station or broadcast is routed by its destination (R157). A frame for the controller,
destination 0, is the command of its kind and not routed here (`Instr.frameKind`, log entry 27). -/
def State.route (s : State) (p : Port) (f : Frame) (zone : Option ZoneReport) : State :=
  let d := f.destination.toNat
  if d = broadcast then s.passFrame p f zone
  else if 1 ≤ d ∧ d ≤ Config.stationCount then
    (if s.onPort p d then s else if s.onPort (otherPort p) d then s.passFrame p f zone else s)
  else s

/-- A frame received by a port, judged and, when it is the good answer to its poll, routed (R147, R154, R155, R157). -/
def State.receive (s : State) (p : Port) (rx : Received) (zone : Option ZoneReport) : State :=
  match judge rx with
  | .discarded => s.missOn p
  | .unroutable f => s.answerFrom ⟨p, f.source.toNat⟩ id
  | .good f => s.answerFrom ⟨p, f.source.toNat⟩ fun s => s.route p f zone

/-- An answer that is discarded, or carries another source than the polled address, is a miss (R154, R155). One that is
neither is no bad answer and changes nothing (log entry 7). -/
def State.takeBadAnswer (s : State) (p : Port) (rx : Received) : State :=
  match judge rx with
  | .discarded => s.missOn p
  | .unroutable f => if (s.port p).phase = .window f.source.toNat then s else s.missOn p
  | .good f => if (s.port p).phase = .window f.source.toNat then s else s.missOn p

end Sys2Proof.Machine
end

