-- ==== Sys2Proof/Machine/Operands.lean ====
section
/-! DEFINITION. The fields of requests as received, judged against the sets and ranges their rules state: each reading
answers nothing exactly when the request is refused with RANGE for its fields (R43, R196). -/

namespace Sys2Proof

/-- The value of a field of a stated set, when it lies in the set. -/
def Sent.get? {α : Type} : Sent α → Option α
  | .value a => some a
  | .outside => none

end Sys2Proof

namespace Sys2Proof.Machine

open Sys2Proof

/-- A number at the nearer limit of its range (R196). -/
def clampTo (low high n : Nat) : Nat := max low (min high n)

/-! ### Service requests (R43, R44) -/

/-- The fields of an ARRIVE whose fields all lie in their sets (R44). -/
structure ArriveRequest where
  size : SizeClass
  charger : Bool
  stay : StayClass
  tier : Tier
  plate : Option (List Byte)
  deriving DecidableEq, Repr

/-- A plate tag is absent or has 1 to 8 characters (R44). -/
def plateFits : Option (List Byte) → Bool
  | none => true
  | some cs => 1 ≤ cs.length && cs.length ≤ 8

/-- ARRIVE's fields (R44). -/
def readArrive (f : ArriveFields) : Option ArriveRequest := do
  let size ← f.size.get?
  let charger ← f.charger.get?
  let stay ← f.stay.get?
  let tier ← f.tier.get?
  if plateFits f.plate then some { size, charger, stay, tier, plate := f.plate } else none

/-- A requested time that SCHEDULE admits at `now`: its tenth within a day, its day within the clock, and not later than
now by more than 24 hours (R128). -/
def readSchedule (now : SiteTime) (day tenth : Nat) : Option SiteTime :=
  if day < Config.dayCount ∧ tenth < Config.dayTenths ∧ day * Config.dayTenths + tenth ≤ now.tenths + Config.dayTenths
  then some ⟨day, tenth⟩ else none

/-! ### LOAD_STATION (R151) -/

/-- The loaded fields of a station record (R150). -/
structure StationSetup where
  segment : Segment
  cls : StationClass
  permissions : Permissions
  served : Option Served
  deriving DecidableEq, Repr

/-- The served object is what the class asks for (R151). -/
def servedFits (cls : StationClass) (served : Option Served) : Bool :=
  match cls, served with
  | .laneLoop, some (.lane n) => 1 ≤ n && n ≤ Config.laneCount
  | .lift, some (.lift n) => 1 ≤ n && n ≤ Config.liftCount
  | .sensorHub, some (.stalls first last) =>
    first ≤ last && last < Config.stallCount && last < first + Config.maxMarks
  | .laneLoop, _ => false
  | .lift, _ => false
  | .sensorHub, _ => false
  | _, served => served.isNone

/-- LOAD_STATION's fields: the address and what is stored for it (R151). -/
def readStation (f : StationFields) : Option (Nat × StationSetup) := do
  let segment ← f.segment.get?
  let cls ← f.cls.get?
  let permissions ← f.permissions.get?
  if 1 ≤ f.address && f.address ≤ Config.stationCount && servedFits cls f.served
      && (!permissions.manage || (cls == .desk && segment == .curb)) then
    some (f.address, { segment, cls, permissions, served := f.served })
  else none

/-! ### LOAD_STALL (R17) -/

/-- LOAD_STALL's static fields, its lift's served levels judged as they stand (R17). -/
def State.readStallSite (s : State) (f : StallFields) : Option StallSite := do
  let size ← f.size.get?
  let charger ← f.charger.get?
  if f.stall < Config.stallCount && f.level < 8 && f.zone < 16 && f.lift ≤ Config.liftCount
      && (if f.lift = 0 then f.level == 0 else (s.servedLevels f.lift).contains f.level) then
    some { level := f.level, zone := f.zone, walk := f.walk.toNat, size, charger, lift := f.lift }
  else none

/-! ### LOAD_PASS_RULE (R158) -/

/-- A pass rule's destination lies in its set (R158). -/
def passDestFits : PassDest → Bool
  | .address a => 1 ≤ a && a ≤ Config.stationCount
  | .any => true
  | .broadcast => true

/-- The fields of a pass rule (R158). -/
def readRule (f : RuleFields) : Option PassRule := do
  let source ← f.source.get?
  let destination ← f.destination.get?
  let direction ← f.direction.get?
  let verdict ← f.verdict.get?
  if f.low.toNat ≤ f.high.toNat && passDestFits destination then
    some { low := f.low, high := f.high, source, destination, direction, verdict }
  else none

/-- LOAD_PASS_RULE's fields: the rule number and the rule, or EMPTY (R158). -/
def readPassRule (f : PassRuleFields) : Option (Nat × Option PassRule) :=
  if f.number < Config.passRuleCount then
    match f.rule with
    | none => some (f.number, none)
    | some r => (readRule r).map fun r => (f.number, some r)
  else none

/-! ### LOAD_TIMER (R167) -/

/-- The source number of a channel's TIMER event (R183). -/
def timerSource (channel : Nat) : Nat := 22 + channel

/-- The clock source is present for an EVENT clock alone, within 0 to 29, and names no TIMER_k whose channel's clock is
EVENT, the loaded channel `c` included; and no other EVENT-clocked channel counts `c`'s own TIMER source (R167). -/
def State.clockFits (s : State) (c : Nat) (clock : TimerClock) (source : Option Nat) : Bool :=
  match clock, source with
  | .event, none => false
  | .event, some k =>
    k < Config.sourceCount
      && (List.range Config.channelCount).all fun j =>
        (k != timerSource j || (j != c && (s.channel j).clock != .event))
          && (j == c || (s.channel j).clock != .event || (s.channel j).clockSource != some (timerSource c))
  | _, source => source.isNone

/-- The master is present for WINDOW alone, another channel in INTERVAL or DELAY; and a channel that leaves these modes is
no WINDOW channel's master (R167). -/
def State.masterFits (s : State) (c : Nat) (mode : TimerMode) (master : Option Nat) : Bool :=
  let own :=
    match mode, master with
    | .window, none => false
    | .window, some m =>
      m < Config.channelCount && m != c && ((s.channel m).mode == .interval || (s.channel m).mode == .delay)
    | _, master => master.isNone
  own && (mode == .interval || mode == .delay ||
    (List.range Config.channelCount).all fun j =>
      j == c || (s.channel j).mode != .window || (s.channel j).master != some c)

/-- The capture target is NONE, or the mode is CAPTURE and the clock a time clock (R167). -/
def targetFits (mode : TimerMode) (clock : TimerClock) (target : CaptureTarget) : Bool :=
  target == .none || (mode == .capture && clock != .event)

/-- LOAD_TIMER's fields: the channel number and the stored record, its reload clamped to 1 to 65535 (R165, R167, R196). -/
def State.readTimer (s : State) (f : TimerFields) : Option (Nat × Channel) := do
  let mode ← f.mode.get?
  let clock ← f.clock.get?
  let output ← f.output.get?
  let target ← f.target.get?
  if f.channel < Config.channelCount && s.clockFits f.channel clock f.clockSource
      && s.masterFits f.channel mode f.master && targetFits mode clock target then
    some (f.channel, { Channel.cold with
      mode, clock, clockSource := f.clockSource, reload := clampTo 1 Config.countTop f.reload, master := f.master, output, target })
  else none

/-! ### LOAD_ROUTE (R190) -/

/-- The action's channel or latch lies in its range (R190). -/
def actionFits : RouteAction → Bool
  | .none => true
  | .timerStart k => k < Config.channelCount
  | .timerStop k => k < Config.channelCount
  | .latch n => n < Config.latchCount

/-! ### LOAD_PARAMS (R198) -/

/-- The kinds of parameters, with the ranges of numbers (R198). -/
inductive ParamKind where
  | number (low high : Nat)
  | levels
  | lifts
  | flag
  deriving DecidableEq, Repr

/-- The kind of parameter `k`; none outside 0 to 45 (R198). -/
def paramKind (k : Nat) : Option ParamKind :=
  match k with
  | 0 => some (.number 1 30)
  | 1 | 2 | 3 | 4 => some (.number 0 465)
  | 5 | 6 | 7 | 8 => some (.number 0 7)
  | 9 => some (.number 0 63)
  | 10 => some (.number 0 255)
  | 11 => some (.number 0 63)
  | 12 | 13 | 14 | 15 => some (.number 0 63)
  | 16 => some (.number 0 3)
  | 17 => some (.number 10 120)
  | 18 => some (.number 1 30)
  | 19 => some (.number 10 600)
  | 20 => some (.number 10 60)
  | 21 => some (.number 5 120)
  | 22 => some (.number 0 60)
  | 23 => some (.number 30 600)
  | 24 => some (.number 100 1000)
  | 25 => some (.number 1 9)
  | 26 | 27 | 28 | 29 => some .levels
  | 30 | 31 | 32 | 33 | 34 | 35 => some .lifts
  | 36 | 37 | 38 | 39 | 40 | 41 | 42 | 43 | 44 | 45 => some .flag
  | _ => none

/-- The parameter table with number parameter `k` stored (R198). -/
def Params.storeNumber (p : Params) (k n : Nat) : Params :=
  match k with
  | 0 => { p with levelTime := n }
  | 1 | 2 | 3 | 4 => { p with stayTarget := setNth p.stayTarget (k - 1) n }
  | 5 | 6 | 7 | 8 => { p with stayWeight := setNth p.stayWeight (k - 5) n }
  | 9 => { p with sizePenalty := n }
  | 10 => { p with chargerPenalty := n }
  | 11 => { p with liftLoadPenalty := n }
  | 12 => { p with reserve := p.reserve.set .compact n }
  | 13 => { p with reserve := p.reserve.set .standard n }
  | 14 => { p with reserve := p.reserve.set .large n }
  | 15 => { p with reserve := p.reserve.set .oversize n }
  | 16 => { p with parkSkip := n }
  | 17 => { p with clearanceTime := n }
  | 18 => { p with curbHold := n }
  | 19 => { p with confirmWindow := n }
  | 20 => { p with acceptWindow := n }
  | 21 => { p with releaseWindow := n }
  | 22 => { p with leadTime := n }
  | 23 => { p with agingStep := n }
  | 24 => { p with scanInterval := n }
  | 25 => { p with panelCount := n }
  | _ => p

/-- The parameter table with set parameter `k` stored (R198). -/
def Params.storeSet (p : Params) (k : Nat) (xs : List Nat) : Params :=
  match k with
  | 26 | 27 | 28 | 29 => { p with servedLevels := setNth p.servedLevels (k - 26) xs }
  | 30 | 31 | 32 | 33 | 34 | 35 => { p with preferredLifts := setNth p.preferredLifts (k - 30) xs }
  | _ => p

/-- The parameter table with flag parameter `k` stored (R198). -/
def Params.storeFlag (p : Params) (k : Nat) (b : Bool) : Params :=
  match k with
  | 36 | 37 | 38 | 39 => { p with liftConfigured := setNth p.liftConfigured (k - 36) b }
  | 40 | 41 | 42 | 43 | 44 | 45 => { p with laneConfigured := setNth p.laneConfigured (k - 40) b }
  | _ => p

/-- The members of a set in ascending order, each once. -/
def memberSet (bound : Nat) (xs : List Nat) : List Nat := (List.range bound).filter xs.contains

/-- The parameter table a LOAD_PARAMS asks to be stored, and whether a value was clamped; none for RANGE. A value of
another kind than the parameter's lies outside its set (R196, R198). -/
def Params.read (p : Params) (f : ParamFields) : Option (Params × Bool) :=
  match paramKind f.number, f.value with
  | some (.number low high), .number n => some (p.storeNumber f.number (clampTo low high n), clampTo low high n != n)
  | some .levels, .members xs => if xs.all (· < 8) then some (p.storeSet f.number (memberSet 8 xs), false) else none
  | some .lifts, .members xs =>
    if xs.all (· ≤ Config.liftCount) then some (p.storeSet f.number (memberSet 5 xs), false) else none
  | some .flag, .flag b => b.get?.map fun b => (p.storeFlag f.number b, false)
  | _, _ => none

end Sys2Proof.Machine
end

