-- ==== Sys2Proof/Machine/Intake.lean ====
section
/-! DEFINITION. How a command reaches its block: main power, the poll exchange, and the admission of service requests,
runner frames, lift and lane reports, and management requests (R43, R85, R99, R106, R120, R149, R154, R195). -/

namespace Sys2Proof.Machine

open Sys2Proof

/-! ### Power and the link -/

/-- What a command does while main power is on; without it the controller does nothing (R200, R201). -/
def State.powered (s : State) (k : State → State) : State := if s.power.main then k s else s

/-- A good frame addressed to the controller from a station: the answer to its poll, judged for presence and then taken
by its block (R149, R154, R155). -/
def State.onFrame (s : State) (f : From) (k : State → State) : State := s.powered fun s => s.answerFrom f k

/-! ### Service requests (R43) -/

/-- What a service request leaves: the state, its outcome, the ticket its reply names, and the members a group call
called (R43, R134). -/
structure RequestResult where
  state : State
  outcome : Answer
  ticket : Option Nat
  members : Option Nat

/-- A service frame is judged for its sender and its length; an admitted one is taken by `k`, and its reply is owed
(R43). `named` is the ticket number the request names. -/
def State.admitService {α : Type} (s : State) (a : Nat) (kind : ServiceKind) (r : Wire α) (named : α → Option Nat)
    (k : α → State → RequestResult) : State :=
  if s.classOf a ≠ .podium ∧ s.classOf a ≠ .desk then s
  else
    match r with
    | .tooShort => s.oweService a kind (if (s.permissionsOf a).service then .range else .permission) none
    | .fields x =>
      if (s.permissionsOf a).service then
        let served := k x s
        served.state.oweService a kind served.outcome served.ticket served.members
      else s.oweService a kind .permission (named x)

/-- A service request that names a ticket: RANGE unless it is the number of an open ticket (R49, R54, R128, R132,
R139). -/
def State.serveTicket (s : State) (n : Nat) (k : Ticket → State × Answer) : RequestResult :=
  match s.named n with
  | none => { state := s, outcome := .range, ticket := some n, members := none }
  | some t => { state := (k t).1, outcome := (k t).2, ticket := some n, members := none }

/-! ### Runner frames (R85, R94, R95, R99) -/

/-- A runner frame is taken from a station of class RUNNER_BASE with a badge 1 to 32, and otherwise ignored, with no reply.
R85 and R99 state it for RUNNER_STATUS and TASK_STEP; for TASK_ACCEPT and TASK_DECLINE, of which R94 and R95 do not, it is
the model's choice (log entry 46). -/
def State.fromBase (s : State) (a badge : Nat) (k : State → State) : State :=
  if s.classOf a = .runnerBase ∧ 1 ≤ badge ∧ badge ≤ Config.runnerCount then k s else s

/-- A runner frame taken by `k`, its outcome owed to the badge it names (R86). -/
def State.runnerFrame (s : State) (a badge : Nat) (kind : RunnerFrameKind) (ticket : Option Nat)
    (k : State → State × Answer) : State :=
  s.fromBase a badge fun s => (k s).1.oweRunner badge kind (k s).2 ticket

/-! ### Lift and lane reports (R106, R120) -/

/-- A LIFT_STATUS with its level, taken for the lift its station serves (R106). -/
def State.liftReport (s : State) (a level : Nat) (k : Nat → State → State) : State :=
  if s.classOf a = .lift ∧ level < 8 then
    match (s.station a).served with
    | some (.lift l) => k l s
    | _ => s
  else s

/-- A LANE_STATUS, taken for the lane its station serves (R120). -/
def State.laneReport (s : State) (a : Nat) (k : Nat → State → State) : State :=
  if s.classOf a = .laneLoop then
    match (s.station a).served with
    | some (.lane n) => k n s
    | _ => s
  else s

/-! ### Management requests (R195) -/

/-- A MANAGE_REQUEST is judged for its sender and its length; an admitted one is taken by `k`, and its reply is owed in the
sender's slot with the request's record and what READ_LATCH took (R193, R195). -/
def State.admitManage {α : Type} (s : State) (a : Nat) (code : ManageCode) (r : Wire α) (record : α → ManageRecord)
    (k : α → State → State × Answer × Option (Option LatchContent)) : State :=
  if s.classOf a = .desk then
    let treated := s.commissioning a
    match r with
    | .tooShort => s.oweManage a treated code (if (s.permissionsOf a).manage then .range else .permission) .tooShort
    | .fields x =>
      if (s.permissionsOf a).manage then
        let taken := k x s
        taken.1.oweManage a treated code taken.2.1 (record x) taken.2.2
      else s.oweManage a treated code .permission (record x)
  else s

/-- A MANAGE_REQUEST on the curb or deck link from a station, taken by the rule of its request (R149, R195). -/
def State.manage {α : Type} (s : State) (f : From) (code : ManageCode) (r : Wire α) (record : α → ManageRecord)
    (k : α → State → State × Answer) : State :=
  s.onFrame f fun s => s.admitManage f.source code r record fun x s => ((k x s).1, (k x s).2, none)

end Sys2Proof.Machine
end

