-- ==== Sys2Proof/Machine/LiftLane.lean ====
section
/-! DEFINITION. The lift and lane reports, the stall sensors' report, and the scan of the key cabinet (R10, R74, R77, R106,
R112, R113, R115, R116, R120). -/

namespace Sys2Proof.Machine

open Sys2Proof

/-- LIFT_STATUS reporting IDLE (R116). -/
def execLiftIdleReport (f : From) (level : Nat) (s : State) : Host.Outcome State Fault Refusal :=
  .next (s.onFrame f fun s => s.liftReport f.source level fun l s => s.liftIdle l level)

/-- LIFT_STATUS reporting LOADED (R112). -/
def execLiftLoadedReport (f : From) (level : Nat) (s : State) : Host.Outcome State Fault Refusal :=
  .next (s.onFrame f fun s => s.liftReport f.source level fun l s => s.liftLoaded l)

/-- LIFT_STATUS reporting ARRIVED (R112). -/
def execLiftArrivedReport (f : From) (level : Nat) (s : State) : Host.Outcome State Fault Refusal :=
  .next (s.onFrame f fun s => s.liftReport f.source level fun l s => s.liftArrived l level)

/-- LIFT_STATUS reporting UNLOADED (R112). -/
def execLiftUnloadedReport (f : From) (level : Nat) (s : State) : Host.Outcome State Fault Refusal :=
  .next (s.onFrame f fun s => s.liftReport f.source level fun l s => s.liftUnloaded l)

/-- LIFT_STATUS reporting OBSTRUCTED (R113). -/
def execLiftObstructedReport (f : From) (level : Nat) (s : State) : Host.Outcome State Fault Refusal :=
  .next (s.onFrame f fun s => s.liftReport f.source level fun l s => s.liftObstructed l)

/-- LIFT_STATUS reporting FAULT (R115). -/
def execLiftFaultReport (f : From) (level : Nat) (s : State) : Host.Outcome State Fault Refusal :=
  .next (s.onFrame f fun s => s.liftReport f.source level fun l s => s.liftFaulted l)

/-- LANE_STATUS reporting occupied (R120). -/
def execLaneOccupiedReport (f : From) (s : State) : Host.Outcome State Fault Refusal :=
  .next (s.onFrame f fun s => s.laneReport f.source fun n s => s.laneOccupied n)

/-- LANE_STATUS reporting clear (R120). -/
def execLaneClearReport (f : From) (s : State) : Host.Outcome State Fault Refusal :=
  .next (s.onFrame f fun s => s.laneReport f.source fun n s => s.laneClear n)

/-- ZONE_OCCUPANCY addressed to the controller (R10). -/
def execZoneOccupancy (f : From) (r : ZoneReport) (s : State) : Host.Outcome State Fault Refusal :=
  .next (s.onFrame f fun s => s.takeReport f.source r)

end Sys2Proof.Machine
end

