-- ==== Sys2Proof/Machine/Keys.lean ====
section
/-! DEFINITION. The key custody unit and the cabinet scan (R41, R42, R64 to R83). -/

namespace Sys2Proof.Machine

open Sys2Proof

/-! ### Binding and unbinding (R41, R42, R66) -/

/-- The panel is configured and not FAULTED, so that its hooks may be bound (R41, R42). -/
def State.panelBindable (s : State) (p : Nat) : Bool := s.panelConfigured p && (s.panel p).state != .faulted

/-- The hook is VACANT in a panel that may be bound (R41, R42). -/
def State.bindable (s : State) (h : Nat) : Bool := (s.hook h).custody == .vacant && s.panelBindable (panelOf h)

/-- The hook becomes EXPECTING for the ticket, and the ticket names it (R41, R66). -/
def State.bindHook (s : State) (h n : Nat) : State :=
  (s.setHook h { s.hook h with custody := .expecting, ticket := some n }).modifyTicket n
    fun t => { t with hook := some h }

/-- The lowest-numbered hook that may be bound is bound to a new ticket, if there is one (R41). -/
def State.bindLowest (s : State) (n : Nat) : State :=
  match (List.range Config.hookCount).find? s.bindable with
  | none => s
  | some h => s.bindHook h n

/-- A hook that became VACANT is bound to the oldest open ticket without a hook (R42). -/
def State.handHook (s : State) (h : Nat) : State :=
  if s.bindable h then
    match firstBy (fun (a b : Ticket) => earlier (a.arrived, a.number) (b.arrived, b.number))
        (s.tickets.filter (·.hook == none)) with
    | none => s
    | some t => s.bindHook h t.number
  else s

/-- The VACANT hooks of a panel are handed to binding in ascending number (R42, R65, R81, R83). -/
def State.handPanelHooks (s : State) (p : Nat) : State := forEach (hooksOf p) (fun h s => s.handHook h) s

/-- A closing ticket's hook is unbound: FOUND when its key is present, else VACANT (R57, R66). -/
def State.unbindHook (s : State) (h : Nat) : State :=
  let r := s.hook h
  s.setHook h { r with custody := if r.accepted = .present then .found else .vacant,
                       ticket := none, runner := none, releaseBy := none }

/-! ### Accepted presences (R67, R68, R78) -/

/-- The key alert of the hook's ticket is set or cleared (R60, R67, R68). -/
def State.setAlert (s : State) (h : Nat) (on : Bool) : State :=
  match (s.hook h).ticket with
  | none => s
  | some n => s.modifyTicket n fun t => { t with keyAlert := on }

/-- PRESENT has been accepted for a hook (R67). -/
def State.keyPresent (s : State) (h : Nat) : State :=
  let r := s.hook h
  match r.custody with
  | .vacant => (s.setHook h { r with custody := .found }).raise .keyFound h
  | .expecting => s.setHook h { r with custody := .cabinet }
  | .out => s.setHook h { r with custody := .cabinet, runner := none }
  | .missing => (s.setHook h { r with custody := .cabinet }).setAlert h false
  | .cabinet => s
  | .released => s
  | .found => s

/-- ABSENT has been accepted for a hook (R68). -/
def State.keyAbsent (s : State) (h : Nat) : State :=
  let r := s.hook h
  match r.custody with
  | .cabinet => ((s.setHook h { r with custody := .missing }).setAlert h true).raise .keyMissing h
  | .released => s.setHook h { r with custody := .out, releaseBy := none }
  | .found => (s.setHook h { r with custody := .vacant }).handHook h
  | .vacant => s
  | .expecting => s
  | .out => s
  | .missing => s

/-- The accepted presence a hook bit gives. -/
def presenceOf (bit : Bool) : Presence := if bit then .present else .absent

/-- A hook bit of a good sample: two agreeing bits change the accepted presence, and the change is acted on (R78). -/
def State.takeHookBit (s : State) (h : Nat) (bit : Bool) : State :=
  let r := s.hook h
  if r.accepted = presenceOf bit then s.setHook h { r with pending := none }
  else if r.pending = some bit then
    let accepted := s.setHook h { r with accepted := presenceOf bit, pending := none }
    if bit then accepted.keyPresent h else accepted.keyAbsent h
  else s.setHook h { r with pending := some bit }

/-! ### Key requests and the release window (R69 to R71) -/

/-- A KEY_REQUEST judged against the ticket's hook (R69, R70). -/
def State.requestKey (s : State) (t : Ticket) (badge : Nat) : State × Answer :=
  match t.hook with
  | none => (s, .keyState)
  | some h =>
    let r := s.hook h
    if (s.panel (panelOf h)).state = .faulted then (s, .keyPanel)
    else
      match r.custody with
      | .cabinet =>
        (s.setHook h { r with custody := .released, runner := some badge,
                              releaseBy := some (Deadline.at (s.now.plusSeconds s.params.releaseWindow)) }, .done)
      | .missing => ((s.setHook h { r with custody := .out, runner := some badge }).setAlert h false, .done)
      | _ => (s, .keyState)

/-- A release deadline that has been reached is taken: the hook returns to CABINET (R71). -/
def State.releaseReached (s : State) (h : Nat) : State :=
  let r := s.hook h
  match r.releaseBy with
  | none => s
  | some d =>
    if d.reached ∧ r.custody = .released then
      s.setHook h { r with custody := .cabinet, runner := none, releaseBy := none }
    else s

/-! ### Rebinding a found key (R72) -/

/-- REBIND_HOOK for an open ticket: the named hook becomes CABINET for it, its former hook VACANT and handed on (R72). -/
def State.rebind (s : State) (h : Nat) (t : Ticket) : State × Answer :=
  let settled : Bool := match t.hook with
    | none => false
    | some f => (s.hook f).custody == .cabinet || (s.hook f).custody == .released
  if (s.hook h).custody ≠ .found ∨ settled then (s, .state)
  else
    let bound := (s.setHook h { s.hook h with custody := .cabinet, ticket := some t.number }).modifyTicket t.number
      fun t => { t with hook := some h }
    match t.hook with
    | none => (bound, .done)
    | some f =>
      let r := bound.hook f
      let cleared := if r.custody = .missing then bound.modifyTicket t.number fun t => { t with keyAlert := false }
        else bound
      ((cleared.setHook f { r with custody := .vacant, ticket := none, runner := none }).handHook f, .done)

/-! ### The panel count (R65) -/

/-- The hook belongs to a ticket (R65). -/
def Hook.isBound (r : Hook) : Bool :=
  r.custody == .expecting || r.custody == .cabinet || r.custody == .released || r.custody == .out ||
    r.custody == .missing

/-- A new panel count is refused: a panel it would leave unconfigured has a bound hook (R65). -/
def State.panelCountBusy (s : State) (n : Nat) : Bool :=
  (oneTo Config.panelCount).any fun p =>
    n < p && s.panelConfigured p && (hooksOf p).any fun h => (s.hook h).isBound

/-- A panel becomes unconfigured: its hooks VACANT and unknown, its record as at a start (R65). -/
def State.unconfigurePanel (s : State) (p : Nat) : State :=
  (forEach (hooksOf p) (fun h s => s.setHook h { s.hook h with custody := .vacant, accepted := .unknown, pending := none })
    s).setPanel p Panel.cold

/-- A new panel count that passed R65's check is stored and the panels follow it (R65, R199). -/
def State.storePanelCount (s : State) (n : Nat) : State :=
  let old := s.params.panelCount
  let stored := { s with params.panelCount := n }
  forEach (oneTo Config.panelCount) (fun p s =>
    if p ≤ n ∧ old < p then (s.setPanel p Panel.cold).handPanelHooks p
    else if n < p ∧ p ≤ old then s.unconfigurePanel p
    else s) stored

/-! ### The scan (R74 to R81) -/

/-- The unlock bits of a panel, position 0 first: 1 exactly at the RELEASED hooks (R75). -/
def State.unlockBits (s : State) (p : Nat) : List Bool := (hooksOf p).map fun h => (s.hook h).custody == .released

/-- The scanner selects the next panel of the cycle, or none: its unlock bits are built now (R74, R75). -/
def State.selectNext (s : State) : State :=
  match s.keys.scan.remaining with
  | [] => { s with keys.scan.selected := none, keys.scan.unlock := [] }
  | p :: rest =>
    { s with keys.scan.selected := some p, keys.scan.unlock := s.unlockBits p, keys.scan.remaining := rest }

/-- A scan cycle begins: the scan interval and the configured panels are read (R65, R74). A cycle under way is
finished first (log entry 12). -/
def State.beginCycle (s : State) : State :=
  match s.keys.scan.selected with
  | some _ => s
  | none =>
    { s with keys.scan.interval := s.params.scanInterval
             keys.scan.remaining := (oneTo Config.panelCount).filter s.panelConfigured }.selectNext

/-- The parity of all bits read is odd (R75, R77). -/
def sampleOddParity (x : PanelExchange) : Bool := x.bits.countP id % 2 == 1

/-- The exchange ended with its end mark right after 66 clocks, with the line high at selection (R76): no sync fault. -/
def sampleInStep (x : PanelExchange) : Bool :=
  x.highAtSelection && x.endMark == some 0 && x.bits.length == Config.exchangeClocks

/-- The sample is good (R77). -/
def sampleGood (x : PanelExchange) : Bool := sampleInStep x && sampleOddParity x

/-- The panel drove its end mark within the clocks the scanner gives, and so took the unlock bits (R75, R76). -/
def exchangeEnded (x : PanelExchange) : Bool :=
  match x.endMark with
  | none => false
  | some n => n ≤ Config.furtherClocks

/-- The further clocks the scanner gives after the 66th: up to the end mark, and at most 32 (R76). -/
def furtherClocksGiven (x : PanelExchange) : Nat :=
  match x.endMark with
  | none => Config.furtherClocks
  | some n => min n Config.furtherClocks

/-- The bits the scanner puts out in an exchange, one for each clock: the unlock bits of positions 63 down to 0, a 0 in
each of the clocks 65 and 66 (R75), and a 0 in each further clock (R76). -/
def bitsOut (unlock : List Bool) (x : PanelExchange) : List Bool :=
  unlock.reverse ++ [false, false] ++ List.replicate (furtherClocksGiven x) false

/-- The unlock bits a panel takes at its end mark, position 0 first: those of the clocks 1 to 64 (R75). -/
def bitsTaken (out : List Bool) : List Bool := (out.take Config.hooksPerPanel).reverse

/-- A panel record after a good sample (R79). -/
def Panel.goodSample (r : Panel) : Panel :=
  let good := min 2 (r.good + 1)
  { r with bad := 0, good := good,
           state := if good = 2 then .ok else if r.state = .faulted then .suspect else r.state }

/-- A panel record after a discarded sample (R79). -/
def Panel.discardedSample (r : Panel) : Panel :=
  let bad := min 3 (r.bad + 1)
  { r with good := 0, bad := bad, state := if bad = 3 then .faulted else .suspect }

/-- A discarded sample of a configured panel; entering FAULTED raises PANEL_FAULT (R77, R79). -/
def State.discardSample (s : State) (p : Nat) : State :=
  let r := s.panel p
  let next := s.setPanel p r.discardedSample
  if r.discardedSample.state = .faulted ∧ r.state ≠ .faulted then next.raise .panelFault p else next

/-- The door as the door bit says (R78). -/
def doorOf (bit : Bool) : Door := if bit then .opened else .closed

/-- A good sample of a configured panel: the panel record, the door, the hook bits in ascending hook number, and at
recovery from FAULTED the binding of its VACANT hooks (R78, R79, R81). -/
def State.acceptSample (s : State) (p : Nat) (x : PanelExchange) : State :=
  let r := s.panel p
  let updated := s.setPanel p { r.goodSample with door := doorOf (x.bits.getD Config.hooksPerPanel false) }
  let taken := forEach (hooksOf p) (fun h s =>
    s.takeHookBit h (x.bits.getD (Config.hooksPerPanel - 1 - h % Config.hooksPerPanel) false)) updated
  if r.state = .faulted then taken.handPanelHooks p else taken

/-- The unlock bits of an exchange with panel `p` are put out, and the panel takes them into its latches if it drives its
end mark; without one it keeps its latches (R75, R76). -/
def State.putOut (s : State) (p : Nat) (x : PanelExchange) : State :=
  let out := bitsOut s.keys.scan.unlock x
  { s with keys.scan.out := out
           keys.latches := if exchangeEnded x then setNth1 s.keys.latches p (bitsTaken out) else s.keys.latches }

/-- The exchange with the selected panel is complete: its unlock bits have been put out and its latches follow the end
mark, a configured panel's sample is taken or discarded, and the next panel is selected (R65, R74 to R81). The next panel
is selected, and its unlock bits are built, within the same command, so that none falls between: the model's choice
(log entry 44). Whether the panel is configured is judged as the exchange completes: the sample of a panel unconfigured and
configured again within one scan cycle, its exchange still to come, is taken, which is the model's choice (log entry
54). -/
def State.completeExchange (s : State) (x : PanelExchange) : State :=
  match s.keys.scan.selected with
  | none => s
  | some p =>
    let out := s.putOut p x
    let sampled :=
      if s.panelConfigured p then (if sampleGood x then out.acceptSample p x else out.discardSample p) else out
    sampled.selectNext

end Sys2Proof.Machine
end

