-- ==== Sys2Proof/Machine/Calls.lean ====
section
/-! DEFINITION. Quotes (R135 to R138), calls and their cancelling (R50, R54, R127 to R134), overdue tickets (R58), and
the closing of a ticket (R57, R59, R131). -/

namespace Sys2Proof.Machine

open Sys2Proof

/-! ### The quote (R135 to R137) -/

/-- The rank a FETCH task of the ticket would have, made with this age and no aging steps (R136). -/
def freshFetchRank (t : Ticket) (age : SiteTime) : Nat × SiteTime × Nat :=
  (min 7 (TaskKind.fetch.base + t.tier.num), age, t.number)

/-- The QUEUED and OFFERED tasks of other tickets (R136). -/
def State.othersInQueue (s : State) (n : Nat) : List Task :=
  s.dispatch.tasks.filter fun k => k.inQueue && k.ticket != n

/-- The BACKLOG FETCH tasks of other tickets called before a time, ties to the lower number (R136). -/
def State.backlogAhead (s : State) (n : Nat) (time : SiteTime) : Nat :=
  s.dispatch.tasks.countP fun k =>
    k.place == .backlog && k.kind == .fetch && k.ticket != n &&
      match (s.ticket k.ticket).bind (·.calledAt) with
      | none => false
      | some c => earlier (c, k.ticket) (time, n)

/-- The tasks ahead of a ticket; `age` is the called time a call would give it (R136). -/
def State.tasksAhead (s : State) (t : Ticket) (age : SiteTime) : Nat :=
  let others := s.othersInQueue t.number
  let behind (rank : Nat × SiteTime × Nat) : Nat := others.countP fun k => rankBefore (s.rank k) rank
  let inQueue :=
    match s.task t.number with
    | none => behind (freshFetchRank t age)
    | some own =>
      match own.kind, own.place with
      | .fetch, .backlog => others.length
      | .fetch, .queued => behind (s.rank own)
      | .fetch, .offered _ => behind (s.rank own)
      | _, _ => behind (freshFetchRank t age)
  inQueue + s.backlogAhead t.number (t.calledAt.getD age)

/-- A number divided by another, rounded up. -/
def divUp (a b : Nat) : Nat := (a + b - 1) / b

/-- The READY runners (R137). -/
def State.readyRunners (s : State) : Nat := badges.countP fun b => (s.runner b).state == .ready

/-- The runners on duty, taken as 1 when there is none (R137). -/
def State.activeRunners (s : State) : Nat := max 1 (badges.countP fun b => (s.runner b).onDuty)

/-- The runner wait (R137). -/
def State.runnerWait (s : State) (t : Ticket) (age : SiteTime) : Nat :=
  let ahead := s.tasksAhead t age
  if ahead < s.readyRunners then 0
  else divUp (ahead - s.readyRunners + 1) s.activeRunners * s.calls.estimates.taskMean

/-- The quote stall: the bound stall, else the restage target of a RESTAGING ticket (R135). -/
def Ticket.quoteStall (t : Ticket) : Option Nat :=
  match t.stall with
  | some k => some k
  | none => if t.state = .restaging then t.target else none

/-- The static fields of the ticket's quote stall. -/
def State.quoteSite (s : State) (t : Ticket) : Option StallSite := t.quoteStall.bind fun k => (s.stall k).site

/-- The walk of the quote (R135, R137). -/
def State.quoteWalk (s : State) (t : Ticket) : Nat := ((s.quoteSite t).map (·.walk)).getD 0

/-- The lift of the quote: the quote stall's, or the ticket's lift field (R135). -/
def State.quoteLift (s : State) (t : Ticket) : Nat :=
  match s.quoteSite t with
  | some site => site.lift
  | none => t.lift.getD 0

/-- The lift part of the quote (R137). -/
def State.liftPart (s : State) (t : Ticket) : Nat :=
  let l := s.quoteLift t
  if l = 0 then 0
  else (min 16 ((s.lift l).tenures.countP (·.ticket != some t.number)) + 1) * nth1 s.calls.estimates.liftCycle l 60

/-- The seconds of the full formula, with a runner wait (R135, R137). -/
def State.fullSeconds (s : State) (t : Ticket) (wait : Nat) : Nat :=
  wait + s.calls.estimates.taskMean + s.quoteWalk t + s.liftPart t + s.calls.estimates.laneDrive

/-- Seconds as whole minutes, rounded up and clamped to 1 to 99 (R137). -/
def minutesOf (seconds : Nat) : Nat := max 1 (min 99 (divUp seconds 60))

/-- A ticket's quote in minutes; `age` is the called time a call made now would give it (R135 to R137). -/
def State.quoteAt (s : State) (t : Ticket) (age : SiteTime) : Option Nat :=
  match t.state with
  | .unplaced => none
  | .atCurb => some 1
  | .descending | .staged | .toCurb => some (minutesOf s.calls.estimates.laneDrive)
  | .fetching => some (minutesOf (s.fullSeconds t 0))
  | .parked | .scheduled | .called | .assigned | .parking | .restaging =>
    some (minutesOf (s.fullSeconds t (s.runnerWait t age)))

/-- A ticket's quote now. -/
def State.quote (s : State) (t : Ticket) : Option Nat := s.quoteAt t s.now

/-! ### Calls (R50, R133) -/

/-- A ticket put AT_CURB on lane 0 by a call (R50). -/
def State.toPodium (s : State) (n : Nat) : State :=
  (s.modifyTicket n fun t => { t with lane := some 0, calledAt := some s.now }).moveTicket n .atCurb

/-- The schedule entries but for a ticket's (R127). -/
def State.unschedule (s : State) (n : Nat) : State :=
  { s with calls.schedule := s.calls.schedule.filter (·.ticket != n) }

/-- A PARKED or SCHEDULED ticket becomes CALLED at a called time: the promise is the quote before the FETCH task is made
(R50, R138). -/
def State.callParked (s : State) (t : Ticket) (time : SiteTime) : State :=
  (((s.unschedule t.number).modifyTicket t.number fun k =>
    { k with calledAt := some time, promise := (s.unschedule t.number).quoteAt t time }).moveTicket
    t.number .called).makeTask .fetch t.number time

/-- A call of one ticket, by its state (R50); `time` is the called time of a ticket called from PARKED or SCHEDULED. -/
def State.callTicket (s : State) (t : Ticket) (time : SiteTime) : State × Answer :=
  match t.state with
  | .unplaced => ({ s with unplaced := s.unplaced.filter (· != t.number) }.toPodium t.number, .done)
  | .assigned =>
    if t.callPending then (s, .already)
    else
      let withdrawn := s.withdrawTask t.number
      let cleared := match t.stall with
        | none => withdrawn
        | some k =>
          let freed := (withdrawn.releaseStall k t.number).modifyTicket t.number fun t => { t with stall := none }
          if withdrawn.heldFor k t.number then freed.handOn k else freed
      (cleared.toPodium t.number, .done)
  | .parking | .restaging =>
    if t.callPending then (s, .already)
    else
      (s.modifyTicket t.number fun k =>
        { k with callPending := true, calledAt := some s.now, promise := s.quote t }, .done)
  | .parked => (s.callParked t time, .done)
  | .scheduled => (s.callParked t time, .done)
  | .called | .fetching | .descending | .staged | .toCurb | .atCurb => (s, .already)

/-- The members of a group in ring order (R131). -/
def State.groupRing (s : State) (g : Nat) : List (Nat × Nat) :=
  sortBy (fun a b => a.1 < b.1) (s.tickets.filterMap fun t =>
    match t.group with
    | none => none
    | some (g', place) => if g' = g then some (place, t.number) else none)

/-- The other members of a lead's group, from the place after the lead's, wrapping (R133). -/
def State.membersAfter (s : State) (g place : Nat) : List Nat :=
  let ring := s.groupRing g
  ((ring.filter (place < ·.1)) ++ (ring.filter (·.1 < place))).map (·.2)

/-- One other member's turn in a group call, with the number called so far (R133). -/
def callMember (now : SiteTime) (n : Nat) (acc : State × Nat) : State × Nat :=
  match acc.1.ticket n with
  | none => acc
  | some t =>
    if t.state = .parked ∨ t.state = .scheduled then
      ((acc.1.callTicket t (now.plus (acc.2 + 1))).1, acc.2 + 1)
    else acc

/-- A group call: the lead, then the other PARKED and SCHEDULED members in ring order; with the lead's outcome and the
number of others called (R133, R134). -/
def State.groupCall (s : State) (t : Ticket) (g place : Nat) : State × Answer × Nat :=
  let lead := s.callTicket t s.now
  let rest := forEach (s.membersAfter g place) (callMember s.now) (lead.1, 0)
  (rest.1, lead.2, rest.2)

/-! ### The call schedule (R127, R128, R130) -/

/-- One entry stands before another: the earlier release time; equal ones keep the order in which they were made
(R127). -/
def releaseBefore (a b : ScheduleEntry) : Bool := a.release.before b.release

/-- An entry is released: it is removed, its ticket called as from SCHEDULED, and SCHEDULE_RELEASE raised (R130). -/
def State.releaseEntry (s : State) (n : Nat) : State :=
  match s.ticket n with
  | none => s.unschedule n
  | some t => ((s.unschedule n).callTicket t s.now).1.raise .scheduleRelease n

/-- The first entry that the clock has reached is released, in list order (R130). -/
def State.releaseReachedEntry (s : State) : State :=
  match s.calls.schedule.find? (·.reached) with
  | none => s
  | some e => s.releaseEntry e.ticket

/-- Every entry that the clock has reached is released, in list order (R130). -/
def State.releaseAllReached (s : State) : State :=
  forEach ((s.calls.schedule.filter (·.reached)).map (·.ticket)) (fun n s => s.releaseEntry n) s

/-- The release time for a requested time: less the lead time (R128). -/
def State.releaseTime (s : State) (requested : SiteTime) : SiteTime := requested.less (600 * s.params.leadTime)

/-- An entry is made for a ticket, in the place of its old one, and released at once when its release time is not after
now (R127, R128). -/
def State.enterSchedule (s : State) (n : Nat) (requested : SiteTime) : State :=
  let release := s.releaseTime requested
  let cleared := s.unschedule n
  let entry : ScheduleEntry := { ticket := n, requested := requested, release := release, reached := false }
  let made : State := { cleared with calls.schedule := insertBy releaseBefore entry cleared.calls.schedule }
  if release.notAfter s.now then made.releaseEntry n else made

/-- SCHEDULE of an open ticket for a valid time, by the ticket's state (R128). -/
def State.scheduleTicket (s : State) (t : Ticket) (requested : SiteTime) : State × Answer :=
  match t.state with
  | .parked =>
    if s.calls.schedule.length < Config.maxSchedule then
      ((s.moveTicket t.number .scheduled).enterSchedule t.number requested, .done)
    else (s, .full)
  | .scheduled => (s.enterSchedule t.number requested, .done)
  | .assigned | .parking | .restaging => (s, if t.callPending then .already else .state)
  | .unplaced => (s, .state)
  | .called | .fetching | .descending | .staged | .toCurb | .atCurb => (s, .already)

/-! ### Cancels (R54) -/

/-- A ticket loses its called time and promise (R54). -/
def State.uncall (s : State) (n : Nat) : State :=
  s.modifyTicket n fun t => { t with calledAt := none, promise := none }

/-- A cancel, by the ticket's state (R54). -/
def State.cancelTicket (s : State) (t : Ticket) : State × Answer :=
  match t.state with
  | .scheduled => ((s.unschedule t.number).moveTicket t.number .parked, .done)
  | .called => (((s.withdrawTask t.number).moveTicket t.number .parked).uncall t.number, .done)
  | .parking | .restaging | .assigned =>
    if t.callPending then
      ((s.modifyTicket t.number fun t => { t with callPending := false }).uncall t.number, .done)
    else (s, .state)
  | .unplaced | .parked => (s, .state)
  | .fetching | .descending | .staged | .toCurb | .atCurb => (s, .tooLate)

/-! ### Groups (R131, R132) -/

/-- A ticket leaves its group; the members behind it move up one place (R131). -/
def State.leaveGroup (s : State) (t : Ticket) : State :=
  match t.group with
  | none => s
  | some (g, place) =>
    { s with tickets := s.tickets.map fun k =>
        if k.number = t.number then { k with group := none }
        else
          match k.group with
          | some (g', p) => if g' = g ∧ place < p then { k with group := some (g, p - 1) } else k
          | none => k }

/-- GROUP_LINK of an open ticket with a group number 0 to 63 (R132). -/
def State.linkGroup (s : State) (t : Ticket) (g : Nat) : State × Answer :=
  match g, t.group with
  | 0, none => (s, .state)
  | 0, some _ => (s.leaveGroup t, .done)
  | _ + 1, some _ => (s, .state)
  | g' + 1, none =>
    let held := (s.groupRing (g' + 1)).length
    if Config.maxGroup ≤ held then (s, .full)
    else (s.modifyTicket t.number fun k => { k with group := some (g' + 1, held + 1) }, .done)

/-! ### Overdue (R58) -/

/-- The overdue deadline of a ticket that has one: its at-curb time plus the curb hold as it stands (R58). -/
def State.overdueAt (s : State) (t : Ticket) : Option SiteTime :=
  if t.state = .atCurb ∧ t.overduePending then t.atCurbAt.map (·.plusSeconds (60 * s.params.curbHold)) else none

/-- The site clock stands at or after the ticket's overdue deadline (R58). -/
def State.isOverdue (s : State) (t : Ticket) : Bool :=
  match s.overdueAt t with
  | none => false
  | some d => d.notAfter s.now

/-- A ticket's overdue deadline, if it is reached, is taken (R58, R143). -/
def State.overdueReached (s : State) (n : Nat) : State :=
  match s.ticket n with
  | none => s
  | some t =>
    if s.isOverdue t then
      ((s.modifyTicket n fun t => { t with overdue := true, overduePending := false }).boardSince s).raise .curbOverdue n
    else s

/-- Every overdue deadline that is reached is taken (R58), also when one stored curb hold brings several due (R199). Several
are taken in the order of the ticket table, which is the order in which the tickets were made: the model's choice (log
entry 2). -/
def State.takeOverdue (s : State) : State := forEach (s.tickets.map (·.number)) (fun n s => s.overdueReached n) s

/-! ### Closing (R57, R59) -/

/-- Lanes that a closing ticket occupies lose it and stay as they are (R57, R118). -/
def State.vacateLanes (s : State) (n : Nat) : State :=
  forEach laneNumbers (fun lane s =>
    if (s.lane lane).ticket = some n then s.setLane lane { s.lane lane with ticket := none } else s) s

/-- A ticket's record is freed and it leaves the curb board (R57, R142). -/
def State.dropTicket (s : State) (n : Nat) : State :=
  let dropped : State := { s.leaveBoard n with tickets := s.tickets.filter (·.number != n) }
  dropped.boardSince s

/-- A ticket closes: its hook is unbound, it leaves its group and its lane record, its record is freed, and a hook so
made VACANT is bound (R42, R57, R66). -/
def State.closeTicket (s : State) (t : Ticket) : State :=
  let unbound := match t.hook with
    | none => s
    | some h => s.unbindHook h
  let freed := ((unbound.leaveGroup t).vacateLanes t.number).dropTicket t.number
  match t.hook with
  | none => freed
  | some h => freed.handHook h

/-- The stalls a force close frees, before their hand-ons: a HELD bound stall or restage target, then an OCCUPIED bound
stall (R59). They are handed on in the same order, a HELD restage target before an OCCUPIED bound stall, which R8 and R59
leave open: the model's choice (log entry 50). -/
def State.freeStalls (s : State) (t : Ticket) : State × List Nat :=
  let named := t.stall.toList ++ t.target.toList
  let held := named.filter fun k => s.heldFor k t.number
  let occupied := t.stall.toList.filter fun k => s.occupiedBy k t.number
  (forEach occupied (fun k s => s.freeOccupied k true) (forEach held (fun k s => s.releaseStall k t.number) s),
    held ++ occupied)

/-- The ticket counts for the staging count of its lift (R108). -/
def Ticket.staging (t : Ticket) : Bool := t.state == .descending || t.state == .staged || t.state == .toCurb

/-- FORCE_CLOSE of an open ticket: everything it holds is undone in the order of R59, it closes, and what that freed is
handed on once its record is freed (R59, R114, R123). The lane grant check comes before the lift grant check of a fallen
staging count: the model's choice of an order (log entry 39). -/
def State.forceCloseTicket (s : State) (t : Ticket) : State :=
  let listed : State := { s with unplaced := s.unplaced.filter (· != t.number) }
  let loose := ((listed.withdrawTask t.number).unschedule t.number).letGo t.number
  let freed := loose.freeStalls t
  let closed := (freed.1.cancelLane t.number).closeTicket t
  let handed := (forEach freed.2 (fun k s => s.handOn k) closed).laneGrantCheck
  if t.staging then handed.stagingFell t.lift else handed

end Sys2Proof.Machine
end

