-- ==== Sys2Proof/Machine/Flags.lean ====
section
/-! DEFINITION. Event sources and their subjects, occur flags, notice masks, the alert line, and the output lines
(chapters 9 and 10). -/

namespace Sys2Proof.Machine

open Sys2Proof

/-- The number of a source (R183). -/
def Source.num : Source → Nat
  | .arrival => 0 | .unplaced => 1 | .reserveLow => 2 | .phantomCar => 3 | .stallMismatch => 4
  | .keyMissing => 5 | .keyFound => 6 | .panelFault => 7 | .taskStart => 8 | .taskEnd => 9
  | .runnerSilent => 10 | .liftGrant => 11 | .liftDone => 12 | .liftFault => 13 | .laneTurnback => 14
  | .laneBlocked => 15 | .atCurb => 16 | .curbOverdue => 17 | .stationAbsent => 18 | .congestion => 19
  | .tableFull => 20 | .scheduleRelease => 21
  | .timer c => 22 + c

/-- A source is one of TIMER_0 to TIMER_7 (R175, R183). -/
def Source.isTimer : Source → Bool
  | .timer _ => true
  | _ => false

/-- The lowest and highest subject of a source, by its number (R183). -/
def subjectRange (source : Nat) : Nat × Nat :=
  match source with
  | 0 | 1 | 17 | 21 => (1, 9999)
  | 2 => (0, 3)
  | 3 | 4 => (0, 639)
  | 5 | 6 => (0, 575)
  | 7 => (1, 9)
  | 8 | 9 | 10 => (1, 32)
  | 11 | 12 | 13 => (1, 4)
  | 14 | 15 | 16 => (1, 6)
  | 18 | 20 => (1, 60)
  | 19 => (1, 2)
  | _ => (0, 7)

/-- The occur flag of a source number (R185). -/
def State.flag (s : State) (k : Nat) : Bool := nth s.events.flags k false

/-- The notice mask of a source number; `true` is OPEN (R186). -/
def State.maskOpen (s : State) (k : Nat) : Bool := nth s.events.masks k false

/-- The alert line: asserted exactly when a set flag has an OPEN mask (R187). -/
def State.alert (s : State) : Bool :=
  (List.range Config.sourceCount).any fun k => s.flag k && s.maskOpen k

/-- A NOTICE becomes owed to every station whose record carries the NOTICE permission (R188). -/
def State.oweNotices (s : State) : State :=
  s.mapStations fun r => if r.permissions.notice then { r with noticeMark := true } else r

/-- An event sets the flag of its source; from clear, with the mask OPEN, it owes notices (R185, R188). -/
def State.setFlag (s : State) (k : Nat) : State :=
  if s.flag k then s
  else
    let set := { s with events.flags := setNth s.events.flags k true }
    if s.maskOpen k then set.oweNotices else set

/-- A LATCH action hits a latch: an EMPTY one takes the event, a FULL one sets its overrun mark (R192). -/
def State.hitLatch (s : State) (number : Nat) (e : Event) : State :=
  let content : LatchContent :=
    match nth s.events.latches number none with
    | none => { time := s.now, source := e.source, subject := e.subject, overrun := false }
    | some c => { c with overrun := true }
  { s with events.latches := setNth s.events.latches number (some content) }

/-- The FULL and overrun marks of the four latches (R188, R189). -/
def State.latchMarks (s : State) : List (Bool × Bool) :=
  s.events.latches.toList.map fun l =>
    match l with
    | none => (false, false)
    | some c => (true, c.overrun)

/-- The level of an output line: asserted while a channel on it has its drive ASSERTED (R176). -/
def State.outLevel (s : State) (line : OutputLine) : Bool :=
  line != .none && s.timers.toList.any fun c => c.output == line && c.drive

/-- The levels of OUT1 to OUT4 (R176, R177). -/
def State.outLevels (s : State) : List Bool :=
  [s.outLevel .out1, s.outLevel .out2, s.outLevel .out3, s.outLevel .out4]

end Sys2Proof.Machine
end

