-- ==== Sys2Proof/Machine/Replies.lean ====
section
/-! DEFINITION. The frames the controller builds: service replies, management replies, runner frames, lift orders,
notices and board updates, each from the owning block's state at its sending (chapters 1 to 11). -/

namespace Sys2Proof.Machine

open Sys2Proof

/-! ### Service replies (R43, R45, R49, R129, R132, R134, R138, R139) -/

/-- A service reply with the fields the slot keeps, the others absent (R43). The number of members called by a group CALL is
among the kept ones (R134), so that it is carried also when the lead has closed: the model's choice (log entry 51). -/
def slotReply (slot : ServiceSlot) : ServiceReplyFrame :=
  { kind := slot.kind, outcome := slot.outcome, overrun := slot.overrun, ticket := slot.ticket, state := none,
    stall := none, level := none, hook := none, lane := none, quote := none, promise := none, release := none,
    group := none, members := slot.members }

/-- The level of a stall, when it has been loaded. -/
def State.levelOf (s : State) (k : Nat) : Option Nat := (s.stall k).site.map (·.level)

/-- The call schedule's entry of a ticket (R127). -/
def State.entryOf (s : State) (n : Nat) : Option ScheduleEntry := s.calls.schedule.find? (·.ticket == n)

/-- The fields an open ticket adds to a service reply, by its kind and outcome (R45, R49, R129, R132, R138, R139). The quote
of an ARRIVE is that of an ASSIGNED ticket, whatever the ticket's state when the reply is built (R45, R138). A SCHEDULE
taken with DONE whose ticket a cancel has returned to PARKED carries neither release time nor quote: the model's choice
(log entry 41). So is that the release time stands in the reply DONE alone, and in none that refuses (log entry 47). -/
def State.replyFields (s : State) (r : ServiceReplyFrame) (t : Ticket) : ServiceReplyFrame :=
  match r.kind, r.outcome with
  | .arrive, .done =>
    { r with
      stall := t.stall, level := t.stall.bind s.levelOf, hook := t.hook, quote := s.quote { t with state := .assigned } }
  | .arrive, .placedLater => { r with hook := t.hook }
  | .call, .done => if t.lane = some 0 then { r with lane := some 0, quote := some 1 } else { r with quote := t.promise }
  | .call, .already => { r with quote := s.quote t }
  | .schedule, .done =>
    if t.state = .scheduled then { r with release := (s.entryOf t.number).map (·.release), quote := s.quote t }
    else { r with promise := t.promise }
  | .schedule, .already => { r with quote := s.quote t }
  | .groupLink, _ => { r with group := t.group }
  | .quoteAsk, .done => { r with state := some t.state, quote := s.quote t, promise := t.promise }
  | _, _ => r

/-- The SERVICE_REPLY of a slot as it is built now (R43). The slot keeps the ticket's number alone, so that a number closed
and issued again meanwhile names the new ticket: the model's choice (log entry 52). -/
def State.buildService (s : State) (slot : ServiceSlot) : ServiceReplyFrame :=
  match slot.ticket.bind s.ticket with
  | none => slotReply slot
  | some t => s.replyFields (slotReply slot) t

/-! ### Management replies (R19, R61, R73, R103, R140, R177, R189, R193, R195, R197) -/

/-- Part 0 of an open ticket (R197). -/
def ticketPart0 (t : Ticket) : ManageContent :=
  .ticketPart0 t.number t.state t.stall t.target t.hook t.group t.runner t.lift t.lane t.turnbacks t.promise
    t.restageWanted t.callPending t.backlog t.verify t.keyAlert t.overdue t.overduePending

/-- Part 1 of an open ticket, with the fields of R38 that part 0 leaves out (R61, R127, R197). -/
def State.ticketPart1 (s : State) (t : Ticket) : ManageContent :=
  let entry := if t.state = .scheduled then s.entryOf t.number else none
  .ticketPart1 t.number t.state t.plate t.arrived t.parkedAt t.calledAt t.atCurbAt t.laneRequest
    (entry.map (·.requested)) (entry.map (·.release)) t.size t.charger t.stay t.tier

/-- The content of a READ_TICKET reply (R61, R197). The slot keeps the ticket's number alone, so that a number closed and
issued again before the reply is built shows the new ticket's record: the model's choice (log entry 52). -/
def State.ticketContent (s : State) (n part : Nat) : ManageContent :=
  match s.ticket n with
  | none => .ticketClosed n
  | some t => if part = 0 then ticketPart0 t else s.ticketPart1 t

/-- The runners in a state (R103). -/
def State.runnersIn (s : State) (x : RunnerState) : Nat := s.dispatch.runners.toList.countP (·.state == x)

/-- The stations in a presence (R155). -/
def State.stationsIn (s : State) (x : StationPresence) : Nat := s.links.stations.toList.countP (·.presence == x)

/-- Section 0 of READ_COUNTS (R197). -/
def State.countsView (s : State) : CountsView :=
  { free := s.stalls.free, tickets := s.tickets.length, unplaced := s.unplaced.length,
    schedule := s.calls.schedule.length
    queued := s.dispatch.tasks.countP (·.place == .queued), backlog := s.dispatch.tasks.countP (·.place == .backlog)
    runnersReady := s.runnersIn .ready, runnersOffered := s.runnersIn .offered, runnersTasked := s.runnersIn .tasked
    stationsUnknown := s.stationsIn .unknown, stationsPresent := s.stationsIn .present
    stationsAbsent := s.stationsIn .absent
    curbQueue := s.links.curb.forwarded.length, deckQueue := s.links.deck.forwarded.length }

/-- A lift as READ_COUNTS gives it (R124). -/
def State.liftView (s : State) (l : Nat) : LiftView :=
  let r := s.lift l
  { state := r.state, parkedLevel := r.parkedLevel, staging := s.stagingCount l
    waiting := r.queue.countP (·.state == .waiting), current := r.current.map fun t => (t.state, t.ticket) }

/-- A channel as READ_COUNTS gives it (R177). -/
def channelView (c : Channel) : ChannelView :=
  { mode := c.mode, state := c.state, counter := c.counter, drive := c.drive, captured := c.captured }

/-- A section of READ_COUNTS (R197). -/
def State.countsContent (s : State) (section_ : Nat) : ManageContent :=
  match section_ with
  | 0 => .counts s.countsView
  | 1 => .lifts (liftNumbers.map s.liftView)
  | 2 => .lanes (laneNumbers.map fun n => ((s.lane n).state, (s.lane n).ticket)) s.outLevels
  | 3 => .channels ((s.timers.toList.take 4).map channelView)
  | 4 => .channels ((s.timers.toList.drop 4).map channelView)
  | _ => .nothing

/-- The content of a READ_RUNNER reply (R103). -/
def State.runnerContent (s : State) (b : Nat) : ManageContent :=
  let r := s.runner b
  .runner b r.state r.level r.readySince r.base (r.offerBy.map (·.time)) (r.task.bind fun t => s.task t.1)

/-- The numbers a management request named, in the order of its record (R195, R196). The manual does not say which numbers
of a record the request names: the model carries those that say what the request is about, the number of the record or
object it loads, sets, starts or reads first, and the day and tenth of SET_CLOCK, the part of READ_TICKET and the ticket or
target that REBIND_HOOK and RESTAGE name beside it; no field of a loaded record (a route's source, a timer's clock source or
master, a stall's level, a station's served object, a parameter's value) is carried back: the model's choice (log entry
55). -/
def ManageRecord.numbers : ManageRecord → List Nat
  | .empty => []
  | .tooShort => []
  | .station x => [x.address]
  | .stall x => [x.stall]
  | .param x => [x.number]
  | .passRule x => [x.number]
  | .route x => [x.number]
  | .timer x => [x.channel]
  | .masks _ => []
  | .marks _ => []
  | .stallService x => [x.stall]
  | .clock x => [x.day, x.tenth]
  | .ticketPart x => [x.ticket, x.part]
  | .number n => [n]
  | .rebind x => [x.hook, x.ticket]
  | .restage x => [x.ticket, x.target]

/-- What a management reply carries besides its outcome, read as it is built (R195). -/
def State.manageContent (s : State) (slot : ManageSlot) : ManageContent :=
  match slot.outcome, slot.code, slot.record with
  | .done, .readTicket, .ticketPart x => s.ticketContent x.ticket x.part
  | .done, .readStall, .number k => .stall k (s.stall k)
  | .done, .readHook, .number h => .hook h (s.hook h) (s.panelConfigured (panelOf h)) (s.panel (panelOf h))
  | .done, .readRunner, .number b => s.runnerContent b
  | .done, .readCounts, .number k => s.countsContent k
  | .done, .readFlags, _ => .flags s.now s.events.flags s.events.masks s.alert s.latchMarks
  | .done, .readLatch, .number n => .latch n (slot.latch.getD none)
  | .done, .readEstimates, _ => .estimates s.calls.estimates
  | _, _, _ => .nothing

/-- The MANAGE_REPLY of a slot as it is built now (R195). -/
def State.buildManage (s : State) (a : Nat) (slot : ManageSlot) : OwnFrame :=
  .manageReply a slot.code slot.outcome slot.overrun slot.record.numbers (s.manageContent slot)

/-! ### Runner frames (R86, R87) -/

/-- A TASK_OFFER for the task a runner holds, from its ticket and the stall map (R87). For a RESTAGE whose car has left its
stall no stall is bound, and level and zone are absent: the model's choice (log entry 40). -/
def State.buildOffer (s : State) (base badge : Nat) (kind : TaskKind) (t : Ticket) : OwnFrame :=
  let site := t.stall.bind fun k => (s.stall k).site
  .taskOffer base badge t.number kind t.stall (if kind = .restage then t.target else none) (site.map (·.level))
    (site.map (·.zone)) t.hook (some t.size) t.plate t.verify t.keyAlert

/-- The owed task frame of a runner; an offer of a task the runner no longer holds is sent as its withdrawal (R87). -/
def State.buildTask (s : State) (base badge : Nat) (owed : OwedTask) : OwnFrame :=
  match owed with
  | .withdraw n => .taskWithdraw base badge n
  | .offer n =>
    match (s.runner badge).task, s.ticket n with
    | some (m, kind), some t => if m = n then s.buildOffer base badge kind t else .taskWithdraw base badge n
    | _, _ => .taskWithdraw base badge n

/-- A RUNNER_REPLY; that to a KEY_REQUEST carries the ticket's hook (R86). -/
def State.buildRunnerReply (s : State) (base badge : Nat) (r : RunnerReply) : OwnFrame :=
  .runnerReply base badge r (if r.kind = .keyRequest then (r.ticket.bind s.ticket).bind (·.hook) else none)

/-! ### Lift orders, notices and boards (R111, R143, R144, R188) -/

/-- The LIFT_ORDER of a lift with a GRANTED tenure; none otherwise (R111). -/
def State.buildOrder (s : State) (a l : Nat) : Option OwnFrame :=
  match (s.lift l).current with
  | none => none
  | some t =>
    if t.state = .granted then some (.liftOrder a l t.direction t.fromLevel t.toLevel t.ticket t.runner) else none

/-- A NOTICE (R188). -/
def State.buildNotice (s : State) (a : Nat) : OwnFrame := .notice a s.now s.events.flags s.latchMarks

end Sys2Proof.Machine
end

