-- ==== Sys2Proof/Machine/Sending.lean ====
section
/-! DEFINITION. A port's transmit opportunity: the arbitration among own frames, and the forwarded frame (R153, R161 to
R163). -/

namespace Sys2Proof.Machine

open Sys2Proof

/-- The classes of own frames in the order of the table of R161. -/
def ownClasses : List OwnClass :=
  [.serviceReplies, .manageReplies, .runnerFrames, .liftOrders, .notices, .boards]

/-- The classes in the order they are tried: from the one after the class position, wrapping, to it (R162). -/
def classesAfter (position : OwnClass) : List OwnClass :=
  match position with
  | .serviceReplies => [.manageReplies, .runnerFrames, .liftOrders, .notices, .boards, .serviceReplies]
  | .manageReplies => [.runnerFrames, .liftOrders, .notices, .boards, .serviceReplies, .manageReplies]
  | .runnerFrames => [.liftOrders, .notices, .boards, .serviceReplies, .manageReplies, .runnerFrames]
  | .liftOrders => [.notices, .boards, .serviceReplies, .manageReplies, .runnerFrames, .liftOrders]
  | .notices => [.boards, .serviceReplies, .manageReplies, .runnerFrames, .liftOrders, .notices]
  | .boards => ownClasses

/-- The last address served in a class (R162). -/
def DestPositions.get (d : DestPositions) : OwnClass → Nat
  | .serviceReplies => d.serviceReplies
  | .manageReplies => d.manageReplies
  | .runnerFrames => d.runnerFrames
  | .liftOrders => d.liftOrders
  | .notices => d.notices
  | .boards => d.boards

/-- The destination positions with a class's replaced. -/
def DestPositions.set (d : DestPositions) (c : OwnClass) (a : Nat) : DestPositions :=
  match c with
  | .serviceReplies => { d with serviceReplies := a }
  | .manageReplies => { d with manageReplies := a }
  | .runnerFrames => { d with runnerFrames := a }
  | .liftOrders => { d with liftOrders := a }
  | .notices => { d with notices := a }
  | .boards => { d with boards := a }

/-- A station may be sent an own frame by a port: on its segment, and not ABSENT (R161). -/
def State.reaches (s : State) (p : Port) (a : Nat) : Bool := s.onPort p a && (s.station a).presence != .absent

/-- A station may be sent a reply by a port: as any own frame, or on the curb port when its segment is NONE and the
commissioning station owed the reply (R163). -/
def State.reachesReply (s : State) (p : Port) (a : Nat) (commissioning : Bool) : Bool :=
  (s.onPort p a || (p == .curb && s.segmentOf a == .none && commissioning)) && (s.station a).presence != .absent

/-- The runner is sent frames through base `a` and is owed one (R86, R87, R161). -/
def State.owedVia (s : State) (a b : Nat) : Bool :=
  (s.runner b).base == some a && ((s.runner b).owed.isSome || (s.runner b).reply.isSome)

/-- A class has a servable marker for station `a` on a port (R161, R163). A board or order marker left on a station that is
no longer judged a DISPLAY or a LIFT stays set and is not served: the model's choice (log entry 42). -/
def State.servable (s : State) (p : Port) (c : OwnClass) (a : Nat) : Bool :=
  let r := s.station a
  match c with
  | .serviceReplies =>
    match r.serviceReply with
    | none => false
    | some slot => s.reachesReply p a slot.commissioning
  | .manageReplies =>
    match r.manageReply with
    | none => false
    | some slot => s.reachesReply p a slot.commissioning
  | .runnerFrames => s.reaches p a && badges.any (s.owedVia a)
  | .liftOrders => s.reaches p a && s.classOf a == .lift && r.orderMark
  | .notices => s.reaches p a && r.noticeMark
  | .boards => s.reaches p a && s.classOf a == .display && (r.boardMark || r.vacancyMark)

/-- The address a class would serve on a port (R162). -/
def State.candidate (s : State) (p : Port) (c : OwnClass) : Option Nat :=
  nextAbove ((s.port p).destPositions.get c) (addresses.filter (s.servable p c))

/-- The class and address a port serves next (R162). -/
def State.nextOwn (s : State) (p : Port) : Option (OwnClass × Nat) :=
  (classesAfter (s.port p).classPosition).findSome? fun c => (s.candidate p c).map fun a => (c, a)

/-- The frame of a runner through base `a`, the owed task frame before the reply, its marker cleared (R162). -/
def State.takeRunner (s : State) (a b : Nat) : State × Option OwnFrame :=
  let r := s.runner b
  match r.owed, r.reply with
  | some owed, _ => (s.setRunner b { r with owed := none }, some (s.buildTask a b owed))
  | none, some reply => (s.setRunner b { r with reply := none }, some (s.buildRunnerReply a b reply))
  | none, none => (s, none)

/-- The lift a station serves (R150). -/
def Station.servedLift (r : Station) : Option Nat :=
  match r.served with
  | some (.lift l) => some l
  | _ => none

/-- The order of station `a`: with a GRANTED tenure its frame, and the station's marker is cleared; without one no frame,
and the lift's marker is cleared with those of all its stations (R111, R161). -/
def State.takeOrder (s : State) (a : Nat) : State × Option OwnFrame :=
  let cleared := s.setStation a { s.station a with orderMark := false }
  match (s.station a).servedLift with
  | none => (cleared, none)
  | some l =>
    match s.buildOrder a l with
    | none => (cleared.clearOrder l, none)
    | some frame => (cleared.settleOrder l, some frame)

/-- The frame of a class for station `a`, built now, with its marker cleared; no frame when the owning rule gives none
(R161, R162). -/
def State.takeOwn (s : State) (c : OwnClass) (a : Nat) : State × Option OwnFrame :=
  let r := s.station a
  match c with
  | .serviceReplies =>
    (s.setStation a { r with serviceReply := none }, r.serviceReply.map fun slot => .serviceReply a (s.buildService slot))
  | .manageReplies =>
    (s.setStation a { r with manageReply := none }, r.manageReply.map (s.buildManage a))
  | .runnerFrames =>
    match badges.find? (s.owedVia a) with
    | none => (s, none)
    | some b => s.takeRunner a b
  | .liftOrders => s.takeOrder a
  | .notices => (s.setStation a { r with noticeMark := false }, some (s.buildNotice a))
  | .boards =>
    if r.boardMark then (s.setStation a { r with boardMark := false }, some (.curbBoard a s.boardContent))
    else (s.setStation a { r with vacancyMark := false }, some (.vacancy a s.stalls.free))

/-- The positions of a port move to the class and address served (R162). -/
def State.servedAt (s : State) (p : Port) (c : OwnClass) (a : Nat) : State :=
  s.setPort p { s.port p with classPosition := c, destPositions := (s.port p).destPositions.set c a }

/-- At most one own frame of a port; a candidate whose rule gives no frame is passed over (R161, R162). Only lift orders are
passed over, at most one for each station, so `fuel` of one more than the stations is enough. -/
def State.sendOwn (fuel : Nat) (p : Port) (s : State) : State × Option OwnFrame :=
  match fuel with
  | 0 => (s, none)
  | fuel + 1 =>
    match s.nextOwn p with
    | none => (s, none)
    | some (c, a) =>
      match s.takeOwn c a with
      | (next, some frame) => (next.servedAt p c a, some frame)
      | (next, none) => sendOwn fuel p next

/-- The front frame of a port's forwarded-frame queue, removed (R160, R162). -/
def State.takeForwarded (s : State) (p : Port) : State × Option Frame :=
  match (s.port p).forwarded with
  | [] => (s, none)
  | f :: rest => (s.setPort p { s.port p with forwarded := rest }, some f)

/-- The port may take a transmit opportunity now: after a poll exchange, or with no station to poll (R153). -/
def State.mayTransmit (s : State) (p : Port) : Bool :=
  match (s.port p).phase with
  | .opportunity => true
  | .ready => (s.polled p).isEmpty
  | .window _ => false

/-- A transmit opportunity: at most one own frame, then at most one forwarded frame; the port is then ready for its next
poll (R162). -/
def State.transmit (s : State) (p : Port) : State :=
  if s.mayTransmit p then
    let own := s.sendOwn (Config.stationCount + 1) p
    let forwarded := own.1.takeForwarded p
    forwarded.1.setPort p { forwarded.1.port p with
      phase := .ready, line := own.2.toList.map OwnFrame.onLine ++ forwarded.2.toList.map .forwarded }
  else s

end Sys2Proof.Machine
end

