-- ==== Sys2Proof/Machine/LinkSteps.lean ====
section
/-! DEFINITION. The steps of the links themselves: polls and their answers, frames that cross the switch, and the transmit
opportunities (R147, R149, R153 to R162). -/

namespace Sys2Proof.Machine

open Sys2Proof

/-- A frame for the controller that no block takes as one of its frames: absorbed and ignored, or, from a runner, refused
with RANGE (R85, R99, R106, R120, R149). A payload that does not hold its fields is ignored: the model's choice (log entry
34). -/
def State.takeUnhandled (s : State) (a : Nat) (u : Unhandled) : State :=
  match u with
  | .kind _ => s
  | .statusRequest badge _ => s.runnerFrame a badge .runnerStatus none fun s => (s, .range)
  | .stepKind badge ticket => s.runnerFrame a badge .taskStep (some ticket) fun s => (s, .range)
  | .liftReport => s
  | .laneReport => s
  | .badPayload _ => s

/-- A frame addressed to the controller of a kind with no block, or of a code outside its kind's set (R149). -/
def execUnhandledKind (f : From) (u : Unhandled) (s : State) : Host.Outcome State Fault Refusal :=
  .next (s.onFrame f fun s => s.takeUnhandled f.source u)

/-- A good frame addressed to a station or broadcast, the answer to its poll, is routed (R157). A frame for the controller
is the command of its kind, and as a ROUTE_FRAME it changes nothing (log entries 7 and 27). -/
def execRouteFrame (p : Port) (fr : Frame) (zone : Option ZoneReport) (s : State) : Host.Outcome State Fault Refusal :=
  .next (if fr.destination = 0 then s else s.powered fun s => s.receive p (.bytes (frameBytes fr)) zone)

/-- A port sends its next POLL (R153). -/
def execPoll (p : Port) (s : State) : Host.Outcome State Fault Refusal := .next (s.powered fun s => s.sendPoll p)

/-- A good answer of kind IDLE: presence alone (R154, R155). -/
def execIdle (f : From) (s : State) : Host.Outcome State Fault Refusal := .next (s.onFrame f id)

/-- An answer that is discarded or carries another source (R154, R155). -/
def execBadAnswer (p : Port) (rx : Received) (s : State) : Host.Outcome State Fault Refusal :=
  .next (s.powered fun s => s.takeBadAnswer p rx)

/-- The reply window passes with no start bit (R153 to R155). -/
def execPollTimeout (p : Port) (s : State) : Host.Outcome State Fault Refusal := .next (s.powered fun s => s.missOn p)

/-- A frame received outside any reply window, or begun after another frame in the same window, is discarded and counts
for no station (R154). -/
def execStrayFrame (_p : Port) (_rx : Received) (s : State) : Host.Outcome State Fault Refusal := .next s

/-- A port's transmit opportunity (R162). -/
def execTransmitOpportunity (p : Port) (s : State) : Host.Outcome State Fault Refusal :=
  .next (s.powered fun s => s.transmit p)

/-- A frame for destination 61 or 62: the answer to its poll, then dropped (R147, R154). -/
def execDestination61Or62 (f : From) (destination : Nat) (s : State) : Host.Outcome State Fault Refusal :=
  .next (if destination = 61 ∨ destination = 62 then s.onFrame f id else s)

end Sys2Proof.Machine
end

