-- ==== Sys2Proof/Machine/Timers.lean ====
section
/-! DEFINITION. The timer array (chapter 9), the feeding of the estimates (R141), and the taking of one event by the
event unit (R184, R191). -/

namespace Sys2Proof.Machine

open Sys2Proof

/-! ### The estimates (R140, R141) -/

/-- The sample in seconds of a capture, by the channel's clock (R141). -/
def sampleOf (clock : TimerClock) (captured : Nat) : Nat :=
  match clock with
  | .tenth => (captured + 5) / 10
  | .second => captured
  | .tenSeconds => captured * 10
  | .event => captured

/-- The estimate after a sample: one eighth of the difference, truncated toward zero, clamped to 1 to 900 (R141). -/
def fedEstimate (old sample : Nat) : Nat :=
  let moved := if old ≤ sample then old + (sample - old) / 8 else old - (old - sample) / 8
  max 1 (min 900 moved)

/-- Feeds a sample to the estimate a capture target names (R140, R178). -/
def Estimates.feed (e : Estimates) (target : CaptureTarget) (sample : Nat) : Estimates :=
  let lift (l : Nat) : Estimates :=
    { e with liftCycle := setNth1 e.liftCycle l (fedEstimate (nth1 e.liftCycle l 60) sample) }
  match target with
  | .none => e
  | .liftCycle1 => lift 1
  | .liftCycle2 => lift 2
  | .liftCycle3 => lift 3
  | .liftCycle4 => lift 4
  | .taskMean => { e with taskMean := fedEstimate e.taskMean sample }
  | .laneDrive => { e with laneDrive := fedEstimate e.laneDrive sample }

/-- A capture handed to the quote unit: the saturation value is not fed, nor a capture of an EVENT clock (R141). -/
def State.feedCapture (s : State) (c : Channel) (captured : Nat) : State :=
  if captured = Config.countTop ∨ c.clock = .event then s
  else { s with calls.estimates := s.calls.estimates.feed c.target (sampleOf c.clock captured) }

/-! ### Channels (R165 to R176) -/

/-- The channel begins counting at a count (R170 to R173): a fresh period and no step due. -/
def Channel.begin (c : Channel) (count : Nat) : Channel :=
  { c with state := .counting, counter := count, elapsed := 0, due := false }

/-- The channel returns to ARMED with counter 0 (R171 to R173). -/
def Channel.rearm (c : Channel) : Channel :=
  { c with state := .armed, counter := 0, elapsed := 0, due := false }

/-- The channel becomes STOPPED: counter 0, drive NEGATED, pulse end removed (R169). -/
def Channel.stop (c : Channel) : Channel :=
  { c with state := .stopped, counter := 0, drive := false, pulseEnd := none, elapsed := 0, due := false }

/-- A WINDOW channel takes an expiry of its master (R172). -/
def Channel.masterExpiry (c : Channel) : Channel :=
  match c.state with
  | .stopped => c
  | .armed => { c.begin c.reload with drive := true }
  | .counting => c.begin c.reload

/-- An expiry of channel `k` handed on: the WINDOW channels that name it as master, ascending, when it is in INTERVAL or
DELAY; then the TIMER event (R174). -/
def State.handExpiry (s : State) (k : Nat) : State :=
  let mode := (s.channel k).mode
  let led :=
    if mode = .interval ∨ mode = .delay then
      forEach (List.range Config.channelCount) (fun j s =>
        if (s.channel j).mode = .window ∧ (s.channel j).master = some k then
          s.setChannel j (s.channel j).masterExpiry
        else s) s
    else s
  led.raise (.timer k) k

/-- Channel `k` expires: the step that brings its counter to 0 is taken, by its mode (R170, R171, R172). -/
def State.expire (s : State) (k : Nat) : State :=
  let c := s.channel k
  match c.mode with
  | .interval => (s.setChannel k { c.begin c.reload with drive := !c.drive }).handExpiry k
  | .delay =>
    (s.setChannel k { c.rearm with drive := true, pulseEnd := some (Deadline.at (s.now.plus 1)) }).handExpiry k
  | .window => (s.setChannel k { c.rearm with drive := false }).handExpiry k
  | .off => s
  | .capture => s

/-- One step of a COUNTING channel by an event of its clock source (R166, R170 to R173). -/
def State.eventStep (s : State) (k : Nat) : State :=
  let c := s.channel k
  if c.state ≠ .counting then s
  else
    match c.mode with
    | .off => s
    | .capture => s.setChannel k { c with counter := min Config.countTop (c.counter + 1) }
    | _ => if c.counter ≤ 1 then s.expire k else s.setChannel k { c with counter := c.counter - 1 }

/-- A tenth of the time base at one channel (R166): a COUNTING channel with a time clock takes a step at the end of each
period. The step that would bring a countdown to 0 becomes due; it is taken as the channel's expiry. -/
def Channel.tenthPassed (c : Channel) : Channel :=
  if c.state ≠ .counting ∨ c.clock = .event then c
  else if c.elapsed + 1 < c.clock.period then { c with elapsed := c.elapsed + 1 }
  else
    match c.mode with
    | .off => c
    | .capture => { c with elapsed := 0, counter := min Config.countTop (c.counter + 1) }
    | _ =>
      if c.counter ≤ 1 then { c with elapsed := 0, due := true }
      else { c with elapsed := 0, counter := c.counter - 1 }

/-- A start-event at a channel, by its mode and state (R170 to R173). -/
def Channel.startEvent (c : Channel) : Channel :=
  match c.mode, c.state with
  | .delay, .armed => c.begin c.reload
  | .capture, .armed => c.begin 0
  | .capture, .counting => c.begin 0
  | _, _ => c

/-- A stop-event at channel `k`, by its mode and state (R170 to R173): a capture is stored, fed and raised. -/
def State.stopEvent (s : State) (k : Nat) : State :=
  let c := s.channel k
  match c.mode, c.state with
  | .delay, .counting => s.setChannel k c.rearm
  | .window, .counting => s.setChannel k { c.rearm with drive := false }
  | .capture, .counting =>
    ((s.setChannel k { c.rearm with captured := some c.counter }).feedCapture c c.counter).handExpiry k
  | _, _ => s

/-- A DELAY channel's pulse end is reached: the drive is negated and the pulse end removed (R171). -/
def State.endPulse (s : State) (k : Nat) : State :=
  s.setChannel k { s.channel k with drive := false, pulseEnd := none }

/-- The expiry of a channel whose last step is due (R166). -/
def State.takeDue (s : State) (k : Nat) : State :=
  if (s.channel k).due then s.expire k else s

/-! ### The event unit takes one event (R184, R185, R191) -/

/-- A matching route acts (R191); a route on a TIMER source hands no start-event or stop-event (R175). -/
def State.actRoute (s : State) (e : Event) (r : Route) : State :=
  match r.action with
  | .none => s
  | .timerStart k => if e.source.isTimer then s else s.setChannel k (s.channel k).startEvent
  | .timerStop k => if e.source.isTimer then s else s.stopEvent k
  | .latch n => s.hitLatch n e

/-- A route matches an event by its source and filter (R191). -/
def Route.isMatch (r : Route) (e : Event) : Bool :=
  r.source == e.source.num && (r.filter == none || r.filter == some e.subject)

/-- The channels in COUNTING that count the events of a source, ascending (R166, R184), as they stand in `s` (log entry
48). -/
def State.counters (s : State) (source : Nat) : List Nat :=
  (List.range Config.channelCount).filter fun k =>
    (s.channel k).state == .counting && (s.channel k).clock == .event && (s.channel k).clockSource == some source

/-- The event unit takes an event whole: its flag, then the counting channels, then the matching routes in ascending
number (R184). The counting channels are those in COUNTING as their stage begins: a WINDOW that a lower channel's expiry
opens within the stage does not step for this event, which is the model's choice (log entry 48). -/
def State.takeEvent (s : State) (e : Event) : State :=
  let flagged := s.setFlag e.source.num
  let stepped := forEach (s.counters e.source.num) (fun k s => s.eventStep k) flagged
  forEach s.events.routes.toList (fun r s => if r.isMatch e then s.actRoute e r else s) stepped

/-- The first waiting event is taken; with none waiting nothing happens (R184). -/
def State.takeNextEvent (s : State) : State :=
  match s.events.waiting with
  | [] => s
  | e :: rest => { s with events.waiting := rest }.takeEvent e

end Sys2Proof.Machine
end

