-- ==== Sys2Proof/Machine/Deadlines.lean ====
section
/-! DEFINITION. The course of the site clock: which deadlines and expiries a tenth reaches, their taking, SET_CLOCK, and
the site-clock check after a retained start (R166, R180 to R182). -/

namespace Sys2Proof.Machine

open Sys2Proof

/-! ### Reaching (R181) -/

/-- A deadline is marked reached when `hit` holds of its time. -/
def Deadline.mark (hit : SiteTime → Bool) (d : Deadline) : Deadline :=
  { d with reached := d.reached || hit d.time }

/-- A deadline field is present and reached. -/
def isReached (d : Option Deadline) : Bool :=
  match d with
  | none => false
  | some d => d.reached

/-- Every deadline whose time `hit` holds of is reached: confirm, release, offer and clearing deadlines, pulse ends and
release times (R181). Overdue deadlines carry no mark: they are judged against the clock (R58). -/
def State.markReached (s : State) (hit : SiteTime → Bool) : State :=
  { s with
    stalls.records := mapBank s.stalls.records fun r => { r with confirmBy := r.confirmBy.map (·.mark hit) }
    keys.hooks := mapBank s.keys.hooks fun r => { r with releaseBy := r.releaseBy.map (·.mark hit) }
    dispatch.runners := mapBank s.dispatch.runners fun r => { r with offerBy := r.offerBy.map (·.mark hit) }
    arbiter.lanes := mapBank s.arbiter.lanes fun r => { r with clearingBy := r.clearingBy.map (·.mark hit) }
    timers := mapBank s.timers fun c => { c with pulseEnd := c.pulseEnd.map (·.mark hit) }
    calls.schedule := s.calls.schedule.map fun e => { e with reached := e.reached || hit e.release } }

/-! ### Taking (R16, R58, R71, R96, R122, R130, R166, R171) -/

/-- A reached offer deadline is taken (R96). -/
def State.offerReached (s : State) (b : Nat) : State :=
  if isReached (s.runner b).offerBy then s.expireOffer b else s

/-- A reached pulse end is taken (R171). -/
def State.pulseReached (s : State) (k : Nat) : State :=
  if isReached (s.channel k).pulseEnd then s.endPulse k else s

/-- The numbers, from `start`, of the records of a bank that `p` holds of, ascending. -/
def numbersWhere {α : Type} {n : Nat} (start : Nat) (v : Vector α n) (p : α → Bool) : List Nat :=
  (v.toList.zipIdx start).filterMap fun (r, i) => if p r then some i else none

/-- Everything the clock has reached and its owner has not yet taken is taken, collection by collection (R181; the order
among collections is the model's, log entry 2). -/
def State.takeReached (s : State) : State :=
  let confirmed := forEach (numbersWhere 0 s.stalls.records (isReached ·.confirmBy)) (fun k s => s.confirmReached k) s
  let released := forEach (numbersWhere 0 confirmed.keys.hooks (isReached ·.releaseBy))
    (fun h s => s.releaseReached h) confirmed
  let expired := forEach (numbersWhere 1 released.dispatch.runners (isReached ·.offerBy))
    (fun b s => s.offerReached b) released
  let cleared := forEach (numbersWhere 1 expired.arbiter.lanes (isReached ·.clearingBy))
    (fun n s => s.clearingReached n) expired
  let scheduled := cleared.takeOverdue.releaseAllReached
  let pulsed := forEach (numbersWhere 0 scheduled.timers (isReached ·.pulseEnd)) (fun k s => s.pulseReached k) scheduled
  forEach (List.range Config.channelCount) (fun k s => s.takeDue k) pulsed

/-! ### The clock (R166, R180, R182) -/

/-- The site clock takes a value. -/
def State.putClock (s : State) (t : SiteTime) : State := { s with events.clock := t }

/-- A tenth of the time base with main power on: what earlier tenths reached is taken, the clock advances, its deadlines
are reached, and the time channels step (R166, R180, R181). -/
def State.tick (s : State) : State :=
  let taken := s.takeReached
  let later := taken.putClock (taken.now.plus 1)
  let reached := later.markReached (· == later.now)
  { reached with timers := mapBank reached.timers Channel.tenthPassed }

/-- SET_CLOCK to a valid value: a later one reaches every deadline after the old value and not after the new one, which
are taken (R182). -/
def State.setClock (s : State) (t : SiteTime) : State :=
  let taken := s.takeReached
  let old := taken.now
  let moved := taken.putClock t
  if old.before t then (moved.markReached fun d => old.before d && d.notAfter t).takeReached else moved

/-- The site-clock check after a retained start: the kept release times and overdue deadlines at or before the site time
are taken (R181). The release times come before the overdue deadlines, as R203 names them; in the course of the clock
(`State.takeReached`) the overdue deadlines come first. Both orders are the model's choice (log entry 2). -/
def State.siteClockCheck (s : State) : State :=
  let marked : State := { s with
    calls.schedule := s.calls.schedule.map fun e => { e with reached := e.reached || e.release.notAfter s.now } }
  marked.releaseAllReached.takeOverdue

/-! ### START_TIMER and STOP_TIMER (R168, R169) -/

/-- A STOPPED channel is started by its mode (R168). Its capture value stays: that 'the next start', which ends a capture
value by R177, is a start of the controller (R179) and not a START_TIMER is the model's choice (log entry 53). -/
def Channel.start (c : Channel) : Channel :=
  match c.mode with
  | .interval => c.begin c.reload
  | _ => c.rearm

/-- START_TIMER for a channel 0 to 7, by its mode and state (R168). -/
def State.startTimer (s : State) (k : Nat) : State × Answer :=
  let c := s.channel k
  if c.mode = .off then (s, .state)
  else if c.state ≠ .stopped then (s, .busy)
  else (s.setChannel k c.start, .done)

end Sys2Proof.Machine
end

