-- ==== Sys2Proof/Machine/Requests.lean ====
section
/-! DEFINITION. What the management requests do once they are admitted: the loads, stall service, timers, flags, latches
and restages, each with its outcome (chapters 1, 5, 8 to 11). -/

namespace Sys2Proof.Machine

open Sys2Proof

/-! ### LOAD_STATION (R151, R188) -/

/-- The record with loaded fields stored; losing the NOTICE permission clears the notice marker (R151, R188). -/
def Station.store (r : Station) (x : StationSetup) : Station :=
  { r with
    segment := x.segment, cls := x.cls, permissions := x.permissions, served := x.served
    noticeMark := r.noticeMark && (x.permissions.notice || !r.permissions.notice) }

/-- The load changes the station's segment, class or served object (R151). -/
def Station.moves (r : Station) (x : StationSetup) : Bool :=
  r.segment != x.segment || r.cls != x.cls || r.served != x.served

/-- The station leaves its old record: unless it was ABSENT, the effects of its absence are handed on under that record,
without STATION_ABSENT; then its presence is UNKNOWN and its silent count 0 (R151, R156). -/
def State.leaveRecord (s : State) (a : Nat) : State :=
  let r := s.station a
  let left :=
    if r.presence = .absent then s
    else (s.setStation a { r with presence := .absent }).handAbsence a r.cls r.served
  left.setStation a { left.station a with presence := .unknown, silent := 0 }

/-- A checked LOAD_STATION (R151). -/
def State.storeStation (s : State) (a : Nat) (x : StationSetup) : State :=
  let left := if (s.station a).moves x then s.leaveRecord a else s
  forEach liftNumbers (fun l s => s.settleOrder l) (left.setStation a ((left.station a).store x))

/-- LOAD_STATION (R151). -/
def State.loadStation (s : State) (f : StationFields) : State × Answer :=
  match readStation f with
  | none => (s, .range)
  | some (a, x) => (s.storeStation a x, .done)

/-! ### LOAD_STALL and SET_STALL_SERVICE (R17, R18) -/

/-- A checked LOAD_STALL, by the stall's state (R17). -/
def State.storeStall (s : State) (k : Nat) (site : StallSite) : State × Answer :=
  let r := s.stall k
  match r.state with
  | .undefined => ((s.putStall k { r with site := some site, state := .free, recheck := true }).handOn k, .done)
  | .free => ((s.putStall k { r with site := some site, recheck := true }).handOn k, .done)
  | .blocked => (s.putStall k { r with site := some site }, .done)
  | .out => (s.putStall k { r with site := some site }, .done)
  | .held => (s, .busy)
  | .occupied => (s, .busy)

/-- LOAD_STALL (R17). -/
def State.loadStall (s : State) (f : StallFields) : State × Answer :=
  match s.readStallSite f with
  | none => (s, .range)
  | some site => s.storeStall f.stall site

/-- A stall is taken out of service (R18). -/
def State.takeOut (s : State) (k : Nat) : State :=
  s.putStall k { s.stall k with state := .out, confirmed := false, recheck := false }

/-- A BLOCKED or OUT stall is brought back to FREE (R18). -/
def State.bringBack (s : State) (k : Nat) : State :=
  (s.putStall k { s.stall k with state := .free, recheck := true }).handOn k

/-- SET_STALL_SERVICE of a stall 0 to 639, by the value and the stall's state (R18). -/
def State.serveStall (s : State) (k : Nat) (v : ServiceValue) : State × Answer :=
  match v, (s.stall k).state with
  | _, .undefined => (s, .state)
  | _, .held => (s, .busy)
  | _, .occupied => (s, .busy)
  | .out, .free => (s.takeOut k, .done)
  | .out, .blocked => (s.takeOut k, .done)
  | .out, .out => (s, .done)
  | .free, .free => (s, .done)
  | .free, .blocked => (s.bringBack k, .done)
  | .free, .out => (s.bringBack k, .done)

/-- SET_STALL_SERVICE (R18). -/
def State.setStallService (s : State) (f : StallServiceFields) : State × Answer :=
  match f.service.get? with
  | none => (s, .range)
  | some v => if f.stall < Config.stallCount then s.serveStall f.stall v else (s, .range)

/-! ### LOAD_PARAMS (R198, R199) -/

/-- DONE, or CLAMPED when a value was clamped (R196). -/
def clampedOr (clamped : Bool) : Answer := if clamped then .clamped else .done

/-- A lift's configured flag was set: a grant check, then its passage to serviceable when it is IDLE or BUSY
(R117, R199). -/
def State.liftConfiguredNow (s : State) (l : Nat) : State := (s.grantCheck l).passage l false

/-- The hand-on of a changed parameter other than the panel count (R58, R199). -/
def State.paramChanged (s : State) (k : Nat) : State :=
  match k with
  | 12 | 13 | 14 | 15 => s.attemptUnplaced
  | 18 => s.takeOverdue
  | 36 | 37 | 38 | 39 => if s.liftConfigured (k - 35) then s.liftConfiguredNow (k - 35) else s
  | 40 | 41 | 42 | 43 | 44 | 45 =>
    if s.laneConfigured (k - 39) then s.laneGrantCheck else s.laneUnconfigured (k - 39)
  | _ => s

/-- LOAD_PARAMS (R65, R198, R199). -/
def State.loadParams (s : State) (f : ParamFields) : State × Answer :=
  match s.params.read f with
  | none => (s, .range)
  | some (p, clamped) =>
    if p = s.params then (s, clampedOr clamped)
    else if f.number = 25 then
      (if s.panelCountBusy p.panelCount then (s, .busy) else (s.storePanelCount p.panelCount, clampedOr clamped))
    else ({ s with params := p }.paramChanged f.number, clampedOr clamped)

/-! ### LOAD_PASS_RULE, LOAD_ROUTE, LOAD_MASKS (R158, R186, R190) -/

/-- LOAD_PASS_RULE (R158). -/
def State.loadPassRule (s : State) (f : PassRuleFields) : State × Answer :=
  match readPassRule f with
  | none => (s, .range)
  | some (n, r) => ({ s with links.passTable := setNth s.links.passTable n r }, .done)

/-- The filter of a route lies in the subject range of its source (R190). -/
def filterFits (source : Nat) (filter : Option Nat) : Bool :=
  match filter with
  | none => true
  | some x => (subjectRange source).1 ≤ x && x ≤ (subjectRange source).2

/-- LOAD_ROUTE (R190). -/
def State.loadRoute (s : State) (f : RouteFields) : State × Answer :=
  match f.action.get? with
  | none => (s, .range)
  | some action =>
    if f.number < Config.routeCount && f.source < Config.sourceCount && filterFits f.source f.filter
        && actionFits action then
      ({ s with events.routes := setNth s.events.routes f.number { source := f.source, filter := f.filter, action } },
        .done)
    else (s, .range)

/-- The thirty mask values of LOAD_MASKS, when each is OPEN or CLOSED (R186). -/
def readMasks (values : Vector (Sent Bool) Config.sourceCount) : Option (Vector Bool Config.sourceCount) :=
  if values.all (· != .outside) then some (values.map (· == .value true)) else none

/-- LOAD_MASKS: all thirty are stored (R186), or none when a value is neither OPEN nor CLOSED, which is RANGE by R196
(log entry 9). -/
def State.loadMasks (s : State) (values : Vector (Sent Bool) Config.sourceCount) : State × Answer :=
  match readMasks values with
  | none => (s, .range)
  | some masks => ({ s with events.masks := masks }, .done)

/-! ### LOAD_TIMER, START_TIMER, STOP_TIMER (R167 to R169) -/

/-- LOAD_TIMER (R167). -/
def State.loadTimer (s : State) (f : TimerFields) : State × Answer :=
  match s.readTimer f with
  | none => (s, .range)
  | some (k, c) =>
    if (s.channel k).state ≠ .stopped then (s, .busy) else (s.setChannel k c, clampedOr (c.reload != f.reload))

/-- START_TIMER (R168). -/
def State.requestStart (s : State) (k : Nat) : State × Answer :=
  if k < Config.channelCount then s.startTimer k else (s, .range)

/-- STOP_TIMER (R169). -/
def State.requestStop (s : State) (k : Nat) : State × Answer :=
  if k < Config.channelCount then (s.setChannel k (s.channel k).stop, .done) else (s, .range)

/-! ### SET_CLOCK (R182) -/

/-- SET_CLOCK (R182). -/
def State.requestClock (s : State) (f : ClockFields) : State × Answer :=
  if f.day < Config.dayCount ∧ f.tenth < Config.dayTenths then (s.setClock ⟨f.day, f.tenth⟩, .done) else (s, .range)

/-! ### The reads (R19, R61, R73, R103, R197) -/

/-- A read whose number is judged at its request and whose content is read at its reply. -/
def State.requestRead (s : State) (named : Bool) : State × Answer := (s, if named then .done else .range)

/-- READ_LATCH: a latch 0 to 3 is taken and emptied (R193). -/
def State.takeLatch (s : State) (n : Nat) : State :=
  { s with events.latches := setNth s.events.latches n none }

/-- CLEAR_FLAGS: the marked flags are cleared (R189). -/
def State.requestClear (s : State) (marks : Vector Bool Config.sourceCount) : State × Answer :=
  ({ s with events.flags := zipBank (fun flag mark => flag && !mark) s.events.flags marks }, .done)

/-! ### REBIND_HOOK, RESTAGE, FORCE_CLOSE (R59, R72, R102) -/

/-- REBIND_HOOK (R72). -/
def State.requestRebind (s : State) (f : RebindFields) : State × Answer :=
  match s.named f.ticket with
  | none => (s, .range)
  | some t => if f.hook < Config.hookCount then s.rebind f.hook t else (s, .range)

/-- A target may take the restage of a ticket from its bound stall: the same lift, large enough, its lift 0 or serviceable
(R102). -/
def State.targetFits (s : State) (t : Ticket) (source target : Nat) : Bool :=
  match (s.stall source).site, (s.stall target).site with
  | some a, some b => a.lift == b.lift && t.size.num ≤ b.size.num && (b.lift == 0 || s.serviceable b.lift)
  | _, _ => false

/-- RESTAGE of an open ticket to a stall 0 to 639 (R102). -/
def State.restageTicket (s : State) (t : Ticket) (target : Nat) : State × Answer :=
  match t.state, t.stall with
  | .parked, some source =>
    if (s.stall target).state ≠ .free then (s, .busy)
    else if s.targetFits t source target then (s.beginRestage t.number target, .done)
    else (s, .state)
  | _, _ => (s, .state)

/-- RESTAGE (R102). -/
def State.requestRestage (s : State) (f : RestageFields) : State × Answer :=
  match s.named f.ticket with
  | none => (s, .range)
  | some t => if f.target < Config.stallCount then s.restageTicket t f.target else (s, .range)

/-- FORCE_CLOSE (R59). -/
def State.requestForceClose (s : State) (n : Nat) : State × Answer :=
  match s.named n with
  | none => (s, .range)
  | some t => (s.forceCloseTicket t, .done)

end Sys2Proof.Machine
end

