-- ==== Sys2Proof/Machine/Starts.lean ====
section
/-! DEFINITION. The cold start and the retained start (R20, R62, R63, R82 to R84, R104, R125, R126, R142, R164, R179,
R194, R201 to R203). -/

namespace Sys2Proof.Machine

open Sys2Proof

/-! ### Step 1: the switch, the timer array and the event unit (R164, R179, R194) -/

/-- A station record after a retained start: loaded fields kept, all else as cold (R164). -/
def Station.atStart (r : Station) : Station :=
  { Station.cold with segment := r.segment, cls := r.cls, permissions := r.permissions, served := r.served }

/-- A channel after a retained start: setup kept, STOPPED, no capture value (R179). -/
def Channel.atStart (c : Channel) : Channel := { c.stop with captured := none }

/-- The switch, the timer array and the event unit take their start values (R164, R179, R194). -/
def State.startEdges (s : State) (strap : Fin 16) : State :=
  { s with
    links := { s.links with stations := mapBank s.links.stations Station.atStart, curb := PortState.cold
                            deck := PortState.cold, strap := strap }
    timers := mapBank s.timers Channel.atStart
    events := { s.events with flags := Vector.replicate _ false, latches := Vector.replicate _ none, waiting := [] } }

/-! ### Step 2: the stall map (R20) -/

/-- The stall is HELD as the restage target of a RESTAGING ticket (R20). -/
def State.heldTarget (s : State) (k : Nat) (r : Stall) : Bool :=
  r.state == .held &&
    match r.ticket.bind s.ticket with
    | none => false
    | some t => t.state == .restaging && t.target == some k

/-- The stalls a retained start frees (R20), in ascending number: the order in which they are handed on, which is the
model's choice (log entry 45). -/
def State.freedTargets (s : State) : List Nat :=
  (s.stalls.records.toList.zipIdx).filterMap fun (r, k) => if s.heldTarget k r then some k else none

/-- A stall record after a retained start, but for a freed target (R20). -/
def State.stallAtStart (s : State) (r : Stall) : Stall :=
  { r with sensed := .unknown, pending := none, recheck := false
           confirmBy := r.confirmBy.map fun _ => Deadline.at (s.now.plusSeconds s.params.confirmWindow) }

/-- The number of FREE stalls of a size class among records (R9). -/
def freeOf (records : List Stall) (c : SizeClass) : Nat := records.countP fun r => r.freeClass == some c

/-- The four free counts, from the stall states (R9, R20). -/
def freeCounts (records : List Stall) : PerSize :=
  { compact := freeOf records .compact, standard := freeOf records .standard, large := freeOf records .large
    oversize := freeOf records .oversize }

/-- The stall map takes its start values, `freed` the targets it frees; a changed count owes VACANCY (R20, R144). A freed
target's recheck due stays clear, as R20 clears every one, though R5 sets it at a release: the model's reading (log
entry 36). -/
def State.startStalls (s : State) (freed : List Nat) : State :=
  let swept := mapBank s.stalls.records s.stallAtStart
  let records := forEach freed (fun k v => setNth v k
    { nth v k Stall.cold with state := .free, ticket := none, confirmed := false }) swept
  let counted : State := { s with stalls := { records := records, free := freeCounts records.toList } }
  if counted.stalls.free = s.stalls.free then counted else counted.oweVacancy

/-! ### Step 3: the ticket table (R62, R63) -/

/-- A ticket's state after a retained start (R62). -/
def Ticket.stateAtStart (t : Ticket) : TicketState :=
  match t.state with
  | .parking => .assigned
  | .restaging => if t.callPending then .called else .parked
  | .fetching => if t.stall.isSome then .called else .staged
  | .descending => .staged
  | .toCurb => .staged
  | x => x

/-- A ticket record after a retained start at time `now` (R62, R63). -/
def Ticket.atStart (t : Ticket) (now : SiteTime) : Ticket :=
  let x := t.stateAtStart
  { t with
    state := x
    verify := t.verify || x != t.state
    target := if t.state = .restaging then none else t.target
    callPending := t.callPending && t.state != .restaging
    runner := none
    backlog := false
    lane := if x = .atCurb then t.lane else none
    laneRequest := if x = .staged then some (t.laneRequest.getD now) else t.laneRequest }

/-- The ticket table maps its tickets (R62, R63). -/
def State.startTickets (s : State) : State := { s with tickets := s.tickets.map fun t => t.atStart s.now }

/-! ### Step 4: the key custody unit (R82, R83) -/

/-- A hook record after a retained start (R82). -/
def Hook.atStart (r : Hook) : Hook :=
  let kept := { r with accepted := .unknown, pending := none }
  match r.custody with
  | .released => { kept with custody := .cabinet, runner := none, releaseBy := none }
  | .out => { kept with custody := .missing, runner := none }
  | _ => kept

/-- The ticket's hook was OUT (R82). -/
def State.hookOut (s : State) (t : Ticket) : Bool :=
  match t.hook with
  | none => false
  | some h => (s.hook h).custody == .out

/-- The hooks and panels take their start values, and the scanner stands before its first cycle (R74, R82, R83). -/
def State.startKeys (s : State) : State :=
  { s with
    tickets := s.tickets.map fun t => if s.hookOut t then { t with keyAlert := true } else t
    keys := { s.keys with
      hooks := mapBank s.keys.hooks Hook.atStart, panels := Vector.replicate _ Panel.cold
      scan := { Scan.cold with interval := s.params.scanInterval } } }

/-! ### Step 5: the dispatch unit (R84, R104) -/

/-- The task a retained start makes for a ticket, before its place (R104). -/
def taskAtStart (t : Ticket) : Option Task :=
  match t.state with
  | .assigned => some { kind := .park, ticket := t.number, age := t.arrived, declined := [], place := .queued }
  | .called =>
    some { kind := .fetch, ticket := t.number, age := t.calledAt.getD SiteTime.zero, declined := [], place := .queued }
  | _ => none

/-- The roster as after a start, and the tasks made again in order of age, then ticket number: the first 64 QUEUED, the
rest BACKLOG with their tickets' flags (R84, R104). -/
def State.startDispatch (s : State) : State :=
  let tasks := sortBy (fun a b => earlier (a.age, a.ticket) (b.age, b.ticket)) (s.tickets.filterMap taskAtStart)
  let late := (tasks.drop Config.maxQueue).map fun t => { t with place := TaskPlace.backlog }
  { s with
    dispatch := { runners := Vector.replicate _ (Runner.atStart s.now), tasks := tasks.take Config.maxQueue ++ late }
    tickets := s.tickets.map fun t => if late.any (·.ticket == t.number) then { t with backlog := true } else t }

/-! ### Step 6: the tenure arbiter (R125, R126) -/

/-- A ticket stands before another for a lane's start: the later at-curb time, then the lower number (R126, log
entry 14). -/
def laterAtCurb (a b : Ticket) : Bool :=
  let ta := a.atCurbAt.getD SiteTime.zero
  let tb := b.atCurbAt.getD SiteTime.zero
  tb.before ta || (ta == tb && a.number < b.number)

/-- A lane after a retained start (R126). -/
def State.laneAtStart (s : State) (n : Nat) : Lane :=
  match firstBy laterAtCurb (s.tickets.filter fun t => t.state == .atCurb && t.lane == some n) with
  | none => Lane.cold
  | some t => { Lane.cold with state := .occupied, ticket := some t.number }

/-- The lifts and lanes take their start values (R125, R126). -/
def State.startArbiter (s : State) : State :=
  { s with arbiter := { lifts := Vector.replicate _ Lift.cold
                        lanes := forEach laneNumbers (fun n v => setNth1 v n (s.laneAtStart n)) s.arbiter.lanes } }

/-! ### Step 7: the curb board (R142) -/

/-- The curb board list is rebuilt from the AT_CURB tickets (R142). -/
def State.startBoard (s : State) : State :=
  { s with calls.board := sortBy boardBefore ((s.tickets.filter (·.state == .atCurb)).map fun t =>
      { ticket := t.number, time := t.atCurbAt.getD SiteTime.zero }) }

/-! ### The starts (R201 to R203) -/

/-- The VACANT hooks of every configured panel are handed to binding in ascending number (R83). -/
def State.bindVacant (s : State) : State :=
  forEach ((oneTo Config.panelCount).filter s.panelConfigured) (fun p s => s.handPanelHooks p) s

/-- A retained start, block by block, before the work it hands on (R203); a changed curb board owes CURB_BOARD
(R143). -/
def State.startBlocks (s : State) (strap : Fin 16) : State :=
  let mapped := ((s.startEdges strap).startStalls s.freedTargets).startTickets
  (((mapped.startKeys.startDispatch).startArbiter).startBoard).boardSince s

/-- A retained start: the blocks in order, then the freed stalls, the unplaced list, the VACANT hooks, a lane grant check
and the site-clock check (R203). Several freed stalls are handed on in ascending number: the model's choice (log entry
45). -/
def State.retainedStart (s : State) (strap : Fin 16) : State :=
  let started := s.startBlocks strap
  let handed := forEach s.freedTargets (fun k s => s.handOn k) started
  (handed.attemptUnplaced.bindVacant).laneGrantCheck.siteClockCheck

/-- A cold start (R201). The commands that wait, and the latches on the cabinet's side, are not the controller's to
clear. -/
def State.coldStart (s : State) (strap : Fin 16) : State :=
  { State.cold strap with pending := s.pending, keys.latches := s.keys.latches }

/-- The retained memory is valid: written by a cold start, and no dropout recorded since (R200). -/
def Power.valid (p : Power) : Bool := p.written && !p.dropout

/-- Main power returns (R201). -/
def State.powerUp (s : State) (strap : Fin 16) : State :=
  if s.power.main then s
  else if s.power.valid then { s with power.main := true }.retainedStart strap
  else s.coldStart strap

/-- A retained start that keeps the management reply of the RESTART that caused it, in the slot of station `a`
(R164, R202). -/
def State.restartKeeping (s : State) (a : Nat) (strap : Fin 16) : State :=
  let started := s.retainedStart strap
  started.setStation a { started.station a with manageReply := (s.station a).manageReply }

end Sys2Proof.Machine
end

