-- ==== Sys2Proof/Machine/Management.lean ====
section
/-! DEFINITION. The management requests, each admitted by R195 and decided by the rule R196 names for it. -/

namespace Sys2Proof.Machine

open Sys2Proof

/-- LOAD_STATION (R151). -/
def execLoadStation (f : From) (r : Wire StationFields) (s : State) : Host.Outcome State Fault Refusal :=
  .next (s.manage f .loadStation r .station fun x s => s.loadStation x)

/-- LOAD_STALL (R17). -/
def execLoadStall (f : From) (r : Wire StallFields) (s : State) : Host.Outcome State Fault Refusal :=
  .next (s.manage f .loadStall r .stall fun x s => s.loadStall x)

/-- LOAD_PARAMS (R198, R199). -/
def execLoadParams (f : From) (r : Wire ParamFields) (s : State) : Host.Outcome State Fault Refusal :=
  .next (s.manage f .loadParams r .param fun x s => s.loadParams x)

/-- LOAD_PASS_RULE (R158). -/
def execLoadPassRule (f : From) (r : Wire PassRuleFields) (s : State) : Host.Outcome State Fault Refusal :=
  .next (s.manage f .loadPassRule r .passRule fun x s => s.loadPassRule x)

/-- LOAD_ROUTE (R190). -/
def execLoadRoute (f : From) (r : Wire RouteFields) (s : State) : Host.Outcome State Fault Refusal :=
  .next (s.manage f .loadRoute r .route fun x s => s.loadRoute x)

/-- LOAD_TIMER (R167). -/
def execLoadTimer (f : From) (r : Wire TimerFields) (s : State) : Host.Outcome State Fault Refusal :=
  .next (s.manage f .loadTimer r .timer fun x s => s.loadTimer x)

/-- LOAD_MASKS (R186). A mask value is carried as one of OPEN (`true`) and CLOSED, or as outside the set (log entry 6). -/
def execLoadMasks (f : From) (r : Wire (Vector (Sent Bool) Config.sourceCount)) (s : State) :
    Host.Outcome State Fault Refusal :=
  .next (s.manage f .loadMasks r .masks fun x s => s.loadMasks x)

/-- SET_STALL_SERVICE (R18). -/
def execSetStallService (f : From) (r : Wire StallServiceFields) (s : State) : Host.Outcome State Fault Refusal :=
  .next (s.manage f .setStallService r .stallService fun x s => s.setStallService x)

/-- SET_CLOCK (R182). -/
def execSetClock (f : From) (r : Wire ClockFields) (s : State) : Host.Outcome State Fault Refusal :=
  .next (s.manage f .setClock r .clock fun x s => s.requestClock x)

/-- START_TIMER (R168). -/
def execStartTimer (f : From) (r : Wire Nat) (s : State) : Host.Outcome State Fault Refusal :=
  .next (s.manage f .startTimer r .number fun k s => s.requestStart k)

/-- STOP_TIMER (R169). -/
def execStopTimer (f : From) (r : Wire Nat) (s : State) : Host.Outcome State Fault Refusal :=
  .next (s.manage f .stopTimer r .number fun k s => s.requestStop k)

/-- READ_TICKET (R61, R197). -/
def execReadTicket (f : From) (r : Wire ReadTicketFields) (s : State) : Host.Outcome State Fault Refusal :=
  .next (s.manage f .readTicket r .ticketPart fun x s =>
    s.requestRead ((s.named x.ticket).isSome && x.part < 2))

/-- READ_STALL (R19). -/
def execReadStall (f : From) (r : Wire Nat) (s : State) : Host.Outcome State Fault Refusal :=
  .next (s.manage f .readStall r .number fun k s => s.requestRead (k < Config.stallCount))

/-- READ_HOOK (R73). -/
def execReadHook (f : From) (r : Wire Nat) (s : State) : Host.Outcome State Fault Refusal :=
  .next (s.manage f .readHook r .number fun h s => s.requestRead (h < Config.hookCount))

/-- READ_RUNNER (R103). -/
def execReadRunner (f : From) (r : Wire Nat) (s : State) : Host.Outcome State Fault Refusal :=
  .next (s.manage f .readRunner r .number fun b s => s.requestRead (1 ≤ b && b ≤ Config.runnerCount))

/-- READ_COUNTS (R197). -/
def execReadCounts (f : From) (r : Wire Nat) (s : State) : Host.Outcome State Fault Refusal :=
  .next (s.manage f .readCounts r .number fun k s => s.requestRead (k < 5))

/-- READ_FLAGS (R189). -/
def execReadFlags (f : From) (s : State) : Host.Outcome State Fault Refusal :=
  .next (s.manage f .readFlags (.fields ()) (fun _ => .empty) fun _ s => s.requestRead true)

/-- READ_LATCH: what is taken goes into the slot at once (R193). -/
def execReadLatch (f : From) (r : Wire Nat) (s : State) : Host.Outcome State Fault Refusal :=
  .next (s.onFrame f fun s => s.admitManage f.source .readLatch r .number fun n s =>
    if n < Config.latchCount then (s.takeLatch n, .done, some (nth s.events.latches n none)) else (s, .range, none))

/-- READ_ESTIMATES (R140). -/
def execReadEstimates (f : From) (s : State) : Host.Outcome State Fault Refusal :=
  .next (s.manage f .readEstimates (.fields ()) (fun _ => .empty) fun _ s => s.requestRead true)

/-- CLEAR_FLAGS (R189). -/
def execClearFlags (f : From) (r : Wire (Vector Bool Config.sourceCount)) (s : State) :
    Host.Outcome State Fault Refusal :=
  .next (s.manage f .clearFlags r .marks fun x s => s.requestClear x)

/-- REBIND_HOOK (R72). -/
def execRebindHook (f : From) (r : Wire RebindFields) (s : State) : Host.Outcome State Fault Refusal :=
  .next (s.manage f .rebindHook r .rebind fun x s => s.requestRebind x)

/-- RESTAGE (R102). -/
def execRestage (f : From) (r : Wire RestageFields) (s : State) : Host.Outcome State Fault Refusal :=
  .next (s.manage f .restage r .restage fun x s => s.requestRestage x)

/-- FORCE_CLOSE (R59). -/
def execForceClose (f : From) (r : Wire Nat) (s : State) : Host.Outcome State Fault Refusal :=
  .next (s.manage f .forceClose r .number fun n s => s.requestForceClose n)

/-- RESTART: admitted as any request, its reply is set and a retained start made that keeps that one reply (R202). -/
def execRestart (f : From) (strap : Fin 16) (s : State) : Host.Outcome State Fault Refusal :=
  .next (s.onFrame f fun s =>
    let replied := s.admitManage f.source .restart (.fields ()) (fun _ => .empty) fun _ s => (s, .done, none)
    if s.classOf f.source = .desk ∧ (s.permissionsOf f.source).manage = true then replied.restartKeeping f.source strap
    else replied)

/-- A request code that names no request (R195). A payload that is empty holds no code at all: its sender is judged as R195
says of any frame, and it names no request and is refused with UNKNOWN_KIND, the reply's code absent, which is the model's
choice (log entry 56). -/
def execManageUnknownKind (f : From) (code : Option Nat) (s : State) : Host.Outcome State Fault Refusal :=
  .next (s.manage f (.unknown code) (.fields ()) (fun _ => .empty) fun _ s => (s, .unknownKind))

end Sys2Proof.Machine
end

