-- ==== Sys2Proof/Machine/RunnerSteps.lean ====
section
/-! DEFINITION. The runners' frames: RUNNER_STATUS, TASK_ACCEPT, TASK_DECLINE and the five steps (R6, R46 to R48, R51,
R52, R56, R85, R94, R95, R99, R100). -/

namespace Sys2Proof.Machine

open Sys2Proof

/-! ### RUNNER_STATUS (R85) -/

/-- The level and the base that a status not refused writes (R85). -/
def State.placeRunner (s : State) (badge level base : Nat) : State :=
  s.setRunner badge { s.runner badge with level := level, base := some base }

/-- A RUNNER_STATUS with its level judged; `k` takes it and says its outcome (R85). -/
def State.runnerStatus (s : State) (f : From) (badge level : Nat) (k : State → State × Answer) : State :=
  s.onFrame f fun s => s.runnerFrame f.source badge .runnerStatus none fun s =>
    if level < 8 then k s else (s, .range)

/-- A status asking READY (R85). -/
def State.askReady (s : State) (badge level base : Nat) : State × Answer :=
  let placed := s.placeRunner badge level base
  match (s.runner badge).state with
  | .offDuty | .onBreak | .silent =>
    ((placed.setRunner badge ((placed.runner badge).enterReady s.now)).pair, .done)
  | .ready => (placed, .done)
  | .offered =>
    (placed.setRunner badge { placed.runner badge with
      owed := (s.runner badge).task.map fun t => .offer t.1 }, .done)
  | .tasked => (s, .tasked)

/-- A status asking BREAK or OFF_DUTY, the state `x` (R85, R96). -/
def State.askLeave (s : State) (badge level base : Nat) (x : RunnerState) : State × Answer :=
  let placed := s.placeRunner badge level base
  match (s.runner badge).state with
  | .offDuty | .onBreak | .silent | .ready => (placed.setRunner badge { placed.runner badge with state := x }, .done)
  | .offered => ((placed.endOffer badge x).pair, .done)
  | .tasked => (s, .tasked)

/-! ### Acceptance and decline (R94, R95) -/

/-- The runner is OFFERED a task of the ticket (R94, R95). -/
def State.offeredTask (s : State) (badge n : Nat) : Bool :=
  (s.runner badge).state == .offered && ((s.runner badge).task.map (·.1)) == some n

/-- The ticket table takes an acceptance by the ticket's state (R47, R48, R52). -/
def State.tellAccept (s : State) (badge n : Nat) : State :=
  let named := s.modifyTicket n fun t => { t with runner := some badge }
  match (s.ticket n).map (·.state) with
  | some TicketState.assigned => named.moveTicket n .parking
  | some TicketState.called => (named.modifyTicket n fun t => { t with backlog := false }).moveTicket n .fetching
  | some TicketState.restaging => named
  | _ => s

/-- An acceptance that is taken: the task HELD, its place free, the runner TASKED, TASK_START, and the ticket table told
(R94). -/
def State.acceptTask (s : State) (badge n : Nat) : State :=
  let held := (s.modifyTask n fun t => { t with place := .held badge }).setRunner badge { s.runner badge with
    state := .tasked, offerBy := none }
  ((held.promote).raise .taskStart badge).tellAccept badge n

/-- TASK_ACCEPT by the runner's state and task (R94). -/
def State.takeAccept (s : State) (badge n : Nat) : State × Answer :=
  if s.offeredTask badge n then (s.acceptTask badge n, .done)
  else if s.holdsTask badge n then (s, .done)
  else (s, .withdrawn)

/-- TASK_DECLINE by the runner's state and task (R95). -/
def State.takeDecline (s : State) (badge n : Nat) : State × Answer :=
  if s.offeredTask badge n then
    let returned := s.modifyTask n fun t => { t with place := .queued, declined := t.declined ++ [badge] }
    ((returned.setRunner badge ((s.runner badge).enterReady s.now)).pair, .done)
  else (s, .withdrawn)

/-! ### The holder check (R46) -/

/-- A step judged for its holder; `k` takes the ticket of one that passes (R46). -/
def State.heldStep (s : State) (badge n : Nat) (k : Ticket → State × Answer) : State × Answer :=
  if s.holdsTask badge n then
    match s.ticket n with
    | none => (s, .notHolder)
    | some t => k t
  else (s, .notHolder)

/-- A step taken with DONE sets the runner's level (R99). -/
def levelled (badge level : Nat) (r : State × Answer) : State × Answer :=
  if r.2 = .done then (r.1.setLevel badge level, r.2) else r

/-! ### AT_LOBBY (R47, R48, R52) -/

/-- AT_LOBBY of a PARKING ticket: an UP tenure from level 0 to the bound stall's level (R47). -/
def State.lobbyParking (s : State) (badge : Nat) (t : Ticket) : State × Answer :=
  match t.stall.bind fun k => (s.stall k).site with
  | none => (s, .done)
  | some site =>
    if site.lift = 0 ∨ s.hasTenure t.number then (s, .done)
    else s.fileTenure t.number badge site.lift .up 0 site.level

/-- AT_LOBBY of a RESTAGING ticket with no bound stall: a tenure to the target's level (R48). -/
def State.lobbyRestaging (s : State) (badge level : Nat) (t : Ticket) : State × Answer :=
  let l := t.lift.getD 0
  match t.target.bind fun k => (s.stall k).site with
  | none => (s, .done)
  | some site =>
    if l = 0 ∨ site.level = level ∨ s.hasTenure t.number then (s, .done)
    else s.fileTenure t.number badge l (if level < site.level then .up else .down) level site.level

/-- AT_LOBBY of a FETCHING ticket with no bound stall: a DOWN tenure to level 0 (R52). An absent lift field
is read as lift 0 (log entry 13). -/
def State.lobbyFetching (s : State) (badge level : Nat) (t : Ticket) : State × Answer :=
  let l := t.lift.getD 0
  if l = 0 ∨ s.hasTenure t.number then (s, .done) else s.fileTenure t.number badge l .down level 0

/-- AT_LOBBY by the ticket's state (R46). -/
def State.lobbyStep (s : State) (badge level : Nat) (t : Ticket) : State × Answer :=
  match t.state, t.stall with
  | .parking, _ => s.lobbyParking badge t
  | .restaging, none => s.lobbyRestaging badge level t
  | .fetching, none => s.lobbyFetching badge level t
  | _, _ => (s, .state)

/-- AT_LOBBY: its level judged, then its holder, then the ticket's state (R46, R99). -/
def State.takeLobby (s : State) (badge n level : Nat) : State × Answer :=
  if level < 8 then levelled badge level (s.heldStep badge n (s.lobbyStep badge level)) else (s, .range)

/-! ### DEPARTED (R48, R52) -/

/-- The bound stall is freed by the step, the runner's level becomes that stall's, and the stall is handed on; with no
bound stall nothing happens (R7, R8, R99). -/
def State.departStep (s : State) (badge : Nat) (t : Ticket) : State :=
  match t.stall with
  | none => s
  | some k =>
    if s.occupiedBy k t.number then
      ((s.depart k t.number).setLevel badge (((s.stall k).site.map (·.level)).getD 0)).handOn k
    else s

/-- A FETCHING ticket whose car has left its stall is judged by its lift field: from a stall of lift 0 it is STAGED
(R52, R119). An absent lift field is read as lift 0 (log entry 13). -/
def State.stageCar (s : State) (n : Nat) : State :=
  if ((s.ticket n).bind (·.lift)).getD 0 = 0 then
    ((s.modifyTicket n fun t => { t with laneRequest := some s.now }).moveTicket n .staged).laneGrantCheck
  else s

/-- DEPARTED by the ticket's state (R46, R48, R52). -/
def State.departedStep (s : State) (badge : Nat) (t : Ticket) : State × Answer :=
  match t.state with
  | .restaging => (s.departStep badge t, .done)
  | .fetching => (if s.hasTenure t.number then s else (s.departStep badge t).stageCar t.number, .done)
  | _ => (s, .state)

/-! ### PARKED (R6, R47, R48, R51, R100) -/

/-- The stall takes a car set down in it: confirmed when a sensor sees it, else with a confirm deadline (R6). -/
def State.occupy (s : State) (k n : Nat) : State :=
  let r := s.stall k
  let confirmed := r.confirmed || r.sensed == .occupied
  s.putStall k { r with
    state := .occupied, ticket := some n, confirmed := confirmed, recheck := false
    confirmBy := if confirmed then none else some (Deadline.at (s.now.plusSeconds s.params.confirmWindow)) }

/-- The stall held for the ticket: its bound stall while PARKING, its restage target while RESTAGING (R6). -/
def Ticket.heldStall (t : Ticket) : Option Nat :=
  if t.state = .parking then t.stall else if t.state = .restaging then t.target else none

/-- The hold of a ticket on a stall other than the named one is released, before its hand-on (R5, R6). -/
def State.releaseOther (s : State) (t : Ticket) (k : Nat) : State × Option Nat :=
  match t.heldStall with
  | none => (s, none)
  | some h => if h ≠ k ∧ s.heldFor h t.number then (s.releaseStall h t.number, some h) else (s, none)

/-- The old stall of a RESTAGING ticket set down elsewhere is freed as by a departure, before its hand-on (R6, R7). -/
def State.departOld (s : State) (t : Ticket) (k : Nat) : State × Option Nat :=
  match t.state, t.stall with
  | .restaging, some old =>
    if old ≠ k ∧ s.occupiedBy old t.number then (s.depart old t.number, some old) else (s, none)
  | _, _ => (s, none)

/-- The ticket's fields once its car stands in stall `k` (R6, R47, R48, R99). -/
def Ticket.parkedIn (t : Ticket) (k : Nat) (charger : Bool) (now : SiteTime) : Ticket :=
  { t with stall := some k, target := none, parkedAt := some now, runner := none
           restageWanted := t.restageWanted && !charger }

/-- The stall map takes a PARKED step: the named stall OCCUPIED, an old stall freed, the hold on another stall released,
the named stall bound, and the released stall handed on (R5, R6). With it, the old stall, whose hand-on comes last. That an
old stall is freed before the other hold is released, and that the released stall is handed on before the ticket leaves
PARKING or RESTAGING, is the model's choice of an order (log entry 11). -/
def State.setDown (s : State) (t : Ticket) (k : Nat) : State × Option Nat :=
  let kept := if s.occupiedBy k t.number then s else s.occupy k t.number
  let old := kept.departOld t k
  let released := old.1.releaseOther t k
  let charger := ((s.stall k).site.map (·.charger)).getD false
  let bound := released.1.modifyTicket t.number (·.parkedIn k charger s.now)
  (match released.2 with
    | none => bound
    | some h => bound.handOn h, old.2)

/-- The PARKED ticket with a call pending becomes CALLED, with its FETCH task; any other becomes PARKED. The task of the
step ends before the FETCH task is made (R47, R48, R51, R88, R100). -/
def State.endParking (s : State) (badge : Nat) (t : Ticket) (slotFree : Bool) : State :=
  let n := t.number
  if t.callPending then
    (((((s.modifyTicket n fun t => { t with callPending := false }).moveTicket n .called).letGo n).endTask badge n
      slotFree).makeTask .fetch n (t.calledAt.getD s.now))
  else (((s.moveTicket n .parked).letGo n).endTask badge n slotFree)

/-- The named stall may take the ticket's car (R6). -/
def State.parkable (s : State) (k : Nat) (t : Ticket) : Bool :=
  (s.stall k).state == .free || s.heldFor k t.number || (t.state == .restaging && s.occupiedBy k t.number)

/-- A PARKED step of a PARKING or RESTAGING ticket (R6, R47, R48). The step ends, with a pending call, before the old stall
is handed on (R6; log entry 11). -/
def State.parkStep (s : State) (badge k : Nat) (slotFree : Bool) (t : Ticket) : State × Answer :=
  if k < Config.stallCount then
    if s.parkable k t then
      let down := s.setDown t k
      let level := ((s.stall k).site.map (·.level)).getD 0
      let ended := (down.1.setLevel badge level).endParking badge t slotFree
      (match down.2 with
        | none => ended
        | some old => ended.handOn old, .done)
    else (s, .stallTaken)
  else (s, .range)

/-- PARKED by the ticket's state (R46). -/
def State.parkedStep (s : State) (badge k : Nat) (slotFree : Bool) (t : Ticket) : State × Answer :=
  match t.state with
  | .parking | .restaging => s.parkStep badge k slotFree t
  | _ => (s, .state)

/-! ### KEY_REQUEST and HANDOVER (R46, R56, R69, R100) -/

/-- KEY_REQUEST by the ticket's state (R46, R69). -/
def State.keyStep (s : State) (badge : Nat) (t : Ticket) : State × Answer :=
  match t.state with
  | .restaging | .fetching => s.requestKey t badge
  | _ => (s, .state)

/-- HANDOVER by a holder: an AT_CURB ticket closes and its task ends (R56, R100). -/
def State.handoverHeld (s : State) (badge : Nat) (slotFree : Bool) (t : Ticket) : State × Answer :=
  if t.state = .atCurb then (((s.closeTicket t).setLevel badge 0).endTask badge t.number slotFree, .done)
  else (s, .state)

/-- HANDOVER of an AT_CURB ticket without a task, from a runner on duty: it closes, and the runner's state and task stay
(R56). -/
def State.handoverFree (s : State) (badge n : Nat) : State × Answer :=
  match s.ticket n with
  | none => (s, .notHolder)
  | some t =>
    if t.state = .atCurb ∧ s.task n = none ∧ (s.runner badge).onDuty = true then
      ((s.closeTicket t).setLevel badge 0, .done)
    else (s, .notHolder)

/-- HANDOVER (R46, R56). -/
def State.takeHandover (s : State) (badge n : Nat) (slotFree : Bool) : State × Answer :=
  if s.holdsTask badge n then s.heldStep badge n (s.handoverHeld badge slotFree) else s.handoverFree badge n

/-! ### The commands -/

/-- RUNNER_STATUS asking READY (R85). -/
def execRunnerReady (f : From) (badge level : Nat) (s : State) : Host.Outcome State Fault Refusal :=
  .next (s.runnerStatus f badge level fun s => s.askReady badge level f.source)

/-- RUNNER_STATUS asking BREAK (R85). -/
def execRunnerBreak (f : From) (badge level : Nat) (s : State) : Host.Outcome State Fault Refusal :=
  .next (s.runnerStatus f badge level fun s => s.askLeave badge level f.source .onBreak)

/-- RUNNER_STATUS asking OFF_DUTY (R85). -/
def execRunnerOffDuty (f : From) (badge level : Nat) (s : State) : Host.Outcome State Fault Refusal :=
  .next (s.runnerStatus f badge level fun s => s.askLeave badge level f.source .offDuty)

/-- RUNNER_STATUS asking POSITION (R85). -/
def execRunnerPosition (f : From) (badge level : Nat) (s : State) : Host.Outcome State Fault Refusal :=
  .next (s.runnerStatus f badge level fun s => (s.placeRunner badge level f.source, .done))

/-- TASK_ACCEPT (R94). -/
def execTaskAccept (f : From) (badge ticket : Nat) (s : State) : Host.Outcome State Fault Refusal :=
  .next (s.onFrame f fun s => s.runnerFrame f.source badge .taskAccept (some ticket) fun s => s.takeAccept badge ticket)

/-- TASK_DECLINE (R95). -/
def execTaskDecline (f : From) (badge ticket : Nat) (s : State) : Host.Outcome State Fault Refusal :=
  .next (s.onFrame f fun s => s.runnerFrame f.source badge .taskDecline (some ticket) fun s =>
    s.takeDecline badge ticket)

/-- TASK_STEP AT_LOBBY (R46, R47, R48, R52). -/
def execAtLobby (f : From) (badge ticket level : Nat) (s : State) : Host.Outcome State Fault Refusal :=
  .next (s.onFrame f fun s => s.runnerFrame f.source badge .atLobby (some ticket) fun s =>
    s.takeLobby badge ticket level)

/-- TASK_STEP DEPARTED (R46, R48, R52). -/
def execDeparted (f : From) (badge ticket : Nat) (s : State) : Host.Outcome State Fault Refusal :=
  .next (s.onFrame f fun s => s.runnerFrame f.source badge .departed (some ticket) fun s =>
    s.heldStep badge ticket (s.departedStep badge))

/-- TASK_STEP PARKED (R6, R46 to R48). -/
def execParked (f : From) (badge ticket stall : Nat) (slotFree : Bool) (s : State) :
    Host.Outcome State Fault Refusal :=
  .next (s.onFrame f fun s => s.runnerFrame f.source badge .parked (some ticket) fun s =>
    s.heldStep badge ticket (s.parkedStep badge stall slotFree))

/-- TASK_STEP KEY_REQUEST (R46, R69, R70). -/
def execKeyRequest (f : From) (badge ticket : Nat) (s : State) : Host.Outcome State Fault Refusal :=
  .next (s.onFrame f fun s => s.runnerFrame f.source badge .keyRequest (some ticket) fun s =>
    s.heldStep badge ticket (s.keyStep badge))

/-- TASK_STEP HANDOVER (R46, R56). -/
def execHandover (f : From) (badge ticket : Nat) (slotFree : Bool) (s : State) : Host.Outcome State Fault Refusal :=
  .next (s.onFrame f fun s => s.runnerFrame f.source badge .handover (some ticket) fun s =>
    s.takeHandover badge ticket slotFree)

end Sys2Proof.Machine
end

