-- ==== Sys2Proof/Machine/Service.lean ====
section
/-! DEFINITION. The service requests: ARRIVE, CALL, SCHEDULE, CANCEL, GROUP_LINK and QUOTE_ASK (R40 to R45, R49, R50, R54,
R128, R132, R139). -/

namespace Sys2Proof.Machine

open Sys2Proof

/-! ### ARRIVE (R40 to R44) -/

/-- The ticket number after another, 9999 followed by 1 (R40). -/
def nextNumber (n : Nat) : Nat := if n < Config.maxTicketNumber then n + 1 else 1

/-- The first candidate from `n` that no open ticket has, among `fuel` candidates (R40). -/
def State.firstFreeNumber (s : State) : Nat → Nat → Nat
  | 0, n => n
  | fuel + 1, n => if (s.ticket n).isSome then s.firstFreeNumber fuel (nextNumber n) else n

/-- The ticket number the issue counter gives; it is found within 513 candidates (R40). -/
def State.issued (s : State) : Nat := s.firstFreeNumber (Config.maxTickets + 1) s.issue

/-- A new ticket's record (R44). Its state is written by the placement that follows. -/
def newTicket (n : Nat) (q : ArriveRequest) (now : SiteTime) : Ticket :=
  { number := n, state := .unplaced, plate := q.plate, size := q.size, charger := q.charger, stay := q.stay
    tier := q.tier, stall := none, target := none, restageWanted := false, hook := none, group := none
    runner := none, lift := none, lane := none, laneRequest := none, turnbacks := 0, arrived := now
    parkedAt := none, calledAt := none, atCurbAt := none, promise := none, callPending := false, backlog := false
    verify := false, keyAlert := false, overdue := false, overduePending := false }

/-- A ticket number is issued and its record made and bound to a hook (R40, R41, R44). -/
def State.makeTicket (s : State) (n : Nat) (q : ArriveRequest) : State :=
  { s with issue := nextNumber n, tickets := s.tickets ++ [newTicket n q s.now] }.bindLowest n

/-- A new ticket that found no stall and no place in the unplaced list is removed: its hook unbound, its record freed, and
the hook, if it is VACANT, handed on (R42, R44, R66). -/
def State.removeTicket (s : State) (n : Nat) : State :=
  let freed (s : State) : State := { s with tickets := s.tickets.filter (·.number != n) }
  match (s.ticket n).bind (·.hook) with
  | none => freed s
  | some h => (freed (s.unbindHook h)).handHook h

/-- A new ticket is placed, listed or removed (R29, R32, R44). -/
def State.placeNew (s : State) (n : Nat) (now : SiteTime) : RequestResult :=
  match (s.ticket n).bind fun t => s.placement t false with
  | some (k, second) =>
    { state := (s.assign n k second now).raise .arrival n, outcome := .done, ticket := some n, members := none }
  | none =>
    if s.unplaced.length < Config.maxUnplaced then
      { state := ({ s with unplaced := s.unplaced ++ [n] }.raise .arrival n).raise .unplaced n
        outcome := .placedLater, ticket := some n, members := none }
    else { state := s.removeTicket n, outcome := .noSpace, ticket := none, members := none }

/-- An admitted ARRIVE from station `a` (R44). -/
def State.takeArrive (s : State) (a : Nat) (f : ArriveFields) : RequestResult :=
  match readArrive f with
  | none => { state := s, outcome := .range, ticket := none, members := none }
  | some q =>
    if Config.maxTickets ≤ s.tickets.length then
      { state := s.raise .tableFull a, outcome := .full, ticket := none, members := none }
    else (s.makeTicket s.issued q).placeNew s.issued s.now

/-! ### CALL (R49, R133, R134) -/

/-- A call of an open ticket, whole group or alone (R49, R133). -/
def State.takeCall (s : State) (t : Ticket) (whole : Bool) : RequestResult :=
  match whole, t.group with
  | true, some (g, place) =>
    let called := s.groupCall t g place
    { state := called.1, outcome := called.2.1, ticket := some t.number, members := some called.2.2 }
  | _, _ =>
    let called := s.callTicket t s.now
    { state := called.1, outcome := called.2, ticket := some t.number, members := none }

/-- An admitted CALL (R49). -/
def State.requestCall (s : State) (f : CallFields) : RequestResult :=
  match s.named f.ticket, f.wholeGroup.get? with
  | some t, some whole => s.takeCall t whole
  | _, _ => { state := s, outcome := .range, ticket := some f.ticket, members := none }

/-! ### The commands -/

/-- ARRIVE (R44). -/
def execArrive (f : From) (r : Wire ArriveFields) (s : State) : Host.Outcome State Fault Refusal :=
  .next (s.onFrame f fun s => s.admitService f.source .arrive r (fun _ => none) fun x s => s.takeArrive f.source x)

/-- CALL (R49, R50, R133). -/
def execCall (f : From) (r : Wire CallFields) (s : State) : Host.Outcome State Fault Refusal :=
  .next (s.onFrame f fun s => s.admitService f.source .call r (some ·.ticket) fun x s => s.requestCall x)

/-- SCHEDULE (R128): the times are judged with the ticket number. -/
def execSchedule (f : From) (r : Wire ScheduleFields) (s : State) : Host.Outcome State Fault Refusal :=
  .next (s.onFrame f fun s => s.admitService f.source .schedule r (some ·.ticket) fun x s =>
    s.serveTicket x.ticket fun t =>
      match readSchedule s.now x.day x.tenth with
      | none => (s, .range)
      | some time => s.scheduleTicket t time)

/-- CANCEL (R54). -/
def execCancel (f : From) (r : Wire Nat) (s : State) : Host.Outcome State Fault Refusal :=
  .next (s.onFrame f fun s => s.admitService f.source .cancel r some fun n s => s.serveTicket n s.cancelTicket)

/-- GROUP_LINK (R132). -/
def execGroupLink (f : From) (r : Wire GroupFields) (s : State) : Host.Outcome State Fault Refusal :=
  .next (s.onFrame f fun s => s.admitService f.source .groupLink r (some ·.ticket) fun x s =>
    s.serveTicket x.ticket fun t => if x.group ≤ 63 then s.linkGroup t x.group else (s, .range))

/-- QUOTE_ASK (R139): it changes nothing but the reply slot. -/
def execQuoteAsk (f : From) (r : Wire Nat) (s : State) : Host.Outcome State Fault Refusal :=
  .next (s.onFrame f fun s => s.admitService f.source .quoteAsk r some fun n s => s.serveTicket n fun _ => (s, .done))

end Sys2Proof.Machine
end

