-- ==== Sys2Proof/Machine/TimeSteps.lean ====
section
/-! DEFINITION. The steps of the controller's own: the scan, the time base, deadlines, expiries, the event unit, and
power (R16, R58, R71, R74, R77, R96, R122, R130, R166, R170 to R172, R180, R181, R184, R200, R201). -/

namespace Sys2Proof.Machine

open Sys2Proof

/-- A scan cycle begins (R74). -/
def execScanCycle (s : State) : Host.Outcome State Fault Refusal := .next (s.powered State.beginCycle)

/-- The exchange with the selected panel is complete (R75 to R79). -/
def execPanelSample (x : PanelExchange) (s : State) : Host.Outcome State Fault Refusal :=
  .next (s.powered fun s => s.completeExchange x)

/-- The time base advances by one tenth. Through a loss of main power the battery keeps the site clock alone running
(R166, R180). -/
def execClockTick (s : State) : Host.Outcome State Fault Refusal :=
  .next (if s.power.main then s.tick else s.putClock (s.now.plus 1))

/-- A stall's confirm deadline, once reached, is taken (R16). -/
def execConfirmDeadline (stall : Nat) (s : State) : Host.Outcome State Fault Refusal :=
  .next (s.powered fun s => s.confirmReached stall)

/-- A hook's release deadline, once reached, is taken (R71). -/
def execReleaseDeadline (hook : Nat) (s : State) : Host.Outcome State Fault Refusal :=
  .next (s.powered fun s => s.releaseReached hook)

/-- A runner's offer deadline, once reached, is taken (R96). -/
def execOfferDeadline (badge : Nat) (s : State) : Host.Outcome State Fault Refusal :=
  .next (s.powered fun s => s.offerReached badge)

/-- A lane's clearing deadline, once reached, is taken (R122). -/
def execClearingDeadline (lane : Nat) (s : State) : Host.Outcome State Fault Refusal :=
  .next (s.powered fun s => s.clearingReached lane)

/-- A ticket's overdue deadline, once reached, is taken (R58). -/
def execOverdueDeadline (ticket : Nat) (s : State) : Host.Outcome State Fault Refusal :=
  .next (s.powered fun s => s.overdueReached ticket)

/-- The first schedule entry whose release time is reached is released (R130). -/
def execScheduleRelease (s : State) : Host.Outcome State Fault Refusal :=
  .next (s.powered State.releaseReachedEntry)

/-- A channel in a mode whose last step is due expires (R166). -/
def State.takeExpiry (s : State) (k : Nat) (mode : TimerMode) : State :=
  if (s.channel k).mode = mode then s.takeDue k else s

/-- An INTERVAL channel's step brings its counter to 0 (R170). -/
def execIntervalExpiry (channel : Nat) (s : State) : Host.Outcome State Fault Refusal :=
  .next (s.powered fun s => s.takeExpiry channel .interval)

/-- A DELAY channel's step brings its counter to 0 (R171). -/
def execDelayExpiry (channel : Nat) (s : State) : Host.Outcome State Fault Refusal :=
  .next (s.powered fun s => s.takeExpiry channel .delay)

/-- A WINDOW channel's step brings its counter to 0 (R172). -/
def execWindowExpiry (channel : Nat) (s : State) : Host.Outcome State Fault Refusal :=
  .next (s.powered fun s => s.takeExpiry channel .window)

/-- A DELAY channel's pulse end is reached (R171). -/
def execPulseEnd (channel : Nat) (s : State) : Host.Outcome State Fault Refusal :=
  .next (s.powered fun s => s.pulseReached channel)

/-- The event unit takes the next reported event (R184). -/
def execEventTaken (s : State) : Host.Outcome State Fault Refusal := .next (s.powered State.takeNextEvent)

/-- Main power returns (R201). -/
def execPowerOn (strap : Fin 16) (s : State) : Host.Outcome State Fault Refusal := .next (s.powerUp strap)

/-- Main power is lost; the retained memory holds the state as it stands (R200). -/
def execPowerLoss (s : State) : Host.Outcome State Fault Refusal := .next { s with power.main := false }

/-- The battery supply falls below its holding level: recorded while main power is off (R200). -/
def execBatteryDropout (s : State) : Host.Outcome State Fault Refusal :=
  .next (if s.power.main then s else { s with power.dropout := true })

end Sys2Proof.Machine
end

