-- ==== Sys2Proof/Machine/Dispatch.lean ====
section
/-! DEFINITION. One arm per command, each one call of its meaning. -/

namespace Sys2Proof.Machine

open Sys2Proof

def exec (i : Instr) (s : State) : Host.Outcome State Fault Refusal :=
  match i with
  | .arrive f r => Sys2Proof.Machine.execArrive f r s
  | .call f r => Sys2Proof.Machine.execCall f r s
  | .schedule f r => Sys2Proof.Machine.execSchedule f r s
  | .cancel f r => Sys2Proof.Machine.execCancel f r s
  | .groupLink f r => Sys2Proof.Machine.execGroupLink f r s
  | .quoteAsk f r => Sys2Proof.Machine.execQuoteAsk f r s
  | .runnerReady f badge level => Sys2Proof.Machine.execRunnerReady f badge level s
  | .runnerBreak f badge level => Sys2Proof.Machine.execRunnerBreak f badge level s
  | .runnerOffDuty f badge level => Sys2Proof.Machine.execRunnerOffDuty f badge level s
  | .runnerPosition f badge level => Sys2Proof.Machine.execRunnerPosition f badge level s
  | .taskAccept f badge ticket => Sys2Proof.Machine.execTaskAccept f badge ticket s
  | .taskDecline f badge ticket => Sys2Proof.Machine.execTaskDecline f badge ticket s
  | .atLobby f badge ticket level => Sys2Proof.Machine.execAtLobby f badge ticket level s
  | .departed f badge ticket => Sys2Proof.Machine.execDeparted f badge ticket s
  | .parked f badge ticket stall slotFree => Sys2Proof.Machine.execParked f badge ticket stall slotFree s
  | .keyRequest f badge ticket => Sys2Proof.Machine.execKeyRequest f badge ticket s
  | .handover f badge ticket slotFree => Sys2Proof.Machine.execHandover f badge ticket slotFree s
  | .liftIdleReport f level => Sys2Proof.Machine.execLiftIdleReport f level s
  | .liftLoadedReport f level => Sys2Proof.Machine.execLiftLoadedReport f level s
  | .liftArrivedReport f level => Sys2Proof.Machine.execLiftArrivedReport f level s
  | .liftUnloadedReport f level => Sys2Proof.Machine.execLiftUnloadedReport f level s
  | .liftObstructedReport f level => Sys2Proof.Machine.execLiftObstructedReport f level s
  | .liftFaultReport f level => Sys2Proof.Machine.execLiftFaultReport f level s
  | .laneOccupiedReport f => Sys2Proof.Machine.execLaneOccupiedReport f s
  | .laneClearReport f => Sys2Proof.Machine.execLaneClearReport f s
  | .zoneOccupancy f r => Sys2Proof.Machine.execZoneOccupancy f r s
  | .loadStation f r => Sys2Proof.Machine.execLoadStation f r s
  | .loadStall f r => Sys2Proof.Machine.execLoadStall f r s
  | .loadParams f r => Sys2Proof.Machine.execLoadParams f r s
  | .loadPassRule f r => Sys2Proof.Machine.execLoadPassRule f r s
  | .loadRoute f r => Sys2Proof.Machine.execLoadRoute f r s
  | .loadTimer f r => Sys2Proof.Machine.execLoadTimer f r s
  | .loadMasks f r => Sys2Proof.Machine.execLoadMasks f r s
  | .setStallService f r => Sys2Proof.Machine.execSetStallService f r s
  | .setClock f r => Sys2Proof.Machine.execSetClock f r s
  | .startTimer f r => Sys2Proof.Machine.execStartTimer f r s
  | .stopTimer f r => Sys2Proof.Machine.execStopTimer f r s
  | .readTicket f r => Sys2Proof.Machine.execReadTicket f r s
  | .readStall f r => Sys2Proof.Machine.execReadStall f r s
  | .readHook f r => Sys2Proof.Machine.execReadHook f r s
  | .readRunner f r => Sys2Proof.Machine.execReadRunner f r s
  | .readCounts f r => Sys2Proof.Machine.execReadCounts f r s
  | .readFlags f => Sys2Proof.Machine.execReadFlags f s
  | .readLatch f r => Sys2Proof.Machine.execReadLatch f r s
  | .readEstimates f => Sys2Proof.Machine.execReadEstimates f s
  | .clearFlags f r => Sys2Proof.Machine.execClearFlags f r s
  | .rebindHook f r => Sys2Proof.Machine.execRebindHook f r s
  | .restage f r => Sys2Proof.Machine.execRestage f r s
  | .forceClose f r => Sys2Proof.Machine.execForceClose f r s
  | .restart f strap => Sys2Proof.Machine.execRestart f strap s
  | .manageUnknownKind f code => Sys2Proof.Machine.execManageUnknownKind f code s
  | .unhandledKind f u => Sys2Proof.Machine.execUnhandledKind f u s
  | .routeFrame p fr zone => Sys2Proof.Machine.execRouteFrame p fr zone s
  | .poll p => Sys2Proof.Machine.execPoll p s
  | .idle f => Sys2Proof.Machine.execIdle f s
  | .badAnswer p rx => Sys2Proof.Machine.execBadAnswer p rx s
  | .pollTimeout p => Sys2Proof.Machine.execPollTimeout p s
  | .strayFrame p rx => Sys2Proof.Machine.execStrayFrame p rx s
  | .transmitOpportunity p => Sys2Proof.Machine.execTransmitOpportunity p s
  | .scanCycle => Sys2Proof.Machine.execScanCycle s
  | .panelSample x => Sys2Proof.Machine.execPanelSample x s
  | .clockTick => Sys2Proof.Machine.execClockTick s
  | .confirmDeadline stall => Sys2Proof.Machine.execConfirmDeadline stall s
  | .releaseDeadline hook => Sys2Proof.Machine.execReleaseDeadline hook s
  | .offerDeadline badge => Sys2Proof.Machine.execOfferDeadline badge s
  | .clearingDeadline lane => Sys2Proof.Machine.execClearingDeadline lane s
  | .overdueDeadline ticket => Sys2Proof.Machine.execOverdueDeadline ticket s
  | .scheduleRelease => Sys2Proof.Machine.execScheduleRelease s
  | .intervalExpiry channel => Sys2Proof.Machine.execIntervalExpiry channel s
  | .delayExpiry channel => Sys2Proof.Machine.execDelayExpiry channel s
  | .windowExpiry channel => Sys2Proof.Machine.execWindowExpiry channel s
  | .pulseEnd channel => Sys2Proof.Machine.execPulseEnd channel s
  | .eventTaken => Sys2Proof.Machine.execEventTaken s
  | .powerOn strap => Sys2Proof.Machine.execPowerOn strap s
  | .powerLoss => Sys2Proof.Machine.execPowerLoss s
  | .batteryDropout => Sys2Proof.Machine.execBatteryDropout s
  | .destination61Or62 f destination => Sys2Proof.Machine.execDestination61Or62 f destination s

end Sys2Proof.Machine
end

