-- ==== Sys2Proof/Machine/Step.lean ====
section
/-! DEFINITION. One step of the controller: the command at the front of the queue is taken whole. -/

namespace Sys2Proof.Machine

open Sys2Proof

/-- One step: the command that has waited longest leaves the queue and acts; with none waiting the controller idles (log
entry 3). -/
def step (s : State) : Host.Outcome State Fault Refusal :=
  match s.pending with
  | [] => .next s
  | c :: rest => exec c { s with pending := rest }

/-- The state with the command that a word spells put at the front of the queue; no command is spelled by bits, so the
state is unchanged (log entry 4). -/
def State.withFetchWord (s : State) (nbits w : Nat) : State :=
  match decodeTableWord nbits w with
  | none => s
  | some c => { s with pending := c :: s.pending }

end Sys2Proof.Machine
end

