-- ==== Sys2Proof/Safety.lean ====
section
/-! DEFINITION. The terms in which statements about the controller are made: how a station comes to be heard, what it may
ask, and what holds in every state a run reaches. -/

namespace Sys2Proof.Machine

open Sys2Proof

/-! ### Being heard -/

/-- Main power is on, the port waits for this source's answer to its poll, and the station is PRESENT (R153, R155). -/
abbrev State.Hears (s : State) (f : From) : Prop :=
  s.power.main = true ∧ (s.port f.port).phase = .window f.source ∧ (s.station f.source).presence = .present

/-- The state in which a PRESENT station's frame is taken: the poll exchange has ended and the silent count is 0
(R153, R155). -/
def State.heard (s : State) (f : From) : State :=
  (s.setPort f.port { s.port f.port with phase := .opportunity }).setStation f.source
    { s.station f.source with silent := 0 }

/-- A PODIUM or DESK station with the SERVICE permission is heard (R43). -/
abbrev State.Serves (s : State) (f : From) : Prop :=
  s.Hears f ∧ (s.classOf f.source = .podium ∨ s.classOf f.source = .desk)
    ∧ (s.permissionsOf f.source).service = true

/-- A DESK station with the MANAGE permission is heard (R195). -/
abbrev State.Manages (s : State) (f : From) : Prop :=
  s.Hears f ∧ s.classOf f.source = .desk ∧ (s.permissionsOf f.source).manage = true

/-- A RUNNER_BASE station is heard with a frame for a badge 1 to 32 (R85, R99). -/
abbrev State.Carries (s : State) (f : From) (badge : Nat) : Prop :=
  s.Hears f ∧ s.classOf f.source = .runnerBase ∧ 1 ≤ badge ∧ badge ≤ Config.runnerCount

/-- A LIFT station that serves lift `l` is heard (R106). -/
abbrev State.LiftSpeaks (s : State) (f : From) (l : Nat) : Prop :=
  s.Hears f ∧ s.classOf f.source = .lift ∧ (s.station f.source).served = some (.lift l)
    ∧ 1 ≤ l ∧ l ≤ Config.liftCount

/-- A LANE_LOOP station that serves lane `n` is heard (R120). -/
abbrev State.LaneSpeaks (s : State) (f : From) (n : Nat) : Prop :=
  s.Hears f ∧ s.classOf f.source = .laneLoop ∧ (s.station f.source).served = some (.lane n)
    ∧ 1 ≤ n ∧ n ≤ Config.laneCount

/-- A TASKED runner holds the task of an open ticket, and its base is heard (R46). -/
abbrev State.Holds (s : State) (f : From) (badge : Nat) (t : Ticket) : Prop :=
  s.Carries f badge ∧ s.holdsTask badge t.number = true ∧ s.ticket t.number = some t

/-- The reply of an admitted management request that station `f.source` has sent (R195). -/
def State.replied (s : State) (f : From) (code : ManageCode) (outcome : Answer) (record : ManageRecord) (after : State) :
    State := after.oweManage f.source (s.commissioning f.source) code outcome record

/-- The record of a request's payload (R195). -/
def recordOf {α : Type} (r : Wire α) (record : α → ManageRecord) : ManageRecord :=
  match r with
  | .tooShort => .tooShort
  | .fields x => record x

/-- The sender, code and record of a command that is a management request (R195, R196). -/
def manageRequest (c : Instr) : Option (From × ManageCode × ManageRecord) :=
  match c with
  | .loadStation f r => some (f, .loadStation, recordOf r .station)
  | .loadStall f r => some (f, .loadStall, recordOf r .stall)
  | .loadParams f r => some (f, .loadParams, recordOf r .param)
  | .loadPassRule f r => some (f, .loadPassRule, recordOf r .passRule)
  | .loadRoute f r => some (f, .loadRoute, recordOf r .route)
  | .loadTimer f r => some (f, .loadTimer, recordOf r .timer)
  | .loadMasks f r => some (f, .loadMasks, recordOf r .masks)
  | .setStallService f r => some (f, .setStallService, recordOf r .stallService)
  | .setClock f r => some (f, .setClock, recordOf r .clock)
  | .startTimer f r => some (f, .startTimer, recordOf r .number)
  | .stopTimer f r => some (f, .stopTimer, recordOf r .number)
  | .readTicket f r => some (f, .readTicket, recordOf r .ticketPart)
  | .readStall f r => some (f, .readStall, recordOf r .number)
  | .readHook f r => some (f, .readHook, recordOf r .number)
  | .readRunner f r => some (f, .readRunner, recordOf r .number)
  | .readCounts f r => some (f, .readCounts, recordOf r .number)
  | .readLatch f r => some (f, .readLatch, recordOf r .number)
  | .clearFlags f r => some (f, .clearFlags, recordOf r .marks)
  | .rebindHook f r => some (f, .rebindHook, recordOf r .rebind)
  | .restage f r => some (f, .restage, recordOf r .restage)
  | .forceClose f r => some (f, .forceClose, recordOf r .number)
  | .readFlags f => some (f, .readFlags, .empty)
  | .readEstimates f => some (f, .readEstimates, .empty)
  | .restart f _ => some (f, .restart, .empty)
  | .manageUnknownKind f code => some (f, .unknown code, .empty)
  | .arrive _ _ | .call _ _ | .schedule _ _ | .cancel _ _ | .groupLink _ _ | .quoteAsk _ _ | .runnerReady _ _ _
  | .runnerBreak _ _ _ | .runnerOffDuty _ _ _ | .runnerPosition _ _ _ | .taskAccept _ _ _ | .taskDecline _ _ _
  | .atLobby _ _ _ _ | .departed _ _ _ | .parked _ _ _ _ _ | .keyRequest _ _ _ | .handover _ _ _ _
  | .liftIdleReport _ _ | .liftLoadedReport _ _ | .liftArrivedReport _ _ | .liftUnloadedReport _ _
  | .liftObstructedReport _ _ | .liftFaultReport _ _ | .laneOccupiedReport _ | .laneClearReport _
  | .zoneOccupancy _ _ | .unhandledKind _ _ | .routeFrame _ _ _ | .poll _ | .idle _ | .badAnswer _ _
  | .pollTimeout _ | .strayFrame _ _ | .transmitOpportunity _ | .scanCycle | .panelSample _ | .clockTick
  | .confirmDeadline _ | .releaseDeadline _ | .offerDeadline _ | .clearingDeadline _ | .overdueDeadline _
  | .scheduleRelease | .intervalExpiry _ | .delayExpiry _ | .windowExpiry _ | .pulseEnd _ | .eventTaken
  | .powerOn _ | .powerLoss | .batteryDropout | .destination61Or62 _ _ => none

/-! ### What holds in every state -/

/-- The number of stalls of a size class in FREE (R9). -/
def State.freeNumber (s : State) (c : SizeClass) : Nat :=
  s.stalls.records.toList.countP fun r => r.state == .free && r.site.map (·.size) == some c

/-- For each size class, the free count is the number of stalls of that class in FREE (R9). -/
abbrev State.FreeCountsRight (s : State) : Prop :=
  s.stalls.free.compact = s.freeNumber .compact ∧ s.stalls.free.standard = s.freeNumber .standard
    ∧ s.stalls.free.large = s.freeNumber .large ∧ s.stalls.free.oversize = s.freeNumber .oversize

/-- The collections stay within their sizes: the open tickets (R38, R44), the unplaced list (R31), and both
forwarded-frame queues (R160). -/
abbrev State.WithinSizes (s : State) : Prop :=
  s.tickets.length ≤ Config.maxTickets ∧ s.unplaced.length ≤ Config.maxUnplaced
    ∧ s.links.curb.forwarded.length ≤ Config.maxForwarded ∧ s.links.deck.forwarded.length ≤ Config.maxForwarded

/-- An estimate is a whole number of seconds 1 to 900 (R140). -/
def estimateFits (n : Nat) : Bool := 1 ≤ n && n ≤ 900

/-- The kept numbers stay within their ranges: the site clock (R180), the issue counter (R40), the estimates (R140),
every station's silent count (R150), and every panel's counts (R65). -/
abbrev State.InRanges (s : State) : Prop :=
  (s.now.day < Config.dayCount ∧ s.now.tenth < Config.dayTenths)
    ∧ (1 ≤ s.issue ∧ s.issue ≤ Config.maxTicketNumber)
    ∧ (s.calls.estimates.liftCycle.toList.all estimateFits = true ∧ estimateFits s.calls.estimates.taskMean = true
        ∧ estimateFits s.calls.estimates.laneDrive = true)
    ∧ s.links.stations.toList.all (·.silent ≤ 3) = true
    ∧ s.keys.panels.toList.all (fun r => r.bad ≤ 3 && r.good ≤ 2) = true

/-- The places held in the ring of group `g` (R131). -/
def State.placesOf (s : State) (g : Nat) : List Nat :=
  s.tickets.filterMap fun t =>
    match t.group with
    | some (g', place) => if g' = g then some place else none
    | none => none

/-- No two open tickets have one number (R38, R40), and each group is a ring of at most four tickets whose places are 1
to their number, each held once (R131). -/
abbrev State.GroupsRight (s : State) : Prop :=
  (s.tickets.map (·.number)).Nodup ∧ (∀ t ∈ s.tickets, ∀ g place, t.group = some (g, place) → 1 ≤ g ∧ g ≤ 63)
    ∧ ∀ g, (s.placesOf g).Nodup ∧ (s.placesOf g).length ≤ 4
      ∧ ∀ place ∈ s.placesOf g, 1 ≤ place ∧ place ≤ (s.placesOf g).length

/-- A channel in mode OFF is STOPPED, and the counter is 0 while STOPPED or ARMED (R165). A STOPPED channel has its drive
NEGATED and no pulse end (R169); no period of its clock runs and no step is due. -/
def Channel.atRest (c : Channel) : Bool :=
  (c.mode != .off || c.state == .stopped) && (c.state == .counting || c.counter == 0)
    && (c.state != .stopped || (!c.drive && c.pulseEnd.isNone && c.elapsed == 0 && !c.due))

/-- Every channel is as R165 and R169 say of OFF, STOPPED and ARMED. -/
abbrev State.ChannelsRight (s : State) : Prop := s.timers.toList.all Channel.atRest = true

/-- Every number parameter lies in its range (R198). -/
structure Params.Right (p : Params) : Prop where
  levelTime : 1 ≤ p.levelTime ∧ p.levelTime ≤ 30
  stayTarget : ∀ i, nth p.stayTarget i 0 ≤ 465
  stayWeight : ∀ i, nth p.stayWeight i 0 ≤ 7
  penalties : p.sizePenalty ≤ 63 ∧ p.chargerPenalty ≤ 255 ∧ p.liftLoadPenalty ≤ 63
  reserve : ∀ c, p.reserve.get c ≤ 63
  parkSkip : p.parkSkip ≤ 3
  clearanceTime : 10 ≤ p.clearanceTime ∧ p.clearanceTime ≤ 120
  curbHold : 1 ≤ p.curbHold ∧ p.curbHold ≤ 30
  confirmWindow : 10 ≤ p.confirmWindow ∧ p.confirmWindow ≤ 600
  acceptWindow : 10 ≤ p.acceptWindow ∧ p.acceptWindow ≤ 60
  releaseWindow : 5 ≤ p.releaseWindow ∧ p.releaseWindow ≤ 120
  leadTime : p.leadTime ≤ 60
  agingStep : 30 ≤ p.agingStep ∧ p.agingStep ≤ 600
  scanInterval : 100 ≤ p.scanInterval ∧ p.scanInterval ≤ 1000
  panelCount : 1 ≤ p.panelCount ∧ p.panelCount ≤ 9

/-- A stall's static fields lie in their ranges (R1, R17, R26). -/
def StallSite.right (x : StallSite) : Bool :=
  x.level ≤ 7 && x.zone ≤ 15 && x.walk ≤ 255 && x.lift ≤ Config.liftCount && (x.lift != 0 || x.level == 0)

/-- The number parameters and the static fields of every loaded stall lie in their ranges (R1, R17, R198). -/
abbrev State.LoadsRight (s : State) : Prop :=
  s.params.Right ∧ s.stalls.records.toList.all (fun r => r.site.all StallSite.right) = true

/-- The tickets that have a tenure, once for each: the requests and the current tenures of lifts 1 to 4 (R105). -/
def State.tenureTickets (s : State) : List Nat :=
  (oneTo Config.liftCount).flatMap fun l => (s.lift l).tenures.filterMap (·.ticket)

/-- The records of the stalls, the hooks, the unplaced list, the call schedule and the lifts name exactly the open tickets
that name them (R2, R3, R31, R38, R64, R107, R127). -/
structure State.RecordsRight (s : State) : Prop where
  /-- No two open tickets have one number (R38, R40). -/
  numbers : (s.tickets.map (·.number)).Nodup
  /-- The unplaced list holds each UNPLACED ticket once and no other (R31). -/
  unplaced : s.unplaced.Nodup ∧ ∀ n, n ∈ s.unplaced ↔ (s.ticket n).map (·.state) = some .unplaced
  /-- The call schedule has one entry for each SCHEDULED ticket and no other (R127). -/
  schedule : (s.calls.schedule.map (·.ticket)).Nodup
    ∧ ∀ n, n ∈ s.calls.schedule.map (·.ticket) ↔ (s.ticket n).map (·.state) = some .scheduled
  /-- A hook names the open ticket that has it, and no ticket exactly while VACANT or FOUND (R64). -/
  hooks : ∀ h, (∀ n, (s.hook h).ticket = some n ↔ (s.ticket n).bind (·.hook) = some h)
    ∧ ((s.hook h).ticket = none ↔ (s.hook h).custody = .vacant ∨ (s.hook h).custody = .found)
  /-- A stall names a ticket exactly while HELD or OCCUPIED (R3). -/
  named : ∀ k, (s.stall k).ticket ≠ none ↔ (s.stall k).state = .held ∨ (s.stall k).state = .occupied
  /-- A stall is HELD for the ASSIGNED or PARKING ticket bound to it, or the RESTAGING one that has it as its target (R3). -/
  held : ∀ k n, s.heldFor k n = true ↔ ∃ c, s.ticket n = some c
    ∧ (c.stall = some k ∧ (c.state = .assigned ∨ c.state = .parking) ∨ c.target = some k ∧ c.state = .restaging)
  /-- A stall is OCCUPIED for the ticket bound to it in PARKED, SCHEDULED, CALLED, RESTAGING or FETCHING (R3). -/
  occupied : ∀ k n, s.occupiedBy k n = true ↔ ∃ c, s.ticket n = some c ∧ c.stall = some k
    ∧ (c.state = .parked ∨ c.state = .scheduled ∨ c.state = .called ∨ c.state = .restaging ∨ c.state = .fetching)
  /-- Only those states have a bound stall, ASSIGNED and PARKING always, and RESTAGING alone has a target (R38). -/
  bound : ∀ c ∈ s.tickets,
    (c.stall ≠ none → c.state = .assigned ∨ c.state = .parking ∨ c.state = .parked ∨ c.state = .scheduled
      ∨ c.state = .called ∨ c.state = .restaging ∨ c.state = .fetching)
    ∧ (c.state = .assigned ∨ c.state = .parking → c.stall ≠ none) ∧ (c.target ≠ none ↔ c.state = .restaging)
  /-- A ticket has at most one tenure, as the PARKING ticket on its way up or as one whose car has left its stall (R107). -/
  tenures : s.tenureTickets.Nodup ∧ ∀ n ∈ s.tenureTickets, ∃ c, s.ticket n = some c
    ∧ (c.state = .parking
      ∨ (c.state = .fetching ∨ c.state = .restaging ∨ c.state = .descending) ∧ c.stall = none)

/-! ### Starts -/

/-- What every retained start from `s` keeps and clears, whatever it hands on, for a state `t` after it: the tables of
the desk, the estimates and the clock kept, the links, channels, flags, latches, roster and lifts at their start values, and
no key RELEASED or OUT (R82, R84, R125, R140, R164, R179, R194, R200). -/
structure State.RetainedFrom (s t : State) : Prop where
  waiting : t.pending = s.pending
  params : t.params = s.params
  estimates : t.calls.estimates = s.calls.estimates
  clock : t.now = s.now
  issue : t.issue = s.issue
  masks : t.events.masks = s.events.masks
  routes : t.events.routes = s.events.routes
  passTable : t.links.passTable = s.links.passTable
  flags : ∀ k, k < Config.sourceCount → t.flag k = false
  latches : ∀ n, n < Config.latchCount → nth t.events.latches n none = none
  stations : ∀ a, 1 ≤ a → a ≤ Config.stationCount →
    (t.station a).presence = .unknown ∧ (t.station a).silent = 0 ∧ (t.station a).segment = (s.station a).segment
      ∧ (t.station a).cls = (s.station a).cls ∧ (t.station a).permissions = (s.station a).permissions
      ∧ (t.station a).served = (s.station a).served ∧ (t.station a).serviceReply = none
      ∧ (t.station a).orderMark = false ∧ (t.station a).noticeMark = false
  ports : t.links.curb = PortState.cold ∧ t.links.deck = PortState.cold
  channels : ∀ k, k < Config.channelCount → t.channel k = { (s.channel k).stop with captured := none }
  runners : ∀ b, 1 ≤ b → b ≤ Config.runnerCount → t.runner b = Runner.atStart s.now
  lifts : ∀ l, 1 ≤ l → l ≤ Config.liftCount → t.lift l = Lift.cold
  hooks : ∀ h, h < Config.hookCount → (t.hook h).custody ≠ .released ∧ (t.hook h).custody ≠ .out

/-- A retained start finds nothing to hand on: no unplaced ticket, no ticket that waits for a charger or for a hook, no
configured lane, and no release time or overdue deadline that the clock has come to (R203). -/
abbrev State.NothingHandedOn (s : State) : Prop :=
  s.unplaced = [] ∧ (∀ c ∈ s.tickets, c.restageWanted = false ∧ c.hook ≠ none ∧ s.isOverdue c = false)
    ∧ (∀ n, s.laneConfigured n = false)
    ∧ ∀ e ∈ s.calls.schedule, e.reached = false ∧ s.now.before e.release = true

/-- The stall is HELD as the restage target of a RESTAGING ticket (R20). -/
def State.HeldAsTarget (s : State) (k : Nat) : Prop :=
  (s.stall k).state = .held ∧ ∃ n c, (s.stall k).ticket = some n ∧ s.ticket n = some c ∧ c.state = .restaging ∧
    c.target = some k

/-- Stall record `k` after a retained start, unless it was a restage target: nothing sensed, no recheck due, and a confirm
window that was open runs again in full (R20). -/
def State.stallKept (s : State) (k : Nat) : Stall :=
  let confirmBy : Option Deadline :=
    (s.stall k).confirmBy.map fun _ => ⟨s.now.plusSeconds s.params.confirmWindow, false⟩
  { s.stall k with sensed := .unknown, pending := none, recheck := false, confirmBy := confirmBy }

/-- A ticket's record after a retained start at time `now`, but for its state, verify and backlog fields, which are those
of `d` (R62, R63, R82). `out` says that its hook was OUT. -/
def Ticket.kept (c d : Ticket) (now : SiteTime) (out : Bool) : Ticket :=
  { c with
    state := d.state, verify := d.verify, backlog := d.backlog, runner := none
    target := (if c.state = .restaging then none else c.target)
    callPending := c.callPending && c.state != .restaging
    lane := (if c.state = .atCurb then c.lane else none)
    laneRequest := (if d.state = .staged then some (c.laneRequest.getD now) else c.laneRequest)
    keyAlert := c.keyAlert || out }

/-- The state and verify columns of R62's table. -/
structure Ticket.MapsTo (c d : Ticket) : Prop where
  kept : (c.state = .unplaced ∨ c.state = .assigned ∨ c.state = .parked ∨ c.state = .scheduled ∨ c.state = .called ∨
    c.state = .staged ∨ c.state = .atCurb) → d.state = c.state ∧ d.verify = c.verify
  parking : c.state = .parking → d.state = .assigned ∧ d.verify = true
  restaging : c.state = .restaging → d.state = (if c.callPending then .called else .parked) ∧ d.verify = true
  fetching : c.state = .fetching → d.state = (if c.stall.isSome then .called else .staged) ∧ d.verify = true
  driven : (c.state = .descending ∨ c.state = .toCurb) → d.state = .staged ∧ d.verify = true

/-- What a retained start from `s` makes of the tickets, the stalls, the keys, the tasks, the lanes and the lists, for a
state `t` after it (R20, R62, R63, R82, R83, R104, R126, R142). -/
structure State.RetainedTables (s t : State) : Prop where
  tickets : t.tickets.length = s.tickets.length ∧ ∀ (i : Nat) (c : Ticket), s.tickets[i]? = some c →
    ∃ d : Ticket, t.tickets[i]? = some d ∧
    c.MapsTo d ∧ d = c.kept d s.now (c.hook.any fun h => (s.hook h).custody == .out) ∧
    (d.backlog = true ↔ ∃ w ∈ t.dispatch.tasks, w.ticket = d.number ∧ w.place = .backlog)
  unplaced : t.unplaced = s.unplaced
  schedule : t.calls.schedule = s.calls.schedule
  freed : ∀ k, s.HeldAsTarget k → t.stall k = { s.stallKept k with state := .free, ticket := none, confirmed := false }
  stalls : ∀ k, ¬ s.HeldAsTarget k → t.stall k = s.stallKept k
  counts : t.FreeCountsRight
  released : ∀ h, (s.hook h).custody = .released → t.hook h =
    { s.hook h with custody := .cabinet, runner := none, releaseBy := none, accepted := .unknown, pending := none }
  out : ∀ h, (s.hook h).custody = .out → t.hook h =
    { s.hook h with custody := .missing, runner := none, accepted := .unknown, pending := none }
  hooks : ∀ h, (s.hook h).custody ≠ .released → (s.hook h).custody ≠ .out → t.hook h =
    { s.hook h with accepted := .unknown, pending := none }
  panels : ∀ p, t.panel p = Panel.cold
  tasks : ∀ w, w ∈ t.dispatch.tasks → w.declined = [] ∧ ∃ d ∈ t.tickets, d.number = w.ticket ∧
    (w.kind = .park ∧ d.state = .assigned ∧ w.age = d.arrived ∨
      w.kind = .fetch ∧ d.state = .called ∧ w.age = d.calledAt.getD SiteTime.zero)
  tasked : ∀ d, d ∈ t.tickets → (d.state = .assigned ∨ d.state = .called) →
    ∃ w ∈ t.dispatch.tasks, w.ticket = d.number ∧ w.kind = (if d.state = .assigned then .park else .fetch)
  places : ∀ (i : Nat) (w : Task), t.dispatch.tasks[i]? = some w → w.place = if i < 64 then .queued else .backlog
  taskOrder : t.dispatch.tasks.Pairwise fun v w => earlier (w.age, w.ticket) (v.age, v.ticket) = false
  freeLanes : ∀ n, (∀ d ∈ t.tickets, d.state = .atCurb → d.lane ≠ some n) → t.lane n = Lane.cold
  takenLanes : ∀ n, 1 ≤ n → n ≤ Config.laneCount → (∃ d ∈ t.tickets, d.state = .atCurb ∧ d.lane = some n) →
    ∃ d ∈ t.tickets, d.state = .atCurb ∧ d.lane = some n ∧
      t.lane n = { Lane.cold with state := .occupied, ticket := some d.number } ∧
      ∀ e ∈ t.tickets, e.state = .atCurb → e.lane = some n →
        (d.atCurbAt.getD SiteTime.zero).before (e.atCurbAt.getD SiteTime.zero) = false
  board : ∀ e, e ∈ t.calls.board ↔ ∃ d ∈ t.tickets, d.state = .atCurb ∧
    e = ⟨d.number, d.atCurbAt.getD SiteTime.zero⟩
  boardOrder : t.calls.board.Pairwise fun a b => boardBefore b a = false
  events : t.events.waiting = []

/-! ### Frames of statements -/

/-- What the commands outside the clock, the event unit, the loads of tables and the starts leave as it is: the queue of
commands, the parameters, the timers, the estimates, the event unit but for the events reported, the pass table and the
forwarded frames. -/
abbrev State.KeepsSetup (s t : State) : Prop :=
  t.pending = s.pending ∧ t.params = s.params ∧ t.power = s.power ∧ t.timers = s.timers
    ∧ t.calls.estimates = s.calls.estimates ∧ t.events.clock = s.events.clock ∧ t.events.flags = s.events.flags
    ∧ t.events.masks = s.events.masks ∧ t.events.routes = s.events.routes ∧ t.events.latches = s.events.latches
    ∧ t.links.passTable = s.links.passTable ∧ t.links.strap = s.links.strap
    ∧ t.links.curb.forwarded = s.links.curb.forwarded ∧ t.links.deck.forwarded = s.links.deck.forwarded

/-- Of the ticket table at most the record of ticket `n` changes; the unplaced list and the issue counter stay. -/
abbrev State.ChangesOnlyTicket (s t : State) (n : Nat) : Prop :=
  (∀ m, m ≠ n → t.ticket m = s.ticket m) ∧ t.unplaced = s.unplaced ∧ t.issue = s.issue

/-! ### Sending -/

/-- Class `c` is the first after the class position with a servable marker on a port, and station `a` the one it serves: the
lowest address above its destination position with a servable marker, else the lowest (R162). -/
def State.ServedNext (s : State) (p : Port) (c : OwnClass) (a : Nat) : Prop :=
  (∃ before behind, classesAfter (s.port p).classPosition = before ++ c :: behind
      ∧ ∀ d ∈ before, ∀ b, s.servable p d b = false)
    ∧ 1 ≤ a ∧ a ≤ Config.stationCount ∧ s.servable p c a = true
    ∧ ((s.port p).destPositions.get c < a
          ∧ (∀ b, s.servable p c b = true → (s.port p).destPositions.get c < b → a ≤ b)
        ∨ (∀ b, s.servable p c b = true → b ≤ (s.port p).destPositions.get c ∧ a ≤ b))

/-- A management reply of DONE, built now from a slot of this code and record, carries these numbers and this content, on
whatever port and with whatever OVERRUN mark (R195). -/
def State.Answers (s : State) (code : ManageCode) (record : ManageRecord) (numbers : List Nat) (content : ManageContent) :
    Prop :=
  ∀ (a : Nat) (overrun commissioning : Bool),
    s.buildManage a { code, outcome := .done, record, latch := none, overrun, commissioning } =
      .manageReply a code .done overrun numbers content

/-! ### Deadlines and orders -/

/-- Nothing that the clock has reached waits to be taken: no deadline, no release time, no expiry (R166, R181). -/
abbrev State.Quiet (s : State) : Prop :=
  s.stalls.records.toList.all (fun r => !isReached r.confirmBy) = true
    ∧ s.keys.hooks.toList.all (fun r => !isReached r.releaseBy) = true
    ∧ s.dispatch.runners.toList.all (fun r => !isReached r.offerBy) = true
    ∧ s.arbiter.lanes.toList.all (fun r => !isReached r.clearingBy) = true
    ∧ s.tickets.all (fun t => !s.isOverdue t) = true
    ∧ s.calls.schedule.all (fun e => !e.reached) = true
    ∧ s.timers.toList.all (fun c => !isReached c.pulseEnd && !c.due) = true

/-- The routes that act on an event: those that match it, but for the routes of action NONE, which do nothing (R191). -/
def State.routesOf (s : State) (e : Event) : List Route :=
  s.events.routes.toList.filter fun r => r.isMatch e && r.action != .none

/-- No open ticket has a lane request (R119). -/
abbrev State.NoLaneRequest (s : State) : Prop := s.tickets.all (fun t => !t.wantsLane) = true

/-- No task waits in the dispatch queue for a runner (R88). -/
abbrev State.NoneQueued (s : State) : Prop := s.dispatch.tasks.all (fun t => t.place != .queued) = true

/-! ### Pairing (R91 to R93) -/

/-- A pairing may offer a task with this declined set to runner `b`: READY, not in the set, its base not ABSENT (R91). -/
def State.mayBeOffered (s : State) (declined : List Nat) (b : Nat) : Prop :=
  1 ≤ b ∧ b ≤ Config.runnerCount ∧ (s.runner b).state = .ready ∧ b ∉ declined
    ∧ ∀ a, (s.runner b).base = some a → (s.station a).presence ≠ .absent

/-- The start level of a task: 0 for PARK, else that of the ticket's bound stall; without one 0 for FETCH, and that of the
target for RESTAGE (R92). -/
def State.StartsAt (s : State) (w : Task) (level : Nat) : Prop :=
  w.kind = .park ∧ level = 0 ∨ w.kind ≠ .park ∧ ∃ c, s.ticket w.ticket = some c
    ∧ ((∃ k site, c.stall = some k ∧ (s.stall k).site = some site ∧ level = site.level)
      ∨ w.kind = .fetch ∧ c.stall = none ∧ level = 0
      ∨ w.kind = .restage ∧ c.stall = none
        ∧ ∃ k site, c.target = some k ∧ (s.stall k).site = some site ∧ level = site.level)

/-- Of the runners that may be offered the task, `b` is the nearest to the start level, then the one READY since the
earliest time, then the lowest badge (R92). -/
def State.NearestRunner (s : State) (declined : List Nat) (level b : Nat) : Prop :=
  s.mayBeOffered declined b ∧ ∀ d, s.mayBeOffered declined d →
    distance (s.runner b).level level < distance (s.runner d).level level
      ∨ distance (s.runner b).level level = distance (s.runner d).level level
        ∧ ((s.runner b).readySince.before (s.runner d).readySince = true
          ∨ (s.runner b).readySince = (s.runner d).readySince ∧ b ≤ d)

/-- The declined set of a task as a pairing reads it: emptied when every on-duty runner is in it (R91). -/
def State.declinedNow (s : State) (w : Task) : List Nat :=
  if (oneTo Config.runnerCount).all fun b => !(s.runner b).onDuty || w.declined.contains b then [] else w.declined

/-- A QUEUED task is OFFERED to runner `b`: the runner OFFERED with the task, an offer deadline the accept window after now,
and a TASK_OFFER owed (R87, R93). -/
def State.withOffer (s : State) (w : Task) (b : Nat) : State :=
  (s.modifyTask w.ticket fun v => { v with place := .offered b, declined := s.declinedNow w }).setRunner b
    { s.runner b with
      state := .offered, task := some (w.ticket, w.kind), owed := some (.offer w.ticket)
      offerBy := some ⟨s.now.plusSeconds s.params.acceptWindow, false⟩ }

/-- Task `v` stands before a task of this priority, age and ticket number in the order of the queue (R90). -/
def State.standsBefore (s : State) (v : Task) (priority : Nat) (age : SiteTime) (n : Nat) : Bool :=
  decide (priority < s.priority v)
    || (s.priority v == priority && (v.age.before age || (v.age == age && decide (v.ticket < n))))

/-! ### Rides and departures -/

/-- The ride that an AT_LOBBY at `level` files for a ticket (R47, R48, R52): its lift, direction, from-level and
to-level. -/
def State.LobbyRide (s : State) (c : Ticket) (level l : Nat) (d : Direction) (fromLevel toLevel : Nat) : Prop :=
  c.state = .parking ∧ d = .up ∧ fromLevel = 0
      ∧ (∃ k site, c.stall = some k ∧ (s.stall k).site = some site ∧ l = site.lift ∧ toLevel = site.level)
    ∨ c.state = .fetching ∧ c.stall = none ∧ c.lift = some l ∧ d = .down ∧ fromLevel = level ∧ toLevel = 0
    ∨ c.state = .restaging ∧ c.stall = none ∧ c.lift = some l ∧ fromLevel = level
      ∧ (∃ k site, c.target = some k ∧ (s.stall k).site = some site ∧ toLevel = site.level)
      ∧ (level < toLevel ∧ d = .up ∨ toLevel < level ∧ d = .down)

/-- From `s` to `t` runner `b`'s DEPARTED step frees the OCCUPIED stall `k` of ticket `n`, sets the runner's level, and is
answered DONE; of the rest only the ticket, the arbiter and the curb board may differ (R7, R52, R99). -/
structure State.DepartsFrom (s t : State) (b k n : Nat) (site : StallSite) : Prop where
  setup : s.KeepsSetup t
  freed : t.stall k = { s.stall k with state := .free, ticket := none, confirmed := false, confirmBy := none }
  others : ∀ j, j ≠ k → t.stall j = s.stall j
  count : t.stalls.free.get site.size = s.stalls.free.get site.size + 1
  level : (t.runner b).level = site.level
  reply : ((t.runner b).reply.map fun r => (r.outcome, r.ticket)) = some (.done, some n)
  only : s.ChangesOnlyTicket t n
  rest : t.events = s.events ∧ t.keys = s.keys ∧ t.calls.schedule = s.calls.schedule ∧ t.dispatch.tasks = s.dispatch.tasks

/-! ### Setting a car down -/

/-- Stall `j` is HELD for ticket `c`, as its bound stall while PARKING or its target while RESTAGING, and is another than
the stall `k` its car is set down in (R6). -/
def State.GivesUp (s : State) (c : Ticket) (k j : Nat) : Prop :=
  j ≠ k ∧ s.heldFor j c.number = true
    ∧ (c.state = .parking ∧ c.stall = some j ∨ c.state = .restaging ∧ c.target = some j)

/-- Stall `j` is the old stall of a RESTAGING ticket, still OCCUPIED for it, and another than the stall `k` its car is set
down in (R6). -/
def State.Leaves (s : State) (c : Ticket) (k j : Nat) : Prop :=
  j ≠ k ∧ s.occupiedBy j c.number = true ∧ c.state = .restaging ∧ c.stall = some j

/-- From `s` to `t` runner `b` sets ticket `c`'s car down in stall `k`: what becomes of the stalls, the ticket, the task and
the runner (R5 to R7, R47, R48, R51, R99, R100). -/
structure State.ParksIn (s t : State) (b k : Nat) (c : Ticket) (site : StallSite) (slotFree : Bool) : Prop where
  setup : s.KeepsSetup t
  taken : s.occupiedBy k c.number = false → t.stall k =
    { s.stall k with
      state := .occupied, ticket := some c.number, recheck := false
      confirmed := (s.stall k).confirmed || (s.stall k).sensed == .occupied
      confirmBy := if (s.stall k).confirmed || (s.stall k).sensed == .occupied then none
        else some ⟨s.now.plusSeconds s.params.confirmWindow, false⟩ }
  stays : s.occupiedBy k c.number = true → t.stall k = s.stall k
  released : ∀ j, s.GivesUp c k j → t.stall j =
    { s.stall j with state := .free, ticket := none, confirmed := false, recheck := true }
  left : ∀ j, s.Leaves c k j → t.stall j =
    { s.stall j with state := .free, ticket := none, confirmed := false, confirmBy := none }
  others : ∀ j, j ≠ k → ¬ s.GivesUp c k j → ¬ s.Leaves c k j → t.stall j = s.stall j
  counts : s.FreeCountsRight → t.FreeCountsRight
  sameCounts : (s.stall k).state ≠ .free → (∀ j, ¬ s.GivesUp c k j ∧ ¬ s.Leaves c k j) → t.stalls.free = s.stalls.free
  ticket : ∃ lift, t.ticket c.number = some { c with
      stall := some k, target := none, lift := lift, parkedAt := some s.now, runner := none, callPending := false
      state := if c.callPending then .called else .parked
      verify := false
      backlog := c.backlog || (c.callPending && decide (64 ≤ s.placesTaken))
      restageWanted := c.restageWanted && !site.charger }
    ∧ (∀ j old, s.Leaves c k j → (s.stall j).site = some old → lift = some old.lift)
    ∧ ((∀ j, ¬ s.Leaves c k j) → lift = c.lift)
  ended : c.callPending = false → t.task c.number = none
  called : c.callPending = true → ∃ w, t.task c.number = some w ∧ w.kind = .fetch ∧ w.declined = []
    ∧ w.age = c.calledAt.getD s.now
  runner : (t.runner b).level = site.level
    ∧ ((t.runner b).reply.map fun r => (r.outcome, r.ticket)) = some (.done, some c.number)
    ∧ ⟨.taskEnd, b⟩ ∈ t.events.waiting
  silent : slotFree = false → (t.runner b).state = .silent ∧ (t.runner b).task = none
  ready : slotFree = true → ((t.runner b).state = .ready ∨ (t.runner b).state = .offered)
    ∧ (t.runner b).readySince = s.now
    ∧ (c.callPending = false → (∀ v ∈ s.dispatch.tasks, v.place ≠ .queued) →
        (t.runner b).state = .ready ∧ (t.runner b).task = none)
  rest : t.keys = s.keys ∧ t.calls.schedule = s.calls.schedule
  alone : s.hasTenure c.number = false → t.arbiter = s.arbiter ∧ s.ChangesOnlyTicket t c.number

/-- A hook may be bound: VACANT, in a configured panel that is not FAULTED (R41). -/
def State.MayBind (s : State) (h : Nat) : Prop :=
  h < Config.hookCount ∧ (s.hook h).custody = .vacant ∧ h / Config.hooksPerPanel + 1 ≤ s.params.panelCount
    ∧ (s.panel (h / Config.hooksPerPanel + 1)).state ≠ .faulted

/-! ### Placement and re-placement -/

/-- A stall may be chosen for a ticket in one try of a placement (R22, R24, R25). -/
def State.mayTake (s : State) (t : Ticket) (needCharger : Bool) (k : Nat) (site : StallSite) : Prop :=
  k < Config.stallCount ∧ (s.stall k).site = some site ∧ (s.stall k).state = .free ∧ t.size.num ≤ site.size.num
    ∧ (site.lift = 0 ∨ (s.liftConfigured site.lift = true
        ∧ ((s.lift site.lift).state = .idle ∨ (s.lift site.lift).state = .busy)))
    ∧ (needCharger = true → site.charger = true)
    ∧ (t.tier = .reserved ∨ s.params.reserve.get site.size < s.stalls.free.get site.size)

/-- A stall may be chosen in one try of a re-placement: as in a placement, and the ticket's own HELD stall is judged as if
it were FREE (R22, R24, R36, R37). -/
def State.mayMoveTo (s : State) (t : Ticket) (needCharger : Bool) (k : Nat) (site : StallSite) : Prop :=
  k < Config.stallCount ∧ (s.stall k).site = some site ∧ ((s.stall k).state = .free ∨ s.heldFor k t.number = true)
    ∧ t.size.num ≤ site.size.num
    ∧ (site.lift = 0 ∨ (s.liftConfigured site.lift = true
        ∧ ((s.lift site.lift).state = .idle ∨ (s.lift site.lift).state = .busy)))
    ∧ (needCharger = true → site.charger = true)
    ∧ (t.tier = .reserved ∨ s.params.reserve.get site.size
        < s.stalls.free.get site.size + if s.heldFor k t.number then 1 else 0)

/-- A re-placement chooses stall `k`: in the first try that finds one, of the lowest cost, then the lower level, then the
lower number (R25, R28, R36, R37). `second` says that it was the second try. -/
def State.MovesTo (s : State) (t : Ticket) (k : Nat) (second : Bool) : Prop :=
  ∃ site, s.mayMoveTo t (t.charger && !second) k site
    ∧ (second = true → t.charger = true ∧ ∀ k' site', ¬ s.mayMoveTo t true k' site')
    ∧ ∀ k' site', s.mayMoveTo t (t.charger && !second) k' site' →
      s.cost t site < s.cost t site'
        ∨ (s.cost t site = s.cost t site' ∧ (site.level < site'.level ∨ (site.level = site'.level ∧ k ≤ k')))

/-- Ticket `c` is the one ASSIGNED ticket: its stall `old` alone is HELD for it, and its PARK task is not OFFERED. -/
structure State.OneAssigned (s : State) (c : Ticket) (old : Nat) : Prop where
  assigned : s.tickets.filter (·.state == .assigned) = [c]
  found : s.ticket c.number = some c
  bound : c.stall = some old
  held : old < Config.stallCount ∧ ∀ j, s.heldFor j c.number = true ↔ j = old
  notOffered : ∀ w b, s.task c.number = some w → w.place ≠ .offered b

/-- From `s` to `t` ticket `c` is re-placed from stall `old` to stall `k`: the new one HELD for it, the old one released with
recheck due; or it keeps its stall; nothing else of tickets and stalls changes (R5, R25, R36). -/
structure State.Replaced (s t : State) (c : Ticket) (old k : Nat) (second : Bool) : Prop where
  ticket : t.ticket c.number = some { c with stall := some k, restageWanted := second }
  kept : k = old → t.stalls = s.stalls
  taken : k ≠ old →
    t.stall k = { s.stall k with state := .held, ticket := some c.number, confirmed := false, recheck := false }
  released : k ≠ old →
    t.stall old = { s.stall old with state := .free, ticket := none, confirmed := false, recheck := true }
  others : ∀ j, j ≠ k → j ≠ old → t.stall j = s.stall j
  only : s.ChangesOnlyTicket t c.number
  tasks : t.dispatch = s.dispatch

/-! ### The parameter table -/

/-- Number parameter `k` of R198's table has this range, and `q` is the table `p` with its field at `n`. -/
inductive Params.NumberRow (p : Params) (n : Nat) : (k low high : Nat) → (q : Params) → Prop where
  | levelTime : p.NumberRow n 0 1 30 { p with levelTime := n }
  | stayTarget (i : Nat) (h : i < 4) : p.NumberRow n (1 + i) 0 465 { p with stayTarget := setNth p.stayTarget i n }
  | stayWeight (i : Nat) (h : i < 4) : p.NumberRow n (5 + i) 0 7 { p with stayWeight := setNth p.stayWeight i n }
  | sizePenalty : p.NumberRow n 9 0 63 { p with sizePenalty := n }
  | chargerPenalty : p.NumberRow n 10 0 255 { p with chargerPenalty := n }
  | liftLoadPenalty : p.NumberRow n 11 0 63 { p with liftLoadPenalty := n }
  | reserveCompact : p.NumberRow n 12 0 63 { p with reserve := { p.reserve with compact := n } }
  | reserveStandard : p.NumberRow n 13 0 63 { p with reserve := { p.reserve with standard := n } }
  | reserveLarge : p.NumberRow n 14 0 63 { p with reserve := { p.reserve with large := n } }
  | reserveOversize : p.NumberRow n 15 0 63 { p with reserve := { p.reserve with oversize := n } }
  | parkSkip : p.NumberRow n 16 0 3 { p with parkSkip := n }
  | clearanceTime : p.NumberRow n 17 10 120 { p with clearanceTime := n }
  | curbHold : p.NumberRow n 18 1 30 { p with curbHold := n }
  | confirmWindow : p.NumberRow n 19 10 600 { p with confirmWindow := n }
  | acceptWindow : p.NumberRow n 20 10 60 { p with acceptWindow := n }
  | releaseWindow : p.NumberRow n 21 5 120 { p with releaseWindow := n }
  | leadTime : p.NumberRow n 22 0 60 { p with leadTime := n }
  | agingStep : p.NumberRow n 23 30 600 { p with agingStep := n }
  | scanInterval : p.NumberRow n 24 100 1000 { p with scanInterval := n }
  | panelCount : p.NumberRow n 25 1 9 { p with panelCount := n }

/-- Set parameter `k` of R198's table has the members below `bound`, and `q` is the table `p` with its field at `xs`. -/
inductive Params.SetRow (p : Params) (xs : List Nat) : (k bound : Nat) → (q : Params) → Prop where
  | servedLevels (l : Nat) (h : 1 ≤ l ∧ l ≤ 4) :
      p.SetRow xs (25 + l) 8 { p with servedLevels := setNth1 p.servedLevels l xs }
  | preferredLifts (n : Nat) (h : 1 ≤ n ∧ n ≤ 6) :
      p.SetRow xs (29 + n) 5 { p with preferredLifts := setNth1 p.preferredLifts n xs }

/-- Flag parameter `k` of R198's table, and `q` is the table `p` with its field at `b`. -/
inductive Params.FlagRow (p : Params) (b : Bool) : (k : Nat) → (q : Params) → Prop where
  | lift (l : Nat) (h : 1 ≤ l ∧ l ≤ 4) : p.FlagRow b (35 + l) { p with liftConfigured := setNth1 p.liftConfigured l b }
  | lane (n : Nat) (h : 1 ≤ n ∧ n ≤ 6) : p.FlagRow b (39 + n) { p with laneConfigured := setNth1 p.laneConfigured n b }

/-! ### Setups of a timer -/

/-- The cases in which LOAD_TIMER is refused with RANGE, in the order of R167's list. -/
inductive State.TimerRefused (s : State) (x : TimerFields) : Prop where
  | channel (h : 8 ≤ x.channel)
  | outsideSet (h : x.mode = .outside ∨ x.clock = .outside ∨ x.output = .outside ∨ x.target = .outside)
  | sourceAbsent (h : x.clock = .value .event) (h' : x.clockSource = none)
  | sourceRange (k : Nat) (h : x.clock = .value .event) (h' : x.clockSource = some k) (h'' : 30 ≤ k)
  | sourcePresent (clock : TimerClock) (h : x.clock = .value clock) (h' : clock ≠ .event) (h'' : x.clockSource ≠ none)
  | masterAbsent (h : x.mode = .value .window) (h' : x.master = none)
  | masterItself (h : x.mode = .value .window) (h' : x.master = some x.channel)
  | masterMode (m : Nat) (h : x.mode = .value .window) (h' : x.master = some m)
      (h'' : 8 ≤ m ∨ (s.channel m).mode ≠ .interval ∧ (s.channel m).mode ≠ .delay)
  | masterPresent (mode : TimerMode) (h : x.mode = .value mode) (h' : mode ≠ .window) (h'' : x.master ≠ none)
  | target (t : CaptureTarget) (h : x.target = .value t) (h' : t ≠ .none)
      (h'' : x.mode ≠ .value .capture ∨ x.clock = .value .event)
  | countsEventChannel (j : Nat) (h : x.clock = .value .event) (hj : j < 8) (h' : x.clockSource = some (22 + j))
      (h'' : j = x.channel ∨ (s.channel j).clock = .event)
  | countedByEventChannel (j : Nat) (h : x.clock = .value .event) (hj : j < 8) (h' : j ≠ x.channel)
      (h'' : (s.channel j).clock = .event) (h''' : (s.channel j).clockSource = some (22 + x.channel))
  | isMaster (mode : TimerMode) (j : Nat) (h : x.mode = .value mode) (h' : mode ≠ .interval ∧ mode ≠ .delay) (hj : j < 8)
      (hne : j ≠ x.channel) (h'' : (s.channel j).mode = .window) (h''' : (s.channel j).master = some x.channel)

end Sys2Proof.Machine
end

