-- ==== Sys2Proof/WellFormed.lean ====
section
/-! DEFINITION. The operands a command can carry: numbers that fit the fields of a frame, and the objects the controller's
own steps name. A request's numbers outside their stated sets are well-formed: the request is refused (R43, R196). -/

namespace Sys2Proof

/-- The source of a good frame is at most 60 (R147). -/
def From.wellFormed (f : From) : Bool := f.source ≤ Config.stationCount

/-- A number of one byte. -/
def byteFits (n : Nat) : Bool := n < 256

/-- A number of two bytes. -/
def wordFits (n : Nat) : Bool := n < 65536

/-- A site time's tenth needs three bytes. -/
def tenthFits (n : Nat) : Bool := n < 16777216

/-- What holds of a payload's fields when there are any. -/
def Wire.holds {α : Type} (r : Wire α) (p : α → Bool) : Bool :=
  match r with
  | .tooShort => true
  | .fields x => p x

/-- A plate tag fits the payload (R147). -/
def plateCarried (p : Option (List Byte)) : Bool :=
  match p with
  | none => true
  | some cs => cs.length ≤ Config.maxPayload

/-- A report's first stall and marks fit their fields (R10). -/
def ZoneReport.wellFormed (r : ZoneReport) : Bool := wordFits r.first && byteFits r.marks.length

/-- A kind that a block takes, or that is presence alone, when a station sends it to the controller (R149). -/
def kindTaken (k : Byte) : Bool := Machine.frameKinds.any fun x => x.value == k && x.taker.isSome

/-- A kind of a runner base, a lift, a lane loop or a sensor hub (R149): a payload that does not hold its fields owes no
reply (log entry 34). -/
def FrameKind.fromField (k : FrameKind) : Bool :=
  k.taker == some .dispatchUnit || k.taker == some .tenureArbiter || k.taker == some .stallMap

/-- The operand of UNHANDLED_KIND names a kind without a block, or a frame of its fields (R149). A service request with a
payload too short is its own command with `tooShort` (R43), and so is a management request (R195); a MANAGE_REQUEST whose
payload is empty is MANAGE_UNKNOWN_KIND without a code, the model's choice (log entry 56). -/
def Unhandled.wellFormed : Unhandled → Bool
  | .kind k => !kindTaken k
  | .statusRequest badge level => byteFits badge && byteFits level
  | .stepKind badge ticket => byteFits badge && wordFits ticket
  | .liftReport => true
  | .laneReport => true
  | .badPayload k => k.fromField

/-- A runner's frame: its source, badge and ticket fit their fields. -/
def stepFits (f : From) (badge ticket : Nat) : Bool := f.wellFormed && byteFits badge && wordFits ticket

/-- Where a command that a station sends comes from. -/
def Instr.sender : Instr → Option From
  | .arrive f _ => some f
  | .call f _ => some f
  | .schedule f _ => some f
  | .cancel f _ => some f
  | .groupLink f _ => some f
  | .quoteAsk f _ => some f
  | .runnerReady f _ _ => some f
  | .runnerBreak f _ _ => some f
  | .runnerOffDuty f _ _ => some f
  | .runnerPosition f _ _ => some f
  | .taskAccept f _ _ => some f
  | .taskDecline f _ _ => some f
  | .atLobby f _ _ _ => some f
  | .departed f _ _ => some f
  | .parked f _ _ _ _ => some f
  | .keyRequest f _ _ => some f
  | .handover f _ _ _ => some f
  | .liftIdleReport f _ => some f
  | .liftLoadedReport f _ => some f
  | .liftArrivedReport f _ => some f
  | .liftUnloadedReport f _ => some f
  | .liftObstructedReport f _ => some f
  | .liftFaultReport f _ => some f
  | .laneOccupiedReport f => some f
  | .laneClearReport f => some f
  | .zoneOccupancy f _ => some f
  | .loadStation f _ => some f
  | .loadStall f _ => some f
  | .loadParams f _ => some f
  | .loadPassRule f _ => some f
  | .loadRoute f _ => some f
  | .loadTimer f _ => some f
  | .loadMasks f _ => some f
  | .setStallService f _ => some f
  | .setClock f _ => some f
  | .startTimer f _ => some f
  | .stopTimer f _ => some f
  | .readTicket f _ => some f
  | .readStall f _ => some f
  | .readHook f _ => some f
  | .readRunner f _ => some f
  | .readCounts f _ => some f
  | .readFlags f => some f
  | .readLatch f _ => some f
  | .readEstimates f => some f
  | .clearFlags f _ => some f
  | .rebindHook f _ => some f
  | .restage f _ => some f
  | .forceClose f _ => some f
  | .restart f _ => some f
  | .manageUnknownKind f _ => some f
  | .unhandledKind f _ => some f
  | .routeFrame _ _ _ => none
  | .poll _ => none
  | .idle f => some f
  | .badAnswer _ _ => none
  | .pollTimeout _ => none
  | .strayFrame _ _ => none
  | .transmitOpportunity _ => none
  | .scanCycle => none
  | .panelSample _ => none
  | .clockTick => none
  | .confirmDeadline _ => none
  | .releaseDeadline _ => none
  | .offerDeadline _ => none
  | .clearingDeadline _ => none
  | .overdueDeadline _ => none
  | .scheduleRelease => none
  | .intervalExpiry _ => none
  | .delayExpiry _ => none
  | .windowExpiry _ => none
  | .pulseEnd _ => none
  | .eventTaken => none
  | .powerOn _ => none
  | .powerLoss => none
  | .batteryDropout => none
  | .destination61Or62 f _ => some f

/-- The operands of a command fit. -/
def Instr.wellFormed : Instr → Bool
  | .arrive f r => f.wellFormed && r.holds fun x => plateCarried x.plate
  | .call f r => f.wellFormed && r.holds fun x => wordFits x.ticket
  | .schedule f r => f.wellFormed && r.holds fun x => wordFits x.ticket && wordFits x.day && tenthFits x.tenth
  | .cancel f r => f.wellFormed && r.holds wordFits
  | .groupLink f r => f.wellFormed && r.holds fun x => byteFits x.group && wordFits x.ticket
  | .quoteAsk f r => f.wellFormed && r.holds wordFits
  | .runnerReady f badge level => f.wellFormed && byteFits badge && byteFits level
  | .runnerBreak f badge level => f.wellFormed && byteFits badge && byteFits level
  | .runnerOffDuty f badge level => f.wellFormed && byteFits badge && byteFits level
  | .runnerPosition f badge level => f.wellFormed && byteFits badge && byteFits level
  | .taskAccept f badge ticket => stepFits f badge ticket
  | .taskDecline f badge ticket => stepFits f badge ticket
  | .atLobby f badge ticket level => stepFits f badge ticket && byteFits level
  | .departed f badge ticket => stepFits f badge ticket
  | .parked f badge ticket stall _ => stepFits f badge ticket && wordFits stall
  | .keyRequest f badge ticket => stepFits f badge ticket
  | .handover f badge ticket _ => stepFits f badge ticket
  | .liftIdleReport f level => f.wellFormed && byteFits level
  | .liftLoadedReport f level => f.wellFormed && byteFits level
  | .liftArrivedReport f level => f.wellFormed && byteFits level
  | .liftUnloadedReport f level => f.wellFormed && byteFits level
  | .liftObstructedReport f level => f.wellFormed && byteFits level
  | .liftFaultReport f level => f.wellFormed && byteFits level
  | .laneOccupiedReport f => f.wellFormed
  | .laneClearReport f => f.wellFormed
  | .zoneOccupancy f r => f.wellFormed && r.wellFormed
  | .loadStation f r => f.wellFormed && r.holds fun x => byteFits x.address
  | .loadStall f r => f.wellFormed && r.holds fun x =>
      wordFits x.stall && byteFits x.level && byteFits x.zone && byteFits x.lift
  | .loadParams f r => f.wellFormed && r.holds fun x => byteFits x.number
  | .loadPassRule f r => f.wellFormed && r.holds fun x => byteFits x.number
  | .loadRoute f r => f.wellFormed && r.holds fun x => byteFits x.number && byteFits x.source
  | .loadTimer f r => f.wellFormed && r.holds fun x => byteFits x.channel && wordFits x.reload
  | .loadMasks f _ => f.wellFormed
  | .setStallService f r => f.wellFormed && r.holds fun x => wordFits x.stall
  | .setClock f r => f.wellFormed && r.holds fun x => wordFits x.day && tenthFits x.tenth
  | .startTimer f r => f.wellFormed && r.holds byteFits
  | .stopTimer f r => f.wellFormed && r.holds byteFits
  | .readTicket f r => f.wellFormed && r.holds fun x => wordFits x.ticket && byteFits x.part
  | .readStall f r => f.wellFormed && r.holds wordFits
  | .readHook f r => f.wellFormed && r.holds wordFits
  | .readRunner f r => f.wellFormed && r.holds byteFits
  | .readCounts f r => f.wellFormed && r.holds byteFits
  | .readFlags f => f.wellFormed
  | .readLatch f r => f.wellFormed && r.holds byteFits
  | .readEstimates f => f.wellFormed
  | .clearFlags f _ => f.wellFormed
  | .rebindHook f r => f.wellFormed && r.holds fun x => wordFits x.hook && wordFits x.ticket
  | .restage f r => f.wellFormed && r.holds fun x => wordFits x.ticket && wordFits x.target
  | .forceClose f r => f.wellFormed && r.holds wordFits
  | .restart f _ => f.wellFormed
  | .manageUnknownKind f code => f.wellFormed && code.all byteFits
  | .unhandledKind f u => f.wellFormed && u.wellFormed
  | .routeFrame _ fr zone =>
      fr.destination != 0 && fr.length.toNat ≤ Config.maxPayload && fr.payload.length == fr.length.toNat
        && (zone.isNone || fr.kind == FrameKind.zoneOccupancy.value)
  | .poll _ => true
  | .idle f => f.wellFormed
  | .badAnswer _ _ => true
  | .pollTimeout _ => true
  | .strayFrame _ _ => true
  | .transmitOpportunity _ => true
  | .scanCycle => true
  | .panelSample x => x.bits.length == Config.exchangeClocks
  | .clockTick => true
  | .confirmDeadline stall => stall < Config.stallCount
  | .releaseDeadline hook => hook < Config.hookCount
  | .offerDeadline badge => 1 ≤ badge && badge ≤ Config.runnerCount
  | .clearingDeadline lane => 1 ≤ lane && lane ≤ Config.laneCount
  | .overdueDeadline ticket => 1 ≤ ticket && ticket ≤ Config.maxTicketNumber
  | .scheduleRelease => true
  | .intervalExpiry channel => channel < Config.channelCount
  | .delayExpiry channel => channel < Config.channelCount
  | .windowExpiry channel => channel < Config.channelCount
  | .pulseEnd channel => channel < Config.channelCount
  | .eventTaken => true
  | .powerOn _ => true
  | .powerLoss => true
  | .batteryDropout => true
  | .destination61Or62 f destination => f.wellFormed && (destination == 61 || destination == 62)

end Sys2Proof
end

