-- ==== Sys2Proof/Certificates/Slice0/Obligations.lean ====
section
/-! DEFINITION. What the provers are asked to prove of the controller, one `Prop` each; OBLIGATIONS.json says which rules of
the manual each rests on. -/

section Statements

open Sys2Proof Sys2Proof.Machine

/-! ### The queue of commands, power and the starts -/

/-- A step is the command at the front of the queue, run with the rest of the queue; an empty queue idles (log entry
3). -/
def Obligations.StepTakesTheFrontCommand : Prop :=
  ∀ (c : Instr) (rest : List Instr) (s : State),
    step { s with pending := c :: rest } = exec c { s with pending := rest } ∧
      step { s with pending := [] } = .next { s with pending := [] }

/-- The values of reset, record by record (R2, R9, R31, R38, R40, R64, R65, R74, R84, R88, R105, R118, R127, R140,
R142, R150, R158, R160, R164, R165, R180, R183 to R194, R198). The model's own are the strap read as 0, every hook
locked in the cabinet, no command waiting, and that nothing stands yet in the records of what was sent on a link and put
out to a panel (log entries 1, 3, 19, 21 and 43). -/
def Obligations.ResetHoldsTheColdValues : Prop :=
  State.reset.pending = [] ∧ State.reset.power = { main := true, written := true, dropout := false } ∧
  (∀ k, k < 640 → State.reset.stall k =
    { site := none, state := .undefined, ticket := none, sensed := .unknown, pending := none, confirmed := false,
      confirmBy := none, recheck := false }) ∧
  State.reset.stalls.free = ⟨0, 0, 0, 0⟩ ∧ State.reset.unplaced = [] ∧ State.reset.tickets = [] ∧
  State.reset.issue = 1 ∧
  (∀ h, h < 576 → State.reset.hook h =
    { custody := .vacant, ticket := none, runner := none, releaseBy := none, accepted := .unknown, pending := none }) ∧
  (∀ p, 1 ≤ p → p ≤ 9 → State.reset.panel p = { state := .suspect, bad := 0, good := 0, door := .unknown } ∧
    State.reset.panelConfigured p = true ∧ nth1 State.reset.keys.latches p [] = List.replicate 64 false) ∧
  State.reset.keys.scan = { interval := 250, remaining := [], selected := none, unlock := [], out := [] } ∧
  (∀ b, 1 ≤ b → b ≤ 32 → State.reset.runner b =
    { state := .offDuty, level := 0, readySince := ⟨0, 0⟩, base := none, task := none, offerBy := none, owed := none,
      reply := none }) ∧
  State.reset.dispatch.tasks = [] ∧
  (∀ l, 1 ≤ l → l ≤ 4 → State.reset.lift l =
    { state := .unknown, parkedLevel := 0, queue := [], current := none, orderOwed := false } ∧
    State.reset.liftConfigured l = false ∧ State.reset.servedLevels l = [0, 1, 2, 3, 4, 5, 6, 7] ∧
    State.reset.stagingCount l = 0) ∧
  (∀ n, 1 ≤ n → n ≤ 6 → State.reset.lane n =
    { state := .free, ticket := none, turnbackHold := false, clearingBy := none } ∧
    State.reset.laneConfigured n = false ∧ State.reset.preferredLifts n = [0, 1, 2, 3, 4]) ∧
  State.reset.calls =
    { schedule := [], estimates := { liftCycle := #v[60, 60, 60, 60], taskMean := 120, laneDrive := 30 }, board := [] } ∧
  (∀ a, 1 ≤ a → a ≤ 60 → State.reset.station a =
    { segment := .none, cls := .other, permissions := ⟨false, false, false⟩, served := none, presence := .unknown,
      silent := 0, serviceReply := none, manageReply := none, orderMark := false, noticeMark := false,
      boardMark := false, vacancyMark := false }) ∧
  (∀ n, n < 32 → nth State.reset.links.passTable n none = none) ∧ State.reset.links.strap = 0 ∧
  (∀ p, State.reset.port p =
    { forwarded := [], pollPosition := 0, phase := .ready, classPosition := .boards,
      destPositions := ⟨0, 0, 0, 0, 0, 0⟩, line := [] }) ∧
  (∀ k, k < 8 → State.reset.channel k =
    { mode := .off, clock := .tenth, clockSource := none, reload := 1, master := none, output := .none, target := .none,
      state := .stopped, counter := 0, drive := false, pulseEnd := none, captured := none, elapsed := 0, due := false }) ∧
  State.reset.now = ⟨0, 0⟩ ∧ State.reset.events.waiting = [] ∧
  (∀ k, k < 30 → State.reset.flag k = false ∧ State.reset.maskOpen k = false) ∧
  (∀ n, n < 16 → nth State.reset.events.routes n ⟨1, some 1, .latch 1⟩ = ⟨0, none, .none⟩) ∧
  (∀ n, n < 4 → nth State.reset.events.latches n none = none) ∧
  State.reset.params =
    { levelTime := 20, stayTarget := #v[0, 180, 330, 465], stayWeight := #v[6, 3, 2, 1], sizePenalty := 40,
      chargerPenalty := 150, liftLoadPenalty := 25, reserve := ⟨0, 0, 0, 0⟩, parkSkip := 2, clearanceTime := 30,
      curbHold := 10, confirmWindow := 120, acceptWindow := 20, releaseWindow := 30, leadTime := 15, agingStep := 180,
      scanInterval := 250, panelCount := 9, servedLevels := Vector.replicate 4 [0, 1, 2, 3, 4, 5, 6, 7],
      preferredLifts := Vector.replicate 6 [0, 1, 2, 3, 4], liftConfigured := Vector.replicate 4 false,
      laneConfigured := Vector.replicate 6 false }

/-- Without main power every command but a tenth of the clock, a battery dropout and the return of power leaves the
state as it is. That is the model's reading of a controller that does not run (log entry 5). The loss of main power
keeps everything; the monitor records a dropout only while main power is off; the battery keeps the clock running
(R180, R200). -/
def Obligations.CommandsNeedMainPower : Prop :=
  (∀ (c : Instr) (s : State), s.power.main = false → c ≠ .clockTick → c ≠ .batteryDropout →
    (∀ strap, c ≠ .powerOn strap) → exec c s = .next s) ∧
  (∀ s : State,
    exec .powerLoss s = .next { s with power.main := false } ∧
    (s.power.main = false → exec .batteryDropout s = .next { s with power.dropout := true }) ∧
    (s.power.main = true → exec .batteryDropout s = .next s) ∧
    (s.power.main = false → exec .clockTick s = .next { s with events.clock := s.now.plus 1 }))

/-- A power-on with an invalid memory is a cold start: every value of the controller is the cold value, whatever it
was. The commands that wait and the latches of the cabinet are outside the controller (R201; log entry 19). A power-on
with a valid memory is a retained start: it keeps the retained records and clears the rest (R164, R179, R194, R201),
and where it has nothing to hand on, the tables are those the rules of a start give: tickets (R62, R63), stalls (R20;
the clear recheck of a freed target is log entry 36), keys (R82, R83), tasks (R104), lanes (R126) and board (R142).
RESTART from a desk with MANAGE is a retained start that keeps one reply, DONE for RESTART, with OVERRUN when the slot
held an unsent reply (R202). -/
def Obligations.StartsFollowTheMemory : Prop :=
  (∀ (s : State) (strap : Fin 16), s.power.main = false → (s.power.written = false ∨ s.power.dropout = true) →
    exec (.powerOn strap) s = .next { State.cold strap with pending := s.pending, keys.latches := s.keys.latches }) ∧
  (∀ (s : State) (strap : Fin 16), s.power.main = false → s.power.written = true → s.power.dropout = false →
    ∃ t, exec (.powerOn strap) s = .next t ∧ s.RetainedFrom t ∧ (s.NothingHandedOn → s.RetainedTables t) ∧
      t.power.main = true ∧ t.links.strap = strap ∧ ∀ a, (t.station a).manageReply = none) ∧
  (∀ (s : State) (f : From) (strap : Fin 16), s.Manages f →
    ∃ t, exec (.restart f strap) s = .next t ∧ s.RetainedFrom t ∧ (s.NothingHandedOn → s.RetainedTables t) ∧
      (t.station f.source).manageReply = some
        { code := .restart, outcome := .done, record := .empty, latch := none,
          overrun := (s.station f.source).manageReply.isSome, commissioning := s.commissioning f.source } ∧
      ∀ a, a ≠ f.source → (t.station a).manageReply = none)

/-! ### What every step keeps -/

/-- For each size class, the free count stays the number of stalls of that class in FREE, through every step (R9). -/
def Obligations.EveryStepKeepsTheFreeCounts : Prop :=
  ∀ s t : State, s.FreeCountsRight → step s = .next t → t.FreeCountsRight

/-- The open tickets, the unplaced list and both forwarded-frame queues stay within their sizes through every step
(R31, R38, R160). The clock, the issue counter, the estimates, the silent counts and the panels' counts stay in their
ranges through every step (R40, R65, R140, R150, R180). A channel in mode OFF stays STOPPED, the counter 0 while
STOPPED or ARMED, and a STOPPED channel with its drive NEGATED, no pulse end and no step due, through every step
(R165, R169). The number parameters and the stalls' static fields stay in their ranges (R1, R17, R198). -/
def Obligations.EveryStepKeepsSizesAndRanges : Prop :=
  (∀ s t : State, s.WithinSizes → step s = .next t → t.WithinSizes) ∧
  (∀ s t : State, s.InRanges → step s = .next t → t.InRanges) ∧
  (∀ s t : State, s.ChannelsRight → step s = .next t → t.ChannelsRight) ∧
  (∀ s t : State, s.LoadsRight → step s = .next t → t.LoadsRight)

/-- The issued numbers stay distinct and every group stays a ring of at most four with the places 1 to its length,
through every step: a new ticket takes a number that no open ticket has, a ticket joins in the last place, and the
members behind one that leaves move up (R38, R40, R131, R132). The records that name tickets stay in step with the open
tickets, through every step: the stalls' (R3), the unplaced list (R31), the hooks' (R64), the tenures' (R107) and the
call schedule's (R127). -/
def Obligations.EveryStepKeepsGroupsAndRecords : Prop :=
  (∀ s t : State, s.GroupsRight → step s = .next t → t.GroupsRight) ∧
  ∀ s t : State, s.RecordsRight → step s = .next t → t.RecordsRight

/-- The seven invariants hold right after reset. -/
def Obligations.ResetMeetsTheInvariants : Prop :=
  State.reset.FreeCountsRight ∧ State.reset.WithinSizes ∧ State.reset.InRanges ∧ State.reset.ChannelsRight ∧
    State.reset.LoadsRight ∧ State.reset.GroupsRight ∧ State.reset.RecordsRight

/-! ### Frames, polls and presence -/

/-- The check is the one of the manual: 29B1h for the nine characters "123456789" (R148). A received frame is judged
in the order of R147: length field above 32 or another byte count, then its check, then a source above 60, then
destinations 61 and 62. Every own frame carries source 0, its kind, the length of its payload and its check (R147,
R149; its payload bytes are free, log entry 35). The kinds have the values of the table, and a command that is the
taking of a kind is taken by a block or is presence alone (R149). -/
def Obligations.ChecksAreTheLinksOwn : Prop :=
  crc [0x31#8, 0x32#8, 0x33#8, 0x34#8, 0x35#8, 0x36#8, 0x37#8, 0x38#8, 0x39#8] = 0x29B1#16 ∧
  (∀ bs : List Byte, ¬ (∃ n : Byte, bs[3]? = some n ∧ n.toNat ≤ 32 ∧ bs.length = 6 + n.toNat) →
    judge (.bytes bs) = .discarded) ∧
  (∀ f : Frame, f.length.toNat ≤ 32 → f.payload.length = f.length.toNat →
    (f.check ≠ crc ([f.destination, f.source, f.kind, f.length] ++ f.payload) →
      judge (.bytes (frameBytes f)) = .discarded) ∧
    (f.check = crc ([f.destination, f.source, f.kind, f.length] ++ f.payload) →
      (60 < f.source.toNat → judge (.bytes (frameBytes f)) = .discarded) ∧
      (f.source.toNat ≤ 60 → (f.destination.toNat = 61 ∨ f.destination.toNat = 62) →
        judge (.bytes (frameBytes f)) = .unroutable f) ∧
      (f.source.toNat ≤ 60 → f.destination.toNat ≠ 61 → f.destination.toNat ≠ 62 →
        judge (.bytes (frameBytes f)) = .good f))) ∧
  (∀ o : OwnFrame, o.frame.source = 0 ∧ o.frame.destination = BitVec.ofNat 8 o.destination ∧
    o.frame.kind = o.kind.value ∧ o.frame.payload.length ≤ 32 ∧ o.frame.length.toNat = o.frame.payload.length ∧
    o.frame.check =
      crc ([o.frame.destination, o.frame.source, o.frame.kind, o.frame.length] ++ o.frame.payload)) ∧
  frameKinds.map FrameKind.value =
    [0x01#8, 0x02#8, 0x10#8, 0x11#8, 0x12#8, 0x13#8, 0x14#8, 0x15#8, 0x1F#8, 0x20#8, 0x21#8, 0x22#8, 0x23#8, 0x28#8,
      0x29#8, 0x2A#8, 0x30#8, 0x31#8, 0x38#8, 0x40#8, 0x48#8, 0x49#8, 0x50#8, 0x51#8, 0x52#8] ∧
  ∀ (c : Instr) (k : FrameKind), c.wellFormed = true → c.frameKind = some k →
    k ∈ frameKinds ∧ k.taker ≠ none ∧ c.sender ≠ none

/-- The curb port polls the stations of segment CURB and the commissioning station, the deck port the stations of
segment DECK but for the commissioning station (R152, R153). POLL goes to the lowest address above the poll position,
wrapping to the lowest; nothing else changes (R153). -/
def Obligations.PollGoesToTheNextAddress : Prop :=
  (∀ (s : State) (a : Nat),
    (a ∈ s.polled .curb ↔ 1 ≤ a ∧ a ≤ 60 ∧ ((s.station a).segment = .curb ∨ s.commissioning a = true)) ∧
    (a ∈ s.polled .deck ↔ 1 ≤ a ∧ a ≤ 60 ∧ (s.station a).segment = .deck ∧ s.commissioning a = false) ∧
    (s.commissioning a = true ↔
      (∀ b, 1 ≤ b → b ≤ 60 → (s.station b).permissions.manage = false) ∧ a ≠ 0 ∧ a = s.links.strap.val)) ∧
  (∀ (s : State) (p : Port) (a : Nat), s.power.main = true → (s.port p).phase = .ready → a ∈ s.polled p →
    (((s.port p).pollPosition < a ∧ ∀ b ∈ s.polled p, (s.port p).pollPosition < b → a ≤ b) ∨
      ((∀ b ∈ s.polled p, b ≤ (s.port p).pollPosition) ∧ ∀ b ∈ s.polled p, a ≤ b)) →
    exec (.poll p) s = .next (s.setPort p { s.port p with
      pollPosition := a, phase := .window a, line := [.poll (pollFrame a)] }))

/-- A good answer of a PRESENT station that is IDLE, goes to destination 61 or 62, or is of a kind without a block
ends the exchange with presence alone (R149, R154, R155). So does a lift or lane report outside its set, and any frame
of a runner, lift, lane or sensor kind whose payload does not hold its fields: the model's reading of R106 and R120
and its choice where the manual is silent (log entries 28 and 34). A RUNNER_STATUS or TASK_STEP with a code outside
its set is answered RANGE to a badge 1 to 32 of a runner base, and ignored otherwise (R85, R99; log entry 28). A frame
outside any reply window, or begun after another in the same window, changes nothing (R154). -/
def Obligations.PresenceAloneOrNothing : Prop :=
  (∀ (s : State) (f : From), s.Hears f →
    exec (.idle f) s = .next (s.heard f) ∧
    (∀ d, d = 61 ∨ d = 62 → exec (.destination61Or62 f d) s = .next (s.heard f)) ∧
    (∀ k, exec (.unhandledKind f (.kind k)) s = .next (s.heard f)) ∧
    exec (.unhandledKind f .liftReport) s = .next (s.heard f) ∧
    exec (.unhandledKind f .laneReport) s = .next (s.heard f) ∧
    (∀ k, exec (.unhandledKind f (.badPayload k)) s = .next (s.heard f)) ∧
    ∀ b, (s.classOf f.source = .runnerBase → 1 ≤ b → b ≤ 32 →
        (∀ level, exec (.unhandledKind f (.statusRequest b level)) s =
          .next ((s.heard f).oweRunner b .runnerStatus .range none)) ∧
        (∀ n, exec (.unhandledKind f (.stepKind b n)) s =
          .next ((s.heard f).oweRunner b .taskStep .range (some n)))) ∧
      ((s.classOf f.source ≠ .runnerBase ∨ b = 0 ∨ 32 < b) →
        (∀ level, exec (.unhandledKind f (.statusRequest b level)) s = .next (s.heard f)) ∧
        ∀ n, exec (.unhandledKind f (.stepKind b n)) s = .next (s.heard f))) ∧
  (∀ (s : State) (p : Port) (rx : Received), exec (.strayFrame p rx) s = .next s ∧
    (s.power.main = true → (∀ a, (s.port p).phase ≠ .window a) →
      exec (.badAnswer p rx) s = .next s ∧ ∀ a, exec (.idle ⟨p, a⟩) s = .next s))

/-- The first good answer of a station that was not PRESENT makes it PRESENT with silent count 0, owes both board
frames to a display, takes an ABSENT lift to UNKNOWN, and for a runner base starts a pairing (R145, R155, R156). A
pairing offers the one QUEUED task to the runner R92 chooses, and to no one when no runner is eligible (R91 to R93).
With one eligible runner and several tasks, the one first in the order of R90 is offered and no other (R90, R91). -/
def Obligations.FirstGoodAnswerHandsPresenceOn : Prop :=
  ∀ (s : State) (f : From), s.power.main = true → (s.port f.port).phase = .window f.source → 1 ≤ f.source →
    f.source ≤ 60 → (s.station f.source).presence ≠ .present →
    ∃ t, exec (.idle f) s = .next t ∧ s.KeepsSetup t ∧ (t.port f.port).phase = .opportunity ∧
      (t.station f.source).presence = .present ∧ (t.station f.source).silent = 0 ∧
      (s.classOf f.source = .display →
        (t.station f.source).boardMark = true ∧ (t.station f.source).vacancyMark = true) ∧
      (∀ l, 1 ≤ l → l ≤ 4 → s.classOf f.source = .lift → (s.station f.source).served = some (.lift l) →
        (s.lift l).state = .absent → (t.lift l).state = .unknown) ∧
      (s.classOf f.source = .runnerBase →
        let answered : State := (s.setPort f.port { s.port f.port with phase := .opportunity }).setStation f.source
          { s.station f.source with presence := .present, silent := 0 }
        (s.NoneQueued → t = answered) ∧
        ((s.dispatch.tasks.map (·.ticket)).Nodup →
          (∀ w level b, s.dispatch.tasks.filter (·.place == .queued) = [w] → s.StartsAt w level →
            answered.NearestRunner (s.declinedNow w) level b → t = answered.withOffer w b) ∧
          (∀ w, s.dispatch.tasks.filter (·.place == .queued) = [w] →
            (∀ b, ¬ answered.mayBeOffered (s.declinedNow w) b) → t.dispatch.runners = s.dispatch.runners ∧
              (t.task w.ticket).map (fun v => (v.kind, v.age, v.place)) = some (w.kind, w.age, .queued)) ∧
          ∀ w b, w ∈ s.dispatch.tasks → w.place = .queued → answered.mayBeOffered [] b →
            (∀ d, answered.mayBeOffered [] d → d = b) →
            (∀ v ∈ s.dispatch.tasks, v.place = .queued → b ∉ v.declined ∧
              (v = w ∨ s.standsBefore w (s.priority v) v.age v.ticket = true)) → t = answered.withOffer w b)) ∧
      t.tickets = s.tickets ∧ t.stalls = s.stalls ∧ t.keys = s.keys ∧ t.events = s.events

/-- Every frame from a station acts as IDLE followed by the frame itself: presence is handed on before the block takes
it (R149, R155). -/
def Obligations.PresenceComesBeforeTheBlock : Prop :=
  ∀ (s t : State) (c : Instr) (f : From), c.wellFormed = true → c.sender = some f → s.power.main = true →
    (s.port f.port).phase = .window f.source → exec (.idle f) s = .next t →
    exec c s = exec c (t.setPort f.port { t.port f.port with phase := .window f.source })

/-- A first or second miss in a row, by a reply window without a start bit or by a discarded answer, adds one to the
silent count and ends the exchange (R154, R155). The third miss in a row makes a station that is not ABSENT so, raises
STATION_ABSENT, and is handed on by its class (R155, R156): a hub's stalls are sensed UNKNOWN and nothing else changes
(R15); the offers to the runners of a base expire with RUNNER_SILENT, and its other runners stay as they are (R98); a
lift whose stations are then all ABSENT is ABSENT with LIFT_FAULT, its tenures held and no order owed, and one with
another station is unchanged (R115); a lane is OUT, and its reserved ticket loses the lane (R123). -/
def Obligations.MissesMakeAStationAbsent : Prop :=
  (∀ (s : State) (p : Port) (a : Nat) (rx : Received), s.power.main = true → (s.port p).phase = .window a → 1 ≤ a →
    a ≤ 60 → (s.station a).silent < 2 → judge rx = .discarded →
    exec (.pollTimeout p) s = .next ((s.setPort p { s.port p with phase := .opportunity }).setStation a
        { s.station a with silent := (s.station a).silent + 1 }) ∧
      exec (.badAnswer p rx) s = exec (.pollTimeout p) s) ∧
  (∀ (s : State) (p : Port) (a : Nat) (rx : Received), s.power.main = true → (s.port p).phase = .window a → 1 ≤ a →
    a ≤ 60 → 2 ≤ (s.station a).silent → (s.station a).presence ≠ .absent → judge rx = .discarded →
    ∃ t more, exec (.pollTimeout p) s = .next t ∧ exec (.badAnswer p rx) s = .next t ∧ s.KeepsSetup t ∧
      (t.port p).phase = .opportunity ∧
      (t.station a).presence = .absent ∧ (t.station a).silent = 3 ∧
      t.events.waiting = s.events.waiting ++ ⟨.stationAbsent, a⟩ :: more ∧
      (∀ first last, s.classOf a = .sensorHub → (s.station a).served = some (.stalls first last) →
        (∀ k, first ≤ k → k ≤ last → t.stall k = { s.stall k with sensed := .unknown, pending := none }) ∧
        (∀ k, (k < first ∨ last < k) → t.stall k = s.stall k) ∧ t.stalls.free = s.stalls.free ∧
        t.tickets = s.tickets ∧ t.dispatch = s.dispatch ∧ t.arbiter = s.arbiter ∧ more = []) ∧
      (∀ b, s.classOf a = .runnerBase → 1 ≤ b → b ≤ 32 → (s.runner b).base = some a →
        (∀ n kind, (s.runner b).state = .offered → (s.runner b).task = some (n, kind) →
          t.runner b = { s.runner b with
            state := .silent, task := none, offerBy := none, owed := some (.withdraw n) } ∧
          ⟨.runnerSilent, b⟩ ∈ more ∧ ∀ w, t.task n = some w → w.place ≠ .offered b) ∧
        ((s.runner b).state ≠ .offered → t.runner b = s.runner b)) ∧
      (∀ l, s.classOf a = .lift → (s.station a).served = some (.lift l) → 1 ≤ l → l ≤ 4 →
        ((∀ b, 1 ≤ b → b ≤ 60 → b ≠ a → (s.station b).cls = .lift → (s.station b).served = some (.lift l) →
            (s.station b).presence = .absent) →
          t.lift l = { s.lift l with state := .absent, orderOwed := false } ∧ ⟨.liftFault, l⟩ ∈ more) ∧
        (∀ b, 1 ≤ b → b ≤ 60 → b ≠ a → (s.station b).cls = .lift → (s.station b).served = some (.lift l) →
            (s.station b).presence ≠ .absent →
          t.arbiter = s.arbiter ∧ t.tickets = s.tickets ∧ t.stalls = s.stalls ∧ more = [])) ∧
      (∀ n, s.classOf a = .laneLoop → (s.station a).served = some (.lane n) → 1 ≤ n → n ≤ 6 →
        t.lane n = { state := .out, ticket := none, turnbackHold := false, clearingBy := none } ∧
        (∀ c, (s.lane n).state = .reserved → (s.lane n).ticket = some c.number → s.ticket c.number = some c →
          s.freeLanes = [] → t.ticket c.number = some (if c.state = .toCurb then
            { c with state := .staged, verify := false, lane := none } else { c with lane := none }))))

/-! ### The frame switch and the transmit opportunities -/

/-- A frame matches a rule when its kind lies in the range, both ends included, its source is of the rule's class or the
rule says ANY, its destination is the rule's, or one of 1 to 60 for ANY, or 63 for BROADCAST, and it arrived on the port
the rule's direction starts from, or the rule says EITHER (R158). The first rule that a frame matches gives the verdict;
a frame that matches none is dropped (R158). A frame for a
station of its own segment, of segment NONE, or above 63 goes no further (R157; above 63: log entry 24). One for a
station of the other segment, and a broadcast, is copied by FORWARD and SNOOP_FORWARD and read, when it is a
ZONE_OCCUPANCY with a report, by SNOOP_FORWARD and ABSORB (R157, R159). A copy is placed last in the other port's
queue, or dropped with CONGESTION when that queue holds 32 (R160). For SNOOP_FORWARD the copy comes before the reading,
so that CONGESTION is raised before the stall map's events, which R159 and R160 do not order: the model's choice (log
entry 27). -/
def Obligations.RoutedFramesFollowTheFirstRule : Prop :=
  (∀ (s : State) (p : Port) (fr : Frame) (r : PassRule), s.ruleMatches p fr r = true ↔
    r.low.toNat ≤ fr.kind.toNat ∧ fr.kind.toNat ≤ r.high.toNat ∧
    (r.source = none ∨ r.source = some (s.classOf fr.source.toNat)) ∧
    (r.destination = .address fr.destination.toNat ∨
      r.destination = .any ∧ 1 ≤ fr.destination.toNat ∧ fr.destination.toNat ≤ 60 ∨
      r.destination = .broadcast ∧ fr.destination.toNat = 63) ∧
    (r.direction = .either ∨ r.direction = .curbToDeck ∧ p = .curb ∨ r.direction = .deckToCurb ∧ p = .deck)) ∧
  (∀ (s : State) (p : Port) (fr : Frame),
    (∀ (i : Nat) (r : PassRule), i < 32 → nth s.links.passTable i none = some r → s.ruleMatches p fr r = true →
      (∀ j r', j < i → nth s.links.passTable j none = some r' → s.ruleMatches p fr r' = false) →
      s.verdict p fr = r.verdict) ∧
    ((∀ j r', nth s.links.passTable j none = some r' → s.ruleMatches p fr r' = false) → s.verdict p fr = .drop)) ∧
  (∀ (s : State) (p : Port) (fr : Frame) (zone : Option ZoneReport), s.Hears ⟨p, fr.source.toNat⟩ →
    judge (.bytes (frameBytes fr)) = .good fr → 1 ≤ fr.destination.toNat →
    let heard := s.heard ⟨p, fr.source.toNat⟩
    let copied :=
      if (s.port (otherPort p)).forwarded.length < 32 then
        heard.setPort (otherPort p)
          { s.port (otherPort p) with forwarded := (s.port (otherPort p)).forwarded ++ [fr] }
      else heard.raise .congestion (if p = .curb then 2 else 1)
    let read (u : State) : State :=
      match zone with
      | some r => if fr.kind = 0x40#8 then u.takeReport fr.source.toNat r else u
      | none => u
    ((fr.destination.toNat ≤ 60 ∧ (s.onPort p fr.destination.toNat = true ∨
          s.onPort (otherPort p) fr.destination.toNat = false) ∨ 64 ≤ fr.destination.toNat) →
      exec (.routeFrame p fr zone) s = .next heard) ∧
    ((fr.destination.toNat = 63 ∨ fr.destination.toNat ≤ 60 ∧ s.onPort p fr.destination.toNat = false ∧
        s.onPort (otherPort p) fr.destination.toNat = true) →
      (s.verdict p fr = .forward → exec (.routeFrame p fr zone) s = .next copied) ∧
      (s.verdict p fr = .snoopForward → exec (.routeFrame p fr zone) s = .next (read copied)) ∧
      (s.verdict p fr = .absorb → exec (.routeFrame p fr zone) s = .next (read heard)) ∧
      (s.verdict p fr = .drop → exec (.routeFrame p fr zone) s = .next heard)))

/-- A transmit opportunity sends at most one own frame, then the front of the forwarded-frame queue; it changes no
ticket, stall, hook, channel or event (R160, R162). A port whose segment has no station to poll takes one in place of a
poll exchange (R153; its 2 ms are left out, log entry 2). A marker is servable on the port of its station's segment while
the station is not ABSENT, a runner's frames at the runner's base, and a reply owed by the commissioning station also on
the curb port while its segment is NONE (R161, R163). With no servable marker it sends no own frame. The class after the
last one served that has a servable marker is served, at the next higher address in turn; both positions move there,
its frame is built as it is sent and its marker cleared: a runner's task frame before its reply, the lowest badge
first, and CURB_BOARD before VACANCY (R161 to R163); what a management reply so built carries is said of the reads, in
ReadsAndTableLoadsChangeNoMore. When the only markers are orders of a lift without a GRANTED
tenure, they are cleared with the lift's and nothing is sent (R111, R161). That the class position then stays where it
was is the model's choice (log entry 22), and so is that a marker of a station no longer judged of the class it needs is
not servable (log entry 42). A TASK_OFFER carries the task, the bound stall with its level and zone, the target of a
RESTAGE, and the ticket's hook, size class, plate tag and flags as they stand; without a bound stall level and zone are
absent, the model's choice (log entry 40); a task no longer held is sent as its TASK_WITHDRAW (R87). A RUNNER_REPLY carries
its slot, and after a KEY_REQUEST the hook of the ticket (R86; a number issued again, log entry 52). CURB_BOARD gives the
first eight entries of its list with number, state, lane and overdue flag (R143). -/
def Obligations.OpportunitySendsAtMostTwoFrames : Prop :=
  (∀ (s : State) (p : Port) (a : Nat),
    let judged := if s.commissioning a = true then Segment.curb else (s.station a).segment
    let own : Segment := match p with | .curb => .curb | .deck => .deck
    let present := (s.station a).presence ≠ .absent
    (s.servable p .serviceReplies a = true ↔ present ∧ ∃ x, (s.station a).serviceReply = some x ∧
      (judged = own ∨ p = .curb ∧ judged = .none ∧ x.commissioning = true)) ∧
    (s.servable p .manageReplies a = true ↔ present ∧ ∃ x, (s.station a).manageReply = some x ∧
      (judged = own ∨ p = .curb ∧ judged = .none ∧ x.commissioning = true)) ∧
    (s.servable p .runnerFrames a = true ↔ present ∧ judged = own ∧ ∃ b, 1 ≤ b ∧ b ≤ 32 ∧
      (s.runner b).base = some a ∧ ((s.runner b).owed ≠ none ∨ (s.runner b).reply ≠ none)) ∧
    (s.servable p .liftOrders a = true ↔ present ∧ judged = own ∧ s.classOf a = .lift ∧
      (s.station a).orderMark = true) ∧
    (s.servable p .notices a = true ↔ present ∧ judged = own ∧ (s.station a).noticeMark = true) ∧
    (s.servable p .boards a = true ↔ present ∧ judged = own ∧ s.classOf a = .display ∧
      ((s.station a).boardMark = true ∨ (s.station a).vacancyMark = true))) ∧
  (∀ (s : State) (a b n : Nat),
    (∀ (kind : TaskKind) (c : Ticket), (s.runner b).task = some (n, kind) → s.ticket n = some c →
      let target := if kind = .restage then c.target else none
      (∀ k site, c.stall = some k → (s.stall k).site = some site → s.buildTask a b (.offer n) =
        .taskOffer a b n kind (some k) target (some site.level) (some site.zone) c.hook (some c.size) c.plate c.verify
          c.keyAlert) ∧
      (c.stall = none → s.buildTask a b (.offer n) =
        .taskOffer a b n kind none target none none c.hook (some c.size) c.plate c.verify c.keyAlert)) ∧
    ((∀ kind, (s.runner b).task ≠ some (n, kind)) → s.buildTask a b (.offer n) = .taskWithdraw a b n) ∧
    s.buildTask a b (.withdraw n) = .taskWithdraw a b n ∧
    (∀ r c, r.kind = .keyRequest → r.ticket = some n → s.ticket n = some c →
      s.buildRunnerReply a b r = .runnerReply a b r c.hook) ∧
    ∀ r, (r.kind ≠ .keyRequest ∨ r.ticket = none ∨ r.ticket = some n ∧ s.ticket n = none) →
      s.buildRunnerReply a b r = .runnerReply a b r none) ∧
  (∀ s : State, (∀ e ∈ s.calls.board, s.ticket e.ticket ≠ none) →
    s.boardContent.length = min 8 s.calls.board.length ∧
    ∀ (i : Nat) (e : BoardEntry) (c : Ticket), i < 8 → s.calls.board[i]? = some e → s.ticket e.ticket = some c →
      s.boardContent[i]? = some (c.number, c.state, c.lane, c.overdue)) ∧
  ∀ (s : State) (p : Port), s.power.main = true →
    ((s.port p).phase = .opportunity ∨ (s.port p).phase = .ready ∧ s.polled p = []) →
    ∃ (t : State) (own : Option OwnFrame), exec (.transmitOpportunity p) s = .next t ∧
      (t.port p).phase = .ready ∧ (t.port p).forwarded = (s.port p).forwarded.tail ∧
      (t.port p).line = own.toList.map OwnFrame.onLine ++ ((s.port p).forwarded.head?).toList.map .forwarded ∧
      t.port (otherPort p) = s.port (otherPort p) ∧ t.tickets = s.tickets ∧ t.stalls = s.stalls ∧ t.keys = s.keys ∧
      t.calls = s.calls ∧ t.timers = s.timers ∧ t.events = s.events ∧ t.params = s.params ∧ t.pending = s.pending ∧
      ((∀ c a, s.servable p c a = false) → own = none ∧ t.links.stations = s.links.stations ∧
        t.dispatch = s.dispatch ∧ t.arbiter = s.arbiter) ∧
      (∀ c a, s.ServedNext p c a →
        (c = .liftOrders → ∃ l w, (s.station a).served = some (.lift l) ∧ (s.lift l).current = some w ∧
          w.state = .granted) →
        (t.port p).classPosition = c ∧ (t.port p).destPositions = (s.port p).destPositions.set c a ∧
        (∀ x, c = .serviceReplies → (s.station a).serviceReply = some x →
          own = some (.serviceReply a (s.buildService x)) ∧ (t.station a).serviceReply = none) ∧
        (∀ x, c = .manageReplies → (s.station a).manageReply = some x →
          own = some (s.buildManage a x) ∧ (t.station a).manageReply = none) ∧
        (∀ b, c = .runnerFrames → 1 ≤ b → b ≤ 32 → s.owedVia a b = true → (∀ d, d < b → s.owedVia a d = false) →
          (∀ x, (s.runner b).owed = some x → own = some (s.buildTask a b x) ∧
            t.runner b = { s.runner b with owed := none }) ∧
          (∀ x, (s.runner b).owed = none → (s.runner b).reply = some x → own = some (s.buildRunnerReply a b x) ∧
            t.runner b = { s.runner b with reply := none })) ∧
        (∀ l w, c = .liftOrders → (s.station a).served = some (.lift l) → (s.lift l).current = some w →
          own = some (.liftOrder a l w.direction w.fromLevel w.toLevel w.ticket w.runner) ∧
            (t.station a).orderMark = false) ∧
        (c = .notices → own = some (.notice a s.now s.events.flags s.latchMarks) ∧ (t.station a).noticeMark = false) ∧
        (c = .boards → (s.station a).boardMark = true → own = some (.curbBoard a s.boardContent) ∧
          (t.station a).boardMark = false ∧ (t.station a).vacancyMark = (s.station a).vacancyMark) ∧
        (c = .boards → (s.station a).boardMark = false → own = some (.vacancy a s.stalls.free) ∧
          (t.station a).vacancyMark = false)) ∧
      (∀ l, 1 ≤ l → l ≤ 4 → (∀ w, (s.lift l).current = some w → w.state ≠ .granted) →
        (∃ a, s.servable p .liftOrders a = true) →
        (∀ c a, s.servable p c a = true → c = .liftOrders ∧ (s.station a).served = some (.lift l)) →
        own = none ∧ (t.lift l).orderOwed = false ∧ (t.port p).classPosition = (s.port p).classPosition ∧
          ∀ a, (s.station a).cls = .lift → (s.station a).served = some (.lift l) → (t.station a).orderMark = false)

/-! ### Service requests -/

/-- A service request from a PODIUM or DESK station without the SERVICE permission is refused with PERMISSION, and one
from any other station is ignored. With the permission, a payload too short is RANGE, and so are a field of ARRIVE, CALL
or GROUP_LINK outside its set, a group above 63, and a ticket number that is 0, above 9999 or of no open ticket, in CALL,
SCHEDULE, CANCEL, GROUP_LINK and QUOTE_ASK alike. In all of these nothing but the reply slot changes (R43, R44, R49, R54,
R128, R132, R139). A plate tag of none or more than eight characters is RANGE, which is the model's reading (log entry
9). -/
def Obligations.ServiceNeedsPermission : Prop :=
  ∀ (s : State) (f : From),
    (s.Hears f →
      ((s.classOf f.source = .podium ∨ s.classOf f.source = .desk) → (s.permissionsOf f.source).service = false →
        (∀ r, exec (.arrive f r) s = .next ((s.heard f).oweService f.source .arrive .permission none)) ∧
        (∀ x, exec (.call f (.fields x)) s =
          .next ((s.heard f).oweService f.source .call .permission (some x.ticket))) ∧
        (∀ x, exec (.schedule f (.fields x)) s =
          .next ((s.heard f).oweService f.source .schedule .permission (some x.ticket))) ∧
        (∀ n, exec (.cancel f (.fields n)) s = .next ((s.heard f).oweService f.source .cancel .permission (some n))) ∧
        (∀ x, exec (.groupLink f (.fields x)) s =
          .next ((s.heard f).oweService f.source .groupLink .permission (some x.ticket))) ∧
        (∀ n, exec (.quoteAsk f (.fields n)) s =
          .next ((s.heard f).oweService f.source .quoteAsk .permission (some n))) ∧
        exec (.call f .tooShort) s = .next ((s.heard f).oweService f.source .call .permission none) ∧
        exec (.schedule f .tooShort) s = .next ((s.heard f).oweService f.source .schedule .permission none) ∧
        exec (.cancel f .tooShort) s = .next ((s.heard f).oweService f.source .cancel .permission none) ∧
        exec (.groupLink f .tooShort) s = .next ((s.heard f).oweService f.source .groupLink .permission none) ∧
        exec (.quoteAsk f .tooShort) s = .next ((s.heard f).oweService f.source .quoteAsk .permission none)) ∧
      (s.classOf f.source ≠ .podium → s.classOf f.source ≠ .desk →
        (∀ r, exec (.arrive f r) s = .next (s.heard f)) ∧ (∀ r, exec (.call f r) s = .next (s.heard f)) ∧
        (∀ r, exec (.schedule f r) s = .next (s.heard f)) ∧ (∀ r, exec (.cancel f r) s = .next (s.heard f)) ∧
        (∀ r, exec (.groupLink f r) s = .next (s.heard f)) ∧ (∀ r, exec (.quoteAsk f r) s = .next (s.heard f)))) ∧
    (s.Serves f →
      (exec (.arrive f .tooShort) s = .next ((s.heard f).oweService f.source .arrive .range none) ∧
        exec (.call f .tooShort) s = .next ((s.heard f).oweService f.source .call .range none) ∧
        exec (.schedule f .tooShort) s = .next ((s.heard f).oweService f.source .schedule .range none) ∧
        exec (.cancel f .tooShort) s = .next ((s.heard f).oweService f.source .cancel .range none) ∧
        exec (.groupLink f .tooShort) s = .next ((s.heard f).oweService f.source .groupLink .range none) ∧
        exec (.quoteAsk f .tooShort) s = .next ((s.heard f).oweService f.source .quoteAsk .range none)) ∧
      (∀ x : ArriveFields, (x.size = .outside ∨ x.charger = .outside ∨ x.stay = .outside ∨ x.tier = .outside ∨
          ∃ tag, x.plate = some tag ∧ (tag.length = 0 ∨ 8 < tag.length)) →
        exec (.arrive f (.fields x)) s = .next ((s.heard f).oweService f.source .arrive .range none)) ∧
      (∀ n, exec (.call f (.fields ⟨n, .outside⟩)) s =
        .next ((s.heard f).oweService f.source .call .range (some n))) ∧
      (∀ g n, 63 < g → exec (.groupLink f (.fields ⟨g, n⟩)) s =
        .next ((s.heard f).oweService f.source .groupLink .range (some n))) ∧
      (∀ n, (n = 0 ∨ 9999 < n ∨ s.ticket n = none) →
        (∀ whole, exec (.call f (.fields ⟨n, whole⟩)) s =
          .next ((s.heard f).oweService f.source .call .range (some n))) ∧
        (∀ day tenth, exec (.schedule f (.fields ⟨n, day, tenth⟩)) s =
          .next ((s.heard f).oweService f.source .schedule .range (some n))) ∧
        exec (.cancel f (.fields n)) s = .next ((s.heard f).oweService f.source .cancel .range (some n)) ∧
        (∀ g, exec (.groupLink f (.fields ⟨g, n⟩)) s =
          .next ((s.heard f).oweService f.source .groupLink .range (some n))) ∧
        exec (.quoteAsk f (.fields n)) s = .next ((s.heard f).oweService f.source .quoteAsk .range (some n))))

/-- An admitted ARRIVE issues the first candidate, from the issue counter on, that no open ticket has, and sets the
counter to the number after it; 513 candidates are enough. The counter keeps that value when the new ticket is removed
again before the reply, with NO_SPACE. With 512 open tickets it is refused with FULL (R40, R44). -/
def Obligations.ArriveIssuesTheFirstFreeNumber : Prop :=
  ∀ (s : State) (f : From) (x : ArriveFields) (q : ArriveRequest), s.Serves f → readArrive x = some q →
    1 ≤ s.issue → s.issue ≤ 9999 →
    (s.tickets.length < 512 →
      ∃ (j n : Nat) (t : State), j ≤ 512 ∧ n = nextNumber^[j] s.issue ∧ 1 ≤ n ∧ n ≤ 9999 ∧ s.ticket n = none ∧
        (∀ i, i < j → s.ticket (nextNumber^[i] s.issue) ≠ none) ∧
        exec (.arrive f (.fields x)) s = .next t ∧ s.KeepsSetup t ∧ t.issue = (if n = 9999 then 1 else n + 1) ∧
        (∀ m, m ≠ n → (t.ticket m = none ↔ s.ticket m = none)) ∧
        (t.ticket n ≠ none ∨ (t.station f.source).serviceReply.map (·.outcome) = some .noSpace)) ∧
    (512 ≤ s.tickets.length →
      exec (.arrive f (.fields x)) s =
        .next (((s.heard f).raise .tableFull f.source).oweService f.source .arrive .full none))

/-- An admitted ARRIVE with a free place ends in one of three ways: the FREE stall that its placement chooses is HELD
for it and it is ASSIGNED with a PARK task, restage wanted with the second try; or, when no stall may take it in
either try, it is UNPLACED, last in the list, or with 32 listed refused with NO_SPACE and no ticket is made (R22, R25,
R29, R32, R44; what a placement chooses: PlacementTakesTheCheapestStall). That ARRIVAL is raised before UNPLACED is
read from the order in which R44 and R32 tell them: the model's choice (log entry 15). The new ticket is bound to the
lowest-numbered VACANT hook of a configured panel that is not FAULTED, which becomes EXPECTING for it, and to none where
there is none; after a NO_SPACE no hook names it (R41, R44). -/
def Obligations.ArriveEndsInOneOfThreeWays : Prop :=
  ∀ (s : State) (f : From) (x : ArriveFields) (q : ArriveRequest), s.Serves f → readArrive x = some q →
    1 ≤ s.issue → s.issue ≤ 9999 → s.tickets.length < 512 → s.unplaced.length ≤ 32 →
    (∀ w ∈ s.dispatch.tasks, s.ticket w.ticket ≠ none) →
    ∃ (n : Nat) (t : State), exec (.arrive f (.fields x)) s = .next t ∧ s.KeepsSetup t ∧
      t.arbiter = s.arbiter ∧ s.ticket n = none ∧
      ((∃ (k : Nat) (c : Ticket) (second : Bool), s.placement (newTicket n q s.now) false = some (k, second) ∧
          (∃ site, s.mayTake (newTicket n q s.now) (q.charger && !second) k site) ∧ c.restageWanted = second ∧
          (s.stall k).state = .free ∧ (t.stall k).state = .held ∧ (t.stall k).ticket = some n ∧
          t.ticket n = some c ∧ c.state = .assigned ∧ c.stall = some k ∧ c.arrived = s.now ∧ c.size = q.size ∧
          (∃ w, t.task n = some w ∧ w.kind = .park ∧ w.age = s.now) ∧
          ⟨.arrival, n⟩ ∈ t.events.waiting ∧ t.unplaced = s.unplaced ∧
          ((t.station f.source).serviceReply.map fun r => (r.outcome, r.ticket)) = some (.done, some n)) ∨
        ((∀ k site, ¬ s.mayTake (newTicket n q s.now) false k site) ∧
          (∃ c, t.ticket n = some c ∧ c.state = .unplaced ∧ c.stall = none ∧ c.arrived = s.now ∧ c.size = q.size) ∧
          s.unplaced.length < 32 ∧ t.unplaced = s.unplaced ++ [n] ∧ t.stalls = s.stalls ∧
          t.events.waiting = s.events.waiting ++ [⟨.arrival, n⟩, ⟨.unplaced, n⟩] ∧
          ((t.station f.source).serviceReply.map fun r => (r.outcome, r.ticket)) = some (.placedLater, some n)) ∨
        ((∀ k site, ¬ s.mayTake (newTicket n q s.now) false k site) ∧
          t.tickets.map (·.number) = s.tickets.map (·.number) ∧ s.unplaced.length = 32 ∧ t.unplaced = s.unplaced ∧
          t.stalls = s.stalls ∧ t.events.waiting = s.events.waiting ∧
          ((t.station f.source).serviceReply.map fun r => (r.outcome, r.ticket)) = some (.noSpace, none))) ∧
      (t.ticket n ≠ none →
        (∀ h, s.MayBind h → (∀ g, g < h → ¬ s.MayBind g) → (t.ticket n).bind (·.hook) = some h ∧
          t.hook h = { s.hook h with custody := .expecting, ticket := some n } ∧ ∀ g, g ≠ h → t.hook g = s.hook g) ∧
        ((∀ h, ¬ s.MayBind h) → (t.ticket n).bind (·.hook) = none ∧ t.keys = s.keys)) ∧
      (t.ticket n = none → ∀ h, (s.hook h).ticket ≠ some n → (t.hook h).ticket ≠ some n)

/-- A placement chooses a stall that may take the ticket, of the lowest cost, then the lower level, then the lower
number, in the first try that finds one; it fails only when neither try finds one (R22, R25, R28). The cost is the sum
of the stay term, the size term, the charger term and the load term, each within its bound, and at most 4707 (R26 to
R28). A stall found in the second try has no charger (R25, R27). -/
def Obligations.PlacementTakesTheCheapestStall : Prop :=
  (∀ (s : State) (t : Ticket),
    (∀ (k : Nat) (second : Bool), s.placement t false = some (k, second) →
      ∃ site, s.mayTake t (t.charger && !second) k site ∧
        (second = true → t.charger = true ∧ site.charger = false ∧ ∀ k' site', ¬ s.mayTake t true k' site') ∧
        ∀ k' site', s.mayTake t (t.charger && !second) k' site' →
          s.cost t site < s.cost t site' ∨
            (s.cost t site = s.cost t site' ∧ (site.level < site'.level ∨ (site.level = site'.level ∧ k ≤ k')))) ∧
    (s.placement t false = none → ∀ k' site', ¬ s.mayTake t t.charger k' site' ∧ ¬ s.mayTake t false k' site')) ∧
  ∀ (s : State) (t : Ticket) (site : StallSite), t.size.num ≤ site.size.num →
    let seconds := site.walk + site.level * s.params.levelTime
    let target := nth s.params.stayTarget t.stay.index 0
    let weight := nth s.params.stayWeight t.stay.index 0
    let stay := weight * (if seconds ≤ target then target - seconds else seconds - target)
    let size := (site.size.num - t.size.num) * s.params.sizePenalty
    let charger := if site.charger = true ∧ t.charger = false then s.params.chargerPenalty else 0
    let tenures := (s.lift site.lift).queue.length + if (s.lift site.lift).current = none then 0 else 1
    let load := if site.lift = 0 then 0 else (if tenures ≤ 16 then tenures else 16) * s.params.liftLoadPenalty
    s.cost t site = stay + size + charger + load ∧
      (s.params.Right → site.right = true →
        stay ≤ 3255 ∧ size ≤ 189 ∧ charger ≤ 255 ∧ load ≤ 1008 ∧ s.cost t site ≤ 4707)

/-- A CALL of a PARKED or SCHEDULED ticket alone: it becomes CALLED, called now, with its quote as promise and without
a schedule entry, and a FETCH task of that age is made (R50, R138). A CALL of a whole group calls its lead as if
alone, whatever its state and also with ALREADY, then each other member that is then PARKED or SCHEDULED, in ring order
from the place after the lead's: the first called is called now plus one tenth, the next plus two, and so on, each with a
FETCH task of that age and, as its promise, its quote after the calls before it. Members in other states stay as they are,
and the reply keeps the lead's outcome and the number called (R133, R134). Of the lead, a PARKING or RESTAGING one has its
call pending, and an UNPLACED or ASSIGNED one is AT_CURB on lane 0; the stall of an ASSIGNED one is handed on before the
members are called (R50). -/
def Obligations.CallOfAParkedCarMakesAFetchTask : Prop :=
  (∀ (s : State) (f : From) (c : Ticket), s.Serves f → 1 ≤ c.number → c.number ≤ 9999 →
    s.ticket c.number = some c → (c.state = .parked ∨ c.state = .scheduled) → s.task c.number = none →
    ∃ t, exec (.call f (.fields ⟨c.number, .value false⟩)) s = .next t ∧ s.KeepsSetup t ∧
      t.ticket c.number = some { c with
        state := .called, calledAt := some s.now, promise := s.quote c, verify := false,
        backlog := c.backlog || decide (64 ≤ s.placesTaken) } ∧
      (∃ w, t.task c.number = some w ∧ w.kind = .fetch ∧ w.age = s.now ∧
        (w.place = .backlog ↔ 64 ≤ s.placesTaken)) ∧
      t.calls.schedule = s.calls.schedule.filter (·.ticket != c.number) ∧ t.stalls = s.stalls ∧ t.keys = s.keys ∧
      t.events = s.events ∧ t.arbiter = s.arbiter ∧ s.ChangesOnlyTicket t c.number ∧
      ((t.station f.source).serviceReply.map fun r => (r.kind, r.outcome, r.ticket)) =
        some (.call, .done, some c.number)) ∧
  (∀ (s : State) (f : From) (c : Ticket) (g place : Nat), s.Serves f → s.GroupsRight → 1 ≤ c.number →
    c.number ≤ 9999 → s.ticket c.number = some c → c.group = some (g, place) →
    ∃ (t : State) (outcome : Answer) (called : List Nat) (u : Nat → State),
      exec (.call f (.fields ⟨c.number, .value true⟩)) s = .next t ∧
      exec (.call f (.fields ⟨c.number, .value false⟩)) s =
        .next ((u 0).oweService f.source .call outcome (some c.number)) ∧
      t = (u called.length).oweService f.source .call outcome (some c.number) (some called.length) ∧
      s.KeepsSetup t ∧ called.length ≤ 3 ∧
      (∀ n, n ∈ called ↔ n ≠ c.number ∧ ∃ d q, (u 0).ticket n = some d ∧ d.group = some (g, q) ∧
        (d.state = .parked ∨ d.state = .scheduled)) ∧
      (∀ i n, called[i]? = some n → ∃ d, (u i).ticket n = some d ∧ (d.state = .parked ∨ d.state = .scheduled) ∧
        (u (i + 1)).calls.schedule = (u i).calls.schedule.filter (·.ticket != n) ∧
        (u i).ChangesOnlyTicket (u (i + 1)) n ∧
        ((u i).task n = none → (u (i + 1)).ticket n = some { d with
            state := .called, calledAt := some (s.now.plus (i + 1)), promise := (u i).quoteAt d (s.now.plus (i + 1)),
            verify := false, backlog := d.backlog || decide (64 ≤ (u i).placesTaken) } ∧
          ∃ w, (u (i + 1)).task n = some w ∧ w.kind = .fetch ∧ w.age = s.now.plus (i + 1) ∧
            (w.place = .backlog ↔ 64 ≤ (u i).placesTaken))) ∧
      called.Pairwise (fun m n => ∀ d e q r, s.ticket m = some d → s.ticket n = some e → d.group = some (g, q) →
        e.group = some (g, r) → (q < r ∧ (place < q ∨ r < place)) ∨ (r < place ∧ place < q)) ∧
      (∀ (i n : Nat) (d : Ticket), called[i]? = some n → s.ticket n = some d → ∃ e, t.ticket n = some e ∧
        e.state = .called ∧ e.calledAt = some (s.now.plus (i + 1)) ∧ e.stall = d.stall ∧ e.group = d.group ∧
        ∃ w ∈ t.dispatch.tasks, w.ticket = n ∧ w.kind = .fetch ∧ w.age = s.now.plus (i + 1)) ∧
      (∀ n, n ≠ c.number → n ∉ called → (t.ticket n).map (·.state) = ((u 0).ticket n).map (·.state)) ∧
      (c.state ≠ .assigned → ∀ n, n ≠ c.number → n ∉ called →
        (t.ticket n).map (·.state) = (s.ticket n).map (·.state)) ∧
      t.ticket c.number = (u 0).ticket c.number ∧
      ((c.state = .parked ∨ c.state = .scheduled) → (t.ticket c.number).map (fun e => (e.state, e.calledAt, e.promise)) =
        some (.called, some s.now, s.quote c)) ∧
      ((c.state = .called ∨ c.state = .fetching ∨ c.state = .descending ∨ c.state = .staged ∨ c.state = .toCurb ∨
          c.state = .atCurb ∨ c.callPending = true ∧
            (c.state = .assigned ∨ c.state = .parking ∨ c.state = .restaging)) → t.ticket c.number = some c) ∧
      ((c.state = .parking ∨ c.state = .restaging) → c.callPending = false → t.ticket c.number =
        some { c with callPending := true, calledAt := some s.now, promise := s.quote c }) ∧
      (c.state = .unplaced → t.ticket c.number = some { c with
          state := .atCurb, lane := some 0, calledAt := some s.now, atCurbAt := some s.now, overduePending := true,
          verify := false } ∧
        t.unplaced = s.unplaced.filter (· != c.number)) ∧
      (c.state = .assigned → c.callPending = false → c.number ∉ s.unplaced → (t.ticket c.number).map (fun e =>
        (e.state, e.stall, e.lane, e.calledAt, e.atCurbAt)) =
          some (.atCurb, none, some 0, some s.now, some s.now)) ∧
      (c.state ≠ .assigned → t.stalls = s.stalls ∧ t.events = s.events) ∧ t.keys = s.keys ∧ t.arbiter = s.arbiter ∧
      ((t.station f.source).serviceReply.map fun r => (r.kind, r.outcome, r.ticket, r.members)) =
        some (.call, if c.state = .called ∨ c.state = .fetching ∨ c.state = .descending ∨ c.state = .staged ∨
            c.state = .toCurb ∨ c.state = .atCurb ∨ c.callPending = true ∧
              (c.state = .assigned ∨ c.state = .parking ∨ c.state = .restaging)
          then .already else .done, some c.number, some called.length))

/-- A CALL of a ticket in PARKING or RESTAGING sets call pending once; a further call, and a call of a ticket from
CALLED to AT_CURB, is refused with ALREADY and changes nothing but the reply (R50). A CALL of an UNPLACED ticket puts
it AT_CURB on lane 0, called now, and on the curb board, without an AT_CURB event (R50, R120, R142). So does a CALL of
an ASSIGNED ticket, whose PARK task is withdrawn and whose HELD stall is released with recheck due; a runner to whom
the task was offered is READY now and owed its TASK_WITHDRAW (R5, R50, R97). -/
def Obligations.CallsOutsideTheStallsWait : Prop :=
  (∀ (s : State) (f : From) (c : Ticket), s.Serves f → 1 ≤ c.number → c.number ≤ 9999 → s.ticket c.number = some c →
    ((c.state = .parking ∨ c.state = .restaging) → c.callPending = false →
      exec (.call f (.fields ⟨c.number, .value false⟩)) s =
        .next (((s.heard f).modifyTicket c.number fun k =>
          { k with callPending := true, calledAt := some s.now, promise := s.quote c }).oweService f.source .call .done
            (some c.number))) ∧
    (((c.state = .assigned ∨ c.state = .parking ∨ c.state = .restaging) ∧ c.callPending = true ∨ c.state = .called ∨
        c.state = .fetching ∨ c.state = .descending ∨ c.state = .staged ∨ c.state = .toCurb ∨ c.state = .atCurb) →
      exec (.call f (.fields ⟨c.number, .value false⟩)) s =
        .next ((s.heard f).oweService f.source .call .already (some c.number)))) ∧
  (∀ (s : State) (f : From) (c : Ticket), s.Serves f → 1 ≤ c.number → c.number ≤ 9999 → s.ticket c.number = some c →
    c.state = .unplaced →
    ∃ t, exec (.call f (.fields ⟨c.number, .value false⟩)) s = .next t ∧ s.KeepsSetup t ∧
      t.ticket c.number = some { c with
        state := .atCurb, lane := some 0, calledAt := some s.now, atCurbAt := some s.now, overduePending := true,
        verify := false } ∧
      t.unplaced = s.unplaced.filter (· != c.number) ∧ ⟨c.number, s.now⟩ ∈ t.calls.board ∧
      t.stalls = s.stalls ∧ t.dispatch = s.dispatch ∧ t.events = s.events ∧ t.arbiter = s.arbiter ∧ t.keys = s.keys ∧
      (∀ m, m ≠ c.number → t.ticket m = s.ticket m) ∧ t.issue = s.issue) ∧
  (∀ (s : State) (f : From) (c : Ticket) (k : Nat) (site : StallSite) (w : Task), s.Serves f → 1 ≤ c.number →
    c.number ≤ 9999 → s.ticket c.number = some c → c.state = .assigned → c.callPending = false → c.stall = some k →
    k < 640 → (s.stall k).site = some site → s.heldFor k c.number = true → s.unplaced = [] →
    (∀ d ∈ s.tickets, d.restageWanted = false) → s.task c.number = some w → (∀ v ∈ s.dispatch.tasks, v.place ≠ .backlog) →
    (w.place = .queued ∨ ∃ b, w.place = .offered b) →
    ∃ t, exec (.call f (.fields ⟨c.number, .value false⟩)) s = .next t ∧ s.KeepsSetup t ∧
      t.task c.number = none ∧
      t.stall k = { s.stall k with state := .free, ticket := none, confirmed := false, recheck := true } ∧
      t.stalls.free = s.stalls.free.set site.size (s.stalls.free.get site.size + 1) ∧
      (∀ j, j ≠ k → t.stall j = s.stall j) ∧
      t.ticket c.number = some { c with
        state := .atCurb, stall := none, lane := some 0, calledAt := some s.now, atCurbAt := some s.now,
        overduePending := true, verify := false } ∧
      (∀ b, w.place = .offered b → 1 ≤ b → b ≤ 32 → (∀ v ∈ s.dispatch.tasks, v.place = .queued → v.ticket = c.number) →
        t.runner b = { s.runner b with
          state := .ready, readySince := s.now, task := none, offerBy := none, owed := some (.withdraw c.number) }) ∧
      ⟨c.number, s.now⟩ ∈ t.calls.board ∧ t.events = s.events ∧ t.keys = s.keys ∧ t.arbiter = s.arbiter ∧
      s.ChangesOnlyTicket t c.number)

/-- SCHEDULE of a PARKED ticket, with room and a release time after now: it becomes SCHEDULED, and the schedule keeps
its order of release time with the new entry the newest of its time (R127, R128). A SCHEDULE for a time more than 24
hours after now, or a tenth outside the day, or a number that names no open ticket, is refused with RANGE; a PARKED
ticket meets FULL at 64 entries; a ticket that is called, or that will be, is ALREADY, and any other STATE (R128). A
SCHEDULED ticket scheduled again has its entry replaced (R128). With a release time not after now a PARKED or SCHEDULED
ticket is released at once: CALLED now, its promise its quote, a FETCH task of that age, no entry, and
SCHEDULE_RELEASE raised (R50, R128, R130). -/
def Obligations.ScheduleEntersInOrderOrIsRefused : Prop :=
  (∀ (s : State) (f : From) (c : Ticket) (day tenth : Nat), s.Serves f → 1 ≤ c.number → c.number ≤ 9999 →
    s.ticket c.number = some c → c.state = .parked → s.calls.schedule.length < 64 →
    (∀ e ∈ s.calls.schedule, e.ticket ≠ c.number) →
    s.calls.schedule.Pairwise (fun a b => b.release.before a.release = false) →
    day < 65536 → tenth < 864000 → day * 864000 + tenth ≤ s.now.tenths + 864000 →
    s.now.before (SiteTime.less ⟨day, tenth⟩ (600 * s.params.leadTime)) = true →
    ∃ (t : State) (ahead behind : List ScheduleEntry),
      exec (.schedule f (.fields ⟨c.number, day, tenth⟩)) s = .next t ∧ s.KeepsSetup t ∧
      s.calls.schedule = ahead ++ behind ∧
      t.calls.schedule = ahead ++
        { ticket := c.number, requested := ⟨day, tenth⟩,
          release := SiteTime.less ⟨day, tenth⟩ (600 * s.params.leadTime), reached := false } :: behind ∧
      (∀ e ∈ ahead, (SiteTime.less ⟨day, tenth⟩ (600 * s.params.leadTime)).before e.release = false) ∧
      (∀ e ∈ behind, (SiteTime.less ⟨day, tenth⟩ (600 * s.params.leadTime)).before e.release = true) ∧
      t.ticket c.number = some { c with state := .scheduled, verify := false } ∧ t.stalls = s.stalls ∧
      t.dispatch = s.dispatch ∧ t.events = s.events ∧ t.keys = s.keys ∧ t.arbiter = s.arbiter ∧
      s.ChangesOnlyTicket t c.number) ∧
  (∀ (s : State) (f : From) (c : Ticket) (day tenth : Nat), s.Serves f → 1 ≤ c.number → c.number ≤ 9999 →
    s.ticket c.number = some c → c.state = .scheduled →
    s.calls.schedule.Pairwise (fun a b => b.release.before a.release = false) →
    day < 65536 → tenth < 864000 → day * 864000 + tenth ≤ s.now.tenths + 864000 →
    s.now.before (SiteTime.less ⟨day, tenth⟩ (600 * s.params.leadTime)) = true →
    ∃ (t : State) (ahead behind : List ScheduleEntry),
      exec (.schedule f (.fields ⟨c.number, day, tenth⟩)) s = .next t ∧ s.KeepsSetup t ∧
      s.calls.schedule.filter (·.ticket != c.number) = ahead ++ behind ∧
      t.calls.schedule = ahead ++
        { ticket := c.number, requested := ⟨day, tenth⟩,
          release := SiteTime.less ⟨day, tenth⟩ (600 * s.params.leadTime), reached := false } :: behind ∧
      (∀ e ∈ ahead, (SiteTime.less ⟨day, tenth⟩ (600 * s.params.leadTime)).before e.release = false) ∧
      (∀ e ∈ behind, (SiteTime.less ⟨day, tenth⟩ (600 * s.params.leadTime)).before e.release = true) ∧
      t.tickets = s.tickets ∧ t.stalls = s.stalls ∧ t.dispatch = s.dispatch ∧ t.events = s.events ∧ t.keys = s.keys ∧
      t.arbiter = s.arbiter ∧
      ((t.station f.source).serviceReply.map fun r => (r.outcome, r.ticket)) = some (.done, some c.number)) ∧
  (∀ (s : State) (f : From) (c : Ticket) (day tenth : Nat), s.Serves f → 1 ≤ c.number → c.number ≤ 9999 →
    s.ticket c.number = some c → (c.state = .parked ∧ s.calls.schedule.length < 64 ∨ c.state = .scheduled) →
    day < 65536 → tenth < 864000 → day * 864000 + tenth ≤ s.now.tenths + 864000 →
    s.now.before (SiteTime.less ⟨day, tenth⟩ (600 * s.params.leadTime)) = false → s.task c.number = none →
    ∃ t, exec (.schedule f (.fields ⟨c.number, day, tenth⟩)) s = .next t ∧ s.KeepsSetup t ∧
      t.calls.schedule = s.calls.schedule.filter (·.ticket != c.number) ∧
      t.ticket c.number = some { c with
        state := .called, calledAt := some s.now, promise := s.quote c, verify := false,
        backlog := c.backlog || decide (64 ≤ s.placesTaken) } ∧
      (∃ w, t.task c.number = some w ∧ w.kind = .fetch ∧ w.age = s.now) ∧
      t.events.waiting = s.events.waiting ++ [⟨.scheduleRelease, c.number⟩] ∧ t.stalls = s.stalls ∧
      t.keys = s.keys ∧ t.arbiter = s.arbiter ∧ s.ChangesOnlyTicket t c.number ∧
      ((t.station f.source).serviceReply.map fun r => (r.outcome, r.ticket)) = some (.done, some c.number)) ∧
  (∀ (s : State) (f : From) (n day tenth : Nat), s.Serves f → (n = 0 ∨ 9999 < n ∨ s.ticket n = none) →
    exec (.schedule f (.fields ⟨n, day, tenth⟩)) s = .next ((s.heard f).oweService f.source .schedule .range (some n))) ∧
  (∀ (s : State) (f : From) (c : Ticket) (day tenth : Nat), s.Serves f → 1 ≤ c.number → c.number ≤ 9999 →
    s.ticket c.number = some c →
    (864000 ≤ tenth ∨ s.now.tenths + 864000 < day * 864000 + tenth →
      exec (.schedule f (.fields ⟨c.number, day, tenth⟩)) s =
        .next ((s.heard f).oweService f.source .schedule .range (some c.number))) ∧
    (day < 65536 → tenth < 864000 → day * 864000 + tenth ≤ s.now.tenths + 864000 → c.state = .parked →
      64 ≤ s.calls.schedule.length →
      exec (.schedule f (.fields ⟨c.number, day, tenth⟩)) s =
        .next ((s.heard f).oweService f.source .schedule .full (some c.number))) ∧
    (day < 65536 → tenth < 864000 → day * 864000 + tenth ≤ s.now.tenths + 864000 →
      (((c.state = .assigned ∨ c.state = .parking ∨ c.state = .restaging) ∧ c.callPending = true ∨ c.state = .called ∨
          c.state = .fetching ∨ c.state = .descending ∨ c.state = .staged ∨ c.state = .toCurb ∨ c.state = .atCurb) →
        exec (.schedule f (.fields ⟨c.number, day, tenth⟩)) s =
          .next ((s.heard f).oweService f.source .schedule .already (some c.number))) ∧
      ((c.state = .unplaced ∨ (c.state = .assigned ∨ c.state = .parking ∨ c.state = .restaging) ∧
          c.callPending = false) →
        exec (.schedule f (.fields ⟨c.number, day, tenth⟩)) s =
          .next ((s.heard f).oweService f.source .schedule .state (some c.number)))))

/-- CANCEL by the ticket's state: SCHEDULED returns to PARKED without its entry, and CALLED without its task; a
pending call is dropped; from FETCHING on it is TOO_LATE; otherwise STATE (R54). -/
def Obligations.CancelIsJudgedByState : Prop :=
  ∀ (s : State) (f : From) (c : Ticket), s.Serves f → 1 ≤ c.number → c.number ≤ 9999 → s.ticket c.number = some c →
    (c.state = .scheduled → ∃ t, exec (.cancel f (.fields c.number)) s = .next t ∧ s.KeepsSetup t ∧
      t.ticket c.number = some { c with state := .parked, verify := false } ∧
      t.calls.schedule = s.calls.schedule.filter (·.ticket != c.number) ∧ t.stalls = s.stalls ∧
      t.dispatch = s.dispatch ∧ t.events = s.events ∧ t.keys = s.keys ∧ t.arbiter = s.arbiter ∧
      s.ChangesOnlyTicket t c.number) ∧
    (c.state = .called → ∃ t k, exec (.cancel f (.fields c.number)) s = .next t ∧ s.KeepsSetup t ∧
      t.ticket c.number = some k ∧
      k.state = .parked ∧ k.calledAt = none ∧ k.promise = none ∧ k.stall = c.stall ∧ t.task c.number = none ∧
      t.stalls = s.stalls ∧ t.calls.schedule = s.calls.schedule ∧ t.events = s.events) ∧
    ((c.state = .parking ∨ c.state = .restaging ∨ c.state = .assigned) → c.callPending = true →
      ∃ t, exec (.cancel f (.fields c.number)) s = .next t ∧ s.KeepsSetup t ∧
        t.ticket c.number = some { c with callPending := false, calledAt := none, promise := none } ∧
        t.stalls = s.stalls ∧ t.dispatch = s.dispatch ∧ t.calls = s.calls ∧ t.events = s.events ∧
        t.keys = s.keys ∧ t.arbiter = s.arbiter ∧ s.ChangesOnlyTicket t c.number) ∧
    ((c.state = .fetching ∨ c.state = .descending ∨ c.state = .staged ∨ c.state = .toCurb ∨ c.state = .atCurb) →
      exec (.cancel f (.fields c.number)) s =
        .next ((s.heard f).oweService f.source .cancel .tooLate (some c.number))) ∧
    ((c.state = .unplaced ∨ c.state = .parked ∨
        (c.state = .assigned ∨ c.state = .parking ∨ c.state = .restaging) ∧ c.callPending = false) →
      exec (.cancel f (.fields c.number)) s =
        .next ((s.heard f).oweService f.source .cancel .state (some c.number)))

/-- GROUP_LINK: a ticket in no group joins a group of fewer than 4 in the last place; one in a group, or a leave
without a group, is STATE; a group of 4 is FULL; a leave moves the members behind up one place (R131, R132). -/
def Obligations.GroupsHoldFourInARing : Prop :=
  ∀ (s : State) (f : From) (c : Ticket) (g : Nat), s.Serves f → 1 ≤ c.number → c.number ≤ 9999 →
    s.ticket c.number = some c → g ≤ 63 →
    (1 ≤ g → c.group = none → (s.groupRing g).length < 4 →
      exec (.groupLink f (.fields ⟨g, c.number⟩)) s =
        .next (((s.heard f).modifyTicket c.number fun k =>
          { k with group := some (g, (s.groupRing g).length + 1) }).oweService f.source .groupLink .done
            (some c.number))) ∧
    (1 ≤ g → c.group = none → 4 ≤ (s.groupRing g).length →
      exec (.groupLink f (.fields ⟨g, c.number⟩)) s =
        .next ((s.heard f).oweService f.source .groupLink .full (some c.number))) ∧
    ((1 ≤ g ∧ c.group ≠ none ∨ g = 0 ∧ c.group = none) →
      exec (.groupLink f (.fields ⟨g, c.number⟩)) s =
        .next ((s.heard f).oweService f.source .groupLink .state (some c.number))) ∧
    (∀ h place, g = 0 → c.group = some (h, place) →
      ∃ t, exec (.groupLink f (.fields ⟨g, c.number⟩)) s = .next t ∧ s.KeepsSetup t ∧
        t.ticket c.number = some { c with group := none } ∧
        (∀ n k p, n ≠ c.number → s.ticket n = some k → k.group = some (h, p) →
          t.ticket n = some { k with group := some (h, if place < p then p - 1 else p) }) ∧
        t.stalls = s.stalls ∧ t.dispatch = s.dispatch ∧ t.calls = s.calls ∧ t.events = s.events)

/-- QUOTE_ASK changes nothing but the reply slot; its reply carries, read when it is built, the ticket's number,
state, quote and promise, the quote absent for an UNPLACED ticket, and no more than the number for a ticket no longer
open (R139). Of the other service replies, built from the slot and the ticket as it stands: ARRIVE carries the bound
stall, its level, the hook and the quote of an ASSIGNED ticket with DONE, and the hook with PLACED_LATER (R45); CALL the
lane 0 with 1 minute, or the promise, with DONE, and the quote with ALREADY (R49, R138); SCHEDULE its release time and quote while SCHEDULED,
else the promise, and the quote with ALREADY (R129); GROUP_LINK the group and place (R132); a group CALL the number of
members called (R134). A refusal that the rules give no field, and a reply for a closed ticket, carries what the slot
keeps alone (R43). The model's own are the number of a closed ticket issued again, for which a reply shows the new
ticket's record (log entry 52), GROUP_LINK's group on every outcome (log entry 16), the reply to a cancelled SCHEDULE (log entry
41), no release time on a refusal (log entry 47), and the members called when the lead has closed (log entry 51). -/
def Obligations.QuoteAskChangesOnlyTheReply : Prop :=
  (∀ (s : State) (f : From) (n : Nat), s.Serves f →
    exec (.quoteAsk f (.fields n)) s = .next ((s.heard f).oweService f.source .quoteAsk
      (if 1 ≤ n ∧ n ≤ 9999 ∧ s.ticket n ≠ none then .done else .range) (some n))) ∧
  (∀ (s : State) (n : Nat) (slot : ServiceSlot) (c : Ticket), slot.kind = .quoteAsk → slot.outcome = .done →
    slot.ticket = some n → s.ticket n = some c →
    (s.buildService slot).outcome = .done ∧ (s.buildService slot).ticket = some n ∧
      (s.buildService slot).state = some c.state ∧ (s.buildService slot).quote = s.quote c ∧
      (s.buildService slot).promise = c.promise ∧ (c.state = .unplaced → (s.buildService slot).quote = none)) ∧
  (∀ (s : State) (n : Nat) (slot : ServiceSlot), slot.kind = .quoteAsk → slot.outcome = .done → slot.ticket = some n →
    s.ticket n = none →
    (s.buildService slot).outcome = .done ∧ (s.buildService slot).ticket = some n ∧
      (s.buildService slot).state = none ∧ (s.buildService slot).quote = none ∧ (s.buildService slot).promise = none) ∧
  ∀ (s : State) (slot : ServiceSlot),
    let kept : ServiceReplyFrame :=
      { kind := slot.kind, outcome := slot.outcome, overrun := slot.overrun, ticket := slot.ticket, state := none,
        stall := none, level := none, hook := none, lane := none, quote := none, promise := none, release := none,
        group := none, members := slot.members }
    ((∀ n, slot.ticket = some n → s.ticket n = none) → s.buildService slot = kept) ∧
    (∀ n c, slot.ticket = some n → s.ticket n = some c →
      (slot.kind = .arrive → slot.outcome = .done → s.buildService slot = { kept with
        stall := c.stall, level := c.stall.bind fun k => (s.stall k).site.map (·.level), hook := c.hook
        quote := s.quote { c with state := .assigned } }) ∧
      (slot.kind = .arrive → slot.outcome = .placedLater → s.buildService slot = { kept with hook := c.hook }) ∧
      (slot.kind = .call → slot.outcome = .done → s.buildService slot =
        if c.lane = some 0 then { kept with lane := some 0, quote := some 1 } else { kept with quote := c.promise }) ∧
      (slot.kind = .call → slot.outcome = .already → s.buildService slot = { kept with quote := s.quote c }) ∧
      (∀ e, slot.kind = .schedule → slot.outcome = .done → c.state = .scheduled →
        (s.calls.schedule.map (·.ticket)).Nodup → e ∈ s.calls.schedule → e.ticket = n →
        s.buildService slot = { kept with release := some e.release, quote := s.quote c }) ∧
      (slot.kind = .schedule → slot.outcome = .done → c.state ≠ .scheduled →
        s.buildService slot = { kept with promise := c.promise }) ∧
      (slot.kind = .schedule → slot.outcome = .already → s.buildService slot = { kept with quote := s.quote c }) ∧
      (slot.kind = .groupLink → s.buildService slot = { kept with group := c.group }) ∧
      (slot.kind = .quoteAsk → slot.outcome = .done → s.buildService slot =
        { kept with state := some c.state, quote := s.quote c, promise := c.promise })) ∧
    ((slot.kind = .cancel ∨ slot.kind ≠ .groupLink ∧ slot.outcome ≠ .done ∧ slot.outcome ≠ .placedLater ∧
        slot.outcome ≠ .already) → s.buildService slot = kept)

/-- Every quote lies in 1 to 99 minutes, and only an UNPLACED ticket has none (R135, R137). The quote is the seconds of
the ticket's state in minutes, rounded up: the runner wait, the task mean, the walk, the lift part and the lane drive,
without the wait for FETCHING, the lane drive alone from DESCENDING to TO_CURB, and 1 minute AT_CURB (R135, R137). The
tasks ahead are those before its FETCH task in the order of R90, or before one made now, all when it is BACKLOG, and
the earlier called BACKLOG ones (R90, R136). The runner wait is 0 with fewer ahead than READY runners, else the rounds
needed, rounded up, times the task mean; walk and lift are those of the quote stall (R135, R137). A fed estimate moves
by one eighth of the difference to the sample, truncated toward zero, within 1 to 900; one within 7 seconds of the
sample stays (R141). -/
def Obligations.QuotesAndEstimatesStayInBounds : Prop :=
  (∀ (s : State) (t : Ticket) (age : SiteTime),
    (s.quoteAt t age = none ↔ t.state = .unplaced) ∧ ∀ m, s.quoteAt t age = some m → 1 ≤ m ∧ m ≤ 99) ∧
  (∀ (s : State) (c : Ticket) (age : SiteTime) (wait seconds minutes : Nat),
    (c.state = .parked ∨ c.state = .scheduled ∨ c.state = .called ∨ c.state = .assigned ∨ c.state = .parking ∨
        c.state = .restaging) ∧ wait = s.runnerWait c age ∨ c.state = .fetching ∧ wait = 0 →
    seconds = wait + s.calls.estimates.taskMean + s.quoteWalk c + s.liftPart c + s.calls.estimates.laneDrive →
    seconds ≤ 60 * minutes → 60 * minutes < seconds + 60 →
    s.quoteAt c age = some (max 1 (min 99 minutes))) ∧
  (∀ (s : State) (c : Ticket) (age : SiteTime),
    (c.state = .atCurb → s.quoteAt c age = some 1) ∧
    ∀ minutes, (c.state = .descending ∨ c.state = .staged ∨ c.state = .toCurb) →
      s.calls.estimates.laneDrive ≤ 60 * minutes → 60 * minutes < s.calls.estimates.laneDrive + 60 →
      s.quoteAt c age = some (max 1 (min 99 minutes))) ∧
  (∀ (s : State) (c : Ticket) (age : SiteTime) (ready active rounds : Nat),
    ready = ((oneTo 32).filter fun b => (s.runner b).state == .ready).length →
    active = max 1 ((oneTo 32).filter fun b =>
      (s.runner b).state == .ready || (s.runner b).state == .offered || (s.runner b).state == .tasked).length →
    (s.tasksAhead c age < ready → s.runnerWait c age = 0) ∧
    (ready ≤ s.tasksAhead c age → s.tasksAhead c age + 1 ≤ ready + active * rounds →
      ready + active * rounds < s.tasksAhead c age + 1 + active →
      s.runnerWait c age = rounds * s.calls.estimates.taskMean)) ∧
  (∀ (s : State) (c : Ticket) (age : SiteTime),
    let others := s.dispatch.tasks.filter fun v => v.ticket != c.number && v.inQueue
    let called := c.calledAt.getD age
    let backlog := (s.dispatch.tasks.filter fun v => v.place == .backlog && v.kind == .fetch && v.ticket != c.number &&
      ((s.ticket v.ticket).bind (·.calledAt)).any fun x => x.before called || (x == called && v.ticket < c.number)).length
    (∀ w, s.task c.number = some w → w.kind = .fetch → (w.place = .queued ∨ ∃ b, w.place = .offered b) →
      s.tasksAhead c age = (others.filter fun v => s.standsBefore v (s.priority w) w.age c.number).length + backlog) ∧
    (∀ w, s.task c.number = some w → w.kind = .fetch → w.place = .backlog →
      s.tasksAhead c age = others.length + backlog) ∧
    ((∀ w, s.task c.number = some w → w.kind ≠ .fetch) → s.tasksAhead c age =
      (others.filter fun v => s.standsBefore v (min 7 (3 + c.tier.num)) age c.number).length + backlog)) ∧
  (∀ (s : State) (w : Task) (c : Ticket), s.ticket w.ticket = some c →
    s.priority w = min 7 ((match w.kind with | .fetch => 3 | .park => 2 | .restage => 1) +
      (match c.tier with | .standard => 0 | .preferred => 1 | .reserved => 2) +
      (s.now.tenths - w.age.tenths) / 10 / s.params.agingStep)) ∧
  (∀ (s : State) (c : Ticket),
    let tenures (l : Nat) : List Tenure := (s.lift l).queue ++ (s.lift l).current.toList
    let rides (l : Nat) : Nat := (min 16 ((tenures l).filter (·.ticket != some c.number)).length + 1) *
      nth s.calls.estimates.liftCycle (l - 1) 60
    (∀ k site, (c.stall = some k ∨ c.stall = none ∧ c.state = .restaging ∧ c.target = some k) →
      (s.stall k).site = some site → s.quoteWalk c = site.walk ∧
        s.liftPart c = if site.lift = 0 then 0 else rides site.lift) ∧
    (c.stall = none → (c.state ≠ .restaging ∨ c.target = none) → s.quoteWalk c = 0 ∧
      s.liftPart c = if c.lift.getD 0 = 0 then 0 else rides (c.lift.getD 0))) ∧
  (∀ old sample : Nat, 1 ≤ old → old ≤ 900 →
    (fedEstimate old sample : Int) = max 1 (min 900 ((old : Int) + Int.tdiv ((sample : Int) - old) 8)) ∧
    (sample ≤ old + 7 → old ≤ sample + 7 → fedEstimate old sample = old))

/-! ### Runners and their steps -/

/-- RUNNER_STATUS with a level 0 to 7, by the runner's state: READY enters READY now, BREAK and OFF_DUTY that state,
POSITION keeps the state; each writes the level and the base (R85). A runner who enters READY starts a pairing: with
no task waiting nothing more changes, and the one QUEUED task is offered to the runner R92 chooses (R85, R90 to R93).
READY of a READY runner keeps its ready since; of an OFFERED one it owes the TASK_OFFER again, its deadline unmoved;
BREAK and OFF_DUTY of an OFFERED one withdraw the offer, and the task is QUEUED again (R85, R87, R96). READY, BREAK
and OFF_DUTY of a TASKED runner are refused with TASKED, and any status with a level above 7 with RANGE; the
record keeps its level and base (R85). -/
def Obligations.StatusMovesOnlyAFreeRunner : Prop :=
  (∀ (s : State) (f : From) (b level : Nat), s.Carries f b → level < 8 →
    (((s.runner b).state = .offDuty ∨ (s.runner b).state = .onBreak ∨ (s.runner b).state = .silent) → s.NoneQueued →
      exec (.runnerReady f b level) s = .next (((s.heard f).setRunner b { s.runner b with
        state := .ready, readySince := s.now, task := none, offerBy := none, level := level,
        base := some f.source }).oweRunner b .runnerStatus .done none)) ∧
    (((s.runner b).state = .offDuty ∨ (s.runner b).state = .onBreak ∨ (s.runner b).state = .silent) →
      ∀ w start chosen, s.dispatch.tasks.filter (·.place == .queued) = [w] → (s.dispatch.tasks.map (·.ticket)).Nodup →
      s.StartsAt w start →
      let entered : State := (s.heard f).setRunner b { s.runner b with
        state := .ready, readySince := s.now, task := none, offerBy := none, level := level, base := some f.source }
      entered.NearestRunner (entered.declinedNow w) start chosen →
      exec (.runnerReady f b level) s =
        .next ((entered.withOffer w chosen).oweRunner b .runnerStatus .done none)) ∧
    ((s.runner b).state = .ready → exec (.runnerReady f b level) s =
      .next (((s.heard f).setRunner b { s.runner b with level := level, base := some f.source }).oweRunner b
        .runnerStatus .done none)) ∧
    (∀ n kind, (s.runner b).state = .offered → (s.runner b).task = some (n, kind) →
      exec (.runnerReady f b level) s = .next (((s.heard f).setRunner b { s.runner b with
        owed := some (.offer n), level := level, base := some f.source }).oweRunner b .runnerStatus .done none) ∧
      ((∀ d, d ≠ b → (s.runner d).state ≠ .ready) →
        let withdrawn (x : RunnerState) : State := ((s.heard f).modifyTask n fun v => { v with place := .queued }).setRunner
          b { s.runner b with
            state := x, task := none, offerBy := none, owed := some (.withdraw n), level := level, base := some f.source }
        exec (.runnerBreak f b level) s = .next ((withdrawn .onBreak).oweRunner b .runnerStatus .done none) ∧
        exec (.runnerOffDuty f b level) s = .next ((withdrawn .offDuty).oweRunner b .runnerStatus .done none))) ∧
    ((s.runner b).state ≠ .offered → (s.runner b).state ≠ .tasked →
      exec (.runnerBreak f b level) s = .next (((s.heard f).setRunner b { s.runner b with
        state := .onBreak, level := level, base := some f.source }).oweRunner b .runnerStatus .done none) ∧
      exec (.runnerOffDuty f b level) s = .next (((s.heard f).setRunner b { s.runner b with
        state := .offDuty, level := level, base := some f.source }).oweRunner b .runnerStatus .done none)) ∧
    exec (.runnerPosition f b level) s = .next (((s.heard f).setRunner b { s.runner b with
      level := level, base := some f.source }).oweRunner b .runnerStatus .done none)) ∧
  (∀ (s : State) (f : From) (b level : Nat), s.Carries f b →
    (level < 8 → (s.runner b).state = .tasked →
      exec (.runnerReady f b level) s = .next ((s.heard f).oweRunner b .runnerStatus .tasked none) ∧
      exec (.runnerBreak f b level) s = .next ((s.heard f).oweRunner b .runnerStatus .tasked none) ∧
      exec (.runnerOffDuty f b level) s = .next ((s.heard f).oweRunner b .runnerStatus .tasked none)) ∧
    (8 ≤ level →
      exec (.runnerReady f b level) s = .next ((s.heard f).oweRunner b .runnerStatus .range none) ∧
      exec (.runnerBreak f b level) s = .next ((s.heard f).oweRunner b .runnerStatus .range none) ∧
      exec (.runnerOffDuty f b level) s = .next ((s.heard f).oweRunner b .runnerStatus .range none) ∧
      exec (.runnerPosition f b level) s = .next ((s.heard f).oweRunner b .runnerStatus .range none)))

/-- TASK_ACCEPT of the offered task: the task is HELD, the runner TASKED without an offer deadline, TASK_START is
raised, and an ASSIGNED ticket becomes PARKING, a CALLED one FETCHING, with the runner's badge (R47, R52, R94). -/
def Obligations.AcceptanceStartsTheTask : Prop :=
  ∀ (s : State) (f : From) (b : Nat) (c : Ticket) (w : Task), s.Carries f b → s.ticket c.number = some c →
    (s.dispatch.tasks.map (·.ticket)).Nodup → s.task c.number = some w → w.place = .offered b →
    (s.runner b).state = .offered → (s.runner b).task = some (c.number, w.kind) →
    ∃ t, exec (.taskAccept f b c.number) s = .next t ∧ s.KeepsSetup t ∧
      t.task c.number = some { w with place := .held b } ∧
      (t.runner b).state = .tasked ∧ (t.runner b).task = some (c.number, w.kind) ∧ (t.runner b).offerBy = none ∧
      t.events.waiting = s.events.waiting ++ [⟨.taskStart, b⟩] ∧ t.stalls = s.stalls ∧ t.keys = s.keys ∧
      t.arbiter = s.arbiter ∧ t.calls = s.calls ∧ t.unplaced = s.unplaced ∧
      (c.state = .assigned →
        t.ticket c.number = some { c with state := .parking, runner := some b, verify := false }) ∧
      (c.state = .called →
        t.ticket c.number = some { c with state := .fetching, runner := some b, verify := false, backlog := false }) ∧
      (c.state = .restaging → t.ticket c.number = some { c with runner := some b })

/-- TASK_DECLINE of the offered task, when some other on-duty runner has not declined it, no other runner is READY and
no other task is QUEUED: the task returns to QUEUED with its age, the badge in its declined set, and the runner is
READY now (R91, R95). -/
def Obligations.DeclineKeepsTheTaskInItsPlace : Prop :=
  ∀ (s : State) (f : From) (b b' : Nat) (w : Task), s.Carries f b →
    (s.dispatch.tasks.map (·.ticket)).Nodup → s.task w.ticket = some w → w.place = .offered b →
    (s.runner b).state = .offered → (s.runner b).task = some (w.ticket, w.kind) → s.NoneQueued →
    b' ≠ b → 1 ≤ b' → b' ≤ 32 → (s.runner b').onDuty = true → b' ∉ w.declined →
    (∀ d, d ≠ b → (s.runner d).state ≠ .ready) →
    exec (.taskDecline f b w.ticket) s = .next ((((s.heard f).modifyTask w.ticket fun k =>
      { k with place := .queued, declined := k.declined ++ [b] }).setRunner b { s.runner b with
        state := .ready, readySince := s.now, task := none, offerBy := none }).oweRunner b .taskDecline .done
          (some w.ticket))

/-- An acceptance or a decline of a task that the runner is neither offered nor holds is answered WITHDRAWN and
changes nothing but the reply slot (R94, R95). A repeated TASK_ACCEPT of the task the runner holds is DONE, and a
TASK_DECLINE of it WITHDRAWN; either changes nothing but the reply slot (R94, R95). A step from a runner who does not hold the ticket's task is refused
with NOT_HOLDER and changes nothing but the reply slot; so is a HANDOVER when the ticket is not AT_CURB without a
task, or the runner is not on duty (R46, R56). -/
def Obligations.OnlyTheHolderActsOnATask : Prop :=
  (∀ (s : State) (f : From) (b n : Nat), s.Carries f b → ((s.runner b).task.map (·.1)) ≠ some n →
    exec (.taskAccept f b n) s = .next ((s.heard f).oweRunner b .taskAccept .withdrawn (some n)) ∧
    exec (.taskDecline f b n) s = .next ((s.heard f).oweRunner b .taskDecline .withdrawn (some n))) ∧
  (∀ (s : State) (f : From) (b n : Nat), s.Carries f b → s.holdsTask b n = true →
    exec (.taskAccept f b n) s = .next ((s.heard f).oweRunner b .taskAccept .done (some n)) ∧
    exec (.taskDecline f b n) s = .next ((s.heard f).oweRunner b .taskDecline .withdrawn (some n))) ∧
  (∀ (s : State) (f : From) (b n : Nat), s.Carries f b → s.holdsTask b n = false →
    (∀ level, level < 8 →
      exec (.atLobby f b n level) s = .next ((s.heard f).oweRunner b .atLobby .notHolder (some n))) ∧
    exec (.departed f b n) s = .next ((s.heard f).oweRunner b .departed .notHolder (some n)) ∧
    (∀ k free, exec (.parked f b n k free) s = .next ((s.heard f).oweRunner b .parked .notHolder (some n))) ∧
    exec (.keyRequest f b n) s = .next ((s.heard f).oweRunner b .keyRequest .notHolder (some n)) ∧
    (((s.ticket n).map (·.state) ≠ some .atCurb ∨ s.task n ≠ none ∨ (s.runner b).onDuty = false) →
      ∀ free, exec (.handover f b n free) s = .next ((s.heard f).oweRunner b .handover .notHolder (some n))))

/-- AT_LOBBY files the ride its ticket's state asks for, on a lift 1 to 4: PARKING up from level 0 to the stall, FETCHING
down from the lobby to 0, RESTAGING from the lobby to the target (R47, R48, R52). The tenure is WAITING or already
granted, the lift is written in the ticket, and the level in the runner; a FETCHING ticket granted its ride is
DESCENDING with a lane request (R53, R99, R107, R111). A filing the lift cannot take is refused: RANGE when a level is
not served, FULL when 32 tenures wait; the ticket and the runner's level stay (R99, R107). With a tenure already, from
a stall of lift 0, or with no ride to make, the step is DONE and sets the level alone; with a stall still bound, or in
another state, it is refused with STATE (R46, R47, R48, R52; a FETCHING ticket without a lift counts as of lift 0, log
entry 13). -/
def Obligations.LobbyFilesTheRideOrIsRefused : Prop :=
  (∀ (s : State) (f : From) (b level l fromLevel toLevel : Nat) (d : Direction) (c : Ticket), s.Holds f b c →
    level < 8 → s.LobbyRide c level l d fromLevel toLevel → 1 ≤ l → l ≤ 4 → s.hasTenure c.number = false →
    (fromLevel ∈ s.servedLevels l → toLevel ∈ s.servedLevels l → (s.lift l).queue.length < 32 → s.GroupsRight →
      ∃ t w, exec (.atLobby f b c.number level) s = .next t ∧ s.KeepsSetup t ∧ w ∈ (t.lift l).tenures ∧
        w.ticket = some c.number ∧ w.runner = some b ∧ w.direction = d ∧ w.fromLevel = fromLevel ∧
        w.toLevel = toLevel ∧ w.requested = s.now ∧
        (w.state = .waiting ∧ w ∈ (t.lift l).queue ∨ w.state = .granted ∧ (t.lift l).current = some w) ∧
        ((c.state ≠ .fetching ∨ w.state = .waiting) → t.ticket c.number = some { c with lift := some l }) ∧
        (c.state = .fetching → w.state = .granted → (t.ticket c.number).map (fun e => (e.state, e.laneRequest)) =
          some (.descending, some (c.laneRequest.getD s.now))) ∧
        (t.runner b).level = level ∧ (t.runner b).state = .tasked ∧ t.stalls = s.stalls ∧ t.keys = s.keys ∧
        t.dispatch.tasks = s.dispatch.tasks ∧ t.unplaced = s.unplaced ∧
        ((t.runner b).reply.map fun r => (r.outcome, r.ticket)) = some (.done, some c.number)) ∧
    ((fromLevel ∉ s.servedLevels l ∨ toLevel ∉ s.servedLevels l) →
      exec (.atLobby f b c.number level) s = .next ((s.heard f).oweRunner b .atLobby .range (some c.number))) ∧
    (fromLevel ∈ s.servedLevels l → toLevel ∈ s.servedLevels l → 32 ≤ (s.lift l).queue.length →
      exec (.atLobby f b c.number level) s = .next ((s.heard f).oweRunner b .atLobby .full (some c.number)))) ∧
  (∀ (s : State) (f : From) (b level : Nat) (c : Ticket), s.Holds f b c → level < 8 →
    ((c.state = .parking ∧ (s.hasTenure c.number = true ∨
          ∃ k site, c.stall = some k ∧ (s.stall k).site = some site ∧ site.lift = 0) ∨
        c.stall = none ∧ (c.state = .fetching ∨ c.state = .restaging) ∧
          (s.hasTenure c.number = true ∨ c.lift = none ∨ c.lift = some 0) ∨
        c.stall = none ∧ c.state = .restaging ∧
          ∃ k site, c.target = some k ∧ (s.stall k).site = some site ∧ site.level = level) →
      exec (.atLobby f b c.number level) s = .next (((s.heard f).setRunner b { s.runner b with level := level }).oweRunner
        b .atLobby .done (some c.number))) ∧
    ((c.state ≠ .parking ∧ (c.stall ≠ none ∨ (c.state ≠ .fetching ∧ c.state ≠ .restaging))) →
      exec (.atLobby f b c.number level) s = .next ((s.heard f).oweRunner b .atLobby .state (some c.number))))

/-- DEPARTED from a bound stall: the stall is FREE and leaves the ticket, its lift is written in the lift field, and the
runner's level becomes the stall's (R7, R48, R52, R99). A RESTAGING ticket stays so, and a FETCHING one from a stall
of lift 1 to 4; from one of lift 0 it is STAGED with a lane request now, and with a lane that stands FREE TO_CURB
and on the curb board (R52, R119, R142). With no bound stall a RESTAGING ticket, or a FETCHING one of lift 1 to 4, is
answered DONE and nothing changes, one of lift 0 is STAGED; with a tenure a FETCHING one is answered DONE and nothing
changes (R48, R52; a ticket without a lift counts as of lift 0, log entry 13). In any other state the step is refused
with STATE (R46). -/
def Obligations.DepartureFreesTheStall : Prop :=
  (∀ (s : State) (f : From) (b k : Nat) (c : Ticket) (site : StallSite), s.Holds f b c →
    c.stall = some k → k < 640 → (s.stall k).site = some site → s.occupiedBy k c.number = true →
    s.unplaced = [] → (∀ d ∈ s.tickets, d.restageWanted = false) →
    ((c.state = .restaging ∨ c.state = .fetching ∧ 1 ≤ site.lift ∧ s.hasTenure c.number = false) →
      ∃ t, exec (.departed f b c.number) s = .next t ∧ s.DepartsFrom t b k c.number site ∧ t.arbiter = s.arbiter ∧
        t.calls = s.calls ∧ t.ticket c.number = some { c with stall := none, lift := some site.lift }) ∧
    (c.state = .fetching → site.lift = 0 → s.hasTenure c.number = false → s.freeLanes = [] →
      ∃ t, exec (.departed f b c.number) s = .next t ∧ s.DepartsFrom t b k c.number site ∧ t.arbiter = s.arbiter ∧
        t.calls = s.calls ∧ t.ticket c.number = some { c with
          stall := none, lift := some 0, laneRequest := some s.now, state := .staged, verify := false }) ∧
    (∀ n, c.state = .fetching → site.lift = 0 → s.hasTenure c.number = false → s.GroupsRight → s.NoLaneRequest →
      c.lane = none → n ∈ s.freeLanes → 0 ∈ s.preferredLifts n → (∀ m ∈ s.freeLanes, 0 ∈ s.preferredLifts m → n ≤ m) →
      ∃ t, exec (.departed f b c.number) s = .next t ∧ s.DepartsFrom t b k c.number site ∧
        (t.lane n).state = .reserved ∧ (t.lane n).ticket = some c.number ∧ ⟨c.number, s.now⟩ ∈ t.calls.board ∧
        t.ticket c.number = some { c with
          stall := none, lift := some 0, laneRequest := some s.now, state := .toCurb, verify := false, lane := some n })) ∧
  (∀ (s : State) (f : From) (b : Nat) (c : Ticket), s.Holds f b c →
    ((c.state = .restaging ∧ c.stall = none ∨ c.state = .fetching ∧ s.hasTenure c.number = true ∨
        c.state = .fetching ∧ c.stall = none ∧ ∃ l, c.lift = some l ∧ 1 ≤ l) →
      exec (.departed f b c.number) s = .next ((s.heard f).oweRunner b .departed .done (some c.number))) ∧
    (c.state = .fetching → c.stall = none → (c.lift = none ∨ c.lift = some 0) → s.hasTenure c.number = false →
      s.freeLanes = [] →
      ∃ t, exec (.departed f b c.number) s = .next t ∧ s.KeepsSetup t ∧ s.ChangesOnlyTicket t c.number ∧
        t.stalls = s.stalls ∧ t.arbiter = s.arbiter ∧ t.keys = s.keys ∧ t.calls = s.calls ∧
        t.ticket c.number = some { c with laneRequest := some s.now, state := .staged, verify := false }) ∧
    (c.state ≠ .restaging → c.state ≠ .fetching →
      exec (.departed f b c.number) s = .next ((s.heard f).oweRunner b .departed .state (some c.number))))

/-- PARKED of a PARKING or RESTAGING ticket, by the state of the stall it names (R6). A stall HELD for it, or a FREE one,
is OCCUPIED: confirmed when a sensor sees the car, else with a confirm deadline. A hold on another stall is released; an
old stall still OCCUPIED is freed, whose lift the ticket takes; in its old stall the ticket stays (R5 to R7). The ticket
is PARKED now, or CALLED with a FETCH task when a call is pending, and its task ends: the runner is SILENT, or READY with
the slot-free mark (R47, R48, R51, R99, R100). Where a stall is freed, no ticket waits for it, so that its hand-on takes
nothing. The ticket's task stands in the queue once, HELD by the runner, as it does for a runner who holds it (R88, R94).
A stall above 639 is RANGE, any other stall STALL_TAKEN, and a ticket in another state STATE (R6, R46). The order of the
effects is the model's choice (log entry 11). -/
def Obligations.ParkedOccupiesTheHeldStall : Prop :=
  ∀ (s : State) (f : From) (b : Nat) (c : Ticket) (slotFree : Bool), s.Holds f b c →
    ((c.state = .parking ∨ c.state = .restaging) →
      (∀ k site, k < 640 → (s.stall k).site = some site →
        ((s.stall k).state = .free ∨ s.heldFor k c.number = true ∨
          c.state = .restaging ∧ s.occupiedBy k c.number = true) →
        ((∃ j, s.GivesUp c k j ∨ s.Leaves c k j) → s.unplaced = [] ∧ ∀ d ∈ s.tickets, d.restageWanted = false) →
        (s.dispatch.tasks.map (·.ticket)).Nodup → (∃ w, s.task c.number = some w ∧ w.place = .held b) →
        ∃ t, exec (.parked f b c.number k slotFree) s = .next t ∧ s.ParksIn t b k c site slotFree) ∧
      (∀ k, 640 ≤ k → exec (.parked f b c.number k slotFree) s =
        .next ((s.heard f).oweRunner b .parked .range (some c.number))) ∧
      (∀ k, k < 640 → (s.stall k).state ≠ .free → s.heldFor k c.number = false →
        (c.state = .restaging → s.occupiedBy k c.number = false) →
        exec (.parked f b c.number k slotFree) s =
          .next ((s.heard f).oweRunner b .parked .stallTaken (some c.number)))) ∧
    (c.state ≠ .parking → c.state ≠ .restaging → ∀ k, exec (.parked f b c.number k slotFree) s =
      .next ((s.heard f).oweRunner b .parked .state (some c.number)))

/-- KEY_REQUEST of a holder whose ticket is FETCHING or RESTAGING: from CABINET the hook is RELEASED to the runner
with a deadline, from MISSING it is OUT with the runner and the key alert cleared, and otherwise the request is
refused (R69, R70). Of a holder whose ticket is in another state it is refused with STATE, and nothing but the reply slot
changes (R46). -/
def Obligations.KeyRequestReleasesTheKey : Prop :=
  (∀ (s : State) (f : From) (b h : Nat) (c : Ticket), s.Holds f b c → (c.state = .fetching ∨ c.state = .restaging) →
    (c.hook = none → exec (.keyRequest f b c.number) s =
      .next ((s.heard f).oweRunner b .keyRequest .keyState (some c.number))) ∧
    (c.hook = some h → (s.panel (panelOf h)).state = .faulted →
      exec (.keyRequest f b c.number) s = .next ((s.heard f).oweRunner b .keyRequest .keyPanel (some c.number))) ∧
    (c.hook = some h → (s.panel (panelOf h)).state ≠ .faulted → (s.hook h).custody = .cabinet →
      exec (.keyRequest f b c.number) s = .next (((s.heard f).setHook h { s.hook h with
        custody := .released, runner := some b,
        releaseBy := some ⟨s.now.plusSeconds s.params.releaseWindow, false⟩ }).oweRunner b .keyRequest .done
          (some c.number))) ∧
    (c.hook = some h → h < 576 → (s.hook h).ticket = some c.number → (s.panel (panelOf h)).state ≠ .faulted →
      (s.hook h).custody = .missing →
      exec (.keyRequest f b c.number) s = .next ((((s.heard f).setHook h { s.hook h with
        custody := .out, runner := some b }).modifyTicket c.number fun k =>
          { k with keyAlert := false }).oweRunner b .keyRequest .done (some c.number))) ∧
    (c.hook = some h → (s.panel (panelOf h)).state ≠ .faulted → (s.hook h).custody ≠ .cabinet →
      (s.hook h).custody ≠ .missing →
      exec (.keyRequest f b c.number) s = .next ((s.heard f).oweRunner b .keyRequest .keyState (some c.number)))) ∧
  ∀ (s : State) (f : From) (b : Nat) (c : Ticket), s.Holds f b c → c.state ≠ .fetching → c.state ≠ .restaging →
    exec (.keyRequest f b c.number) s = .next ((s.heard f).oweRunner b .keyRequest .state (some c.number))

/-- HANDOVER of an AT_CURB ticket by the holder of its task closes it: the record is freed, its key's hook is bound to
it no more, its lane stays as it stands without the ticket, and its task ends: the runner is SILENT without the
slot-free mark, and with it READY now, when no task waits for a runner (R56, R57, R100). Of an AT_CURB ticket without
a task any runner in READY, OFFERED or TASKED may hand over: the ticket closes alike, no task ends, and the runner
keeps its state and task (R56, R100). Either sets the runner's level to 0 (R99; log entry 10). -/
def Obligations.HandoverClosesTheTicket : Prop :=
  ∀ (s : State) (f : From) (b : Nat) (c : Ticket) (free : Bool), s.Carries f b → s.ticket c.number = some c →
    c.state = .atCurb →
    (s.holdsTask b c.number = true ∨
      s.holdsTask b c.number = false ∧ s.task c.number = none ∧
        ((s.runner b).state = .ready ∨ (s.runner b).state = .offered ∨ (s.runner b).state = .tasked)) →
    ∃ t, exec (.handover f b c.number free) s = .next t ∧ s.KeepsSetup t ∧
      t.ticket c.number = none ∧ t.task c.number = none ∧ (t.runner b).level = 0 ∧
      (∀ n, 1 ≤ n → n ≤ 6 → (t.lane n).state = (s.lane n).state ∧ (t.lane n).ticket ≠ some c.number) ∧
      (∀ h, c.hook = some h → h < 576 → (t.hook h).ticket ≠ some c.number) ∧
      (∀ e ∈ t.calls.board, e.ticket ≠ c.number) ∧ t.stalls = s.stalls ∧
      t.arbiter.lifts = s.arbiter.lifts ∧ t.calls.schedule = s.calls.schedule ∧
      ((t.runner b).reply.map fun r => (r.outcome, r.ticket)) = some (.done, some c.number) ∧
      (s.holdsTask b c.number = true → t.events.waiting = s.events.waiting ++ [⟨.taskEnd, b⟩] ∧
        (free = false → (t.runner b).state = .silent ∧ (t.runner b).task = none) ∧
        (free = true → s.NoneQueued → (t.runner b).state = .ready ∧ (t.runner b).readySince = s.now ∧
          (t.runner b).task = none)) ∧
      (s.holdsTask b c.number = false → t.events = s.events ∧ t.dispatch.tasks = s.dispatch.tasks ∧
        (t.runner b).state = (s.runner b).state ∧ (t.runner b).task = (s.runner b).task ∧
        (t.runner b).offerBy = (s.runner b).offerBy)

/-! ### Lifts and lanes -/

/-- LOADED makes a GRANTED tenure RIDING and ARRIVED sets the parked level of a BUSY lift with a tenure; a repeat of
LOADED, and any of the four ride reports to a lift that is not BUSY or has no tenure, changes nothing (R106, R112). -/
def Obligations.RideReportsFollowTheTenure : Prop :=
  ∀ (s : State) (f : From) (l level : Nat), s.LiftSpeaks f l → level < 8 →
    (∀ w, (s.lift l).state = .busy → (s.lift l).current = some w →
      (w.state = .granted → exec (.liftLoadedReport f level) s =
        .next ((s.heard f).setLift l { s.lift l with current := some { w with state := .riding } })) ∧
      (w.state = .riding → exec (.liftLoadedReport f level) s = .next (s.heard f) ∧
        exec (.liftObstructedReport f level) s = .next (s.heard f)) ∧
      exec (.liftArrivedReport f level) s = .next ((s.heard f).setLift l { s.lift l with parkedLevel := level })) ∧
    (((s.lift l).state ≠ .busy ∨ (s.lift l).current = none) →
      exec (.liftLoadedReport f level) s = .next (s.heard f) ∧ exec (.liftArrivedReport f level) s = .next (s.heard f) ∧
      exec (.liftUnloadedReport f level) s = .next (s.heard f) ∧
      exec (.liftObstructedReport f level) s = .next (s.heard f))

/-- UNLOADED ends the ride: LIFT_DONE is raised first, the parked level is the tenure's to-level, and a DESCENDING
ticket becomes TO_CURB with a lane reserved, STAGED without; an empty queue leaves the lift IDLE (R112). -/
def Obligations.UnloadingEndsTheRide : Prop :=
  ∀ (s : State) (f : From) (l level : Nat) (w : Tenure) (c : Ticket), s.LiftSpeaks f l → level < 8 →
    (s.lift l).state = .busy → (s.lift l).current = some w → w.ticket = some c.number → s.ticket c.number = some c →
    ∃ t, exec (.liftUnloadedReport f level) s = .next t ∧ s.KeepsSetup t ∧
      (∃ more, t.events.waiting = s.events.waiting ++ ⟨.liftDone, l⟩ :: more) ∧
      (t.lift l).parkedLevel = w.toLevel ∧ t.stalls = s.stalls ∧ t.keys = s.keys ∧ t.dispatch = s.dispatch ∧
      ((s.lift l).queue = [] →
        t.lift l = { s.lift l with state := .idle, current := none, parkedLevel := w.toLevel } ∧
        (c.state = .descending → t.ticket c.number = some { c with
          state := if c.lane.isSome then .toCurb else .staged, verify := false }) ∧
        ((c.state = .parking ∨ c.state = .restaging) → t.ticket c.number = some c) ∧
        s.ChangesOnlyTicket t c.number)

/-- OBSTRUCTED on a GRANTED tenure turns it back: it waits again with its request time and pass count, the lift stays
BUSY without a tenure, and a DESCENDING ticket is FETCHING again with its lane request time kept; no lift event is
raised (R113). -/
def Obligations.ObstructionTurnsTheTenureBack : Prop :=
  ∀ (s : State) (f : From) (l level : Nat) (w : Tenure) (c : Ticket), s.LiftSpeaks f l → level < 8 →
    (s.lift l).state = .busy → (s.lift l).current = some w → w.state = .granted → w.ticket = some c.number →
    s.ticket c.number = some c →
    ∃ t, exec (.liftObstructedReport f level) s = .next t ∧ s.KeepsSetup t ∧
      (t.lift l).state = .busy ∧ (t.lift l).current = none ∧
      { w with state := .waiting } ∈ (t.lift l).queue ∧ (t.lift l).queue.length = (s.lift l).queue.length + 1 ∧
      (c.state = .descending → ∃ k, t.ticket c.number = some k ∧ k.state = .fetching ∧ k.laneRequest = c.laneRequest ∧
        ∀ n, 1 ≤ n → n ≤ 6 → ¬((t.lane n).state = .reserved ∧ (t.lane n).ticket = some c.number)) ∧
      ((c.state = .parking ∨ c.state = .restaging) → t.ticket c.number = some c) ∧
      t.events = s.events ∧ t.stalls = s.stalls ∧ t.keys = s.keys ∧ t.dispatch = s.dispatch

/-- A FAULT report makes a lift in UNKNOWN, IDLE or BUSY FAULT: LIFT_FAULT is raised, its order is no longer owed, and
its tenures stand where they are; a lift already in FAULT is unchanged (R115). An IDLE report of a lift in UNKNOWN or
FAULT with no tenure makes it IDLE at the level reported; with a RIDING tenure it is BUSY and the ride goes on. Of a
BUSY lift, an IDLE report owes the order of a GRANTED tenure again and leaves a RIDING one to its ride; without a tenure,
as OBSTRUCTED leaves it, the lift is IDLE, and its grant check follows (R113, R116). A GRANTED tenure is turned back at the recovery as by
OBSTRUCTED, the lift IDLE, or removed when it has no ticket; a configured lift may grant it again at once (R113,
R116). When a serviceable lift faults, the one ASSIGNED ticket is re-placed if its stall is on that lift and its PARK
task is not OFFERED: the new stall is HELD, the old one released; without another stall it keeps its own (R36). When a
lift becomes serviceable it is re-placed from any stall, its own being eligible (R37). -/
def Obligations.FaultsHoldAndIdleRecovers : Prop :=
  (∀ (s : State) (f : From) (l level : Nat), s.LiftSpeaks f l → level < 8 →
    (((s.lift l).state = .unknown ∨ (s.lift l).state = .idle ∨ (s.lift l).state = .busy) →
      ∃ t more, exec (.liftFaultReport f level) s = .next t ∧ s.KeepsSetup t ∧
        t.lift l = { s.lift l with state := .fault, orderOwed := false } ∧
        t.events.waiting = s.events.waiting ++ ⟨.liftFault, l⟩ :: more ∧
        (∀ a, 1 ≤ a → a ≤ 60 → (t.station a).cls = .lift → (t.station a).served = some (.lift l) →
          (t.station a).orderMark = false)) ∧
    ((s.lift l).state = .fault → exec (.liftFaultReport f level) s = .next (s.heard f))) ∧
  (∀ (s : State) (f : From) (l level : Nat), s.LiftSpeaks f l → level < 8 →
    (((s.lift l).state = .unknown ∨ (s.lift l).state = .fault) → (s.lift l).current = none → (s.lift l).queue = [] →
      ∃ t, exec (.liftIdleReport f level) s = .next t ∧ s.KeepsSetup t ∧
        t.lift l = { s.lift l with state := .idle, parkedLevel := level }) ∧
    (∀ w, ((s.lift l).state = .unknown ∨ (s.lift l).state = .fault) → (s.lift l).current = some w → w.state = .riding →
      ∃ t, exec (.liftIdleReport f level) s = .next t ∧ s.KeepsSetup t ∧
        t.lift l = { s.lift l with state := .busy, parkedLevel := level }) ∧
    (∀ w, (s.lift l).state = .busy → (s.lift l).current = some w → w.state = .granted →
      ∃ t, exec (.liftIdleReport f level) s = .next t ∧ s.KeepsSetup t ∧
        t.lift l = { s.lift l with parkedLevel := level, orderOwed := true } ∧
        (∀ a, 1 ≤ a → a ≤ 60 → (t.station a).cls = .lift → (t.station a).served = some (.lift l) →
          (t.station a).orderMark = true) ∧
        t.tickets = s.tickets ∧ t.stalls = s.stalls ∧ t.dispatch = s.dispatch ∧ t.events = s.events) ∧
    (∀ w, (s.lift l).state = .busy → (s.lift l).current = some w → w.state = .riding →
      exec (.liftIdleReport f level) s = .next ((s.heard f).setLift l { s.lift l with parkedLevel := level })) ∧
    ((s.lift l).state = .busy → (s.lift l).current = none →
      let emptied : State := (s.heard f).setLift l { s.lift l with state := .idle, parkedLevel := level }
      exec (.liftIdleReport f level) s = .next (emptied.grantCheck l) ∧
        (((s.lift l).queue = [] ∨ s.liftConfigured l = false) → exec (.liftIdleReport f level) s = .next emptied) ∧
        (∀ w, (s.lift l).queue = [w] → s.liftConfigured l = true →
          (w.direction = .up ∨ s.stagingCount l < 2) →
          ∃ t, exec (.liftIdleReport f level) s = .next t ∧ s.KeepsSetup t ∧
            t.lift l = { s.lift l with
              state := .busy, parkedLevel := level, queue := [], current := some { w with state := .granted },
              orderOwed := true } ∧
            ⟨.liftGrant, l⟩ ∈ t.events.waiting)) ∧
    ((s.lift l).state = .idle → exec (.liftIdleReport f level) s =
      .next ((s.heard f).setLift l { s.lift l with parkedLevel := level }))) ∧
  (∀ (s : State) (f : From) (l level : Nat) (w : Tenure), s.LiftSpeaks f l → level < 8 →
    ((s.lift l).state = .unknown ∨ (s.lift l).state = .fault) → (s.lift l).current = some w → w.state = .granted →
    (∀ c, w.ticket = some c.number → s.ticket c.number = some c → s.liftConfigured l = false →
      ∃ t, exec (.liftIdleReport f level) s = .next t ∧ s.KeepsSetup t ∧ (t.lift l).state = .idle ∧
        (t.lift l).current = none ∧ (t.lift l).parkedLevel = level ∧ { w with state := .waiting } ∈ (t.lift l).queue ∧
        (t.lift l).queue.length = (s.lift l).queue.length + 1 ∧
        (c.state = .descending → ∃ k, t.ticket c.number = some k ∧ k.state = .fetching ∧ k.laneRequest = c.laneRequest ∧
          ∀ n, 1 ≤ n → n ≤ 6 → ¬((t.lane n).state = .reserved ∧ (t.lane n).ticket = some c.number)) ∧
        ((c.state = .parking ∨ c.state = .restaging) → t.ticket c.number = some c) ∧
        t.events = s.events ∧ t.stalls = s.stalls ∧ t.keys = s.keys ∧ t.dispatch = s.dispatch) ∧
    (∀ n, w.ticket = some n → s.liftConfigured l = true → (s.lift l).queue = [] → w.direction = .up →
      ∃ t, exec (.liftIdleReport f level) s = .next t ∧ s.KeepsSetup t ∧
        t.lift l = { s.lift l with state := .busy, parkedLevel := level, current := some w, orderOwed := true } ∧
        ⟨.liftGrant, l⟩ ∈ t.events.waiting) ∧
    (w.ticket = none → (s.lift l).queue = [] → ∃ t, exec (.liftIdleReport f level) s = .next t ∧ s.KeepsSetup t ∧
      t.lift l = { s.lift l with state := .idle, parkedLevel := level, current := none })) ∧
  (∀ (s : State) (f : From) (l level : Nat), s.LiftSpeaks f l → level < 8 →
    ((s.lift l).state = .idle ∨ (s.lift l).state = .busy) → s.liftConfigured l = true →
    ((∀ c ∈ s.tickets, c.state = .assigned → (∃ w b, s.task c.number = some w ∧ w.place = .offered b) ∨
        ∃ k site, c.stall = some k ∧ (s.stall k).site = some site ∧ site.lift ≠ l) →
      ∃ t, exec (.liftFaultReport f level) s = .next t ∧ t.tickets = s.tickets ∧ t.stalls = s.stalls ∧
        t.dispatch = s.dispatch) ∧
    (∀ c old site, s.OneAssigned c old → (s.stall old).site = some site → site.lift = l → s.unplaced = [] →
      let faulted : State := (s.heard f).setLift l { s.lift l with state := .fault }
      (∀ k second, faulted.MovesTo c k second →
        ∃ t, exec (.liftFaultReport f level) s = .next t ∧ s.Replaced t c old k second) ∧
      ((∀ k site, ¬ faulted.mayMoveTo c false k site) →
        ∃ t, exec (.liftFaultReport f level) s = .next t ∧ t.tickets = s.tickets ∧ t.stalls = s.stalls ∧
          t.dispatch = s.dispatch))) ∧
  (∀ (s : State) (f : From) (l level old : Nat) (c : Ticket), s.LiftSpeaks f l → level < 8 →
    ((s.lift l).state = .unknown ∨ (s.lift l).state = .fault) → s.liftConfigured l = true → (s.lift l).current = none →
    (s.lift l).queue = [] → s.OneAssigned c old → s.unplaced = [] →
    (∀ d ∈ s.tickets, d.state = .parked → d.restageWanted = false) →
    let recovered : State := (s.heard f).setLift l { s.lift l with state := .idle, parkedLevel := level }
    (∀ k second, recovered.MovesTo c k second →
      ∃ t, exec (.liftIdleReport f level) s = .next t ∧ s.Replaced t c old k second) ∧
    ((∀ k site, ¬ recovered.mayMoveTo c false k site) →
      ∃ t, exec (.liftIdleReport f level) s = .next t ∧ t.tickets = s.tickets ∧ t.stalls = s.stalls ∧
        t.dispatch = s.dispatch))

/-- A grant check of a lift that is configured, IDLE and without a tenure grants one of the qualifying tenures: UP
ones, and DOWN ones while fewer than two cars are on the way down or staged. The one chosen is the oldest, or, when
the oldest starts elsewhere, the first within the park skip that starts at the parked level, provided that all before
it have been passed fewer than three times; each of those is counted up by one, and every other tenure stays as it is
(R108 to R110). The lift is BUSY with its order owed and LIFT_GRANT raised (R111; where no LIFT station serves the lift
the order is owed all the same, the model's choice, log entry 49). Otherwise nothing changes (R109). A lane grant check
serves the oldest lane request first, then by ticket number: it gives it the lowest FREE configured lane that prefers the
ticket's lift, or, when none does, the lowest FREE configured lane; a STAGED ticket becomes TO_CURB. It goes on until no
request stands or no configured lane is FREE, and without either it changes nothing (R119). -/
def Obligations.GrantsFollowTheLimits : Prop :=
  (∀ (s : State) (l : Nat), 1 ≤ l → l ≤ 4 →
    let queue := (s.lift l).queue
    let parked := (s.lift l).parkedLevel
    let qualifying := queue.filter fun v => v.direction == .up || decide (s.stagingCount l < 2)
    ((s.liftConfigured l = false ∨ (s.lift l).state ≠ .idle ∨ (s.lift l).current ≠ none ∨ qualifying = []) →
      s.grantCheck l = s) ∧
    (s.liftConfigured l = true → (s.lift l).state = .idle → (s.lift l).current = none → qualifying ≠ [] →
      ∃ v ahead behind, qualifying = ahead ++ v :: behind ∧
        (ahead = [] ∧ (v.fromLevel = parked ∨ ∀ before u after, behind = before ++ u :: after →
            before.length < s.params.parkSkip → u.fromLevel = parked → (∀ x ∈ before, x.fromLevel ≠ parked) →
            ∃ x ∈ v :: before, 3 ≤ x.passes) ∨
          ahead ≠ [] ∧ ahead.length ≤ s.params.parkSkip ∧ v.fromLevel = parked ∧
            ∀ x ∈ ahead, x.fromLevel ≠ parked ∧ x.passes < 3) ∧
        (s.grantCheck l).lift l = { s.lift l with
          state := .busy, current := some { v with state := .granted }, orderOwed := true,
          queue := (queue.erase v).map fun u => if u ∈ ahead then { u with passes := u.passes + 1 } else u } ∧
        (∃ more, (s.grantCheck l).events.waiting = s.events.waiting ++ ⟨.liftGrant, l⟩ :: more) ∧
        (s.grantCheck l).stalls = s.stalls ∧ (s.grantCheck l).dispatch = s.dispatch ∧
        ∀ m, m ≠ l → (s.grantCheck l).lift m = s.lift m)) ∧
  (∀ (s : State) (c : Ticket) (n : Nat), (s.tickets.map (·.number)).Nodup → c ∈ s.tickets → c.wantsLane = true →
    (∀ d ∈ s.tickets, d.wantsLane = true →
      (c.laneRequest.getD SiteTime.zero).before (d.laneRequest.getD SiteTime.zero) = true ∨
        c.laneRequest = d.laneRequest ∧ c.number ≤ d.number) →
    n ∈ s.freeLanes →
    (c.lift.getD 0 ∈ s.preferredLifts n ∧ (∀ m ∈ s.freeLanes, c.lift.getD 0 ∈ s.preferredLifts m → n ≤ m) ∨
      (∀ m ∈ s.freeLanes, c.lift.getD 0 ∉ s.preferredLifts m ∧ n ≤ m)) →
    (s.laneGrantCheck.lane n).state = .reserved ∧ (s.laneGrantCheck.lane n).ticket = some c.number ∧
      (s.laneGrantCheck.ticket c.number).map (fun k => (k.state, k.lane)) =
        some (if c.state = .staged then .toCurb else .descending, some n)) ∧
  (∀ s : State, ((s.freeLanes = [] ∨ s.NoLaneRequest) → s.laneGrantCheck = s) ∧
    ((s.tickets.map (·.number)).Nodup → s.laneGrantCheck.freeLanes = [] ∨ s.laneGrantCheck.NoLaneRequest))

/-- An occupied report, by the lane's state: a car the controller did not send blocks a FREE, OUT or CLEARING lane
with LANE_BLOCKED; an OCCUPIED or BLOCKED lane is unchanged (R120, R122). A clear report, by the lane's state:
OCCUPIED, OUT and BLOCKED without turnback hold become FREE; BLOCKED with turnback hold rests in CLEARING for the
clearance time; any other state is unchanged (R120, R122). An occupied report on the lane reserved for a TO_CURB
ticket delivers it: the lane is OCCUPIED, the ticket AT_CURB now with an overdue deadline pending, AT_CURB is raised
with the lane. For a DESCENDING ticket it is a turnback (R53, R58, R120, R121). -/
def Obligations.LaneReportsFollowTheLane : Prop :=
  (∀ (s : State) (f : From) (n : Nat), s.LaneSpeaks f n →
    (((s.lane n).state = .free ∨ (s.lane n).state = .out) → exec (.laneOccupiedReport f) s =
      .next (((s.heard f).setLane n
        { state := .blocked, ticket := none, turnbackHold := false, clearingBy := none }).raise .laneBlocked n)) ∧
    ((s.lane n).state = .clearing → exec (.laneOccupiedReport f) s =
      .next (((s.heard f).setLane n
        { state := .blocked, ticket := none, turnbackHold := true, clearingBy := none }).raise .laneBlocked n)) ∧
    (((s.lane n).state = .occupied ∨ (s.lane n).state = .blocked) →
      exec (.laneOccupiedReport f) s = .next (s.heard f))) ∧
  (∀ (s : State) (f : From) (n : Nat), s.LaneSpeaks f n →
    (((s.lane n).state = .occupied ∨ (s.lane n).state = .out ∨ (s.lane n).state = .blocked ∧
        (s.lane n).turnbackHold = false) → s.NoLaneRequest → exec (.laneClearReport f) s =
      .next ((s.heard f).setLane n { state := .free, ticket := none, turnbackHold := false, clearingBy := none })) ∧
    ((s.lane n).state = .blocked → (s.lane n).turnbackHold = true → exec (.laneClearReport f) s =
      .next ((s.heard f).setLane n { s.lane n with
        state := .clearing, turnbackHold := false,
        clearingBy := some ⟨s.now.plusSeconds s.params.clearanceTime, false⟩ })) ∧
    (((s.lane n).state = .free ∨ (s.lane n).state = .reserved ∨ (s.lane n).state = .clearing) →
      exec (.laneClearReport f) s = .next (s.heard f))) ∧
  (∀ (s : State) (f : From) (n : Nat) (c : Ticket), s.LaneSpeaks f n → (s.lane n).state = .reserved →
    (s.lane n).ticket = some c.number → s.ticket c.number = some c →
    (c.state = .toCurb → ∃ t, exec (.laneOccupiedReport f) s = .next t ∧ s.KeepsSetup t ∧
      t.lane n = { s.lane n with state := .occupied } ∧
      t.ticket c.number = some { c with
        state := .atCurb, atCurbAt := some s.now, overduePending := true, verify := false } ∧
      (∃ more, t.events.waiting = s.events.waiting ++ ⟨.atCurb, n⟩ :: more) ∧ t.stalls = s.stalls ∧
      t.keys = s.keys ∧ t.dispatch = s.dispatch) ∧
    (c.state = .descending → s.freeLanes = [] → ∃ t, exec (.laneOccupiedReport f) s = .next t ∧ s.KeepsSetup t ∧
      t.lane n = { state := .blocked, ticket := none, turnbackHold := true, clearingBy := none } ∧
      t.ticket c.number = some { c with lane := none, turnbacks := min 255 (c.turnbacks + 1) } ∧
      t.events.waiting = s.events.waiting ++ [⟨.laneTurnback, n⟩] ∧ t.stalls = s.stalls ∧
      t.arbiter.lifts = s.arbiter.lifts ∧ t.keys = s.keys ∧ t.dispatch = s.dispatch ∧ s.ChangesOnlyTicket t c.number))

/-! ### Sensors and the key cabinet -/

/-- One mark for a stall of the reporting hub. A mark that agrees with the sensed value removes the pending one; one
that differs is first kept as pending, and a second agreeing one becomes the sensed value (R10, R11). A change to
OCCUPIED makes a FREE stall BLOCKED with PHANTOM_CAR, confirms a HELD one and an OCCUPIED one, whose deadline goes,
and has no further effect otherwise (R12). A change to EMPTY unconfirms a HELD stall, is STALL_MISMATCH under a
PARKED, SCHEDULED or CALLED ticket, frees the stall of a FETCHING one and the bound stall of a RESTAGING one as a
departure, makes a BLOCKED stall FREE, and has no further effect otherwise (R7, R13). A stall with recheck due is then
judged once: FREE and sensed OCCUPIED, it is BLOCKED with PHANTOM_CAR (R14). A report is ignored whole from a station
that is no SENSOR_HUB or with more than 32 marks, and marks outside the hub's stalls are ignored (R10). A report of several
marks takes each stall whole before the next, in ascending order: it acts as its first mark, and then as the report of the
others; one without marks affects no stall (R10). -/
def Obligations.SensorsChangeAStallOnAgreement : Prop :=
  (∀ (s : State) (f : From) (k first last : Nat) (m : Mark), s.Hears f → s.classOf f.source = .sensorHub →
    (s.station f.source).served = some (.stalls first last) → first ≤ k → k ≤ last → k < 640 →
    let r := s.stall k
    let value : Sensed := if m = .occupied then .occupied else .empty
    let stored (x : Stall) : State := { s.heard f with stalls.records := setNth s.stalls.records k x }
    (r.recheck = false → r.sensed = value →
      exec (.zoneOccupancy f ⟨k, [m]⟩) s = .next (stored { r with pending := none })) ∧
    (r.recheck = false → r.sensed ≠ value → r.pending ≠ some m →
      exec (.zoneOccupancy f ⟨k, [m]⟩) s = .next (stored { r with pending := some m })) ∧
    (r.sensed ≠ value → r.pending = some m → m = .occupied → r.state = .free →
      ∃ t, exec (.zoneOccupancy f ⟨k, [m]⟩) s = .next t ∧ s.KeepsSetup t ∧
        t.stall k = { r with state := .blocked, sensed := .occupied, pending := none, recheck := false } ∧
        ⟨.phantomCar, k⟩ ∈ t.events.waiting ∧ t.tickets = s.tickets ∧ t.dispatch = s.dispatch ∧
        t.keys = s.keys ∧ t.arbiter = s.arbiter ∧ t.calls = s.calls ∧ ∀ j, j ≠ k → t.stall j = s.stall j) ∧
    (r.recheck = false → r.sensed ≠ value → r.pending = some m → m = .occupied →
      (r.state = .held → exec (.zoneOccupancy f ⟨k, [m]⟩) s =
        .next (stored { r with sensed := .occupied, pending := none, confirmed := true })) ∧
      (r.state = .occupied → exec (.zoneOccupancy f ⟨k, [m]⟩) s =
        .next (stored { r with sensed := .occupied, pending := none, confirmed := true, confirmBy := none })) ∧
      ((r.state = .undefined ∨ r.state = .blocked ∨ r.state = .out) → exec (.zoneOccupancy f ⟨k, [m]⟩) s =
        .next (stored { r with sensed := .occupied, pending := none }))) ∧
    (r.recheck = false → r.sensed ≠ value → r.pending = some m → m = .empty →
      ((r.state = .undefined ∨ r.state = .free ∨ r.state = .out) → exec (.zoneOccupancy f ⟨k, [m]⟩) s =
        .next (stored { r with sensed := .empty, pending := none })) ∧
      (r.state = .held → exec (.zoneOccupancy f ⟨k, [m]⟩) s =
        .next (stored { r with sensed := .empty, pending := none, confirmed := false })) ∧
      (r.state = .blocked → s.unplaced = [] → (∀ d ∈ s.tickets, d.restageWanted = false) →
        ∃ t, exec (.zoneOccupancy f ⟨k, [m]⟩) s = .next t ∧ s.KeepsSetup t ∧
          t.stall k = { r with state := .free, sensed := .empty, pending := none } ∧
          (∀ site, r.site = some site →
            t.stalls.free = s.stalls.free.set site.size (s.stalls.free.get site.size + 1)) ∧
          t.tickets = s.tickets ∧ t.events = s.events ∧ ∀ j, j ≠ k → t.stall j = s.stall j) ∧
      (∀ c, r.state = .occupied → r.ticket = some c.number → s.ticket c.number = some c →
        ((c.state = .parked ∨ c.state = .scheduled ∨ c.state = .called) → exec (.zoneOccupancy f ⟨k, [m]⟩) s =
          .next ((stored { r with sensed := .empty, pending := none, confirmed := false }).raise .stallMismatch k)) ∧
        ((c.state = .fetching ∨ c.state = .restaging ∧ c.stall = some k) → s.unplaced = [] →
          (∀ d ∈ s.tickets, d.restageWanted = false) →
          ∃ t, exec (.zoneOccupancy f ⟨k, [m]⟩) s = .next t ∧ s.KeepsSetup t ∧
            t.stall k = { r with
              state := .free, ticket := none, sensed := .empty, pending := none, confirmed := false,
              confirmBy := none } ∧
            t.ticket c.number = some { c with stall := none, lift := r.site.map (·.lift) } ∧
            t.events = s.events ∧ t.dispatch = s.dispatch ∧ t.arbiter = s.arbiter ∧ t.keys = s.keys ∧
            s.ChangesOnlyTicket t c.number ∧ ∀ j, j ≠ k → t.stall j = s.stall j))) ∧
    (r.recheck = true → r.sensed = value →
      (r.state = .free → m = .occupied → ∃ t, exec (.zoneOccupancy f ⟨k, [m]⟩) s = .next t ∧ s.KeepsSetup t ∧
        t.stall k = { r with state := .blocked, pending := none, recheck := false } ∧
        ⟨.phantomCar, k⟩ ∈ t.events.waiting ∧ t.tickets = s.tickets ∧ ∀ j, j ≠ k → t.stall j = s.stall j) ∧
      ((r.state ≠ .free ∨ m = .empty) → exec (.zoneOccupancy f ⟨k, [m]⟩) s =
        .next (stored { r with pending := none, recheck := false }))) ∧
    (r.recheck = true → r.sensed ≠ value → r.pending ≠ some m → r.state = .free → r.sensed = .occupied →
      ∃ t, exec (.zoneOccupancy f ⟨k, [m]⟩) s = .next t ∧ s.KeepsSetup t ∧
        t.stall k = { r with state := .blocked, pending := some m, recheck := false } ∧
        ⟨.phantomCar, k⟩ ∈ t.events.waiting ∧ t.tickets = s.tickets ∧ ∀ j, j ≠ k → t.stall j = s.stall j) ∧
    (r.recheck = true → r.sensed ≠ value → r.pending ≠ some m → (r.state ≠ .free ∨ r.sensed ≠ .occupied) →
      exec (.zoneOccupancy f ⟨k, [m]⟩) s = .next (stored { r with pending := some m, recheck := false }))) ∧
  (∀ (s : State) (f : From) (r : ZoneReport), s.Hears f →
    (s.classOf f.source ≠ .sensorHub ∨ 32 < r.marks.length ∨
        (∀ first last, (s.station f.source).served = some (.stalls first last) →
          last < r.first ∨ r.first + r.marks.length ≤ first)) →
    exec (.zoneOccupancy f r) s = .next (s.heard f)) ∧
  (∀ (s : State) (f : From) (k first last : Nat) (m : Mark) (ms : List Mark), s.Hears f →
    s.classOf f.source = .sensorHub → (s.station f.source).served = some (.stalls first last) → ms.length < 32 →
    exec (.zoneOccupancy f ⟨k, []⟩) s = .next (s.heard f) ∧
    ∃ t, exec (.zoneOccupancy f ⟨k, [m]⟩) s = .next t ∧ exec (.zoneOccupancy f ⟨k, m :: ms⟩) s =
      exec (.zoneOccupancy f ⟨k + 1, ms⟩) (t.setPort f.port { t.port f.port with phase := .window f.source }))

/-- A scan cycle begins with the lowest configured panel, whose unlock bits are 1 exactly at the RELEASED hooks (R74,
R75). In an exchange the unlock bits of positions 63 down to 0 are put out, then 0 in the clocks 65 and 66 and in each of
up to 32 further clocks; a panel that drives its end mark within them takes the unlock bits into its latches, any other
keeps its latches (R75, R76). The next panel of the cycle is then selected, its unlock bits built from the hooks as they
stand after the sample (R74, R75; that this is within the same command, and that the bits put out are kept, is the
model's choice, log entries 43 and 44). A sample with an even number of ones is discarded: no hook changes, the good
count is 0 and the bad count one more, and the third in a row makes the panel FAULTED with PANEL_FAULT, once (R77, R79). In a good sample of a panel
that is not FAULTED, one hook's bit, while every other bit agrees with what is accepted: agreeing, it removes the
pending presence; a first differing one is kept as pending; a second is accepted (R78, R79). PRESENT makes a VACANT
hook FOUND with KEY_FOUND, an EXPECTING, OUT or MISSING one CABINET, the key alert of a MISSING one cleared (R67).
ABSENT makes a CABINET hook MISSING with KEY_MISSING and the ticket's key alert, a RELEASED one OUT, and a FOUND one
VACANT, or EXPECTING for the one ticket without a hook (R42, R68). No other acceptance moves a key. -/
def Obligations.TheCabinetIsScannedAndSampled : Prop :=
  (∀ s : State, s.power.main = true → s.keys.scan.selected = none → 1 ≤ s.params.panelCount → s.params.panelCount ≤ 9 →
    ∃ t, exec .scanCycle s = .next t ∧ s.KeepsSetup t ∧
      t.keys.scan.selected = some 1 ∧ t.keys.scan.interval = s.params.scanInterval ∧
      t.keys.scan.remaining.length = s.params.panelCount - 1 ∧ t.keys.scan.unlock.length = 64 ∧
      (∀ i, i < 64 → t.keys.scan.unlock[i]? = some (decide ((s.hook i).custody = .released))) ∧
      t.keys.scan.out = s.keys.scan.out ∧
      t.keys.hooks = s.keys.hooks ∧ t.keys.panels = s.keys.panels ∧ t.keys.latches = s.keys.latches ∧
      t.tickets = s.tickets ∧ t.events = s.events) ∧
  (∀ (s : State) (x : PanelExchange) (p : Nat), s.power.main = true → s.keys.scan.selected = some p → 1 ≤ p → p ≤ 9 →
    s.keys.scan.unlock.length = 64 →
    let further := match x.endMark with
      | none => 32
      | some n => min n 32
    ∃ t, exec (.panelSample x) s = .next t ∧ s.KeepsSetup t ∧ t.keys.scan.out.length = 66 + further ∧
      (∀ c, c < 64 → t.keys.scan.out[c]? = s.keys.scan.unlock[63 - c]?) ∧
      (∀ c, 64 ≤ c → c < 66 + further → t.keys.scan.out[c]? = some false) ∧
      (∀ n, x.endMark = some n → n ≤ 32 → nth1 t.keys.latches p [] = s.keys.scan.unlock) ∧
      (∀ n, x.endMark = some n → 32 < n → nth1 t.keys.latches p [] = nth1 s.keys.latches p []) ∧
      (x.endMark = none → nth1 t.keys.latches p [] = nth1 s.keys.latches p []) ∧
      (∀ q, 1 ≤ q → q ≤ 9 → q ≠ p → nth1 t.keys.latches q [] = nth1 s.keys.latches q []) ∧
      t.keys.scan.interval = s.keys.scan.interval ∧ t.keys.scan.selected = s.keys.scan.remaining.head? ∧
      t.keys.scan.remaining = s.keys.scan.remaining.tail ∧
      (∀ q, s.keys.scan.remaining.head? = some q → 1 ≤ q → q ≤ 9 → t.keys.scan.unlock.length = 64 ∧
        ∀ i, i < 64 → t.keys.scan.unlock[i]? = some (decide ((t.hook (64 * (q - 1) + i)).custody = .released)))) ∧
  (∀ (s : State) (x : PanelExchange) (p : Nat), s.power.main = true → s.keys.scan.selected = some p → 1 ≤ p → p ≤ 9 →
    p ≤ s.params.panelCount → x.bits.length = 66 → x.bits.countP id % 2 = 0 →
    ∃ t, exec (.panelSample x) s = .next t ∧ s.KeepsSetup t ∧ t.keys.hooks = s.keys.hooks ∧ t.tickets = s.tickets ∧
      (t.panel p).good = 0 ∧ (t.panel p).bad = min 3 ((s.panel p).bad + 1) ∧ (t.panel p).door = (s.panel p).door ∧
      ((t.panel p).state = .faulted ↔ 2 ≤ (s.panel p).bad) ∧
      t.events.waiting = s.events.waiting ++
        (if 2 ≤ (s.panel p).bad ∧ (s.panel p).state ≠ .faulted then [⟨.panelFault, p⟩] else [])) ∧
  (∀ (s : State) (x : PanelExchange) (p j : Nat), s.power.main = true → s.keys.scan.selected = some p → 1 ≤ p → p ≤ 9 →
    p ≤ s.params.panelCount → sampleGood x = true → (s.panel p).state ≠ .faulted → j < 64 →
    (∀ i, i < 64 → i ≠ j → (s.hook (64 * (p - 1) + i)).pending = none ∧
      (s.hook (64 * (p - 1) + i)).accepted = if x.bits.getD (63 - i) false then .present else .absent) →
    let h := 64 * (p - 1) + j
    let r := s.hook h
    let bit := x.bits.getD (63 - j) false
    let value : Presence := if bit then .present else .absent
    ∃ t, exec (.panelSample x) s = .next t ∧ s.KeepsSetup t ∧ (∀ i, i ≠ h → t.hook i = s.hook i) ∧
      (t.panel p).bad = 0 ∧ (t.panel p).good = min 2 ((s.panel p).good + 1) ∧
      (t.panel p).door = (if x.bits.getD 64 false then .opened else .closed) ∧
      (t.panel p).state = (if 1 ≤ (s.panel p).good then .ok else (s.panel p).state) ∧
      t.stalls = s.stalls ∧ t.dispatch = s.dispatch ∧ t.arbiter = s.arbiter ∧ t.calls = s.calls ∧
      (r.accepted = value → t.hook h = { r with pending := none } ∧ t.events = s.events ∧ t.tickets = s.tickets) ∧
      (r.accepted ≠ value → r.pending ≠ some bit →
        t.hook h = { r with pending := some bit } ∧ t.events = s.events ∧ t.tickets = s.tickets) ∧
      (r.accepted ≠ value → r.pending = some bit → bit = true →
        (r.custody = .vacant → t.hook h = { r with custody := .found, accepted := .present, pending := none } ∧
          t.events.waiting = s.events.waiting ++ [⟨.keyFound, h⟩] ∧ t.tickets = s.tickets) ∧
        (r.custody = .expecting → t.hook h = { r with custody := .cabinet, accepted := .present, pending := none } ∧
          t.events = s.events ∧ t.tickets = s.tickets) ∧
        (r.custody = .out →
          t.hook h = { r with custody := .cabinet, runner := none, accepted := .present, pending := none } ∧
          t.events = s.events ∧ t.tickets = s.tickets) ∧
        (r.custody = .missing → t.hook h = { r with custody := .cabinet, accepted := .present, pending := none } ∧
          t.events = s.events ∧ ∀ c, r.ticket = some c.number → s.ticket c.number = some c →
            t.ticket c.number = some { c with keyAlert := false } ∧ s.ChangesOnlyTicket t c.number) ∧
        ((r.custody = .cabinet ∨ r.custody = .released ∨ r.custody = .found) →
          t.hook h = { r with accepted := .present, pending := none } ∧ t.events = s.events ∧ t.tickets = s.tickets)) ∧
      (r.accepted ≠ value → r.pending = some bit → bit = false →
        (r.custody = .cabinet → t.hook h = { r with custody := .missing, accepted := .absent, pending := none } ∧
          t.events.waiting = s.events.waiting ++ [⟨.keyMissing, h⟩] ∧
          ∀ c, r.ticket = some c.number → s.ticket c.number = some c →
            t.ticket c.number = some { c with keyAlert := true } ∧ s.ChangesOnlyTicket t c.number) ∧
        (r.custody = .released →
          t.hook h = { r with custody := .out, releaseBy := none, accepted := .absent, pending := none } ∧
          t.events = s.events ∧ t.tickets = s.tickets) ∧
        (r.custody = .found → (∀ c ∈ s.tickets, c.hook ≠ none) →
          t.hook h = { r with custody := .vacant, accepted := .absent, pending := none } ∧
          t.events = s.events ∧ t.tickets = s.tickets) ∧
        (∀ c, r.custody = .found → s.tickets.filter (·.hook == none) = [c] → s.ticket c.number = some c →
          t.hook h = { r with
            custody := .expecting, ticket := some c.number, accepted := .absent, pending := none } ∧
          t.events = s.events ∧ t.ticket c.number = some { c with hook := some h } ∧
          s.ChangesOnlyTicket t c.number) ∧
        ((r.custody = .vacant ∨ r.custody = .expecting ∨ r.custody = .out ∨ r.custody = .missing) →
          t.hook h = { r with accepted := .absent, pending := none } ∧ t.events = s.events ∧ t.tickets = s.tickets)))

/-! ### Management requests -/

/-- Every MANAGE_REQUEST, whatever its code and record: from a DESK station without MANAGE it is refused with
PERMISSION, from any other station it is ignored, and from a desk with MANAGE a record too short is RANGE and a code
without a request UNKNOWN_KIND, as is a payload without a code, which is the model's choice (log entry 56). Nothing but
the reply slot changes, which keeps the code, the outcome and the record (R195). -/
def Obligations.ManagementNeedsItsPermission : Prop :=
  (∀ (s : State) (c : Instr) (f : From) (code : ManageCode) (record : ManageRecord),
    manageRequest c = some (f, code, record) → s.Hears f →
    (s.classOf f.source = .desk → (s.permissionsOf f.source).manage = false →
      exec c s = .next ((s.heard f).replied f code .permission record (s.heard f))) ∧
    (s.classOf f.source ≠ .desk → exec c s = .next (s.heard f)) ∧
    (s.Manages f →
      record = .tooShort → exec c s = .next ((s.heard f).replied f code .range .tooShort (s.heard f)))) ∧
  ∀ (s : State) (f : From) (x : Option Nat), s.Manages f →
    exec (.manageUnknownKind f x) s = .next ((s.heard f).replied f (.unknown x) .unknownKind .empty (s.heard f))

/-- The reads change nothing but the reply slot, where an unsent reply is replaced with OVERRUN; READ_LATCH also
empties the latch and takes its content into the slot (R19, R61, R73, R103, R163, R189, R193, R197). LOAD_MASKS,
LOAD_PASS_RULE and LOAD_ROUTE store what passes their checks, and CLEAR_FLAGS clears the marked flags and no other;
nothing else changes (R158, R186, R189, R190). A mask value other than OPEN and CLOSED is RANGE (R196; R186 does not name
it, log entry 9). What the reply of each read carries is built from the records as they stand then: an open ticket's part,
or its number marked closed (R61, R197), a stall (R19), a hook with its panel (R73), a runner with its task (R103), the
five sections of READ_COUNTS (R124, R177, R197), the flags (R189), what was taken from the latch (R193) and the estimates
(R140). The numbers carried back (log entry 55), the fields of a ticket that R197 does not name, in part 1 (log entry 16),
and the record of a number issued again (log entry 52) are the model's choice. -/
def Obligations.ReadsAndTableLoadsChangeNoMore : Prop :=
  (∀ (s : State) (f : From), s.Manages f →
    (∀ n part, exec (.readTicket f (.fields ⟨n, part⟩)) s = .next ((s.heard f).replied f .readTicket
      (if (1 ≤ n ∧ n ≤ 9999 ∧ s.ticket n ≠ none) ∧ part < 2 then .done else .range) (.ticketPart ⟨n, part⟩) (s.heard f))) ∧
    (∀ k, exec (.readStall f (.fields k)) s = .next ((s.heard f).replied f .readStall
      (if k < 640 then .done else .range) (.number k) (s.heard f))) ∧
    (∀ h, exec (.readHook f (.fields h)) s = .next ((s.heard f).replied f .readHook
      (if h < 576 then .done else .range) (.number h) (s.heard f))) ∧
    (∀ b, exec (.readRunner f (.fields b)) s = .next ((s.heard f).replied f .readRunner
      (if 1 ≤ b ∧ b ≤ 32 then .done else .range) (.number b) (s.heard f))) ∧
    (∀ k, exec (.readCounts f (.fields k)) s = .next ((s.heard f).replied f .readCounts
      (if k < 5 then .done else .range) (.number k) (s.heard f))) ∧
    exec (.readFlags f) s = .next ((s.heard f).replied f .readFlags .done .empty (s.heard f)) ∧
    exec (.readEstimates f) s = .next ((s.heard f).replied f .readEstimates .done .empty (s.heard f)) ∧
    (∀ n, n < 4 → exec (.readLatch f (.fields n)) s = .next (State.setStation
      { s.heard f with events.latches := setNth s.events.latches n none } f.source
      { (s.heard f).station f.source with
        manageReply := some { code := .readLatch, outcome := .done, record := .number n,
                              latch := some (nth s.events.latches n none),
                              overrun := (s.station f.source).manageReply.isSome,
                              commissioning := s.commissioning f.source } })) ∧
    (∀ n, 4 ≤ n → exec (.readLatch f (.fields n)) s =
      .next ((s.heard f).replied f .readLatch .range (.number n) (s.heard f))) ∧
    (∀ m : Vector Bool 30, exec (.loadMasks f (.fields (m.map .value))) s =
      .next ((s.heard f).replied f .loadMasks .done (.masks (m.map .value)) { s.heard f with events.masks := m })) ∧
    (∀ m : Vector (Sent Bool) 30, .outside ∈ m →
      exec (.loadMasks f (.fields m)) s = .next ((s.heard f).replied f .loadMasks .range (.masks m) (s.heard f))) ∧
    (∀ n (r : PassRule), n < 32 → r.low.toNat ≤ r.high.toNat → passDestFits r.destination = true →
      let sent : PassRuleFields :=
        ⟨n, some ⟨r.low, r.high, .value r.source, .value r.destination, .value r.direction, .value r.verdict⟩⟩
      exec (.loadPassRule f (.fields sent)) s = .next ((s.heard f).replied f .loadPassRule .done (.passRule sent)
          { s.heard f with links.passTable := setNth s.links.passTable n (some r) })) ∧
    (∀ n, n < 32 → exec (.loadPassRule f (.fields ⟨n, none⟩)) s = .next ((s.heard f).replied f .loadPassRule .done
      (.passRule ⟨n, none⟩)
      { s.heard f with links.passTable := setNth s.links.passTable n none })) ∧
    (∀ n r, 32 ≤ n → exec (.loadPassRule f (.fields ⟨n, r⟩)) s =
      .next ((s.heard f).replied f .loadPassRule .range (.passRule ⟨n, r⟩) (s.heard f))) ∧
    (∀ n source filter action, n < 16 → source < 30 → actionFits action = true →
      (∀ x, filter = some x → (subjectRange source).1 ≤ x ∧ x ≤ (subjectRange source).2) →
      exec (.loadRoute f (.fields ⟨n, source, filter, .value action⟩)) s = .next ((s.heard f).replied f .loadRoute .done
        (.route ⟨n, source, filter, .value action⟩)
        { s.heard f with events.routes := setNth s.events.routes n ⟨source, filter, action⟩ })) ∧
    (∀ n source filter action, (16 ≤ n ∨ 30 ≤ source ∨ actionFits action = false) →
      exec (.loadRoute f (.fields ⟨n, source, filter, .value action⟩)) s =
        .next ((s.heard f).replied f .loadRoute .range (.route ⟨n, source, filter, .value action⟩) (s.heard f))) ∧
    (∀ marks : Vector Bool 30, ∃ flags : Vector Bool 30,
      exec (.clearFlags f (.fields marks)) s =
        .next ((s.heard f).replied f .clearFlags .done (.marks marks) { s.heard f with events.flags := flags }) ∧
      ∀ k, k < 30 → nth flags k false = (s.flag k && !nth marks k false))) ∧
  ∀ s : State,
    (∀ n c, s.ticket n = some c →
      s.Answers .readTicket (.ticketPart ⟨n, 0⟩) [n, 0] (.ticketPart0 n c.state c.stall c.target c.hook c.group c.runner
        c.lift c.lane c.turnbacks c.promise c.restageWanted c.callPending c.backlog c.verify c.keyAlert c.overdue
        c.overduePending) ∧
      ((∀ e ∈ s.calls.schedule, e.ticket ≠ n) ∨ c.state ≠ .scheduled →
        s.Answers .readTicket (.ticketPart ⟨n, 1⟩) [n, 1] (.ticketPart1 n c.state c.plate c.arrived c.parkedAt c.calledAt
          c.atCurbAt c.laneRequest none none c.size c.charger c.stay c.tier)) ∧
      ∀ e ∈ s.calls.schedule, e.ticket = n → (s.calls.schedule.map (·.ticket)).Nodup → c.state = .scheduled →
        s.Answers .readTicket (.ticketPart ⟨n, 1⟩) [n, 1] (.ticketPart1 n c.state c.plate c.arrived c.parkedAt c.calledAt
          c.atCurbAt c.laneRequest (some e.requested) (some e.release) c.size c.charger c.stay c.tier)) ∧
    (∀ n part, s.ticket n = none → s.Answers .readTicket (.ticketPart ⟨n, part⟩) [n, part] (.ticketClosed n)) ∧
    (∀ k, s.Answers .readStall (.number k) [k] (.stall k (s.stall k))) ∧
    (∀ h, s.Answers .readHook (.number h) [h]
      (.hook h (s.hook h) (decide (h / 64 + 1 ≤ s.params.panelCount)) (s.panel (h / 64 + 1)))) ∧
    (∀ b, s.Answers .readRunner (.number b) [b] (.runner b (s.runner b).state (s.runner b).level (s.runner b).readySince
      (s.runner b).base ((s.runner b).offerBy.map (·.time)) ((s.runner b).task.bind fun w => s.task w.1))) ∧
    (∃ v : CountsView, s.Answers .readCounts (.number 0) [0] (.counts v) ∧ v.free = s.stalls.free ∧
      v.tickets = s.tickets.length ∧ v.unplaced = s.unplaced.length ∧ v.schedule = s.calls.schedule.length ∧
      v.queued = (s.dispatch.tasks.filter (·.place == .queued)).length ∧
      v.backlog = (s.dispatch.tasks.filter (·.place == .backlog)).length ∧
      v.runnersReady = ((oneTo 32).filter fun b => (s.runner b).state == .ready).length ∧
      v.runnersOffered = ((oneTo 32).filter fun b => (s.runner b).state == .offered).length ∧
      v.runnersTasked = ((oneTo 32).filter fun b => (s.runner b).state == .tasked).length ∧
      v.stationsUnknown = ((oneTo 60).filter fun a => (s.station a).presence == .unknown).length ∧
      v.stationsPresent = ((oneTo 60).filter fun a => (s.station a).presence == .present).length ∧
      v.stationsAbsent = ((oneTo 60).filter fun a => (s.station a).presence == .absent).length ∧
      v.curbQueue = s.links.curb.forwarded.length ∧ v.deckQueue = s.links.deck.forwarded.length) ∧
    s.Answers .readCounts (.number 1) [1] (.lifts ([1, 2, 3, 4].map fun l =>
      { state := (s.lift l).state, parkedLevel := (s.lift l).parkedLevel
        staging := (s.tickets.filter fun c =>
          (c.state == .descending || c.state == .staged || c.state == .toCurb) && c.lift == some l).length
        waiting := ((s.lift l).queue.filter (·.state == .waiting)).length
        current := (s.lift l).current.map fun w => (w.state, w.ticket) })) ∧
    s.Answers .readCounts (.number 2) [2] (.lanes ([1, 2, 3, 4, 5, 6].map fun n => ((s.lane n).state, (s.lane n).ticket))
      ([OutputLine.out1, .out2, .out3, .out4].map s.outLevel)) ∧
    (∀ part channels, (part = 3 ∧ channels = [0, 1, 2, 3] ∨ part = 4 ∧ channels = [4, 5, 6, 7]) →
      s.Answers .readCounts (.number part) [part] (.channels (channels.map fun k =>
        { mode := (s.channel k).mode, state := (s.channel k).state, counter := (s.channel k).counter
          drive := (s.channel k).drive, captured := (s.channel k).captured }))) ∧
    s.Answers .readFlags .empty [] (.flags s.now s.events.flags s.events.masks s.alert
      ([0, 1, 2, 3].map fun n => ((nth s.events.latches n none).isSome,
        ((nth s.events.latches n none).map (·.overrun)).getD false))) ∧
    s.Answers .readEstimates .empty [] (.estimates s.calls.estimates) ∧
    (∀ a n taken overrun commissioning, s.buildManage a
      { code := .readLatch, outcome := .done, record := .number n, latch := some taken, overrun, commissioning } =
        .manageReply a .readLatch .done overrun [n] (.latch n taken)) ∧
    ∀ a slot, slot.outcome ≠ .done → ∃ numbers,
      s.buildManage a slot = .manageReply a slot.code slot.outcome slot.overrun numbers .nothing

/-- LOAD_STATION with fields that pass stores them; a change of segment, class or served object makes the presence
UNKNOWN with silent count 0, and any other load keeps both (R151). Such a change of a station that was not ABSENT first
hands its absence on under the old record, without STATION_ABSENT (R151, R156): a hub's stalls are sensed UNKNOWN (R15);
the offers to the runners of a base expire (R98); a lift whose other stations are all ABSENT is ABSENT with LIFT_FAULT,
and one with another station keeps its state and tenures (R115); a lane is OUT, and its reserved ticket loses the lane
(R123); a station of any other class, or one that was ABSENT, hands nothing on. After it a lift's order is owed exactly while a
station of class LIFT that serves the lift has its order marker set (R161; at a load also for a lift without such a
station, log entry 49). -/
def Obligations.StationLoadsStoreTheRecord : Prop :=
  ∀ (s : State) (f : From) (a : Nat) (seg : Segment) (cls : StationClass) (perm : Permissions) (served : Option Served),
    s.Manages f → 1 ≤ a → a ≤ 60 →
    (servedFits cls served = true → (perm.manage = true → cls = .desk ∧ seg = .curb) →
      ∃ t, exec (.loadStation f (.fields ⟨a, .value seg, .value cls, .value perm, served⟩)) s = .next t ∧
        s.KeepsSetup t ∧
        (t.station a).segment = seg ∧ (t.station a).cls = cls ∧ (t.station a).permissions = perm ∧
        (t.station a).served = served ∧
        (((s.station a).segment ≠ seg ∨ (s.station a).cls ≠ cls ∨ (s.station a).served ≠ served) →
          (t.station a).presence = .unknown ∧ (t.station a).silent = 0 ∧
          (((s.station a).presence = .absent ∨ (s.station a).cls = .desk ∨ (s.station a).cls = .podium ∨
              (s.station a).cls = .display ∨ (s.station a).cls = .gate ∨ (s.station a).cls = .other) →
            t.tickets = s.tickets ∧ t.stalls = s.stalls ∧ t.events = s.events ∧ t.dispatch = s.dispatch ∧
              t.arbiter.lanes = s.arbiter.lanes ∧ t.keys = s.keys ∧ t.calls = s.calls) ∧
          ((s.station a).presence ≠ .absent → ∃ more, t.events.waiting = s.events.waiting ++ more ∧
            (∀ e ∈ more, e.source ≠ .stationAbsent) ∧
            (∀ first last, (s.station a).cls = .sensorHub → (s.station a).served = some (.stalls first last) →
              (∀ k, first ≤ k → k ≤ last → t.stall k = { s.stall k with sensed := .unknown, pending := none }) ∧
              (∀ k, (k < first ∨ last < k) → t.stall k = s.stall k) ∧ t.stalls.free = s.stalls.free ∧
              t.tickets = s.tickets ∧ t.dispatch = s.dispatch ∧ more = []) ∧
            (∀ b, (s.station a).cls = .runnerBase → 1 ≤ b → b ≤ 32 → (s.runner b).base = some a →
              (∀ n kind, (s.runner b).state = .offered → (s.runner b).task = some (n, kind) →
                t.runner b = { s.runner b with
                  state := .silent, task := none, offerBy := none, owed := some (.withdraw n) } ∧
                ⟨.runnerSilent, b⟩ ∈ more ∧ ∀ w, t.task n = some w → w.place ≠ .offered b) ∧
              ((s.runner b).state ≠ .offered → t.runner b = s.runner b)) ∧
            (∀ l, (s.station a).cls = .lift → (s.station a).served = some (.lift l) → 1 ≤ l → l ≤ 4 →
              ((∀ b, 1 ≤ b → b ≤ 60 → b ≠ a → (s.station b).cls = .lift → (s.station b).served = some (.lift l) →
                  (s.station b).presence = .absent) →
                t.lift l = { s.lift l with state := .absent, orderOwed := false } ∧ ⟨.liftFault, l⟩ ∈ more) ∧
              (∀ b, 1 ≤ b → b ≤ 60 → b ≠ a → (s.station b).cls = .lift → (s.station b).served = some (.lift l) →
                  (s.station b).presence ≠ .absent →
                t.lift l = { s.lift l with orderOwed := (t.lift l).orderOwed } ∧ t.tickets = s.tickets ∧
                  t.stalls = s.stalls ∧ more = [])) ∧
            (∀ n, (s.station a).cls = .laneLoop → (s.station a).served = some (.lane n) → 1 ≤ n → n ≤ 6 →
              t.lane n = { state := .out, ticket := none, turnbackHold := false, clearingBy := none } ∧
              (∀ c, (s.lane n).state = .reserved → (s.lane n).ticket = some c.number →
                s.ticket c.number = some c → s.freeLanes = [] →
                t.ticket c.number = some (if c.state = .toCurb then
                  { c with state := .staged, verify := false, lane := none } else { c with lane := none }))))) ∧
        ((s.station a).segment = seg → (s.station a).cls = cls → (s.station a).served = served →
          (t.station a).presence = (s.station a).presence ∧
            (t.station a).silent = ((s.heard f).station a).silent ∧ t.tickets = s.tickets ∧ t.stalls = s.stalls ∧
            t.events = s.events) ∧
        (∀ b, b ≠ a → (t.station b).segment = (s.station b).segment ∧ (t.station b).cls = (s.station b).cls ∧
          (t.station b).permissions = (s.station b).permissions ∧ (t.station b).served = (s.station b).served ∧
          (t.station b).presence = (s.station b).presence) ∧
        t.params = s.params ∧ t.links.passTable = s.links.passTable ∧
        (∀ l, 1 ≤ l → l ≤ 4 → ((t.lift l).orderOwed = true ↔ ∃ b, 1 ≤ b ∧ b ≤ 60 ∧ (t.station b).cls = .lift ∧
          (t.station b).served = some (.lift l) ∧ (t.station b).orderMark = true)) ∧
        ((t.station f.source).manageReply.map fun r => (r.code, r.outcome)) = some (.loadStation, .done)) ∧
    ((servedFits cls served = false ∨ perm.manage = true ∧ (cls ≠ .desk ∨ seg ≠ .curb)) →
      exec (.loadStation f (.fields ⟨a, .value seg, .value cls, .value perm, served⟩)) s =
        .next ((s.heard f).replied f .loadStation .range
          (.station ⟨a, .value seg, .value cls, .value perm, served⟩) (s.heard f)))

/-- LOAD_STALL with fields that pass, by the stall's state: an UNDEFINED stall becomes FREE with recheck due and one
more in its class's free count, a FREE one takes the fields with recheck due and moves to its new class's count, a
BLOCKED or OUT one takes the fields, and a HELD or OCCUPIED one is BUSY; a level, zone or lift outside its set is
RANGE (R17). SET_STALL_SERVICE: a FREE or BLOCKED stall goes OUT, a BLOCKED or OUT one comes back to FREE with recheck
due, a stall already so is DONE without change, UNDEFINED is STATE, HELD and OCCUPIED are BUSY, and a number or value
outside its set is RANGE (R9, R18). The clauses that make a stall FREE take a state in which no ticket waits for it.
-/
def Obligations.StallLoadsAndServiceFollowTheState : Prop :=
  (∀ (s : State) (f : From) (x : StallFields) (size : SizeClass) (charger : Bool), s.Manages f →
    x.size = .value size → x.charger = .value charger →
    let r := s.stall x.stall
    let site : StallSite := ⟨x.level, x.zone, x.walk.toNat, size, charger, x.lift⟩
    ((x.stall < 640 ∧ x.level < 8 ∧ x.zone < 16 ∧ x.lift ≤ 4 ∧
        (x.lift = 0 ∧ x.level = 0 ∨ 1 ≤ x.lift ∧ x.level ∈ s.servedLevels x.lift)) →
      (r.state = .undefined → s.unplaced = [] → (∀ c ∈ s.tickets, c.restageWanted = false) →
        ∃ t, exec (.loadStall f (.fields x)) s = .next t ∧ s.KeepsSetup t ∧
          t.stall x.stall = { r with site := some site, state := .free, recheck := true } ∧
          t.stalls.free = s.stalls.free.set size (s.stalls.free.get size + 1) ∧
          (∀ j, j ≠ x.stall → t.stall j = s.stall j) ∧ t.tickets = s.tickets ∧ t.events = s.events ∧
          (t.station f.source).manageReply.map (fun r => (r.outcome, r.record)) = some (.done, .stall x)) ∧
      (∀ old, r.state = .free → r.site = some old → s.unplaced = [] → (∀ c ∈ s.tickets, c.restageWanted = false) →
        ∃ t, exec (.loadStall f (.fields x)) s = .next t ∧ s.KeepsSetup t ∧
          t.stall x.stall = { r with site := some site, recheck := true } ∧
          (old.size = size → t.stalls.free = s.stalls.free) ∧
          (old.size ≠ size → t.stalls.free.get size = s.stalls.free.get size + 1 ∧
            t.stalls.free.get old.size = s.stalls.free.get old.size - 1) ∧
          (∀ j, j ≠ x.stall → t.stall j = s.stall j) ∧ t.tickets = s.tickets ∧
          (t.station f.source).manageReply.map (fun r => (r.outcome, r.record)) = some (.done, .stall x)) ∧
      ((r.state = .blocked ∨ r.state = .out) → exec (.loadStall f (.fields x)) s =
        .next ((s.heard f).replied f .loadStall .done (.stall x)
          { s.heard f with stalls.records := setNth s.stalls.records x.stall { r with site := some site } })) ∧
      ((r.state = .held ∨ r.state = .occupied) → exec (.loadStall f (.fields x)) s =
        .next ((s.heard f).replied f .loadStall .busy (.stall x) (s.heard f)))) ∧
    ((640 ≤ x.stall ∨ 8 ≤ x.level ∨ 16 ≤ x.zone ∨ 4 < x.lift ∨ x.lift = 0 ∧ x.level ≠ 0 ∨
        1 ≤ x.lift ∧ x.level ∉ s.servedLevels x.lift) →
      exec (.loadStall f (.fields x)) s =
        .next ((s.heard f).replied f .loadStall .range (.stall x) (s.heard f)))) ∧
  (∀ (s : State) (f : From) (k : Nat), s.Manages f → k < 640 →
    let r := s.stall k
    ((r.state = .free ∨ r.state = .blocked) →
      ∃ t, exec (.setStallService f (.fields ⟨k, .value .out⟩)) s = .next t ∧ s.KeepsSetup t ∧
        t.stall k = { r with state := .out, confirmed := false, recheck := false } ∧
        (r.state = .blocked → t.stalls.free = s.stalls.free ∧ t.events = s.events) ∧
        (∀ site, r.state = .free → r.site = some site →
          t.stalls.free = s.stalls.free.set site.size (s.stalls.free.get site.size - 1) ∧
          t.events.waiting = s.events.waiting ++
            (if s.stalls.free.get site.size - 1 ≤ s.params.reserve.get site.size
              then [⟨.reserveLow, site.size.num⟩] else [])) ∧
        (∀ j, j ≠ k → t.stall j = s.stall j) ∧ t.tickets = s.tickets ∧ t.dispatch = s.dispatch) ∧
    ((r.state = .blocked ∨ r.state = .out) → s.unplaced = [] → (∀ c ∈ s.tickets, c.restageWanted = false) →
      ∃ t, exec (.setStallService f (.fields ⟨k, .value .free⟩)) s = .next t ∧ s.KeepsSetup t ∧
        t.stall k = { r with state := .free, recheck := true } ∧
        (∀ site, r.site = some site →
          t.stalls.free = s.stalls.free.set site.size (s.stalls.free.get site.size + 1)) ∧
        (∀ j, j ≠ k → t.stall j = s.stall j) ∧ t.tickets = s.tickets ∧ t.events = s.events) ∧
    (r.state = .out → exec (.setStallService f (.fields ⟨k, .value .out⟩)) s =
      .next ((s.heard f).replied f .setStallService .done (.stallService ⟨k, .value .out⟩) (s.heard f))) ∧
    (r.state = .free → exec (.setStallService f (.fields ⟨k, .value .free⟩)) s =
      .next ((s.heard f).replied f .setStallService .done (.stallService ⟨k, .value .free⟩) (s.heard f))) ∧
    (r.state = .undefined → ∀ v, exec (.setStallService f (.fields ⟨k, .value v⟩)) s =
      .next ((s.heard f).replied f .setStallService .state (.stallService ⟨k, .value v⟩) (s.heard f))) ∧
    ((r.state = .held ∨ r.state = .occupied) → ∀ v, exec (.setStallService f (.fields ⟨k, .value v⟩)) s =
      .next ((s.heard f).replied f .setStallService .busy (.stallService ⟨k, .value v⟩) (s.heard f)))) ∧
  (∀ (s : State) (f : From) (k : Nat) (v : Sent ServiceValue), s.Manages f → (640 ≤ k ∨ v = .outside) →
    exec (.setStallService f (.fields ⟨k, v⟩)) s =
      .next ((s.heard f).replied f .setStallService .range (.stallService ⟨k, v⟩) (s.heard f)))

/-- A number parameter that hands nothing on is stored at the nearer limit of its range, CLAMPED exactly when it lay
outside, and so is any number parameter that keeps its value (R196, R198, R199). A set is stored in ascending order
when its members lie in the set, and served levels and preferred lifts hand nothing on; a flag is stored as given; a
member or flag outside its set is RANGE (R198, R199; the order of a stored set is log entry 9). A number above 45 is
RANGE; a panel count that would drop a panel with a bound hook is BUSY (R65). Which field and which range a number has,
and which members a set, is the table of R198 written out (Params.NumberRow, SetRow and FlagRow); what is stored in the
hand-ons of ParameterChangesAreHandedOn follows it. -/
def Obligations.ParametersAreClampedAndStored : Prop :=
  (∀ (p q : Params) (k n low high : Nat), p.NumberRow n k low high q → p.storeNumber k n = q) ∧
  (∀ (p q : Params) (k : Nat) (b : Bool), p.FlagRow b k q → p.storeFlag k b = q) ∧
  ∀ (s : State) (f : From) (k : Nat), s.Manages f →
    (∀ n low high q,
      let value := if n < low then low else if high < n then high else n
      s.params.NumberRow value k low high q → ((k < 12 ∨ 15 < k) ∧ k ≠ 18 ∧ k ≠ 25 ∨ q = s.params) →
      exec (.loadParams f (.fields ⟨k, .number n⟩)) s = .next ((s.heard f).replied f .loadParams
        (if low ≤ n ∧ n ≤ high then .done else .clamped) (.param ⟨k, .number n⟩) { s.heard f with params := q })) ∧
    (∀ xs bound q, s.params.SetRow ((List.range bound).filter (· ∈ xs)) k bound q →
      ((∀ x ∈ xs, x < bound) → exec (.loadParams f (.fields ⟨k, .members xs⟩)) s =
        .next ((s.heard f).replied f .loadParams .done (.param ⟨k, .members xs⟩) { s.heard f with params := q })) ∧
      ((∃ x ∈ xs, bound ≤ x) → exec (.loadParams f (.fields ⟨k, .members xs⟩)) s =
        .next ((s.heard f).replied f .loadParams .range (.param ⟨k, .members xs⟩) (s.heard f)))) ∧
    (36 ≤ k → k ≤ 45 →
      (∀ b, s.params.FlagRow b k s.params → exec (.loadParams f (.fields ⟨k, .flag (.value b)⟩)) s =
        .next ((s.heard f).replied f .loadParams .done (.param ⟨k, .flag (.value b)⟩) (s.heard f))) ∧
      exec (.loadParams f (.fields ⟨k, .flag .outside⟩)) s =
        .next ((s.heard f).replied f .loadParams .range (.param ⟨k, .flag .outside⟩) (s.heard f))) ∧
    (45 < k → ∀ v, exec (.loadParams f (.fields ⟨k, v⟩)) s =
      .next ((s.heard f).replied f .loadParams .range (.param ⟨k, v⟩) (s.heard f))) ∧
    (∀ n h, n < s.params.panelCount → s.params.panelCount ≤ 9 → 64 * (max 1 n) ≤ h → h < 64 * s.params.panelCount →
      (s.hook h).isBound = true → exec (.loadParams f (.fields ⟨25, .number n⟩)) s =
        .next ((s.heard f).replied f .loadParams .busy (.param ⟨25, .number n⟩) (s.heard f)))

/-- What a changed parameter hands on, when it is stored (R199). A reserve has the unplaced list attempted: with none
listed nothing more changes, and one listed ticket that the new reserve lets in is ASSIGNED (R33, R34). A curb hold
marks the AT_CURB tickets overdue whose deadline it brings to now (R58). A panel count sets up the panels it adds, and
empties the hooks of those it drops (R65). A lift's flag set grants its one waiting UP tenure, and places a listed
ticket that its stalls can take when it is IDLE without tenures; it acts on no lift that is neither IDLE nor BUSY
(R23, R117; the grant's order is owed also where no LIFT station serves the lift, log entry 49). A lift's flag cleared
changes nothing more (R117). A lane's flag set serves the one lane request when the
lane is FREE (R119); cleared it cancels the lane's reservation and otherwise changes nothing more (R123). -/
def Obligations.ParameterChangesAreHandedOn : Prop :=
  ∀ (s : State) (f : From), s.Manages f →
    (∀ k n, 12 ≤ k → k ≤ 15 → n ≤ 63 → s.params.storeNumber k n ≠ s.params →
      let stored : State := { s.heard f with params := s.params.storeNumber k n }
      (s.unplaced = [] → exec (.loadParams f (.fields ⟨k, .number n⟩)) s =
        .next ((s.heard f).replied f .loadParams .done (.param ⟨k, .number n⟩) stored)) ∧
      (∀ c stall second, s.unplaced = [c.number] → s.ticket c.number = some c →
        stored.placement c false = some (stall, second) →
        ∃ t, exec (.loadParams f (.fields ⟨k, .number n⟩)) s = .next t ∧ t.params = stored.params ∧ t.unplaced = [] ∧
          (t.ticket c.number).map (fun d => (d.state, d.stall)) = some (.assigned, some stall) ∧
          t.heldFor stall c.number = true)) ∧
    (∀ n, 1 ≤ n → n ≤ 30 → n ≠ s.params.curbHold →
      ∃ t, exec (.loadParams f (.fields ⟨18, .number n⟩)) s = .next t ∧
        t.params = { s.params with curbHold := n } ∧ t.stalls = s.stalls ∧ t.keys = s.keys ∧ t.calls = s.calls ∧
        (∀ c d, s.ticket c.number = some c → c.state = .atCurb → c.overduePending = true → c.atCurbAt = some d →
          (d.plusSeconds (60 * n)).notAfter s.now = true →
          t.ticket c.number = some { c with overdue := true, overduePending := false } ∧
            ⟨.curbOverdue, c.number⟩ ∈ t.events.waiting) ∧
        (∀ c, s.ticket c.number = some c → (c.state ≠ .atCurb ∨ c.overduePending = false ∨
            ∀ d, c.atCurbAt = some d → (d.plusSeconds (60 * n)).notAfter s.now = false) →
          t.ticket c.number = some c)) ∧
    (∀ n, 1 ≤ n → n ≤ 9 → s.params.panelCount ≤ 9 → n ≠ s.params.panelCount →
      (∀ h, 64 * n ≤ h → h < 64 * s.params.panelCount → (s.hook h).isBound = false) → (∀ c ∈ s.tickets, c.hook ≠ none) →
      ∃ t, exec (.loadParams f (.fields ⟨25, .number n⟩)) s = .next t ∧
        t.params = { s.params with panelCount := n } ∧ t.tickets = s.tickets ∧ t.events = s.events ∧
        (∀ p, 1 ≤ p → p ≤ 9 → t.panel p = if (p ≤ n ∧ s.params.panelCount < p) ∨ (n < p ∧ p ≤ s.params.panelCount)
          then { state := .suspect, bad := 0, good := 0, door := .unknown } else s.panel p) ∧
        ∀ h, h < 576 → t.hook h = if 64 * n ≤ h ∧ h < 64 * s.params.panelCount
          then { s.hook h with custody := .vacant, accepted := .unknown, pending := none } else s.hook h) ∧
    (∀ l, 1 ≤ l → l ≤ 4 →
      let stored (b : Bool) : State := { s.heard f with params := s.params.storeFlag (35 + l) b }
      (exec (.loadParams f (.fields ⟨35 + l, .flag (.value false)⟩)) s =
        .next ((s.heard f).replied f .loadParams .done (.param ⟨35 + l, .flag (.value false)⟩) (stored false))) ∧
      (s.liftConfigured l = false → (s.lift l).state ≠ .idle → (s.lift l).state ≠ .busy →
        exec (.loadParams f (.fields ⟨35 + l, .flag (.value true)⟩)) s =
          .next ((s.heard f).replied f .loadParams .done (.param ⟨35 + l, .flag (.value true)⟩) (stored true))) ∧
      (∀ w, s.liftConfigured l = false → (s.lift l).state = .idle → (s.lift l).current = none →
        (s.lift l).queue = [w] → w.direction = .up →
        ∃ t, exec (.loadParams f (.fields ⟨35 + l, .flag (.value true)⟩)) s = .next t ∧
          t.lift l = { s.lift l with
            state := .busy, queue := [], current := some { w with state := .granted }, orderOwed := true }) ∧
      (∀ c stall second, s.liftConfigured l = false → (s.lift l).state = .idle → (s.lift l).queue = [] →
        s.unplaced = [c.number] → s.ticket c.number = some c →
        (stored true).placement c false = some (stall, second) →
        ∃ t, exec (.loadParams f (.fields ⟨35 + l, .flag (.value true)⟩)) s = .next t ∧ t.unplaced = [] ∧
          (t.ticket c.number).map (·.state) = some .assigned)) ∧
    (∀ n, 1 ≤ n → n ≤ 6 →
      let stored (b : Bool) : State := { s.heard f with params := s.params.storeFlag (39 + n) b }
      (s.NoLaneRequest → exec (.loadParams f (.fields ⟨39 + n, .flag (.value true)⟩)) s =
        .next ((s.heard f).replied f .loadParams .done (.param ⟨39 + n, .flag (.value true)⟩) (stored true))) ∧
      (∀ c, s.laneConfigured n = false → (s.lane n).state = .free → s.freeLanes = [] →
        s.tickets.filter (·.wantsLane) = [c] → s.ticket c.number = some c →
        ∃ t, exec (.loadParams f (.fields ⟨39 + n, .flag (.value true)⟩)) s = .next t ∧
          (t.lane n).state = .reserved ∧ (t.lane n).ticket = some c.number ∧
          (t.ticket c.number).map (fun k => (k.state, k.lane)) =
            some (if c.state = .staged then .toCurb else .descending, some n)) ∧
      ((s.lane n).state ≠ .reserved → exec (.loadParams f (.fields ⟨39 + n, .flag (.value false)⟩)) s =
        .next ((s.heard f).replied f .loadParams .done (.param ⟨39 + n, .flag (.value false)⟩) (stored false))) ∧
      (∀ c, s.laneConfigured n = true → (s.lane n).state = .reserved → (s.lane n).ticket = some c.number →
        s.ticket c.number = some c → s.freeLanes = [] →
        ∃ t, exec (.loadParams f (.fields ⟨39 + n, .flag (.value false)⟩)) s = .next t ∧
          t.lane n = { s.lane n with state := .free, ticket := none } ∧
          t.ticket c.number = some (if c.state = .toCurb then
            { c with state := .staged, verify := false, lane := none } else { c with lane := none }) ∧
          t.stalls = s.stalls ∧ t.keys = s.keys ∧ t.dispatch = s.dispatch))

/-- START_TIMER and STOP_TIMER: a channel number above 7 is RANGE; a start of a channel in mode OFF is STATE and of
one not STOPPED is BUSY, else INTERVAL counts from its reload and the other modes are ARMED at 0; a stop makes any
channel STOPPED at 0 with its drive NEGATED and no pulse end, keeping its capture value. Neither raises an event,
feeds an estimate or changes another channel. A STOPPED channel has its drive NEGATED, so a start leaves it so, and a
stop leaves a STOPPED channel unchanged; EveryStepKeepsSizesAndRanges keeps that invariant (R168, R169). That a
START_TIMER too keeps the capture value is the model's choice (log entry 53). -/
def Obligations.TimersStartAndStop : Prop :=
  ∀ (s : State) (f : From) (k : Nat), s.Manages f →
    (8 ≤ k → exec (.startTimer f (.fields k)) s = .next ((s.heard f).replied f .startTimer .range (.number k) (s.heard f)) ∧
      exec (.stopTimer f (.fields k)) s = .next ((s.heard f).replied f .stopTimer .range (.number k) (s.heard f))) ∧
    (k < 8 → (s.channel k).mode = .off → exec (.startTimer f (.fields k)) s =
      .next ((s.heard f).replied f .startTimer .state (.number k) (s.heard f))) ∧
    (k < 8 → (s.channel k).mode ≠ .off → (s.channel k).state ≠ .stopped → exec (.startTimer f (.fields k)) s =
      .next ((s.heard f).replied f .startTimer .busy (.number k) (s.heard f))) ∧
    (k < 8 → (s.channel k).mode = .interval → (s.channel k).state = .stopped → exec (.startTimer f (.fields k)) s =
      .next ((s.heard f).replied f .startTimer .done (.number k) ((s.heard f).setChannel k { s.channel k with
        state := .counting, counter := (s.channel k).reload, elapsed := 0, due := false }))) ∧
    (k < 8 → ((s.channel k).mode = .delay ∨ (s.channel k).mode = .window ∨ (s.channel k).mode = .capture) →
      (s.channel k).state = .stopped → exec (.startTimer f (.fields k)) s =
        .next ((s.heard f).replied f .startTimer .done (.number k) ((s.heard f).setChannel k { s.channel k with
          state := .armed, counter := 0, elapsed := 0, due := false }))) ∧
    (k < 8 → exec (.stopTimer f (.fields k)) s =
      .next ((s.heard f).replied f .stopTimer .done (.number k) ((s.heard f).setChannel k { s.channel k with
        state := .stopped, counter := 0, drive := false, pulseEnd := none, elapsed := 0, due := false }))) ∧
    (k < 8 → (s.channel k).state = .stopped → s.ChannelsRight → (s.channel k).drive = false ∧
      exec (.stopTimer f (.fields k)) s = .next ((s.heard f).replied f .stopTimer .done (.number k) (s.heard f)))

/-- LOAD_TIMER with a setup that meets no case of R167's list: BUSY unless the channel is STOPPED, else the setup is
stored with a reload of 0 as 1, the counter 0, the drive NEGATED, and no pulse end or capture value (R167). A setup that
meets any case of R167's list is refused with RANGE, whatever the channel's state, and nothing is stored (R167). -/
def Obligations.TimerLoadsStoreTheSetup : Prop :=
  (∀ (s : State) (f : From) (k reload : Nat) (mode : TimerMode) (clock : TimerClock) (source master : Option Nat)
    (output : OutputLine) (target : CaptureTarget), s.Manages f → reload ≤ 65535 →
    ¬ s.TimerRefused ⟨k, .value mode, .value clock, source, reload, master, .value output, .value target⟩ →
    ((s.channel k).state = .stopped →
      exec (.loadTimer f (.fields ⟨k, .value mode, .value clock, source, reload, master, .value output, .value target⟩)) s =
        .next ((s.heard f).replied f .loadTimer (if reload = 0 then .clamped else .done)
          (.timer ⟨k, .value mode, .value clock, source, reload, master, .value output, .value target⟩)
          ((s.heard f).setChannel k
            { mode, clock, clockSource := source, reload := if reload = 0 then 1 else reload, master, output, target,
              state := .stopped, counter := 0, drive := false, pulseEnd := none, captured := none, elapsed := 0,
              due := false }))) ∧
    ((s.channel k).state ≠ .stopped →
      exec (.loadTimer f (.fields ⟨k, .value mode, .value clock, source, reload, master, .value output, .value target⟩)) s =
        .next ((s.heard f).replied f .loadTimer .busy
          (.timer ⟨k, .value mode, .value clock, source, reload, master, .value output, .value target⟩) (s.heard f)))) ∧
  ∀ (s : State) (f : From) (x : TimerFields), s.Manages f → s.TimerRefused x →
    exec (.loadTimer f (.fields x)) s = .next ((s.heard f).replied f .loadTimer .range (.timer x) (s.heard f))

/-- REBIND_HOOK of a FOUND hook to a ticket without a hook makes the hook CABINET for it; a hook that is not FOUND, or
a ticket whose hook is CABINET or RELEASED, is STATE; a hook above 575, or a number that names no open ticket, is RANGE
(R72). RESTAGE of a PARKED ticket to a FREE stall of the same
lift that is large enough: the target is HELD, the ticket RESTAGING with its own stall still bound, and a RESTAGE task
made now; a ticket not PARKED is STATE and a target not FREE is BUSY; a FREE target of another lift, too small for the
car, or on a lift that is not serviceable is STATE; a stall above 639, or a number that names no open ticket, is RANGE
(R102). -/
def Obligations.DeskMovesKeysAndCars : Prop :=
  (∀ (s : State) (f : From) (h : Nat) (c : Ticket), s.Manages f → h < 576 → 1 ≤ c.number → c.number ≤ 9999 →
    s.ticket c.number = some c →
    ((s.hook h).custody = .found → c.hook = none → exec (.rebindHook f (.fields ⟨h, c.number⟩)) s =
      .next ((s.heard f).replied f .rebindHook .done (.rebind ⟨h, c.number⟩) (((s.heard f).setHook h { s.hook h with
        custody := .cabinet, ticket := some c.number }).modifyTicket c.number fun k => { k with hook := some h }))) ∧
    (∀ g, (s.hook h).custody = .found → c.hook = some g → g < 576 →
      ((s.hook g).custody = .expecting ∨ (s.hook g).custody = .out ∨ (s.hook g).custody = .missing) →
      ∃ t k, exec (.rebindHook f (.fields ⟨h, c.number⟩)) s = .next t ∧ s.KeepsSetup t ∧
        (t.hook h).custody = .cabinet ∧
        (t.hook h).ticket = some c.number ∧ t.ticket c.number = some k ∧ k.hook = some h ∧
        k.keyAlert = (c.keyAlert && (s.hook g).custody != .missing) ∧ (t.hook g).ticket ≠ some c.number ∧
        (t.hook g).runner = none ∧ t.stalls = s.stalls ∧ t.events = s.events) ∧
    (((s.hook h).custody ≠ .found ∨
        ∃ g, c.hook = some g ∧ ((s.hook g).custody = .cabinet ∨ (s.hook g).custody = .released)) →
      exec (.rebindHook f (.fields ⟨h, c.number⟩)) s =
        .next ((s.heard f).replied f .rebindHook .state (.rebind ⟨h, c.number⟩) (s.heard f)))) ∧
  (∀ (s : State) (f : From) (c : Ticket) (k target : Nat) (a b : StallSite), s.Manages f → 1 ≤ c.number →
    c.number ≤ 9999 → s.ticket c.number = some c → target < 640 →
    (c.state = .parked → c.stall = some k → (s.stall target).state = .free → (s.stall k).site = some a →
      (s.stall target).site = some b → a.lift = b.lift → c.size.num ≤ b.size.num →
      (b.lift = 0 ∨ s.serviceable b.lift = true) → s.task c.number = none →
      ∃ t d w, exec (.restage f (.fields ⟨c.number, target⟩)) s = .next t ∧ s.KeepsSetup t ∧
        (t.stall target).state = .held ∧
        (t.stall target).ticket = some c.number ∧ t.ticket c.number = some d ∧ d.state = .restaging ∧
        d.target = some target ∧ d.stall = some k ∧ t.task c.number = some w ∧ w.kind = .restage ∧ w.age = s.now ∧
        (∀ j, j ≠ target → t.stall j = s.stall j) ∧ t.keys = s.keys ∧ t.arbiter = s.arbiter ∧ t.calls = s.calls ∧
        s.ChangesOnlyTicket t c.number ∧
        ((t.station f.source).manageReply.map fun r => (r.code, r.outcome)) = some (.restage, .done)) ∧
    ((c.state ≠ .parked ∨ c.stall = none) → exec (.restage f (.fields ⟨c.number, target⟩)) s =
      .next ((s.heard f).replied f .restage .state (.restage ⟨c.number, target⟩) (s.heard f))) ∧
    (c.state = .parked → c.stall = some k → (s.stall target).state ≠ .free →
      exec (.restage f (.fields ⟨c.number, target⟩)) s =
        .next ((s.heard f).replied f .restage .busy (.restage ⟨c.number, target⟩) (s.heard f))) ∧
    (c.state = .parked → c.stall = some k → (s.stall target).state = .free → (s.stall k).site = some a →
      (s.stall target).site = some b →
      (a.lift ≠ b.lift ∨ b.size.num < c.size.num ∨ b.lift ≠ 0 ∧ s.serviceable b.lift = false) →
      exec (.restage f (.fields ⟨c.number, target⟩)) s =
        .next ((s.heard f).replied f .restage .state (.restage ⟨c.number, target⟩) (s.heard f)))) ∧
  ∀ (s : State) (f : From) (k n : Nat), s.Manages f →
    ((576 ≤ k ∨ n = 0 ∨ 9999 < n ∨ s.ticket n = none) → exec (.rebindHook f (.fields ⟨k, n⟩)) s =
      .next ((s.heard f).replied f .rebindHook .range (.rebind ⟨k, n⟩) (s.heard f))) ∧
    ((640 ≤ k ∨ n = 0 ∨ 9999 < n ∨ s.ticket n = none) → exec (.restage f (.fields ⟨n, k⟩)) s =
      .next ((s.heard f).replied f .restage .range (.restage ⟨n, k⟩) (s.heard f)))

/-- FORCE_CLOSE of any open ticket undoes what it holds: afterwards there is no such ticket, task, schedule entry,
unplaced place, curb board entry or WAITING tenure, and its hook, its stalls and every lane carry its number no more
(R59). A GRANTED or RIDING tenure of its own goes on with no ticket and no runner (R59, R114). A runner to whom its
task was offered, or who held it, is READY now without a task and owed the TASK_WITHDRAW, or has since been offered
another task (R87, R97). Where no other hook, stall or runner names it, none at all does afterwards (R59). -/
def Obligations.ForceCloseUndoesWhatTheTicketHolds : Prop :=
  ∀ (s : State) (f : From) (c : Ticket), s.Manages f → 1 ≤ c.number → c.number ≤ 9999 → s.ticket c.number = some c →
    ∃ t, exec (.forceClose f (.fields c.number)) s = .next t ∧ s.KeepsSetup t ∧
      t.ticket c.number = none ∧ t.task c.number = none ∧
      c.number ∉ t.unplaced ∧ (∀ e ∈ t.calls.schedule, e.ticket ≠ c.number) ∧
      (∀ e ∈ t.calls.board, e.ticket ≠ c.number) ∧
      (∀ l, 1 ≤ l → l ≤ 4 → ∀ w ∈ (t.lift l).queue, w.ticket ≠ some c.number) ∧
      (∀ n, 1 ≤ n → n ≤ 6 → (t.lane n).ticket ≠ some c.number) ∧
      (∀ h, c.hook = some h → (t.hook h).ticket ≠ some c.number) ∧
      (∀ k, (c.stall = some k ∨ c.target = some k) → t.heldFor k c.number = false) ∧
      (∀ k, c.stall = some k → t.occupiedBy k c.number = false) ∧
      (∀ l w, 1 ≤ l → l ≤ 4 → (s.lift l).current = some w → w.ticket = some c.number →
        (∀ v ∈ (s.lift l).queue, v.ticket ≠ some c.number) →
        (t.lift l).current = some { w with ticket := none, runner := none } ∧ (t.lift l).state = (s.lift l).state) ∧
      (∀ w b, s.task c.number = some w → (w.place = .offered b ∨ w.place = .held b) → 1 ≤ b → b ≤ 32 →
        (t.runner b).level = (s.runner b).level ∧ (t.runner b).readySince = s.now ∧
        ((t.runner b).state = .ready ∧ (t.runner b).task = none ∧ (t.runner b).offerBy = none ∧
            (t.runner b).owed = some (.withdraw c.number) ∨
          ∃ n kind, n ≠ c.number ∧ (t.runner b).state = .offered ∧ (t.runner b).task = some (n, kind) ∧
            (t.runner b).owed = some (.offer n))) ∧
      ((∀ h, (s.hook h).ticket = some c.number → c.hook = some h) → ∀ h, (t.hook h).ticket ≠ some c.number) ∧
      ((∀ k, (s.stall k).ticket = some c.number →
          c.stall = some k ∧ ((s.stall k).state = .held ∨ (s.stall k).state = .occupied) ∨
            c.target = some k ∧ (s.stall k).state = .held) → ∀ k, (t.stall k).ticket ≠ some c.number) ∧
      ((∀ b, 1 ≤ b → b ≤ 32 → (s.runner b).task.map (·.1) = some c.number →
          ∃ w, s.task c.number = some w ∧ (w.place = .offered b ∨ w.place = .held b)) →
        ∀ b, 1 ≤ b → b ≤ 32 → (t.runner b).task.map (·.1) ≠ some c.number) ∧
      ((t.station f.source).manageReply.map fun r => (r.code, r.outcome, r.record)) =
        some (.forceClose, .done, .number c.number)

/-! ### The clock, deadlines and expiries -/

/-- SET_CLOCK: a tenth above 863,999 is RANGE; with nothing reached and not yet taken, an earlier or equal time
changes nothing but the clock, and a later one ends every release window it passes; no timer counter moves (R182). It
takes every deadline and release time it passes and leaves the others as they wait: a passed confirm deadline goes, with
STALL_MISMATCH at an EMPTY stall (R16); a passed offer expires (R96); a lane at rest is FREE, or RESERVED at once (R122);
an AT_CURB ticket is overdue (R58); a schedule entry is released, its ticket CALLED at the new time with a FETCH task
(R130); a pulse ends (R171). A tenth of the time base marks as reached each confirm, release, offer and clearing deadline,
pulse end and release time that the new clock stands at, and no other (R181; an overdue deadline has no mark and is judged
against the clock). With that tenth: the clock advances by one tenth, over midnight and over the last day; a COUNTING channel with
a time clock takes one step at the end of each period of 1, 10 or 100 tenths, the step to 0 of a countdown being due
as its expiry; a channel that does not count, or counts events, is unchanged; tickets, links and the free counts stay
(R166, R170 to R173, R180). That a deadline or a last step is marked and then taken by a command of its own, and that
both commands first take what is still marked, is the model's choice (log entries 2 and 8): the clauses take a state
in which nothing is marked. -/
def Obligations.TheClockIsSetAndTicks : Prop :=
  (∀ (s : State) (f : From) (day tenth : Nat), s.Manages f → day < 65536 →
    (864000 ≤ tenth → exec (.setClock f (.fields ⟨day, tenth⟩)) s =
      .next ((s.heard f).replied f .setClock .range (.clock ⟨day, tenth⟩) (s.heard f))) ∧
    (tenth < 864000 → s.Quiet → s.now.before ⟨day, tenth⟩ = false → exec (.setClock f (.fields ⟨day, tenth⟩)) s =
      .next ((s.heard f).replied f .setClock .done (.clock ⟨day, tenth⟩)
        { s.heard f with events.clock := ⟨day, tenth⟩ })) ∧
    (tenth < 864000 → s.Quiet → s.now.before ⟨day, tenth⟩ = true →
      ∃ t, exec (.setClock f (.fields ⟨day, tenth⟩)) s = .next t ∧ t.now = ⟨day, tenth⟩ ∧
        (∀ k, k < 8 → (t.channel k).counter = (s.channel k).counter ∧ (t.channel k).state = (s.channel k).state ∧
          (t.channel k).elapsed = (s.channel k).elapsed) ∧
        (∀ h d, h < 576 → (s.hook h).custody = .released → (s.hook h).releaseBy = some ⟨d, false⟩ →
          s.now.before d = true → d.notAfter ⟨day, tenth⟩ = true →
          (t.hook h).custody = .cabinet ∧ (t.hook h).runner = none ∧ (t.hook h).releaseBy = none) ∧
        t.calls.estimates = s.calls.estimates ∧ t.events.flags = s.events.flags) ∧
    (tenth < 864000 → s.Quiet → s.now.before ⟨day, tenth⟩ = true → (s.tickets.map (·.number)).Nodup →
      (s.calls.schedule.map (·.ticket)).Nodup →
      (∀ e ∈ s.calls.schedule, (s.ticket e.ticket).map (·.state) = some .scheduled) →
      let passed (d : SiteTime) : Bool := s.now.before d && d.notAfter ⟨day, tenth⟩
      let waits (x : Option Deadline) : Prop := ∀ d, x = some d → passed d.time = false
      ∃ t, exec (.setClock f (.fields ⟨day, tenth⟩)) s = .next t ∧
        (∀ k, t.stall k = { s.stall k with confirmBy := (s.stall k).confirmBy.filter fun d => !passed d.time }) ∧
        t.stalls.free = s.stalls.free ∧
        (∀ k d, (s.stall k).confirmBy = some d → passed d.time = true → (s.stall k).sensed = .empty →
          ⟨.stallMismatch, k⟩ ∈ t.events.waiting) ∧
        (∀ h, waits (s.hook h).releaseBy → t.hook h = s.hook h) ∧
        (∀ b n kind d, (s.runner b).state = .offered → (s.runner b).task = some (n, kind) →
          (s.runner b).offerBy = some d → passed d.time = true →
          t.runner b = { s.runner b with
            state := .silent, task := none, offerBy := none, owed := some (.withdraw n) } ∧
          ⟨.runnerSilent, b⟩ ∈ t.events.waiting ∧ ∀ w, t.task n = some w → w.place ≠ .offered b) ∧
        (∀ b, (s.runner b).state ≠ .ready → waits (s.runner b).offerBy → t.runner b = s.runner b) ∧
        (∀ n d, (s.lane n).state = .clearing → (s.lane n).clearingBy = some d → passed d.time = true →
          (t.lane n).clearingBy = none ∧ ((t.lane n).state = .free ∨ (t.lane n).state = .reserved)) ∧
        (∀ n, (s.lane n).state ≠ .free → waits (s.lane n).clearingBy → t.lane n = s.lane n) ∧
        (∀ c d, s.ticket c.number = some c → c.state = .atCurb → c.overduePending = true → c.atCurbAt = some d →
          ((d.plusSeconds (60 * s.params.curbHold)).notAfter ⟨day, tenth⟩ = true →
            t.ticket c.number = some { c with overdue := true, overduePending := false } ∧
              ⟨.curbOverdue, c.number⟩ ∈ t.events.waiting) ∧
          ((d.plusSeconds (60 * s.params.curbHold)).notAfter ⟨day, tenth⟩ = false → t.ticket c.number = some c)) ∧
        t.calls.schedule = s.calls.schedule.filter (fun e => !passed e.release) ∧
        (∀ e ∈ s.calls.schedule, passed e.release = true →
          (t.ticket e.ticket).map (fun c => (c.state, c.calledAt)) = some (.called, some ⟨day, tenth⟩) ∧
          (∃ w ∈ t.dispatch.tasks, w.ticket = e.ticket ∧ w.kind = .fetch ∧ w.age = ⟨day, tenth⟩) ∧
          ⟨.scheduleRelease, e.ticket⟩ ∈ t.events.waiting) ∧
        (∀ k, k < 8 → waits (s.channel k).pulseEnd → t.channel k = s.channel k) ∧
        (∀ k d, k < 8 → (s.channel k).pulseEnd = some d → passed d.time = true →
          t.channel k = { s.channel k with drive := false, pulseEnd := none }) ∧
        ((t.station f.source).manageReply.map fun r => (r.code, r.outcome)) = some (.setClock, .done))) ∧
  (∀ s : State, s.power.main = true → s.Quiet →
    let mark (now : SiteTime) (x : Option Deadline) : Option Deadline :=
      x.map fun d => ⟨d.time, decide (d.time = now)⟩
    ∃ t, exec .clockTick s = .next t ∧
      (s.now.tenth < 863999 → t.now = ⟨s.now.day % 65536, s.now.tenth + 1⟩) ∧
      (s.now.tenth = 863999 → t.now = ⟨(s.now.day + 1) % 65536, 0⟩) ∧
      t.tickets = s.tickets ∧ t.links = s.links ∧ t.params = s.params ∧ t.stalls.free = s.stalls.free ∧
      (∀ k, (t.stall k).state = (s.stall k).state) ∧
      (∀ k, t.stall k = { s.stall k with confirmBy := mark t.now (s.stall k).confirmBy }) ∧
      (∀ h, t.hook h = { s.hook h with releaseBy := mark t.now (s.hook h).releaseBy }) ∧
      (∀ b, t.runner b = { s.runner b with offerBy := mark t.now (s.runner b).offerBy }) ∧
      (∀ n, t.lane n = { s.lane n with clearingBy := mark t.now (s.lane n).clearingBy }) ∧
      (∀ k, (t.channel k).pulseEnd = mark t.now (s.channel k).pulseEnd ∧ (t.channel k).drive = (s.channel k).drive) ∧
      t.calls.schedule = s.calls.schedule.map (fun e => { e with reached := decide (e.release = t.now) }) ∧
      t.events.waiting = s.events.waiting ∧ t.dispatch.tasks = s.dispatch.tasks ∧ t.arbiter.lifts = s.arbiter.lifts ∧
      t.unplaced = s.unplaced ∧ t.calls.board = s.calls.board ∧ t.calls.estimates = s.calls.estimates ∧
      ∀ k, k < 8 →
        let period : Nat := match (s.channel k).clock with
          | .tenth => 1 | .second => 10 | .tenSeconds => 100 | .event => 0
        (((s.channel k).state ≠ .counting ∨ (s.channel k).clock = .event) →
          (t.channel k).counter = (s.channel k).counter ∧ (t.channel k).state = (s.channel k).state ∧
            (t.channel k).elapsed = (s.channel k).elapsed ∧ (t.channel k).due = false) ∧
        ((s.channel k).state = .counting → (s.channel k).clock ≠ .event →
          ((s.channel k).elapsed + 1 < period → (t.channel k).counter = (s.channel k).counter ∧
            (t.channel k).elapsed = (s.channel k).elapsed + 1 ∧ (t.channel k).due = false) ∧
          (period ≤ (s.channel k).elapsed + 1 → (s.channel k).mode = .capture →
            (t.channel k).counter = min 65535 ((s.channel k).counter + 1) ∧ (t.channel k).elapsed = 0) ∧
          (period ≤ (s.channel k).elapsed + 1 →
            ((s.channel k).mode = .interval ∨ (s.channel k).mode = .delay ∨ (s.channel k).mode = .window) →
            (t.channel k).elapsed = 0 ∧
            (2 ≤ (s.channel k).counter → (t.channel k).counter = (s.channel k).counter - 1 ∧ (t.channel k).due = false) ∧
            ((s.channel k).counter ≤ 1 → (t.channel k).due = true))))

/-- A reached deadline is taken by its owner: a confirm deadline with STALL_MISMATCH at an EMPTY stall, a release
deadline with the hook back in CABINET, a clearing deadline with the lane FREE, a pulse end with the drive NEGATED
(R16, R71, R122, R171). One not reached stays, and its command changes nothing (log entry 7). -/
def Obligations.ReachedDeadlinesAreTaken : Prop :=
  ∀ s : State, s.power.main = true →
    (∀ k d, k < 640 → (s.stall k).confirmBy = some ⟨d, true⟩ → exec (.confirmDeadline k) s =
      .next (let taken : State := { s with
          stalls.records := setNth s.stalls.records k { s.stall k with confirmBy := none } }
        if (s.stall k).sensed = .empty then taken.raise .stallMismatch k else taken)) ∧
    (∀ h d, (s.hook h).custody = .released → (s.hook h).releaseBy = some ⟨d, true⟩ → exec (.releaseDeadline h) s =
      .next (s.setHook h { s.hook h with custody := .cabinet, runner := none, releaseBy := none })) ∧
    (∀ n d, (s.lane n).state = .clearing → (s.lane n).clearingBy = some ⟨d, true⟩ → s.NoLaneRequest →
      exec (.clearingDeadline n) s =
        .next (s.setLane n { state := .free, ticket := none, turnbackHold := false, clearingBy := none })) ∧
    (∀ k d, (s.channel k).pulseEnd = some ⟨d, true⟩ → exec (.pulseEnd k) s =
      .next (s.setChannel k { s.channel k with drive := false, pulseEnd := none })) ∧
    (∀ k d, (s.stall k).confirmBy = some ⟨d, false⟩ → exec (.confirmDeadline k) s = .next s) ∧
    (∀ h d, (s.hook h).releaseBy = some ⟨d, false⟩ → exec (.releaseDeadline h) s = .next s) ∧
    (∀ n d, (s.lane n).clearingBy = some ⟨d, false⟩ → exec (.clearingDeadline n) s = .next s) ∧
    (∀ k d, (s.channel k).pulseEnd = some ⟨d, false⟩ → exec (.pulseEnd k) s = .next s)

/-- A reached offer deadline makes the runner SILENT with RUNNER_SILENT, a TASK_WITHDRAW owed and the task no longer
offered to that runner (R96). An AT_CURB ticket whose overdue deadline has come is marked overdue once, with
CURB_OVERDUE (R58); before it, and once the mark is set, its command comes out of its turn and changes nothing, which
is the model's choice (log entries 2 and 7). The first schedule entry reached is released: the entry goes, its
SCHEDULED ticket is CALLED now with its quote as promise and a FETCH task, and SCHEDULE_RELEASE is raised (R130). -/
def Obligations.ExpiredTimesActOnTheirRecords : Prop :=
  (∀ (s : State) (b : Nat) (d : SiteTime) (w : Task), s.power.main = true → 1 ≤ b → b ≤ 32 →
    (s.runner b).state = .offered → (s.runner b).task = some (w.ticket, w.kind) →
    (s.runner b).offerBy = some ⟨d, true⟩ → s.task w.ticket = some w →
    ∃ t v, exec (.offerDeadline b) s = .next t ∧ s.KeepsSetup t ∧
      t.runner b = { s.runner b with state := .silent, task := none, offerBy := none, owed := some (.withdraw w.ticket) } ∧
      t.events.waiting = s.events.waiting ++ [⟨.runnerSilent, b⟩] ∧ t.task w.ticket = some v ∧ v.age = w.age ∧
      (v.place = .queued ∨ ∃ o, o ≠ b ∧ v.place = .offered o) ∧ t.tickets = s.tickets ∧ t.stalls = s.stalls ∧
      t.keys = s.keys ∧ t.arbiter = s.arbiter ∧ t.calls = s.calls) ∧
  (∀ (s : State) (c : Ticket), s.power.main = true → s.ticket c.number = some c →
    (∀ d, c.state = .atCurb → c.overduePending = true → c.atCurbAt = some d →
      (d.plusSeconds (60 * s.params.curbHold)).notAfter s.now = true →
      ∃ t, exec (.overdueDeadline c.number) s = .next t ∧ s.KeepsSetup t ∧
        t.ticket c.number = some { c with overdue := true, overduePending := false } ∧
        t.events.waiting = s.events.waiting ++ [⟨.curbOverdue, c.number⟩] ∧ t.stalls = s.stalls ∧ t.calls = s.calls ∧
        t.keys = s.keys ∧ t.dispatch = s.dispatch ∧ t.arbiter = s.arbiter ∧ s.ChangesOnlyTicket t c.number ∧
        exec (.overdueDeadline c.number) t = .next t) ∧
    ((c.state ≠ .atCurb ∨ c.overduePending = false ∨
        ∀ d, c.atCurbAt = some d → (d.plusSeconds (60 * s.params.curbHold)).notAfter s.now = false) →
      exec (.overdueDeadline c.number) s = .next s)) ∧
  (∀ (s : State) (e : ScheduleEntry) (c : Ticket), s.power.main = true → s.calls.schedule.find? (·.reached) = some e →
    e.ticket = c.number → s.ticket c.number = some c → c.state = .scheduled → s.task c.number = none →
    ∃ t w, exec .scheduleRelease s = .next t ∧ s.KeepsSetup t ∧
      t.calls.schedule = s.calls.schedule.filter (·.ticket != c.number) ∧
      t.ticket c.number = some { c with
        state := .called, calledAt := some s.now, promise := s.quote c, verify := false,
        backlog := c.backlog || decide (64 ≤ s.placesTaken) } ∧
      t.task c.number = some w ∧ w.kind = .fetch ∧ w.age = s.now ∧
      t.events.waiting = s.events.waiting ++ [⟨.scheduleRelease, c.number⟩] ∧ t.stalls = s.stalls ∧ t.keys = s.keys ∧
      t.arbiter = s.arbiter ∧ s.ChangesOnlyTicket t c.number)

/-- An expiry by the channel's mode: INTERVAL goes on from its reload with its drive changed, DELAY is ARMED with a
pulse of one tenth, WINDOW is ARMED with its drive NEGATED; the WINDOW channels of an INTERVAL or DELAY channel open
when ARMED and start their countdown again when COUNTING, and the channel's TIMER event is raised (R170 to R172,
R174). The due mark of a last step is the model's (log entry 2), and so is that the command for a channel with no step
due, out of its turn, changes nothing (log entry 7). -/
def Obligations.ExpiriesFollowTheMode : Prop :=
  ∀ (s : State) (k : Nat), s.power.main = true → k < 8 →
    ((s.channel k).mode = .interval → (s.channel k).due = true →
      ∃ t, exec (.intervalExpiry k) s = .next t ∧ t.channel k = { s.channel k with
          state := .counting, counter := (s.channel k).reload, elapsed := 0, due := false, drive := !(s.channel k).drive } ∧
        t.events.waiting = s.events.waiting ++ [⟨.timer k, k⟩] ∧ t.calls = s.calls ∧
        (∀ j, j < 8 → (s.channel j).mode = .window → (s.channel j).master = some k →
          t.channel j = match (s.channel j).state with
            | .stopped => s.channel j
            | .armed => { s.channel j with
                state := .counting, counter := (s.channel j).reload, elapsed := 0, due := false, drive := true }
            | .counting => { s.channel j with counter := (s.channel j).reload, elapsed := 0, due := false }) ∧
        (∀ j, j < 8 → j ≠ k → ((s.channel j).mode ≠ .window ∨ (s.channel j).master ≠ some k) →
          t.channel j = s.channel j)) ∧
    ((s.channel k).mode = .delay → (s.channel k).due = true →
      ∃ t, exec (.delayExpiry k) s = .next t ∧ t.channel k = { s.channel k with
          state := .armed, counter := 0, elapsed := 0, due := false, drive := true,
          pulseEnd := some ⟨s.now.plus 1, false⟩ } ∧
        t.events.waiting = s.events.waiting ++ [⟨.timer k, k⟩] ∧ t.calls = s.calls ∧
        (∀ j, j < 8 → (s.channel j).mode = .window → (s.channel j).master = some k →
          t.channel j = match (s.channel j).state with
            | .stopped => s.channel j
            | .armed => { s.channel j with
                state := .counting, counter := (s.channel j).reload, elapsed := 0, due := false, drive := true }
            | .counting => { s.channel j with counter := (s.channel j).reload, elapsed := 0, due := false })) ∧
    ((s.channel k).mode = .window → (s.channel k).due = true → exec (.windowExpiry k) s =
      .next ((s.setChannel k { s.channel k with
        state := .armed, counter := 0, elapsed := 0, due := false, drive := false }).raise (.timer k) k)) ∧
    ((s.channel k).due = false → exec (.intervalExpiry k) s = .next s ∧ exec (.delayExpiry k) s = .next s ∧
      exec (.windowExpiry k) s = .next s)

/-- What an event brings to a channel. By a route of its source: a start-event begins an ARMED DELAY from its reload
and an ARMED or COUNTING CAPTURE from 0; a stop-event ends a COUNTING DELAY or WINDOW without expiry and captures a
COUNTING CAPTURE, whose count is stored, fed to the estimate it names unless it is 65535, and reported as its TIMER
event; in every other mode or state, and from a TIMER source, nothing happens (R141, R171 to R173, R175, R178). A
channel that counts the source takes one step, before the event's routes act (R166, R184); an ARMED WINDOW of the channel
opens at its expiry with its whole reload (R172), and takes no step for that event where it counts the source itself, which
is the model's choice (log entry 48). An output line is asserted
exactly while a channel on it has its drive ASSERTED, and the alert line while a set flag has an OPEN mask; after a
retained start every line is negated (R176, R187). -/
def Obligations.RoutedEventsDriveTheChannels : Prop :=
  (∀ (s : State) (e : Event) (rest : List Event) (r : Route) (k : Nat), s.power.main = true →
    s.events.waiting = e :: rest → k < 8 → s.routesOf e = [r] →
    (∀ j, j < 8 → (s.channel j).state = .counting → (s.channel j).clock = .event →
      (s.channel j).clockSource ≠ some e.source.num) →
    (r.action = .timerStart k → e.source.isTimer = false →
      ∃ t, exec .eventTaken s = .next t ∧ t.events.waiting = rest ∧ t.calls = s.calls ∧
        (∀ j, j ≠ k → t.channel j = s.channel j) ∧
        t.channel k = match (s.channel k).mode, (s.channel k).state with
          | .delay, .armed => { s.channel k with
              state := .counting, counter := (s.channel k).reload, elapsed := 0, due := false }
          | .capture, .armed => { s.channel k with state := .counting, counter := 0, elapsed := 0, due := false }
          | .capture, .counting => { s.channel k with counter := 0, elapsed := 0, due := false }
          | _, _ => s.channel k) ∧
    (r.action = .timerStop k → e.source.isTimer = false →
      ∃ t, exec .eventTaken s = .next t ∧ (∀ j, j ≠ k → t.channel j = s.channel j) ∧
        (((s.channel k).mode = .delay ∨ (s.channel k).mode = .window) → (s.channel k).state = .counting →
          t.channel k = { s.channel k with
            state := .armed, counter := 0, elapsed := 0, due := false,
            drive := (s.channel k).drive && (s.channel k).mode == .delay } ∧
          t.events.waiting = rest ∧ t.calls = s.calls) ∧
        ((s.channel k).mode = .capture → (s.channel k).state = .counting →
          t.channel k = { s.channel k with
            state := .armed, counter := 0, elapsed := 0, due := false, captured := some (s.channel k).counter } ∧
          t.events.waiting = rest ++ [⟨.timer k, k⟩] ∧ t.calls.schedule = s.calls.schedule ∧
          t.calls.board = s.calls.board ∧
          (((s.channel k).counter = 65535 ∨ (s.channel k).target = .none) →
            t.calls.estimates = s.calls.estimates) ∧
          ((s.channel k).counter ≠ 65535 → (s.channel k).clock ≠ .event →
            let sample := match (s.channel k).clock with
              | .tenth => ((s.channel k).counter + 5) / 10
              | .tenSeconds => (s.channel k).counter * 10
              | _ => (s.channel k).counter
            let old := s.calls.estimates
            ((s.channel k).target = .taskMean → t.calls.estimates =
              { old with taskMean := fedEstimate old.taskMean sample }) ∧
            ((s.channel k).target = .laneDrive → t.calls.estimates =
              { old with laneDrive := fedEstimate old.laneDrive sample }) ∧
            ∀ l, ((s.channel k).target = .liftCycle1 ∧ l = 0 ∨ (s.channel k).target = .liftCycle2 ∧ l = 1 ∨
                (s.channel k).target = .liftCycle3 ∧ l = 2 ∨ (s.channel k).target = .liftCycle4 ∧ l = 3) →
              t.calls.estimates = { old with
                liftCycle := setNth old.liftCycle l (fedEstimate (nth old.liftCycle l 60) sample) })) ∧
        (((s.channel k).state ≠ .counting ∨ (s.channel k).mode = .interval ∨ (s.channel k).mode = .off) →
          t.channel k = s.channel k ∧ t.events.waiting = rest ∧ t.calls = s.calls)) ∧
    ((r.action = .timerStart k ∨ r.action = .timerStop k) → e.source.isTimer = true →
      ∃ t, exec .eventTaken s = .next t ∧ t.timers = s.timers ∧ t.calls = s.calls ∧ t.events.waiting = rest)) ∧
  (∀ (s : State) (e : Event) (rest : List Event) (k : Nat), s.power.main = true → s.events.waiting = e :: rest → k < 8 →
    (s.channel k).state = .counting → (s.channel k).clock = .event → (s.channel k).clockSource = some e.source.num →
    (∀ j, j < 8 → j ≠ k → (s.channel j).state = .counting → (s.channel j).clock = .event →
      (s.channel j).clockSource ≠ some e.source.num) →
    (s.routesOf e = [] →
      ∃ t, exec .eventTaken s = .next t ∧
        ((s.channel k).mode = .capture → t.channel k = { s.channel k with
          counter := min 65535 ((s.channel k).counter + 1) } ∧ t.events.waiting = rest) ∧
        (((s.channel k).mode = .interval ∨ (s.channel k).mode = .delay ∨ (s.channel k).mode = .window) →
          (2 ≤ (s.channel k).counter →
            t.channel k = { s.channel k with counter := (s.channel k).counter - 1 } ∧ t.events.waiting = rest) ∧
          ((s.channel k).counter ≤ 1 → t.events.waiting = rest ++ [⟨.timer k, k⟩] ∧
            ((s.channel k).mode = .interval → (t.channel k).counter = (s.channel k).reload ∧
              (t.channel k).state = .counting ∧ (t.channel k).drive = !(s.channel k).drive) ∧
            ((s.channel k).mode ≠ .interval → (t.channel k).counter = 0 ∧ (t.channel k).state = .armed ∧
              (t.channel k).drive = decide ((s.channel k).mode = .delay)) ∧
            ((s.channel k).mode ≠ .window → ∀ j, j < 8 → (s.channel j).mode = .window →
              (s.channel j).master = some k → (s.channel j).state = .armed →
              t.channel j = { s.channel j with
                state := .counting, counter := (s.channel j).reload, elapsed := 0, due := false, drive := true })))) ∧
    (∀ r, s.routesOf e = [r] → r.action = .timerStop k → e.source.isTimer = false →
      (s.channel k).mode = .capture → ∃ t, exec .eventTaken s = .next t ∧
        (t.channel k).captured = some (min 65535 ((s.channel k).counter + 1)) ∧ (t.channel k).state = .armed)) ∧
  (∀ (s : State) (line : OutputLine),
    (s.outLevel line = true ↔ line ≠ .none ∧ ∃ k, k < 8 ∧ (s.channel k).output = line ∧ (s.channel k).drive = true) ∧
    (s.alert = true ↔ ∃ k, k < 30 ∧ s.flag k = true ∧ s.maskOpen k = true) ∧
    ∀ t, s.RetainedFrom t → t.outLevel line = false ∧ t.alert = false)

/-- The event unit takes the event reported first: its flag is set, from clear with an OPEN mask every NOTICE station
is owed a notice, a FULL latch keeps its event, with its overrun mark set once a matching LATCH route hits it again, and
an EMPTY one on a matching LATCH route takes this one; only TIMER
events are reported meanwhile, after those that wait (R184, R185, R188, R191, R192). -/
def Obligations.EventsAreTakenInOrder : Prop :=
  ∀ (s : State) (e : Event) (rest : List Event), s.power.main = true → s.events.waiting = e :: rest → e.source.num < 30 →
    ∃ t more, exec .eventTaken s = .next t ∧ t.events.waiting = rest ++ more ∧
      (∀ x ∈ more, x.source.isTimer = true) ∧ t.flag e.source.num = true ∧
      (∀ j, j ≠ e.source.num → t.flag j = s.flag j) ∧ t.events.masks = s.events.masks ∧
      t.events.routes = s.events.routes ∧
      (s.flag e.source.num = false → s.maskOpen e.source.num = true →
        ∀ a, 1 ≤ a → a ≤ 60 → (s.station a).permissions.notice = true → (t.station a).noticeMark = true) ∧
      ((s.flag e.source.num = true ∨ s.maskOpen e.source.num = false) → t.links = s.links) ∧
      (∀ n c, nth s.events.latches n none = some c → ∃ c', nth t.events.latches n none = some c' ∧ c'.time = c.time ∧
        c'.source = c.source ∧ c'.subject = c.subject ∧ (c.overrun = true → c'.overrun = true)) ∧
      (∀ n i c, n < 4 → i < 16 → nth s.events.latches n none = some c →
        (nth s.events.routes i Route.cold).isMatch e = true → (nth s.events.routes i Route.cold).action = .latch n →
        nth t.events.latches n none = some { c with overrun := true }) ∧
      (∀ n, n < 4 → (∀ i, i < 16 → (nth s.events.routes i Route.cold).isMatch e = true →
          (nth s.events.routes i Route.cold).action ≠ .latch n) →
        nth t.events.latches n none = nth s.events.latches n none) ∧
      (∀ n i, n < 4 → i < 16 → nth s.events.latches n none = none →
        (nth s.events.routes i Route.cold).isMatch e = true → (nth s.events.routes i Route.cold).action = .latch n →
        ∃ c, nth t.events.latches n none = some c ∧ c.time = s.now ∧ c.source = e.source ∧ c.subject = e.subject) ∧
      t.tickets = s.tickets ∧ t.stalls = s.stalls ∧ t.keys = s.keys ∧ t.dispatch = s.dispatch ∧ t.arbiter = s.arbiter

end Statements
end

