-- ==== Sys2Proof/Laws/State.lean ====
section
/-! SUPPORT. What each write of a record leaves as it was: one lemma per field of State and write. -/

namespace Sys2Proof.Machine

open Sys2Proof

@[simp] theorem State.setHook_pending (s : State) (h : Nat) (r : Hook) : (s.setHook h r).pending = s.pending := rfl
@[simp] theorem State.setHook_stalls (s : State) (h : Nat) (r : Hook) : (s.setHook h r).stalls = s.stalls := rfl
@[simp] theorem State.setHook_unplaced (s : State) (h : Nat) (r : Hook) : (s.setHook h r).unplaced = s.unplaced := rfl
@[simp] theorem State.setHook_tickets (s : State) (h : Nat) (r : Hook) : (s.setHook h r).tickets = s.tickets := rfl
@[simp] theorem State.setHook_issue (s : State) (h : Nat) (r : Hook) : (s.setHook h r).issue = s.issue := rfl
@[simp] theorem State.setHook_dispatch (s : State) (h : Nat) (r : Hook) : (s.setHook h r).dispatch = s.dispatch := rfl
@[simp] theorem State.setHook_arbiter (s : State) (h : Nat) (r : Hook) : (s.setHook h r).arbiter = s.arbiter := rfl
@[simp] theorem State.setHook_calls (s : State) (h : Nat) (r : Hook) : (s.setHook h r).calls = s.calls := rfl
@[simp] theorem State.setHook_timers (s : State) (h : Nat) (r : Hook) : (s.setHook h r).timers = s.timers := rfl
@[simp] theorem State.setHook_events (s : State) (h : Nat) (r : Hook) : (s.setHook h r).events = s.events := rfl
@[simp] theorem State.setHook_links (s : State) (h : Nat) (r : Hook) : (s.setHook h r).links = s.links := rfl
@[simp] theorem State.setHook_params (s : State) (h : Nat) (r : Hook) : (s.setHook h r).params = s.params := rfl
@[simp] theorem State.setHook_power (s : State) (h : Nat) (r : Hook) : (s.setHook h r).power = s.power := rfl

@[simp] theorem State.setPanel_pending (s : State) (p : Nat) (r : Panel) : (s.setPanel p r).pending = s.pending := rfl
@[simp] theorem State.setPanel_stalls (s : State) (p : Nat) (r : Panel) : (s.setPanel p r).stalls = s.stalls := rfl
@[simp] theorem State.setPanel_unplaced (s : State) (p : Nat) (r : Panel) : (s.setPanel p r).unplaced = s.unplaced := rfl
@[simp] theorem State.setPanel_tickets (s : State) (p : Nat) (r : Panel) : (s.setPanel p r).tickets = s.tickets := rfl
@[simp] theorem State.setPanel_issue (s : State) (p : Nat) (r : Panel) : (s.setPanel p r).issue = s.issue := rfl
@[simp] theorem State.setPanel_dispatch (s : State) (p : Nat) (r : Panel) : (s.setPanel p r).dispatch = s.dispatch := rfl
@[simp] theorem State.setPanel_arbiter (s : State) (p : Nat) (r : Panel) : (s.setPanel p r).arbiter = s.arbiter := rfl
@[simp] theorem State.setPanel_calls (s : State) (p : Nat) (r : Panel) : (s.setPanel p r).calls = s.calls := rfl
@[simp] theorem State.setPanel_timers (s : State) (p : Nat) (r : Panel) : (s.setPanel p r).timers = s.timers := rfl
@[simp] theorem State.setPanel_events (s : State) (p : Nat) (r : Panel) : (s.setPanel p r).events = s.events := rfl
@[simp] theorem State.setPanel_links (s : State) (p : Nat) (r : Panel) : (s.setPanel p r).links = s.links := rfl
@[simp] theorem State.setPanel_params (s : State) (p : Nat) (r : Panel) : (s.setPanel p r).params = s.params := rfl
@[simp] theorem State.setPanel_power (s : State) (p : Nat) (r : Panel) : (s.setPanel p r).power = s.power := rfl

@[simp] theorem State.setRunner_pending (s : State) (b : Nat) (r : Runner) : (s.setRunner b r).pending = s.pending := rfl
@[simp] theorem State.setRunner_stalls (s : State) (b : Nat) (r : Runner) : (s.setRunner b r).stalls = s.stalls := rfl
@[simp] theorem State.setRunner_unplaced (s : State) (b : Nat) (r : Runner) : (s.setRunner b r).unplaced = s.unplaced := rfl
@[simp] theorem State.setRunner_tickets (s : State) (b : Nat) (r : Runner) : (s.setRunner b r).tickets = s.tickets := rfl
@[simp] theorem State.setRunner_issue (s : State) (b : Nat) (r : Runner) : (s.setRunner b r).issue = s.issue := rfl
@[simp] theorem State.setRunner_keys (s : State) (b : Nat) (r : Runner) : (s.setRunner b r).keys = s.keys := rfl
@[simp] theorem State.setRunner_arbiter (s : State) (b : Nat) (r : Runner) : (s.setRunner b r).arbiter = s.arbiter := rfl
@[simp] theorem State.setRunner_calls (s : State) (b : Nat) (r : Runner) : (s.setRunner b r).calls = s.calls := rfl
@[simp] theorem State.setRunner_timers (s : State) (b : Nat) (r : Runner) : (s.setRunner b r).timers = s.timers := rfl
@[simp] theorem State.setRunner_events (s : State) (b : Nat) (r : Runner) : (s.setRunner b r).events = s.events := rfl
@[simp] theorem State.setRunner_links (s : State) (b : Nat) (r : Runner) : (s.setRunner b r).links = s.links := rfl
@[simp] theorem State.setRunner_params (s : State) (b : Nat) (r : Runner) : (s.setRunner b r).params = s.params := rfl
@[simp] theorem State.setRunner_power (s : State) (b : Nat) (r : Runner) : (s.setRunner b r).power = s.power := rfl

@[simp] theorem State.setLift_pending (s : State) (l : Nat) (r : Lift) : (s.setLift l r).pending = s.pending := rfl
@[simp] theorem State.setLift_stalls (s : State) (l : Nat) (r : Lift) : (s.setLift l r).stalls = s.stalls := rfl
@[simp] theorem State.setLift_unplaced (s : State) (l : Nat) (r : Lift) : (s.setLift l r).unplaced = s.unplaced := rfl
@[simp] theorem State.setLift_tickets (s : State) (l : Nat) (r : Lift) : (s.setLift l r).tickets = s.tickets := rfl
@[simp] theorem State.setLift_issue (s : State) (l : Nat) (r : Lift) : (s.setLift l r).issue = s.issue := rfl
@[simp] theorem State.setLift_keys (s : State) (l : Nat) (r : Lift) : (s.setLift l r).keys = s.keys := rfl
@[simp] theorem State.setLift_dispatch (s : State) (l : Nat) (r : Lift) : (s.setLift l r).dispatch = s.dispatch := rfl
@[simp] theorem State.setLift_calls (s : State) (l : Nat) (r : Lift) : (s.setLift l r).calls = s.calls := rfl
@[simp] theorem State.setLift_timers (s : State) (l : Nat) (r : Lift) : (s.setLift l r).timers = s.timers := rfl
@[simp] theorem State.setLift_events (s : State) (l : Nat) (r : Lift) : (s.setLift l r).events = s.events := rfl
@[simp] theorem State.setLift_links (s : State) (l : Nat) (r : Lift) : (s.setLift l r).links = s.links := rfl
@[simp] theorem State.setLift_params (s : State) (l : Nat) (r : Lift) : (s.setLift l r).params = s.params := rfl
@[simp] theorem State.setLift_power (s : State) (l : Nat) (r : Lift) : (s.setLift l r).power = s.power := rfl

@[simp] theorem State.setLane_pending (s : State) (n : Nat) (r : Lane) : (s.setLane n r).pending = s.pending := rfl
@[simp] theorem State.setLane_stalls (s : State) (n : Nat) (r : Lane) : (s.setLane n r).stalls = s.stalls := rfl
@[simp] theorem State.setLane_unplaced (s : State) (n : Nat) (r : Lane) : (s.setLane n r).unplaced = s.unplaced := rfl
@[simp] theorem State.setLane_tickets (s : State) (n : Nat) (r : Lane) : (s.setLane n r).tickets = s.tickets := rfl
@[simp] theorem State.setLane_issue (s : State) (n : Nat) (r : Lane) : (s.setLane n r).issue = s.issue := rfl
@[simp] theorem State.setLane_keys (s : State) (n : Nat) (r : Lane) : (s.setLane n r).keys = s.keys := rfl
@[simp] theorem State.setLane_dispatch (s : State) (n : Nat) (r : Lane) : (s.setLane n r).dispatch = s.dispatch := rfl
@[simp] theorem State.setLane_calls (s : State) (n : Nat) (r : Lane) : (s.setLane n r).calls = s.calls := rfl
@[simp] theorem State.setLane_timers (s : State) (n : Nat) (r : Lane) : (s.setLane n r).timers = s.timers := rfl
@[simp] theorem State.setLane_events (s : State) (n : Nat) (r : Lane) : (s.setLane n r).events = s.events := rfl
@[simp] theorem State.setLane_links (s : State) (n : Nat) (r : Lane) : (s.setLane n r).links = s.links := rfl
@[simp] theorem State.setLane_params (s : State) (n : Nat) (r : Lane) : (s.setLane n r).params = s.params := rfl
@[simp] theorem State.setLane_power (s : State) (n : Nat) (r : Lane) : (s.setLane n r).power = s.power := rfl

@[simp] theorem State.setChannel_pending (s : State) (c : Nat) (r : Channel) : (s.setChannel c r).pending = s.pending := rfl
@[simp] theorem State.setChannel_stalls (s : State) (c : Nat) (r : Channel) : (s.setChannel c r).stalls = s.stalls := rfl
@[simp] theorem State.setChannel_unplaced (s : State) (c : Nat) (r : Channel) : (s.setChannel c r).unplaced = s.unplaced := rfl
@[simp] theorem State.setChannel_tickets (s : State) (c : Nat) (r : Channel) : (s.setChannel c r).tickets = s.tickets := rfl
@[simp] theorem State.setChannel_issue (s : State) (c : Nat) (r : Channel) : (s.setChannel c r).issue = s.issue := rfl
@[simp] theorem State.setChannel_keys (s : State) (c : Nat) (r : Channel) : (s.setChannel c r).keys = s.keys := rfl
@[simp] theorem State.setChannel_dispatch (s : State) (c : Nat) (r : Channel) : (s.setChannel c r).dispatch = s.dispatch := rfl
@[simp] theorem State.setChannel_arbiter (s : State) (c : Nat) (r : Channel) : (s.setChannel c r).arbiter = s.arbiter := rfl
@[simp] theorem State.setChannel_calls (s : State) (c : Nat) (r : Channel) : (s.setChannel c r).calls = s.calls := rfl
@[simp] theorem State.setChannel_events (s : State) (c : Nat) (r : Channel) : (s.setChannel c r).events = s.events := rfl
@[simp] theorem State.setChannel_links (s : State) (c : Nat) (r : Channel) : (s.setChannel c r).links = s.links := rfl
@[simp] theorem State.setChannel_params (s : State) (c : Nat) (r : Channel) : (s.setChannel c r).params = s.params := rfl
@[simp] theorem State.setChannel_power (s : State) (c : Nat) (r : Channel) : (s.setChannel c r).power = s.power := rfl

@[simp] theorem State.setStation_pending (s : State) (a : Nat) (r : Station) : (s.setStation a r).pending = s.pending := rfl
@[simp] theorem State.setStation_stalls (s : State) (a : Nat) (r : Station) : (s.setStation a r).stalls = s.stalls := rfl
@[simp] theorem State.setStation_unplaced (s : State) (a : Nat) (r : Station) : (s.setStation a r).unplaced = s.unplaced := rfl
@[simp] theorem State.setStation_tickets (s : State) (a : Nat) (r : Station) : (s.setStation a r).tickets = s.tickets := rfl
@[simp] theorem State.setStation_issue (s : State) (a : Nat) (r : Station) : (s.setStation a r).issue = s.issue := rfl
@[simp] theorem State.setStation_keys (s : State) (a : Nat) (r : Station) : (s.setStation a r).keys = s.keys := rfl
@[simp] theorem State.setStation_dispatch (s : State) (a : Nat) (r : Station) : (s.setStation a r).dispatch = s.dispatch := rfl
@[simp] theorem State.setStation_arbiter (s : State) (a : Nat) (r : Station) : (s.setStation a r).arbiter = s.arbiter := rfl
@[simp] theorem State.setStation_calls (s : State) (a : Nat) (r : Station) : (s.setStation a r).calls = s.calls := rfl
@[simp] theorem State.setStation_timers (s : State) (a : Nat) (r : Station) : (s.setStation a r).timers = s.timers := rfl
@[simp] theorem State.setStation_events (s : State) (a : Nat) (r : Station) : (s.setStation a r).events = s.events := rfl
@[simp] theorem State.setStation_params (s : State) (a : Nat) (r : Station) : (s.setStation a r).params = s.params := rfl
@[simp] theorem State.setStation_power (s : State) (a : Nat) (r : Station) : (s.setStation a r).power = s.power := rfl

@[simp] theorem State.mapStations_pending (s : State) (f : Station → Station) : (s.mapStations f).pending = s.pending := rfl
@[simp] theorem State.mapStations_stalls (s : State) (f : Station → Station) : (s.mapStations f).stalls = s.stalls := rfl
@[simp] theorem State.mapStations_unplaced (s : State) (f : Station → Station) : (s.mapStations f).unplaced = s.unplaced := rfl
@[simp] theorem State.mapStations_tickets (s : State) (f : Station → Station) : (s.mapStations f).tickets = s.tickets := rfl
@[simp] theorem State.mapStations_issue (s : State) (f : Station → Station) : (s.mapStations f).issue = s.issue := rfl
@[simp] theorem State.mapStations_keys (s : State) (f : Station → Station) : (s.mapStations f).keys = s.keys := rfl
@[simp] theorem State.mapStations_dispatch (s : State) (f : Station → Station) : (s.mapStations f).dispatch = s.dispatch := rfl
@[simp] theorem State.mapStations_arbiter (s : State) (f : Station → Station) : (s.mapStations f).arbiter = s.arbiter := rfl
@[simp] theorem State.mapStations_calls (s : State) (f : Station → Station) : (s.mapStations f).calls = s.calls := rfl
@[simp] theorem State.mapStations_timers (s : State) (f : Station → Station) : (s.mapStations f).timers = s.timers := rfl
@[simp] theorem State.mapStations_events (s : State) (f : Station → Station) : (s.mapStations f).events = s.events := rfl
@[simp] theorem State.mapStations_params (s : State) (f : Station → Station) : (s.mapStations f).params = s.params := rfl
@[simp] theorem State.mapStations_power (s : State) (f : Station → Station) : (s.mapStations f).power = s.power := rfl

@[simp] theorem State.modifyTicket_pending (s : State) (n : Nat) (f : Ticket → Ticket) : (s.modifyTicket n f).pending = s.pending := rfl
@[simp] theorem State.modifyTicket_stalls (s : State) (n : Nat) (f : Ticket → Ticket) : (s.modifyTicket n f).stalls = s.stalls := rfl
@[simp] theorem State.modifyTicket_unplaced (s : State) (n : Nat) (f : Ticket → Ticket) : (s.modifyTicket n f).unplaced = s.unplaced := rfl
@[simp] theorem State.modifyTicket_issue (s : State) (n : Nat) (f : Ticket → Ticket) : (s.modifyTicket n f).issue = s.issue := rfl
@[simp] theorem State.modifyTicket_keys (s : State) (n : Nat) (f : Ticket → Ticket) : (s.modifyTicket n f).keys = s.keys := rfl
@[simp] theorem State.modifyTicket_dispatch (s : State) (n : Nat) (f : Ticket → Ticket) : (s.modifyTicket n f).dispatch = s.dispatch := rfl
@[simp] theorem State.modifyTicket_arbiter (s : State) (n : Nat) (f : Ticket → Ticket) : (s.modifyTicket n f).arbiter = s.arbiter := rfl
@[simp] theorem State.modifyTicket_calls (s : State) (n : Nat) (f : Ticket → Ticket) : (s.modifyTicket n f).calls = s.calls := rfl
@[simp] theorem State.modifyTicket_timers (s : State) (n : Nat) (f : Ticket → Ticket) : (s.modifyTicket n f).timers = s.timers := rfl
@[simp] theorem State.modifyTicket_events (s : State) (n : Nat) (f : Ticket → Ticket) : (s.modifyTicket n f).events = s.events := rfl
@[simp] theorem State.modifyTicket_links (s : State) (n : Nat) (f : Ticket → Ticket) : (s.modifyTicket n f).links = s.links := rfl
@[simp] theorem State.modifyTicket_params (s : State) (n : Nat) (f : Ticket → Ticket) : (s.modifyTicket n f).params = s.params := rfl
@[simp] theorem State.modifyTicket_power (s : State) (n : Nat) (f : Ticket → Ticket) : (s.modifyTicket n f).power = s.power := rfl

@[simp] theorem State.modifyTask_pending (s : State) (n : Nat) (f : Task → Task) : (s.modifyTask n f).pending = s.pending := rfl
@[simp] theorem State.modifyTask_stalls (s : State) (n : Nat) (f : Task → Task) : (s.modifyTask n f).stalls = s.stalls := rfl
@[simp] theorem State.modifyTask_unplaced (s : State) (n : Nat) (f : Task → Task) : (s.modifyTask n f).unplaced = s.unplaced := rfl
@[simp] theorem State.modifyTask_tickets (s : State) (n : Nat) (f : Task → Task) : (s.modifyTask n f).tickets = s.tickets := rfl
@[simp] theorem State.modifyTask_issue (s : State) (n : Nat) (f : Task → Task) : (s.modifyTask n f).issue = s.issue := rfl
@[simp] theorem State.modifyTask_keys (s : State) (n : Nat) (f : Task → Task) : (s.modifyTask n f).keys = s.keys := rfl
@[simp] theorem State.modifyTask_arbiter (s : State) (n : Nat) (f : Task → Task) : (s.modifyTask n f).arbiter = s.arbiter := rfl
@[simp] theorem State.modifyTask_calls (s : State) (n : Nat) (f : Task → Task) : (s.modifyTask n f).calls = s.calls := rfl
@[simp] theorem State.modifyTask_timers (s : State) (n : Nat) (f : Task → Task) : (s.modifyTask n f).timers = s.timers := rfl
@[simp] theorem State.modifyTask_events (s : State) (n : Nat) (f : Task → Task) : (s.modifyTask n f).events = s.events := rfl
@[simp] theorem State.modifyTask_links (s : State) (n : Nat) (f : Task → Task) : (s.modifyTask n f).links = s.links := rfl
@[simp] theorem State.modifyTask_params (s : State) (n : Nat) (f : Task → Task) : (s.modifyTask n f).params = s.params := rfl
@[simp] theorem State.modifyTask_power (s : State) (n : Nat) (f : Task → Task) : (s.modifyTask n f).power = s.power := rfl

@[simp] theorem State.dropTask_pending (s : State) (n : Nat) : (s.dropTask n).pending = s.pending := rfl
@[simp] theorem State.dropTask_stalls (s : State) (n : Nat) : (s.dropTask n).stalls = s.stalls := rfl
@[simp] theorem State.dropTask_unplaced (s : State) (n : Nat) : (s.dropTask n).unplaced = s.unplaced := rfl
@[simp] theorem State.dropTask_tickets (s : State) (n : Nat) : (s.dropTask n).tickets = s.tickets := rfl
@[simp] theorem State.dropTask_issue (s : State) (n : Nat) : (s.dropTask n).issue = s.issue := rfl
@[simp] theorem State.dropTask_keys (s : State) (n : Nat) : (s.dropTask n).keys = s.keys := rfl
@[simp] theorem State.dropTask_arbiter (s : State) (n : Nat) : (s.dropTask n).arbiter = s.arbiter := rfl
@[simp] theorem State.dropTask_calls (s : State) (n : Nat) : (s.dropTask n).calls = s.calls := rfl
@[simp] theorem State.dropTask_timers (s : State) (n : Nat) : (s.dropTask n).timers = s.timers := rfl
@[simp] theorem State.dropTask_events (s : State) (n : Nat) : (s.dropTask n).events = s.events := rfl
@[simp] theorem State.dropTask_links (s : State) (n : Nat) : (s.dropTask n).links = s.links := rfl
@[simp] theorem State.dropTask_params (s : State) (n : Nat) : (s.dropTask n).params = s.params := rfl
@[simp] theorem State.dropTask_power (s : State) (n : Nat) : (s.dropTask n).power = s.power := rfl

@[simp] theorem State.raise_pending (s : State) (e : Source) (x : Nat) : (s.raise e x).pending = s.pending := rfl
@[simp] theorem State.raise_stalls (s : State) (e : Source) (x : Nat) : (s.raise e x).stalls = s.stalls := rfl
@[simp] theorem State.raise_unplaced (s : State) (e : Source) (x : Nat) : (s.raise e x).unplaced = s.unplaced := rfl
@[simp] theorem State.raise_tickets (s : State) (e : Source) (x : Nat) : (s.raise e x).tickets = s.tickets := rfl
@[simp] theorem State.raise_issue (s : State) (e : Source) (x : Nat) : (s.raise e x).issue = s.issue := rfl
@[simp] theorem State.raise_keys (s : State) (e : Source) (x : Nat) : (s.raise e x).keys = s.keys := rfl
@[simp] theorem State.raise_dispatch (s : State) (e : Source) (x : Nat) : (s.raise e x).dispatch = s.dispatch := rfl
@[simp] theorem State.raise_arbiter (s : State) (e : Source) (x : Nat) : (s.raise e x).arbiter = s.arbiter := rfl
@[simp] theorem State.raise_calls (s : State) (e : Source) (x : Nat) : (s.raise e x).calls = s.calls := rfl
@[simp] theorem State.raise_timers (s : State) (e : Source) (x : Nat) : (s.raise e x).timers = s.timers := rfl
@[simp] theorem State.raise_links (s : State) (e : Source) (x : Nat) : (s.raise e x).links = s.links := rfl
@[simp] theorem State.raise_params (s : State) (e : Source) (x : Nat) : (s.raise e x).params = s.params := rfl
@[simp] theorem State.raise_power (s : State) (e : Source) (x : Nat) : (s.raise e x).power = s.power := rfl

@[simp] theorem State.putClock_pending (s : State) (t : SiteTime) : (s.putClock t).pending = s.pending := rfl
@[simp] theorem State.putClock_stalls (s : State) (t : SiteTime) : (s.putClock t).stalls = s.stalls := rfl
@[simp] theorem State.putClock_unplaced (s : State) (t : SiteTime) : (s.putClock t).unplaced = s.unplaced := rfl
@[simp] theorem State.putClock_tickets (s : State) (t : SiteTime) : (s.putClock t).tickets = s.tickets := rfl
@[simp] theorem State.putClock_issue (s : State) (t : SiteTime) : (s.putClock t).issue = s.issue := rfl
@[simp] theorem State.putClock_keys (s : State) (t : SiteTime) : (s.putClock t).keys = s.keys := rfl
@[simp] theorem State.putClock_dispatch (s : State) (t : SiteTime) : (s.putClock t).dispatch = s.dispatch := rfl
@[simp] theorem State.putClock_arbiter (s : State) (t : SiteTime) : (s.putClock t).arbiter = s.arbiter := rfl
@[simp] theorem State.putClock_calls (s : State) (t : SiteTime) : (s.putClock t).calls = s.calls := rfl
@[simp] theorem State.putClock_timers (s : State) (t : SiteTime) : (s.putClock t).timers = s.timers := rfl
@[simp] theorem State.putClock_links (s : State) (t : SiteTime) : (s.putClock t).links = s.links := rfl
@[simp] theorem State.putClock_params (s : State) (t : SiteTime) : (s.putClock t).params = s.params := rfl
@[simp] theorem State.putClock_power (s : State) (t : SiteTime) : (s.putClock t).power = s.power := rfl

@[simp] theorem State.joinBoard_pending (s : State) (n : Nat) : (s.joinBoard n).pending = s.pending := rfl
@[simp] theorem State.joinBoard_stalls (s : State) (n : Nat) : (s.joinBoard n).stalls = s.stalls := rfl
@[simp] theorem State.joinBoard_unplaced (s : State) (n : Nat) : (s.joinBoard n).unplaced = s.unplaced := rfl
@[simp] theorem State.joinBoard_tickets (s : State) (n : Nat) : (s.joinBoard n).tickets = s.tickets := rfl
@[simp] theorem State.joinBoard_issue (s : State) (n : Nat) : (s.joinBoard n).issue = s.issue := rfl
@[simp] theorem State.joinBoard_keys (s : State) (n : Nat) : (s.joinBoard n).keys = s.keys := rfl
@[simp] theorem State.joinBoard_dispatch (s : State) (n : Nat) : (s.joinBoard n).dispatch = s.dispatch := rfl
@[simp] theorem State.joinBoard_arbiter (s : State) (n : Nat) : (s.joinBoard n).arbiter = s.arbiter := rfl
@[simp] theorem State.joinBoard_timers (s : State) (n : Nat) : (s.joinBoard n).timers = s.timers := rfl
@[simp] theorem State.joinBoard_events (s : State) (n : Nat) : (s.joinBoard n).events = s.events := rfl
@[simp] theorem State.joinBoard_links (s : State) (n : Nat) : (s.joinBoard n).links = s.links := rfl
@[simp] theorem State.joinBoard_params (s : State) (n : Nat) : (s.joinBoard n).params = s.params := rfl
@[simp] theorem State.joinBoard_power (s : State) (n : Nat) : (s.joinBoard n).power = s.power := rfl

@[simp] theorem State.leaveBoard_pending (s : State) (n : Nat) : (s.leaveBoard n).pending = s.pending := rfl
@[simp] theorem State.leaveBoard_stalls (s : State) (n : Nat) : (s.leaveBoard n).stalls = s.stalls := rfl
@[simp] theorem State.leaveBoard_unplaced (s : State) (n : Nat) : (s.leaveBoard n).unplaced = s.unplaced := rfl
@[simp] theorem State.leaveBoard_tickets (s : State) (n : Nat) : (s.leaveBoard n).tickets = s.tickets := rfl
@[simp] theorem State.leaveBoard_issue (s : State) (n : Nat) : (s.leaveBoard n).issue = s.issue := rfl
@[simp] theorem State.leaveBoard_keys (s : State) (n : Nat) : (s.leaveBoard n).keys = s.keys := rfl
@[simp] theorem State.leaveBoard_dispatch (s : State) (n : Nat) : (s.leaveBoard n).dispatch = s.dispatch := rfl
@[simp] theorem State.leaveBoard_arbiter (s : State) (n : Nat) : (s.leaveBoard n).arbiter = s.arbiter := rfl
@[simp] theorem State.leaveBoard_timers (s : State) (n : Nat) : (s.leaveBoard n).timers = s.timers := rfl
@[simp] theorem State.leaveBoard_events (s : State) (n : Nat) : (s.leaveBoard n).events = s.events := rfl
@[simp] theorem State.leaveBoard_links (s : State) (n : Nat) : (s.leaveBoard n).links = s.links := rfl
@[simp] theorem State.leaveBoard_params (s : State) (n : Nat) : (s.leaveBoard n).params = s.params := rfl
@[simp] theorem State.leaveBoard_power (s : State) (n : Nat) : (s.leaveBoard n).power = s.power := rfl

@[simp] theorem State.unschedule_pending (s : State) (n : Nat) : (s.unschedule n).pending = s.pending := rfl
@[simp] theorem State.unschedule_stalls (s : State) (n : Nat) : (s.unschedule n).stalls = s.stalls := rfl
@[simp] theorem State.unschedule_unplaced (s : State) (n : Nat) : (s.unschedule n).unplaced = s.unplaced := rfl
@[simp] theorem State.unschedule_tickets (s : State) (n : Nat) : (s.unschedule n).tickets = s.tickets := rfl
@[simp] theorem State.unschedule_issue (s : State) (n : Nat) : (s.unschedule n).issue = s.issue := rfl
@[simp] theorem State.unschedule_keys (s : State) (n : Nat) : (s.unschedule n).keys = s.keys := rfl
@[simp] theorem State.unschedule_dispatch (s : State) (n : Nat) : (s.unschedule n).dispatch = s.dispatch := rfl
@[simp] theorem State.unschedule_arbiter (s : State) (n : Nat) : (s.unschedule n).arbiter = s.arbiter := rfl
@[simp] theorem State.unschedule_timers (s : State) (n : Nat) : (s.unschedule n).timers = s.timers := rfl
@[simp] theorem State.unschedule_events (s : State) (n : Nat) : (s.unschedule n).events = s.events := rfl
@[simp] theorem State.unschedule_links (s : State) (n : Nat) : (s.unschedule n).links = s.links := rfl
@[simp] theorem State.unschedule_params (s : State) (n : Nat) : (s.unschedule n).params = s.params := rfl
@[simp] theorem State.unschedule_power (s : State) (n : Nat) : (s.unschedule n).power = s.power := rfl

@[simp] theorem State.countRise_pending (s : State) (c : SizeClass) : (s.countRise c).pending = s.pending := rfl
@[simp] theorem State.countRise_unplaced (s : State) (c : SizeClass) : (s.countRise c).unplaced = s.unplaced := rfl
@[simp] theorem State.countRise_tickets (s : State) (c : SizeClass) : (s.countRise c).tickets = s.tickets := rfl
@[simp] theorem State.countRise_issue (s : State) (c : SizeClass) : (s.countRise c).issue = s.issue := rfl
@[simp] theorem State.countRise_keys (s : State) (c : SizeClass) : (s.countRise c).keys = s.keys := rfl
@[simp] theorem State.countRise_dispatch (s : State) (c : SizeClass) : (s.countRise c).dispatch = s.dispatch := rfl
@[simp] theorem State.countRise_arbiter (s : State) (c : SizeClass) : (s.countRise c).arbiter = s.arbiter := rfl
@[simp] theorem State.countRise_calls (s : State) (c : SizeClass) : (s.countRise c).calls = s.calls := rfl
@[simp] theorem State.countRise_timers (s : State) (c : SizeClass) : (s.countRise c).timers = s.timers := rfl
@[simp] theorem State.countRise_events (s : State) (c : SizeClass) : (s.countRise c).events = s.events := rfl
@[simp] theorem State.countRise_links (s : State) (c : SizeClass) : (s.countRise c).links = s.links := rfl
@[simp] theorem State.countRise_params (s : State) (c : SizeClass) : (s.countRise c).params = s.params := rfl
@[simp] theorem State.countRise_power (s : State) (c : SizeClass) : (s.countRise c).power = s.power := rfl

@[simp] theorem State.oweVacancy_pending (s : State) : (s.oweVacancy).pending = s.pending := rfl
@[simp] theorem State.oweVacancy_stalls (s : State) : (s.oweVacancy).stalls = s.stalls := rfl
@[simp] theorem State.oweVacancy_unplaced (s : State) : (s.oweVacancy).unplaced = s.unplaced := rfl
@[simp] theorem State.oweVacancy_tickets (s : State) : (s.oweVacancy).tickets = s.tickets := rfl
@[simp] theorem State.oweVacancy_issue (s : State) : (s.oweVacancy).issue = s.issue := rfl
@[simp] theorem State.oweVacancy_keys (s : State) : (s.oweVacancy).keys = s.keys := rfl
@[simp] theorem State.oweVacancy_dispatch (s : State) : (s.oweVacancy).dispatch = s.dispatch := rfl
@[simp] theorem State.oweVacancy_arbiter (s : State) : (s.oweVacancy).arbiter = s.arbiter := rfl
@[simp] theorem State.oweVacancy_calls (s : State) : (s.oweVacancy).calls = s.calls := rfl
@[simp] theorem State.oweVacancy_timers (s : State) : (s.oweVacancy).timers = s.timers := rfl
@[simp] theorem State.oweVacancy_events (s : State) : (s.oweVacancy).events = s.events := rfl
@[simp] theorem State.oweVacancy_params (s : State) : (s.oweVacancy).params = s.params := rfl
@[simp] theorem State.oweVacancy_power (s : State) : (s.oweVacancy).power = s.power := rfl

@[simp] theorem State.oweBoard_pending (s : State) : (s.oweBoard).pending = s.pending := rfl
@[simp] theorem State.oweBoard_stalls (s : State) : (s.oweBoard).stalls = s.stalls := rfl
@[simp] theorem State.oweBoard_unplaced (s : State) : (s.oweBoard).unplaced = s.unplaced := rfl
@[simp] theorem State.oweBoard_tickets (s : State) : (s.oweBoard).tickets = s.tickets := rfl
@[simp] theorem State.oweBoard_issue (s : State) : (s.oweBoard).issue = s.issue := rfl
@[simp] theorem State.oweBoard_keys (s : State) : (s.oweBoard).keys = s.keys := rfl
@[simp] theorem State.oweBoard_dispatch (s : State) : (s.oweBoard).dispatch = s.dispatch := rfl
@[simp] theorem State.oweBoard_arbiter (s : State) : (s.oweBoard).arbiter = s.arbiter := rfl
@[simp] theorem State.oweBoard_calls (s : State) : (s.oweBoard).calls = s.calls := rfl
@[simp] theorem State.oweBoard_timers (s : State) : (s.oweBoard).timers = s.timers := rfl
@[simp] theorem State.oweBoard_events (s : State) : (s.oweBoard).events = s.events := rfl
@[simp] theorem State.oweBoard_params (s : State) : (s.oweBoard).params = s.params := rfl
@[simp] theorem State.oweBoard_power (s : State) : (s.oweBoard).power = s.power := rfl

@[simp] theorem State.oweNotices_pending (s : State) : (s.oweNotices).pending = s.pending := rfl
@[simp] theorem State.oweNotices_stalls (s : State) : (s.oweNotices).stalls = s.stalls := rfl
@[simp] theorem State.oweNotices_unplaced (s : State) : (s.oweNotices).unplaced = s.unplaced := rfl
@[simp] theorem State.oweNotices_tickets (s : State) : (s.oweNotices).tickets = s.tickets := rfl
@[simp] theorem State.oweNotices_issue (s : State) : (s.oweNotices).issue = s.issue := rfl
@[simp] theorem State.oweNotices_keys (s : State) : (s.oweNotices).keys = s.keys := rfl
@[simp] theorem State.oweNotices_dispatch (s : State) : (s.oweNotices).dispatch = s.dispatch := rfl
@[simp] theorem State.oweNotices_arbiter (s : State) : (s.oweNotices).arbiter = s.arbiter := rfl
@[simp] theorem State.oweNotices_calls (s : State) : (s.oweNotices).calls = s.calls := rfl
@[simp] theorem State.oweNotices_timers (s : State) : (s.oweNotices).timers = s.timers := rfl
@[simp] theorem State.oweNotices_events (s : State) : (s.oweNotices).events = s.events := rfl
@[simp] theorem State.oweNotices_params (s : State) : (s.oweNotices).params = s.params := rfl
@[simp] theorem State.oweNotices_power (s : State) : (s.oweNotices).power = s.power := rfl

@[simp] theorem State.oweService_pending (s : State) (a : Nat) (k : ServiceKind) (o : Answer) (n m : Option Nat) : (s.oweService a k o n m).pending = s.pending := rfl
@[simp] theorem State.oweService_stalls (s : State) (a : Nat) (k : ServiceKind) (o : Answer) (n m : Option Nat) : (s.oweService a k o n m).stalls = s.stalls := rfl
@[simp] theorem State.oweService_unplaced (s : State) (a : Nat) (k : ServiceKind) (o : Answer) (n m : Option Nat) : (s.oweService a k o n m).unplaced = s.unplaced := rfl
@[simp] theorem State.oweService_tickets (s : State) (a : Nat) (k : ServiceKind) (o : Answer) (n m : Option Nat) : (s.oweService a k o n m).tickets = s.tickets := rfl
@[simp] theorem State.oweService_issue (s : State) (a : Nat) (k : ServiceKind) (o : Answer) (n m : Option Nat) : (s.oweService a k o n m).issue = s.issue := rfl
@[simp] theorem State.oweService_keys (s : State) (a : Nat) (k : ServiceKind) (o : Answer) (n m : Option Nat) : (s.oweService a k o n m).keys = s.keys := rfl
@[simp] theorem State.oweService_dispatch (s : State) (a : Nat) (k : ServiceKind) (o : Answer) (n m : Option Nat) : (s.oweService a k o n m).dispatch = s.dispatch := rfl
@[simp] theorem State.oweService_arbiter (s : State) (a : Nat) (k : ServiceKind) (o : Answer) (n m : Option Nat) : (s.oweService a k o n m).arbiter = s.arbiter := rfl
@[simp] theorem State.oweService_calls (s : State) (a : Nat) (k : ServiceKind) (o : Answer) (n m : Option Nat) : (s.oweService a k o n m).calls = s.calls := rfl
@[simp] theorem State.oweService_timers (s : State) (a : Nat) (k : ServiceKind) (o : Answer) (n m : Option Nat) : (s.oweService a k o n m).timers = s.timers := rfl
@[simp] theorem State.oweService_events (s : State) (a : Nat) (k : ServiceKind) (o : Answer) (n m : Option Nat) : (s.oweService a k o n m).events = s.events := rfl
@[simp] theorem State.oweService_params (s : State) (a : Nat) (k : ServiceKind) (o : Answer) (n m : Option Nat) : (s.oweService a k o n m).params = s.params := rfl
@[simp] theorem State.oweService_power (s : State) (a : Nat) (k : ServiceKind) (o : Answer) (n m : Option Nat) : (s.oweService a k o n m).power = s.power := rfl

@[simp] theorem State.oweManage_pending (s : State) (a : Nat) (b : Bool) (c : ManageCode) (o : Answer) (ns : ManageRecord) (l : Option (Option LatchContent)) : (s.oweManage a b c o ns l).pending = s.pending := rfl
@[simp] theorem State.oweManage_stalls (s : State) (a : Nat) (b : Bool) (c : ManageCode) (o : Answer) (ns : ManageRecord) (l : Option (Option LatchContent)) : (s.oweManage a b c o ns l).stalls = s.stalls := rfl
@[simp] theorem State.oweManage_unplaced (s : State) (a : Nat) (b : Bool) (c : ManageCode) (o : Answer) (ns : ManageRecord) (l : Option (Option LatchContent)) : (s.oweManage a b c o ns l).unplaced = s.unplaced := rfl
@[simp] theorem State.oweManage_tickets (s : State) (a : Nat) (b : Bool) (c : ManageCode) (o : Answer) (ns : ManageRecord) (l : Option (Option LatchContent)) : (s.oweManage a b c o ns l).tickets = s.tickets := rfl
@[simp] theorem State.oweManage_issue (s : State) (a : Nat) (b : Bool) (c : ManageCode) (o : Answer) (ns : ManageRecord) (l : Option (Option LatchContent)) : (s.oweManage a b c o ns l).issue = s.issue := rfl
@[simp] theorem State.oweManage_keys (s : State) (a : Nat) (b : Bool) (c : ManageCode) (o : Answer) (ns : ManageRecord) (l : Option (Option LatchContent)) : (s.oweManage a b c o ns l).keys = s.keys := rfl
@[simp] theorem State.oweManage_dispatch (s : State) (a : Nat) (b : Bool) (c : ManageCode) (o : Answer) (ns : ManageRecord) (l : Option (Option LatchContent)) : (s.oweManage a b c o ns l).dispatch = s.dispatch := rfl
@[simp] theorem State.oweManage_arbiter (s : State) (a : Nat) (b : Bool) (c : ManageCode) (o : Answer) (ns : ManageRecord) (l : Option (Option LatchContent)) : (s.oweManage a b c o ns l).arbiter = s.arbiter := rfl
@[simp] theorem State.oweManage_calls (s : State) (a : Nat) (b : Bool) (c : ManageCode) (o : Answer) (ns : ManageRecord) (l : Option (Option LatchContent)) : (s.oweManage a b c o ns l).calls = s.calls := rfl
@[simp] theorem State.oweManage_timers (s : State) (a : Nat) (b : Bool) (c : ManageCode) (o : Answer) (ns : ManageRecord) (l : Option (Option LatchContent)) : (s.oweManage a b c o ns l).timers = s.timers := rfl
@[simp] theorem State.oweManage_events (s : State) (a : Nat) (b : Bool) (c : ManageCode) (o : Answer) (ns : ManageRecord) (l : Option (Option LatchContent)) : (s.oweManage a b c o ns l).events = s.events := rfl
@[simp] theorem State.oweManage_params (s : State) (a : Nat) (b : Bool) (c : ManageCode) (o : Answer) (ns : ManageRecord) (l : Option (Option LatchContent)) : (s.oweManage a b c o ns l).params = s.params := rfl
@[simp] theorem State.oweManage_power (s : State) (a : Nat) (b : Bool) (c : ManageCode) (o : Answer) (ns : ManageRecord) (l : Option (Option LatchContent)) : (s.oweManage a b c o ns l).power = s.power := rfl

@[simp] theorem State.oweRunner_pending (s : State) (b : Nat) (k : RunnerFrameKind) (o : Answer) (n : Option Nat) : (s.oweRunner b k o n).pending = s.pending := rfl
@[simp] theorem State.oweRunner_stalls (s : State) (b : Nat) (k : RunnerFrameKind) (o : Answer) (n : Option Nat) : (s.oweRunner b k o n).stalls = s.stalls := rfl
@[simp] theorem State.oweRunner_unplaced (s : State) (b : Nat) (k : RunnerFrameKind) (o : Answer) (n : Option Nat) : (s.oweRunner b k o n).unplaced = s.unplaced := rfl
@[simp] theorem State.oweRunner_tickets (s : State) (b : Nat) (k : RunnerFrameKind) (o : Answer) (n : Option Nat) : (s.oweRunner b k o n).tickets = s.tickets := rfl
@[simp] theorem State.oweRunner_issue (s : State) (b : Nat) (k : RunnerFrameKind) (o : Answer) (n : Option Nat) : (s.oweRunner b k o n).issue = s.issue := rfl
@[simp] theorem State.oweRunner_keys (s : State) (b : Nat) (k : RunnerFrameKind) (o : Answer) (n : Option Nat) : (s.oweRunner b k o n).keys = s.keys := rfl
@[simp] theorem State.oweRunner_arbiter (s : State) (b : Nat) (k : RunnerFrameKind) (o : Answer) (n : Option Nat) : (s.oweRunner b k o n).arbiter = s.arbiter := rfl
@[simp] theorem State.oweRunner_calls (s : State) (b : Nat) (k : RunnerFrameKind) (o : Answer) (n : Option Nat) : (s.oweRunner b k o n).calls = s.calls := rfl
@[simp] theorem State.oweRunner_timers (s : State) (b : Nat) (k : RunnerFrameKind) (o : Answer) (n : Option Nat) : (s.oweRunner b k o n).timers = s.timers := rfl
@[simp] theorem State.oweRunner_events (s : State) (b : Nat) (k : RunnerFrameKind) (o : Answer) (n : Option Nat) : (s.oweRunner b k o n).events = s.events := rfl
@[simp] theorem State.oweRunner_links (s : State) (b : Nat) (k : RunnerFrameKind) (o : Answer) (n : Option Nat) : (s.oweRunner b k o n).links = s.links := rfl
@[simp] theorem State.oweRunner_params (s : State) (b : Nat) (k : RunnerFrameKind) (o : Answer) (n : Option Nat) : (s.oweRunner b k o n).params = s.params := rfl
@[simp] theorem State.oweRunner_power (s : State) (b : Nat) (k : RunnerFrameKind) (o : Answer) (n : Option Nat) : (s.oweRunner b k o n).power = s.power := rfl

@[simp] theorem State.placeRunner_pending (s : State) (b l a : Nat) : (s.placeRunner b l a).pending = s.pending := rfl
@[simp] theorem State.placeRunner_stalls (s : State) (b l a : Nat) : (s.placeRunner b l a).stalls = s.stalls := rfl
@[simp] theorem State.placeRunner_unplaced (s : State) (b l a : Nat) : (s.placeRunner b l a).unplaced = s.unplaced := rfl
@[simp] theorem State.placeRunner_tickets (s : State) (b l a : Nat) : (s.placeRunner b l a).tickets = s.tickets := rfl
@[simp] theorem State.placeRunner_issue (s : State) (b l a : Nat) : (s.placeRunner b l a).issue = s.issue := rfl
@[simp] theorem State.placeRunner_keys (s : State) (b l a : Nat) : (s.placeRunner b l a).keys = s.keys := rfl
@[simp] theorem State.placeRunner_arbiter (s : State) (b l a : Nat) : (s.placeRunner b l a).arbiter = s.arbiter := rfl
@[simp] theorem State.placeRunner_calls (s : State) (b l a : Nat) : (s.placeRunner b l a).calls = s.calls := rfl
@[simp] theorem State.placeRunner_timers (s : State) (b l a : Nat) : (s.placeRunner b l a).timers = s.timers := rfl
@[simp] theorem State.placeRunner_events (s : State) (b l a : Nat) : (s.placeRunner b l a).events = s.events := rfl
@[simp] theorem State.placeRunner_links (s : State) (b l a : Nat) : (s.placeRunner b l a).links = s.links := rfl
@[simp] theorem State.placeRunner_params (s : State) (b l a : Nat) : (s.placeRunner b l a).params = s.params := rfl
@[simp] theorem State.placeRunner_power (s : State) (b l a : Nat) : (s.placeRunner b l a).power = s.power := rfl

@[simp] theorem State.setLevel_pending (s : State) (b l : Nat) : (s.setLevel b l).pending = s.pending := rfl
@[simp] theorem State.setLevel_stalls (s : State) (b l : Nat) : (s.setLevel b l).stalls = s.stalls := rfl
@[simp] theorem State.setLevel_unplaced (s : State) (b l : Nat) : (s.setLevel b l).unplaced = s.unplaced := rfl
@[simp] theorem State.setLevel_tickets (s : State) (b l : Nat) : (s.setLevel b l).tickets = s.tickets := rfl
@[simp] theorem State.setLevel_issue (s : State) (b l : Nat) : (s.setLevel b l).issue = s.issue := rfl
@[simp] theorem State.setLevel_keys (s : State) (b l : Nat) : (s.setLevel b l).keys = s.keys := rfl
@[simp] theorem State.setLevel_arbiter (s : State) (b l : Nat) : (s.setLevel b l).arbiter = s.arbiter := rfl
@[simp] theorem State.setLevel_calls (s : State) (b l : Nat) : (s.setLevel b l).calls = s.calls := rfl
@[simp] theorem State.setLevel_timers (s : State) (b l : Nat) : (s.setLevel b l).timers = s.timers := rfl
@[simp] theorem State.setLevel_events (s : State) (b l : Nat) : (s.setLevel b l).events = s.events := rfl
@[simp] theorem State.setLevel_links (s : State) (b l : Nat) : (s.setLevel b l).links = s.links := rfl
@[simp] theorem State.setLevel_params (s : State) (b l : Nat) : (s.setLevel b l).params = s.params := rfl
@[simp] theorem State.setLevel_power (s : State) (b l : Nat) : (s.setLevel b l).power = s.power := rfl

@[simp] theorem State.setPort_pending (s : State) (p : Port) (r : PortState) : (s.setPort p r).pending = s.pending := by cases p <;> rfl
@[simp] theorem State.setPort_stalls (s : State) (p : Port) (r : PortState) : (s.setPort p r).stalls = s.stalls := by cases p <;> rfl
@[simp] theorem State.setPort_unplaced (s : State) (p : Port) (r : PortState) : (s.setPort p r).unplaced = s.unplaced := by cases p <;> rfl
@[simp] theorem State.setPort_tickets (s : State) (p : Port) (r : PortState) : (s.setPort p r).tickets = s.tickets := by cases p <;> rfl
@[simp] theorem State.setPort_issue (s : State) (p : Port) (r : PortState) : (s.setPort p r).issue = s.issue := by cases p <;> rfl
@[simp] theorem State.setPort_keys (s : State) (p : Port) (r : PortState) : (s.setPort p r).keys = s.keys := by cases p <;> rfl
@[simp] theorem State.setPort_dispatch (s : State) (p : Port) (r : PortState) : (s.setPort p r).dispatch = s.dispatch := by cases p <;> rfl
@[simp] theorem State.setPort_arbiter (s : State) (p : Port) (r : PortState) : (s.setPort p r).arbiter = s.arbiter := by cases p <;> rfl
@[simp] theorem State.setPort_calls (s : State) (p : Port) (r : PortState) : (s.setPort p r).calls = s.calls := by cases p <;> rfl
@[simp] theorem State.setPort_timers (s : State) (p : Port) (r : PortState) : (s.setPort p r).timers = s.timers := by cases p <;> rfl
@[simp] theorem State.setPort_events (s : State) (p : Port) (r : PortState) : (s.setPort p r).events = s.events := by cases p <;> rfl
@[simp] theorem State.setPort_params (s : State) (p : Port) (r : PortState) : (s.setPort p r).params = s.params := by cases p <;> rfl
@[simp] theorem State.setPort_power (s : State) (p : Port) (r : PortState) : (s.setPort p r).power = s.power := by cases p <;> rfl

end Sys2Proof.Machine
end

