-- ==== Sys2Proof/Laws/Records.lean ====
section
/-! SUPPORT. Reading a record after writing one, running an operation for each element of a list, and what it takes for a
frame to be taken. -/

namespace Sys2Proof.Machine

open Sys2Proof

/-! ### Banks -/

theorem nth_setNth_same {α : Type} {n : Nat} (v : Vector α n) (i : Nat) (x d : α) (h : i < n) :
    nth (setNth v i x) i d = x := by simp [nth, setNth, h]

theorem nth_setNth_ne {α : Type} {n : Nat} (v : Vector α n) (i j : Nat) (x d : α) (h : i ≠ j) :
    nth (setNth v i x) j d = nth v j d := by
  unfold nth setNth
  rw [Vector.getElem?_setIfInBounds_ne h]

theorem setNth_outside {α : Type} {n : Nat} (v : Vector α n) (i : Nat) (x : α) (h : n ≤ i) : setNth v i x = v := by
  unfold setNth
  ext k hk
  rw [Vector.getElem_setIfInBounds_ne hk (by omega)]

theorem nth1_setNth1_same {α : Type} {n : Nat} (v : Vector α n) (i : Nat) (x d : α) (h : 1 ≤ i) (h' : i ≤ n) :
    nth1 (setNth1 v i x) i d = x := by
  cases i with
  | zero => omega
  | succ k => exact nth_setNth_same v k x d (by omega)

theorem nth1_setNth1_ne {α : Type} {n : Nat} (v : Vector α n) (i j : Nat) (x d : α) (h : i ≠ j) :
    nth1 (setNth1 v i x) j d = nth1 v j d := by
  cases i with
  | zero => rfl
  | succ k =>
    cases j with
    | zero => rfl
    | succ m => exact nth_setNth_ne v k m x d (by omega)

theorem nth_outside {α : Type} {n : Nat} (v : Vector α n) (i : Nat) (d : α) (h : n ≤ i) : nth v i d = d := by
  simp [nth, h]

theorem nth1_outside {α : Type} {n : Nat} (v : Vector α n) (i : Nat) (d : α) (h : ¬(1 ≤ i ∧ i ≤ n)) :
    nth1 v i d = d := by
  cases i with
  | zero => rfl
  | succ k => exact nth_outside v k d (by omega)

theorem nth_mapBank {α : Type} {n : Nat} (v : Vector α n) (f : α → α) (i : Nat) (d : α) (h : i < n) :
    nth (mapBank v f) i d = f (nth v i d) := by
  simp [nth, mapBank, h]

@[simp] theorem toList_mapBank {α : Type} {n : Nat} (v : Vector α n) (f : α → α) :
    (mapBank v f).toList = v.toList.map f := rfl

/-! ### Records -/

theorem State.station_setStation_same (s : State) (a : Nat) (r : Station) (h : 1 ≤ a) (h' : a ≤ Config.stationCount) :
    (s.setStation a r).station a = r := nth1_setNth1_same _ _ _ _ h h'

theorem State.station_setStation_ne (s : State) (a b : Nat) (r : Station) (h : a ≠ b) :
    (s.setStation a r).station b = s.station b := nth1_setNth1_ne _ _ _ _ _ h

theorem State.runner_setRunner_same (s : State) (b : Nat) (r : Runner) (h : 1 ≤ b) (h' : b ≤ Config.runnerCount) :
    (s.setRunner b r).runner b = r := nth1_setNth1_same _ _ _ _ h h'

theorem State.runner_setRunner_ne (s : State) (b c : Nat) (r : Runner) (h : b ≠ c) :
    (s.setRunner b r).runner c = s.runner c := nth1_setNth1_ne _ _ _ _ _ h

theorem State.lift_setLift_same (s : State) (l : Nat) (r : Lift) (h : 1 ≤ l) (h' : l ≤ Config.liftCount) :
    (s.setLift l r).lift l = r := nth1_setNth1_same _ _ _ _ h h'

theorem State.lift_setLift_ne (s : State) (l m : Nat) (r : Lift) (h : l ≠ m) : (s.setLift l r).lift m = s.lift m :=
  nth1_setNth1_ne _ _ _ _ _ h

theorem State.lane_setLane_same (s : State) (n : Nat) (r : Lane) (h : 1 ≤ n) (h' : n ≤ Config.laneCount) :
    (s.setLane n r).lane n = r := nth1_setNth1_same _ _ _ _ h h'

theorem State.lane_setLane_ne (s : State) (n m : Nat) (r : Lane) (h : n ≠ m) : (s.setLane n r).lane m = s.lane m :=
  nth1_setNth1_ne _ _ _ _ _ h

theorem State.channel_setChannel_same (s : State) (k : Nat) (c : Channel) (h : k < Config.channelCount) :
    (s.setChannel k c).channel k = c := nth_setNth_same _ _ _ _ h

theorem State.channel_setChannel_ne (s : State) (k j : Nat) (c : Channel) (h : k ≠ j) :
    (s.setChannel k c).channel j = s.channel j := nth_setNth_ne _ _ _ _ _ h

theorem State.hook_setHook_same (s : State) (k : Nat) (r : Hook) (h : k < Config.hookCount) :
    (s.setHook k r).hook k = r := nth_setNth_same _ _ _ _ h

theorem State.hook_setHook_ne (s : State) (k j : Nat) (r : Hook) (h : k ≠ j) : (s.setHook k r).hook j = s.hook j :=
  nth_setNth_ne _ _ _ _ _ h

theorem State.port_setPort_same (s : State) (p : Port) (r : PortState) : (s.setPort p r).port p = r := by
  cases p <;> rfl

theorem State.port_setPort_ne (s : State) (p q : Port) (r : PortState) (h : p ≠ q) :
    (s.setPort p r).port q = s.port q := by
  cases p <;> cases q <;> first | rfl | exact absurd rfl h

@[simp] theorem State.stations_setPort (s : State) (p : Port) (r : PortState) :
    (s.setPort p r).links.stations = s.links.stations := by cases p <;> rfl

@[simp] theorem State.station_setPort (s : State) (p : Port) (r : PortState) (a : Nat) :
    (s.setPort p r).station a = s.station a := by cases p <;> rfl

/-! ### Running an operation for each element -/

/-- What every single run keeps, a run for each element keeps. -/
theorem forEach_keeps {α σ : Type} (P : σ → Prop) (xs : List α) (f : α → σ → σ) (s : σ)
    (step : ∀ x s, P s → P (f x s)) (h : P s) : P (forEach xs f s) := by
  induction xs generalizing s with
  | nil => exact h
  | cons x xs ih => exact ih (f x s) (step x s h)

@[simp] theorem forEach_nil {α σ : Type} (f : α → σ → σ) (s : σ) : forEach [] f s = s := rfl

@[simp] theorem forEach_cons {α σ : Type} (x : α) (xs : List α) (f : α → σ → σ) (s : σ) :
    forEach (x :: xs) f s = forEach xs f (f x s) := rfl

/-! ### Taking a frame -/

/-- A frame of a PRESENT station in its own reply window is taken in the state `heard`. -/
theorem State.onFrame_heard (s : State) (f : From) (k : State → State) (h : s.Hears f) : s.onFrame f k = k (s.heard f) := by
  obtain ⟨hp, hw, ha⟩ := h
  have hst : (s.endExchange f.port).station f.source = s.station f.source := State.station_setPort ..
  simp only [State.onFrame, State.powered, State.answerFrom, hp, hw, if_true, State.goodAnswer, hst, ha]
  congr 1
  rw [← ha]
  rfl

end Sys2Proof.Machine
end

