-- ==== Sys2Proof/Laws/Effects.lean ====
section
/-! SUPPORT. What the shared operations can do: for each, the parts of State it leaves as they are, and the record it
writes. -/

namespace Sys2Proof.Machine

open Sys2Proof

/-! ### Tickets and tasks by number -/

theorem State.ticket_modifyTicket_ne (s : State) (n m : Nat) (f : Ticket → Ticket) (h : m ≠ n)
    (keeps : ∀ t, (f t).number = t.number) : (s.modifyTicket n f).ticket m = s.ticket m := by
  simp only [State.ticket, State.modifyTicket]
  induction s.tickets with
  | nil => rfl
  | cons t ts ih =>
    by_cases hn : t.number = n
    · have hm : (n == m) = false := by simp; omega
      simp [hn, keeps, hm, ih]
    · simp only [List.map_cons, hn, if_false, List.find?_cons, ih]

theorem State.ticket_modifyTicket_same (s : State) (n : Nat) (f : Ticket → Ticket)
    (keeps : ∀ t, (f t).number = t.number) : (s.modifyTicket n f).ticket n = (s.ticket n).map f := by
  simp only [State.ticket, State.modifyTicket]
  induction s.tickets with
  | nil => rfl
  | cons t ts ih =>
    by_cases hn : t.number = n
    · simp [hn, keeps]
    · simp [hn, ih]

/-- A named ticket has the number it was named by. -/
theorem State.ticket_number {s : State} {n : Nat} {t : Ticket} (h : s.ticket n = some t) : t.number = n := by
  simpa using List.find?_some h

theorem Ticket.enter_number (t : Ticket) (x : TicketState) (now : SiteTime) : (t.enter x now).number = t.number := by
  unfold Ticket.enter; split <;> rfl

/-! ### A ticket's change of state -/

/-- Owing the board changes nothing but stations. -/
theorem State.boardSince_frame (s before : State) :
    (s.boardSince before).pending = s.pending ∧ (s.boardSince before).stalls = s.stalls ∧
    (s.boardSince before).unplaced = s.unplaced ∧ (s.boardSince before).tickets = s.tickets ∧
    (s.boardSince before).issue = s.issue ∧ (s.boardSince before).keys = s.keys ∧
    (s.boardSince before).dispatch = s.dispatch ∧ (s.boardSince before).arbiter = s.arbiter ∧
    (s.boardSince before).calls = s.calls ∧ (s.boardSince before).timers = s.timers ∧
    (s.boardSince before).events = s.events ∧ (s.boardSince before).params = s.params ∧
    (s.boardSince before).power = s.power ∧ (s.boardSince before).links.passTable = s.links.passTable ∧
    (s.boardSince before).links.strap = s.links.strap ∧ (s.boardSince before).links.curb = s.links.curb ∧
    (s.boardSince before).links.deck = s.links.deck := by
  unfold State.boardSince; split <;> simp [State.oweBoard, State.mapStations]

/-- A change of a ticket's state touches the ticket table, the curb board list and the board markers alone. -/
theorem State.moveTicket_frame (s : State) (n : Nat) (x : TicketState) :
    (s.moveTicket n x).pending = s.pending ∧ (s.moveTicket n x).stalls = s.stalls ∧
    (s.moveTicket n x).unplaced = s.unplaced ∧ (s.moveTicket n x).issue = s.issue ∧
    (s.moveTicket n x).keys = s.keys ∧ (s.moveTicket n x).dispatch = s.dispatch ∧
    (s.moveTicket n x).arbiter = s.arbiter ∧ (s.moveTicket n x).calls.schedule = s.calls.schedule ∧
    (s.moveTicket n x).calls.estimates = s.calls.estimates ∧ (s.moveTicket n x).timers = s.timers ∧
    (s.moveTicket n x).events = s.events ∧ (s.moveTicket n x).params = s.params ∧
    (s.moveTicket n x).power = s.power ∧ (s.moveTicket n x).links.passTable = s.links.passTable ∧
    (s.moveTicket n x).links.strap = s.links.strap ∧ (s.moveTicket n x).links.curb = s.links.curb ∧
    (s.moveTicket n x).links.deck = s.links.deck := by
  unfold State.moveTicket
  split
  · simp
  · repeat' split
    all_goals simp [State.boardSince_frame, State.joinBoard, State.leaveBoard]

/-- The ticket table after a change of state: the record entered the state. -/
theorem State.moveTicket_tickets (s : State) (n : Nat) (x : TicketState) :
    (s.moveTicket n x).tickets = (s.modifyTicket n (·.enter x s.now)).tickets := by
  unfold State.moveTicket
  split
  · next h =>
    have absent : ∀ t ∈ s.tickets, t.number ≠ n := by simpa [State.ticket] using h
    simp only [State.modifyTicket]
    symm
    conv => rhs; rw [← List.map_id s.tickets]
    exact List.map_congr_left fun t ht => by simp [absent t ht]
  · repeat' split
    all_goals simp [State.boardSince_frame]

theorem State.ticket_moveTicket_same (s : State) (n : Nat) (x : TicketState) :
    (s.moveTicket n x).ticket n = (s.ticket n).map (·.enter x s.now) := by
  have h := State.ticket_modifyTicket_same s n (·.enter x s.now) fun t => t.enter_number x s.now
  simpa only [State.ticket, State.moveTicket_tickets] using h

theorem State.ticket_moveTicket_ne (s : State) (n m : Nat) (x : TicketState) (h : m ≠ n) :
    (s.moveTicket n x).ticket m = s.ticket m := by
  have h := State.ticket_modifyTicket_ne s n m (·.enter x s.now) h fun t => t.enter_number x s.now
  simpa only [State.ticket, State.moveTicket_tickets] using h

/-! ### Stalls -/

theorem State.countFall_stalls (s : State) (c : SizeClass) :
    (s.countFall c).stalls = { s.stalls with free := s.stalls.free.set c (s.stalls.free.get c - 1) } := by
  unfold State.countFall; dsimp only; split <;> rfl

/-- A fall of a free count touches the counts and the reported events alone. -/
theorem State.countFall_frame (s : State) (c : SizeClass) :
    (s.countFall c).pending = s.pending ∧ (s.countFall c).unplaced = s.unplaced ∧
    (s.countFall c).tickets = s.tickets ∧ (s.countFall c).issue = s.issue ∧ (s.countFall c).keys = s.keys ∧
    (s.countFall c).dispatch = s.dispatch ∧ (s.countFall c).arbiter = s.arbiter ∧ (s.countFall c).calls = s.calls ∧
    (s.countFall c).timers = s.timers ∧ (s.countFall c).links = s.links ∧ (s.countFall c).params = s.params ∧
    (s.countFall c).power = s.power ∧ (s.countFall c).events.flags = s.events.flags ∧
    (s.countFall c).events.masks = s.events.masks ∧ (s.countFall c).events.clock = s.events.clock ∧
    (s.countFall c).events.routes = s.events.routes ∧ (s.countFall c).events.latches = s.events.latches := by
  unfold State.countFall; dsimp only; split <;> simp [State.raise]

/-- A change of a stall record touches the stall map, the reported events and the vacancy markers alone. -/
theorem State.putStall_frame (s : State) (k : Nat) (r : Stall) :
    (s.putStall k r).pending = s.pending ∧ (s.putStall k r).unplaced = s.unplaced ∧
    (s.putStall k r).tickets = s.tickets ∧ (s.putStall k r).issue = s.issue ∧ (s.putStall k r).keys = s.keys ∧
    (s.putStall k r).dispatch = s.dispatch ∧ (s.putStall k r).arbiter = s.arbiter ∧ (s.putStall k r).calls = s.calls ∧
    (s.putStall k r).timers = s.timers ∧ (s.putStall k r).params = s.params ∧ (s.putStall k r).power = s.power ∧
    (s.putStall k r).events.flags = s.events.flags ∧ (s.putStall k r).events.masks = s.events.masks ∧
    (s.putStall k r).events.clock = s.events.clock ∧ (s.putStall k r).events.routes = s.events.routes ∧
    (s.putStall k r).events.latches = s.events.latches ∧ (s.putStall k r).links.passTable = s.links.passTable ∧
    (s.putStall k r).links.strap = s.links.strap ∧ (s.putStall k r).links.curb = s.links.curb ∧
    (s.putStall k r).links.deck = s.links.deck := by
  unfold State.putStall
  split
  · dsimp only
    split
    · simp
    · cases (s.stall k).freeClass <;> cases r.freeClass <;>
        simp [State.countFall_frame, State.countRise, State.oweVacancy, State.mapStations]
  · simp

/-- Storing a stall record writes that record of the map. -/
theorem State.putStall_records (s : State) (k : Nat) (r : Stall) :
    (s.putStall k r).stalls.records = setNth s.stalls.records k r := by
  unfold State.putStall
  split
  · dsimp only
    split
    · rfl
    · cases (s.stall k).freeClass <;> cases r.freeClass <;>
        simp [State.countFall_stalls, State.countRise, State.oweVacancy, State.mapStations]
  · next h => rw [setNth_outside _ _ _ (by omega)]

theorem State.stall_putStall_same (s : State) (k : Nat) (r : Stall) (h : k < Config.stallCount) :
    (s.putStall k r).stall k = r := by
  unfold State.stall; rw [State.putStall_records]; exact nth_setNth_same _ _ _ _ h

theorem State.stall_putStall_ne (s : State) (k j : Nat) (r : Stall) (h : k ≠ j) : (s.putStall k r).stall j = s.stall j := by
  unfold State.stall; rw [State.putStall_records]; exact nth_setNth_ne _ _ _ _ _ h

/-- A hold touches what a change of a stall record touches. -/
theorem State.hold_frame (s : State) (k n : Nat) :
    (s.hold k n).pending = s.pending ∧ (s.hold k n).unplaced = s.unplaced ∧ (s.hold k n).tickets = s.tickets ∧
    (s.hold k n).issue = s.issue ∧ (s.hold k n).keys = s.keys ∧ (s.hold k n).dispatch = s.dispatch ∧
    (s.hold k n).arbiter = s.arbiter ∧ (s.hold k n).calls = s.calls ∧ (s.hold k n).timers = s.timers ∧
    (s.hold k n).params = s.params ∧ (s.hold k n).power = s.power ∧ (s.hold k n).events.flags = s.events.flags ∧
    (s.hold k n).events.masks = s.events.masks ∧ (s.hold k n).events.clock = s.events.clock ∧
    (s.hold k n).events.routes = s.events.routes ∧ (s.hold k n).events.latches = s.events.latches ∧
    (s.hold k n).links.passTable = s.links.passTable ∧ (s.hold k n).links.strap = s.links.strap ∧
    (s.hold k n).links.curb = s.links.curb ∧ (s.hold k n).links.deck = s.links.deck := by
  unfold State.hold; dsimp only; split <;> simp [State.putStall_frame]

/-- A release of a hold, before its hand-on, touches what a change of a stall record touches. -/
theorem State.releaseStall_frame (s : State) (k n : Nat) :
    (s.releaseStall k n).pending = s.pending ∧ (s.releaseStall k n).unplaced = s.unplaced ∧
    (s.releaseStall k n).tickets = s.tickets ∧ (s.releaseStall k n).issue = s.issue ∧
    (s.releaseStall k n).keys = s.keys ∧ (s.releaseStall k n).dispatch = s.dispatch ∧
    (s.releaseStall k n).arbiter = s.arbiter ∧ (s.releaseStall k n).calls = s.calls ∧
    (s.releaseStall k n).timers = s.timers ∧ (s.releaseStall k n).params = s.params ∧
    (s.releaseStall k n).power = s.power ∧ (s.releaseStall k n).events.flags = s.events.flags ∧
    (s.releaseStall k n).events.masks = s.events.masks ∧ (s.releaseStall k n).events.clock = s.events.clock ∧
    (s.releaseStall k n).events.routes = s.events.routes ∧ (s.releaseStall k n).events.latches = s.events.latches ∧
    (s.releaseStall k n).links.passTable = s.links.passTable ∧ (s.releaseStall k n).links.strap = s.links.strap ∧
    (s.releaseStall k n).links.curb = s.links.curb ∧ (s.releaseStall k n).links.deck = s.links.deck := by
  unfold State.releaseStall; split <;> simp [State.putStall_frame]

/-- The freeing of an OCCUPIED stall, before its hand-on, touches what a change of a stall record touches. -/
theorem State.freeOccupied_frame (s : State) (k : Nat) (b : Bool) :
    (s.freeOccupied k b).pending = s.pending ∧ (s.freeOccupied k b).unplaced = s.unplaced ∧
    (s.freeOccupied k b).tickets = s.tickets ∧ (s.freeOccupied k b).issue = s.issue ∧
    (s.freeOccupied k b).keys = s.keys ∧ (s.freeOccupied k b).dispatch = s.dispatch ∧
    (s.freeOccupied k b).arbiter = s.arbiter ∧ (s.freeOccupied k b).calls = s.calls ∧
    (s.freeOccupied k b).timers = s.timers ∧ (s.freeOccupied k b).params = s.params ∧
    (s.freeOccupied k b).power = s.power ∧ (s.freeOccupied k b).events.flags = s.events.flags ∧
    (s.freeOccupied k b).events.masks = s.events.masks ∧ (s.freeOccupied k b).events.clock = s.events.clock ∧
    (s.freeOccupied k b).events.routes = s.events.routes ∧ (s.freeOccupied k b).events.latches = s.events.latches ∧
    (s.freeOccupied k b).links.passTable = s.links.passTable ∧ (s.freeOccupied k b).links.strap = s.links.strap ∧
    (s.freeOccupied k b).links.curb = s.links.curb ∧ (s.freeOccupied k b).links.deck = s.links.deck := by
  unfold State.freeOccupied; simp [State.putStall_frame]

/-- A departure touches its stall and the ticket that leaves. -/
theorem State.depart_frame (s : State) (k n : Nat) :
    (s.depart k n).pending = s.pending ∧ (s.depart k n).unplaced = s.unplaced ∧ (s.depart k n).issue = s.issue ∧
    (s.depart k n).keys = s.keys ∧ (s.depart k n).dispatch = s.dispatch ∧ (s.depart k n).arbiter = s.arbiter ∧
    (s.depart k n).calls = s.calls ∧ (s.depart k n).timers = s.timers ∧ (s.depart k n).params = s.params ∧
    (s.depart k n).power = s.power ∧ (s.depart k n).events.flags = s.events.flags ∧
    (s.depart k n).events.masks = s.events.masks ∧ (s.depart k n).events.clock = s.events.clock ∧
    (s.depart k n).events.routes = s.events.routes ∧ (s.depart k n).events.latches = s.events.latches ∧
    (s.depart k n).links.passTable = s.links.passTable ∧ (s.depart k n).links.strap = s.links.strap ∧
    (s.depart k n).links.curb = s.links.curb ∧ (s.depart k n).links.deck = s.links.deck := by
  unfold State.depart; split <;> simp [State.freeOccupied_frame]

/-- Binding a stall touches the stall and the ticket. -/
theorem State.bindStall_frame (s : State) (n k : Nat) (b : Bool) :
    (s.bindStall n k b).pending = s.pending ∧ (s.bindStall n k b).unplaced = s.unplaced ∧
    (s.bindStall n k b).issue = s.issue ∧ (s.bindStall n k b).keys = s.keys ∧
    (s.bindStall n k b).dispatch = s.dispatch ∧ (s.bindStall n k b).arbiter = s.arbiter ∧
    (s.bindStall n k b).calls = s.calls ∧ (s.bindStall n k b).timers = s.timers ∧
    (s.bindStall n k b).params = s.params ∧ (s.bindStall n k b).power = s.power ∧
    (s.bindStall n k b).events.flags = s.events.flags ∧ (s.bindStall n k b).events.masks = s.events.masks ∧
    (s.bindStall n k b).events.clock = s.events.clock ∧ (s.bindStall n k b).events.routes = s.events.routes ∧
    (s.bindStall n k b).events.latches = s.events.latches ∧ (s.bindStall n k b).links.passTable = s.links.passTable ∧
    (s.bindStall n k b).links.strap = s.links.strap ∧ (s.bindStall n k b).links.curb = s.links.curb ∧
    (s.bindStall n k b).links.deck = s.links.deck := by
  simp [State.bindStall, State.hold_frame]

/-- A block touches its stall, the events and the vacancy markers. -/
theorem State.block_frame (s : State) (k : Nat) :
    (s.block k).pending = s.pending ∧ (s.block k).unplaced = s.unplaced ∧ (s.block k).tickets = s.tickets ∧
    (s.block k).issue = s.issue ∧ (s.block k).keys = s.keys ∧ (s.block k).dispatch = s.dispatch ∧
    (s.block k).arbiter = s.arbiter ∧ (s.block k).calls = s.calls ∧ (s.block k).timers = s.timers ∧
    (s.block k).params = s.params ∧ (s.block k).power = s.power ∧ (s.block k).events.flags = s.events.flags ∧
    (s.block k).events.masks = s.events.masks ∧ (s.block k).events.clock = s.events.clock ∧
    (s.block k).events.routes = s.events.routes ∧ (s.block k).events.latches = s.events.latches ∧
    (s.block k).links.passTable = s.links.passTable ∧ (s.block k).links.strap = s.links.strap ∧
    (s.block k).links.curb = s.links.curb ∧ (s.block k).links.deck = s.links.deck := by
  simp [State.block, State.raise, State.putStall_frame]

/-! ### The dispatch unit -/

/-- An offer touches the dispatch unit alone. -/
theorem State.offer_frame (s : State) (t : Task) (b : Nat) :
    (s.offer t b).pending = s.pending ∧ (s.offer t b).stalls = s.stalls ∧ (s.offer t b).unplaced = s.unplaced ∧
    (s.offer t b).tickets = s.tickets ∧ (s.offer t b).issue = s.issue ∧ (s.offer t b).keys = s.keys ∧
    (s.offer t b).arbiter = s.arbiter ∧ (s.offer t b).calls = s.calls ∧ (s.offer t b).timers = s.timers ∧
    (s.offer t b).events = s.events ∧ (s.offer t b).links = s.links ∧ (s.offer t b).params = s.params ∧
    (s.offer t b).power = s.power := by
  simp [State.offer]

/-- One task's turn in a pairing touches the dispatch unit alone. -/
theorem State.pairTask_frame (s : State) (n : Nat) :
    (s.pairTask n).pending = s.pending ∧ (s.pairTask n).stalls = s.stalls ∧ (s.pairTask n).unplaced = s.unplaced ∧
    (s.pairTask n).tickets = s.tickets ∧ (s.pairTask n).issue = s.issue ∧ (s.pairTask n).keys = s.keys ∧
    (s.pairTask n).arbiter = s.arbiter ∧ (s.pairTask n).calls = s.calls ∧ (s.pairTask n).timers = s.timers ∧
    (s.pairTask n).events = s.events ∧ (s.pairTask n).links = s.links ∧ (s.pairTask n).params = s.params ∧
    (s.pairTask n).power = s.power := by
  unfold State.pairTask
  split
  · split
    · simp
    · dsimp only
      split <;> split <;> simp [State.offer_frame]
  · simp

/-- A pairing touches the dispatch unit alone. -/
theorem State.pair_frame (s : State) :
    (s.pair).pending = s.pending ∧ (s.pair).stalls = s.stalls ∧ (s.pair).unplaced = s.unplaced ∧
    (s.pair).tickets = s.tickets ∧ (s.pair).issue = s.issue ∧ (s.pair).keys = s.keys ∧ (s.pair).arbiter = s.arbiter ∧
    (s.pair).calls = s.calls ∧ (s.pair).timers = s.timers ∧ (s.pair).events = s.events ∧ (s.pair).links = s.links ∧
    (s.pair).params = s.params ∧ (s.pair).power = s.power := by
  refine forEach_keeps (fun t : State =>
    t.pending = s.pending ∧ t.stalls = s.stalls ∧ t.unplaced = s.unplaced ∧ t.tickets = s.tickets ∧
    t.issue = s.issue ∧ t.keys = s.keys ∧ t.arbiter = s.arbiter ∧ t.calls = s.calls ∧ t.timers = s.timers ∧
    t.events = s.events ∧ t.links = s.links ∧ t.params = s.params ∧ t.power = s.power) _ _ s ?_ (by simp)
  intro n t h
  simpa [State.pairTask_frame] using h

/-- Making a task touches the dispatch unit and the ticket's backlog flag. -/
theorem State.makeTask_frame (s : State) (k : TaskKind) (n : Nat) (a : SiteTime) :
    (s.makeTask k n a).pending = s.pending ∧ (s.makeTask k n a).stalls = s.stalls ∧
    (s.makeTask k n a).unplaced = s.unplaced ∧ (s.makeTask k n a).issue = s.issue ∧ (s.makeTask k n a).keys = s.keys ∧
    (s.makeTask k n a).arbiter = s.arbiter ∧ (s.makeTask k n a).calls = s.calls ∧
    (s.makeTask k n a).timers = s.timers ∧ (s.makeTask k n a).events = s.events ∧ (s.makeTask k n a).links = s.links ∧
    (s.makeTask k n a).params = s.params ∧ (s.makeTask k n a).power = s.power := by
  unfold State.makeTask; dsimp only; split <;> simp [State.pair_frame]

/-- A promotion touches the dispatch unit and the ticket's backlog flag. -/
theorem State.promote_frame (s : State) :
    (s.promote).pending = s.pending ∧ (s.promote).stalls = s.stalls ∧ (s.promote).unplaced = s.unplaced ∧
    (s.promote).issue = s.issue ∧ (s.promote).keys = s.keys ∧ (s.promote).arbiter = s.arbiter ∧
    (s.promote).calls = s.calls ∧ (s.promote).timers = s.timers ∧ (s.promote).events = s.events ∧
    (s.promote).links = s.links ∧ (s.promote).params = s.params ∧ (s.promote).power = s.power := by
  unfold State.promote
  split
  · split <;> simp [State.pair_frame]
  · simp

/-- An offer that ends touches the dispatch unit alone. -/
theorem State.returnOffer_frame (s : State) (b : Nat) :
    (s.returnOffer b).pending = s.pending ∧ (s.returnOffer b).stalls = s.stalls ∧
    (s.returnOffer b).unplaced = s.unplaced ∧ (s.returnOffer b).tickets = s.tickets ∧
    (s.returnOffer b).issue = s.issue ∧ (s.returnOffer b).keys = s.keys ∧ (s.returnOffer b).arbiter = s.arbiter ∧
    (s.returnOffer b).calls = s.calls ∧ (s.returnOffer b).timers = s.timers ∧ (s.returnOffer b).events = s.events ∧
    (s.returnOffer b).links = s.links ∧ (s.returnOffer b).params = s.params ∧ (s.returnOffer b).power = s.power := by
  unfold State.returnOffer; split <;> simp

/-- A withdrawal by the runner's side touches the dispatch unit alone. -/
theorem State.endOffer_frame (s : State) (b : Nat) (x : RunnerState) :
    (s.endOffer b x).pending = s.pending ∧ (s.endOffer b x).stalls = s.stalls ∧
    (s.endOffer b x).unplaced = s.unplaced ∧ (s.endOffer b x).tickets = s.tickets ∧ (s.endOffer b x).issue = s.issue ∧
    (s.endOffer b x).keys = s.keys ∧ (s.endOffer b x).arbiter = s.arbiter ∧ (s.endOffer b x).calls = s.calls ∧
    (s.endOffer b x).timers = s.timers ∧ (s.endOffer b x).events = s.events ∧ (s.endOffer b x).links = s.links ∧
    (s.endOffer b x).params = s.params ∧ (s.endOffer b x).power = s.power := by
  simp [State.endOffer, State.returnOffer_frame]

/-- A withdrawal asked by the ticket table touches the dispatch unit and ticket records. -/
theorem State.withdrawTask_frame (s : State) (n : Nat) :
    (s.withdrawTask n).pending = s.pending ∧ (s.withdrawTask n).stalls = s.stalls ∧
    (s.withdrawTask n).unplaced = s.unplaced ∧ (s.withdrawTask n).issue = s.issue ∧ (s.withdrawTask n).keys = s.keys ∧
    (s.withdrawTask n).arbiter = s.arbiter ∧ (s.withdrawTask n).calls = s.calls ∧
    (s.withdrawTask n).timers = s.timers ∧ (s.withdrawTask n).events = s.events ∧ (s.withdrawTask n).links = s.links ∧
    (s.withdrawTask n).params = s.params ∧ (s.withdrawTask n).power = s.power := by
  unfold State.withdrawTask
  split
  · simp
  · dsimp only
    split <;> simp [State.promote_frame, State.pair_frame]

/-- The end of a task touches the dispatch unit and reports TASK_END. -/
theorem State.endTask_frame (s : State) (b n : Nat) (f : Bool) :
    (s.endTask b n f).pending = s.pending ∧ (s.endTask b n f).stalls = s.stalls ∧
    (s.endTask b n f).unplaced = s.unplaced ∧ (s.endTask b n f).tickets = s.tickets ∧
    (s.endTask b n f).issue = s.issue ∧ (s.endTask b n f).keys = s.keys ∧ (s.endTask b n f).arbiter = s.arbiter ∧
    (s.endTask b n f).calls = s.calls ∧ (s.endTask b n f).timers = s.timers ∧ (s.endTask b n f).links = s.links ∧
    (s.endTask b n f).params = s.params ∧ (s.endTask b n f).power = s.power ∧
    (s.endTask b n f).events.flags = s.events.flags ∧ (s.endTask b n f).events.masks = s.events.masks ∧
    (s.endTask b n f).events.clock = s.events.clock ∧ (s.endTask b n f).events.routes = s.events.routes ∧
    (s.endTask b n f).events.latches = s.events.latches := by
  unfold State.endTask; dsimp only; split <;> simp [State.pair_frame, State.raise]

/-! ### Lifts and lanes -/

/-- An order that becomes owed or is no longer owed touches the lift and the order markers. -/
theorem State.setOrder_frame (s : State) (l : Nat) :
    (s.setOrder l).pending = s.pending ∧ (s.setOrder l).stalls = s.stalls ∧ (s.setOrder l).unplaced = s.unplaced ∧
    (s.setOrder l).tickets = s.tickets ∧ (s.setOrder l).issue = s.issue ∧ (s.setOrder l).keys = s.keys ∧
    (s.setOrder l).dispatch = s.dispatch ∧ (s.setOrder l).calls = s.calls ∧ (s.setOrder l).timers = s.timers ∧
    (s.setOrder l).events = s.events ∧ (s.setOrder l).params = s.params ∧ (s.setOrder l).power = s.power ∧
    (s.setOrder l).links.passTable = s.links.passTable ∧ (s.setOrder l).links.strap = s.links.strap ∧
    (s.setOrder l).links.curb = s.links.curb ∧ (s.setOrder l).links.deck = s.links.deck := by
  simp [State.setOrder, State.mapStations]

/-- An order that becomes owed or is no longer owed touches the lift and the order markers. -/
theorem State.clearOrder_frame (s : State) (l : Nat) :
    (s.clearOrder l).pending = s.pending ∧ (s.clearOrder l).stalls = s.stalls ∧
    (s.clearOrder l).unplaced = s.unplaced ∧ (s.clearOrder l).tickets = s.tickets ∧ (s.clearOrder l).issue = s.issue ∧
    (s.clearOrder l).keys = s.keys ∧ (s.clearOrder l).dispatch = s.dispatch ∧ (s.clearOrder l).calls = s.calls ∧
    (s.clearOrder l).timers = s.timers ∧ (s.clearOrder l).events = s.events ∧ (s.clearOrder l).params = s.params ∧
    (s.clearOrder l).power = s.power ∧ (s.clearOrder l).links.passTable = s.links.passTable ∧
    (s.clearOrder l).links.strap = s.links.strap ∧ (s.clearOrder l).links.curb = s.links.curb ∧
    (s.clearOrder l).links.deck = s.links.deck := by
  simp [State.clearOrder, State.mapStations]

/-- Settling an order writes the order owed of its lift alone, from the markers of the stations that serve it. -/
theorem State.settleOrder_lift (s : State) (l : Nat) (h : 1 ≤ l) (h' : l ≤ Config.liftCount) :
    (s.settleOrder l).lift l = { s.lift l with
      orderOwed := s.links.stations.toList.any fun r => r.servesLift l && r.orderMark } ∧
    (∀ m, m ≠ l → (s.settleOrder l).lift m = s.lift m) ∧ (s.settleOrder l).links = s.links :=
  ⟨nth1_setNth1_same _ _ _ _ h h', fun _ hm => nth1_setNth1_ne _ _ _ _ _ (Ne.symm hm), rfl⟩

/-- A reservation touches the lane, the ticket, and the board when the ticket moves to TO_CURB. -/
theorem State.reserveLane_frame (s : State) (n : Nat) (t : Ticket) :
    (s.reserveLane n t).pending = s.pending ∧ (s.reserveLane n t).stalls = s.stalls ∧
    (s.reserveLane n t).unplaced = s.unplaced ∧ (s.reserveLane n t).issue = s.issue ∧
    (s.reserveLane n t).keys = s.keys ∧ (s.reserveLane n t).dispatch = s.dispatch ∧
    (s.reserveLane n t).timers = s.timers ∧ (s.reserveLane n t).events = s.events ∧
    (s.reserveLane n t).params = s.params ∧ (s.reserveLane n t).power = s.power ∧
    (s.reserveLane n t).calls.schedule = s.calls.schedule ∧ (s.reserveLane n t).calls.estimates = s.calls.estimates ∧
    (s.reserveLane n t).links.passTable = s.links.passTable ∧ (s.reserveLane n t).links.strap = s.links.strap ∧
    (s.reserveLane n t).links.curb = s.links.curb ∧ (s.reserveLane n t).links.deck = s.links.deck := by
  unfold State.reserveLane; dsimp only; split <;> simp [State.moveTicket_frame]

/-- The service of lane requests touches lanes, tickets and the board. -/
theorem State.serveLanes_frame (fuel : Nat) (s : State) :
    (s.serveLanes fuel).pending = s.pending ∧ (s.serveLanes fuel).stalls = s.stalls ∧
    (s.serveLanes fuel).unplaced = s.unplaced ∧ (s.serveLanes fuel).issue = s.issue ∧
    (s.serveLanes fuel).keys = s.keys ∧ (s.serveLanes fuel).dispatch = s.dispatch ∧
    (s.serveLanes fuel).timers = s.timers ∧ (s.serveLanes fuel).events = s.events ∧
    (s.serveLanes fuel).params = s.params ∧ (s.serveLanes fuel).power = s.power ∧
    (s.serveLanes fuel).calls.schedule = s.calls.schedule ∧ (s.serveLanes fuel).calls.estimates = s.calls.estimates ∧
    (s.serveLanes fuel).links.passTable = s.links.passTable ∧ (s.serveLanes fuel).links.strap = s.links.strap ∧
    (s.serveLanes fuel).links.curb = s.links.curb ∧ (s.serveLanes fuel).links.deck = s.links.deck := by
  induction fuel generalizing s with
  | zero => simp [State.serveLanes]
  | succ n ih =>
    unfold State.serveLanes
    split
    · simp
    · split
      · simp
      · simp [ih, State.reserveLane_frame]

/-- A lane grant check touches lanes, tickets and the board. -/
theorem State.laneGrantCheck_frame (s : State) :
    (s.laneGrantCheck).pending = s.pending ∧ (s.laneGrantCheck).stalls = s.stalls ∧
    (s.laneGrantCheck).unplaced = s.unplaced ∧ (s.laneGrantCheck).issue = s.issue ∧ (s.laneGrantCheck).keys = s.keys ∧
    (s.laneGrantCheck).dispatch = s.dispatch ∧ (s.laneGrantCheck).timers = s.timers ∧
    (s.laneGrantCheck).events = s.events ∧ (s.laneGrantCheck).params = s.params ∧ (s.laneGrantCheck).power = s.power ∧
    (s.laneGrantCheck).calls.schedule = s.calls.schedule ∧ (s.laneGrantCheck).calls.estimates = s.calls.estimates ∧
    (s.laneGrantCheck).links.passTable = s.links.passTable ∧ (s.laneGrantCheck).links.strap = s.links.strap ∧
    (s.laneGrantCheck).links.curb = s.links.curb ∧ (s.laneGrantCheck).links.deck = s.links.deck := by
  simp [State.laneGrantCheck, State.serveLanes_frame]

/-- Telling a ticket of its grant touches tickets, lanes and the board. -/
theorem State.tellGrant_frame (s : State) (t : Tenure) :
    (s.tellGrant t).pending = s.pending ∧ (s.tellGrant t).stalls = s.stalls ∧ (s.tellGrant t).unplaced = s.unplaced ∧
    (s.tellGrant t).issue = s.issue ∧ (s.tellGrant t).keys = s.keys ∧ (s.tellGrant t).dispatch = s.dispatch ∧
    (s.tellGrant t).timers = s.timers ∧ (s.tellGrant t).events = s.events ∧ (s.tellGrant t).params = s.params ∧
    (s.tellGrant t).power = s.power ∧ (s.tellGrant t).calls.schedule = s.calls.schedule ∧
    (s.tellGrant t).calls.estimates = s.calls.estimates ∧ (s.tellGrant t).links.passTable = s.links.passTable ∧
    (s.tellGrant t).links.strap = s.links.strap ∧ (s.tellGrant t).links.curb = s.links.curb ∧
    (s.tellGrant t).links.deck = s.links.deck := by
  unfold State.tellGrant
  split
  · simp
  · split <;> simp [State.laneGrantCheck_frame, State.moveTicket_frame]

/-- A grant touches the lift, its order, lanes, tickets and the board, and reports LIFT_GRANT. -/
theorem State.grant_frame (s : State) (l : Nat) (t : Tenure) (p : List Tenure) :
    (s.grant l t p).pending = s.pending ∧ (s.grant l t p).stalls = s.stalls ∧ (s.grant l t p).unplaced = s.unplaced ∧
    (s.grant l t p).issue = s.issue ∧ (s.grant l t p).keys = s.keys ∧ (s.grant l t p).dispatch = s.dispatch ∧
    (s.grant l t p).timers = s.timers ∧ (s.grant l t p).params = s.params ∧ (s.grant l t p).power = s.power ∧
    (s.grant l t p).events.flags = s.events.flags ∧ (s.grant l t p).events.masks = s.events.masks ∧
    (s.grant l t p).events.clock = s.events.clock ∧ (s.grant l t p).events.routes = s.events.routes ∧
    (s.grant l t p).events.latches = s.events.latches ∧ (s.grant l t p).calls.schedule = s.calls.schedule ∧
    (s.grant l t p).calls.estimates = s.calls.estimates ∧ (s.grant l t p).links.passTable = s.links.passTable ∧
    (s.grant l t p).links.strap = s.links.strap ∧ (s.grant l t p).links.curb = s.links.curb ∧
    (s.grant l t p).links.deck = s.links.deck := by
  simp [State.grant, State.tellGrant_frame, State.setOrder_frame, State.raise]

/-- A grant check touches what a grant touches. -/
theorem State.grantCheck_frame (s : State) (l : Nat) :
    (s.grantCheck l).pending = s.pending ∧ (s.grantCheck l).stalls = s.stalls ∧
    (s.grantCheck l).unplaced = s.unplaced ∧ (s.grantCheck l).issue = s.issue ∧ (s.grantCheck l).keys = s.keys ∧
    (s.grantCheck l).dispatch = s.dispatch ∧ (s.grantCheck l).timers = s.timers ∧ (s.grantCheck l).params = s.params ∧
    (s.grantCheck l).power = s.power ∧ (s.grantCheck l).events.flags = s.events.flags ∧
    (s.grantCheck l).events.masks = s.events.masks ∧ (s.grantCheck l).events.clock = s.events.clock ∧
    (s.grantCheck l).events.routes = s.events.routes ∧ (s.grantCheck l).events.latches = s.events.latches ∧
    (s.grantCheck l).calls.schedule = s.calls.schedule ∧ (s.grantCheck l).calls.estimates = s.calls.estimates ∧
    (s.grantCheck l).links.passTable = s.links.passTable ∧ (s.grantCheck l).links.strap = s.links.strap ∧
    (s.grantCheck l).links.curb = s.links.curb ∧ (s.grantCheck l).links.deck = s.links.deck := by
  unfold State.grantCheck
  dsimp only
  split
  · split <;> simp [State.grant_frame]
  · simp

/-- A fall of a staging count touches what a grant touches. -/
theorem State.stagingFell_frame (s : State) (l : Option Nat) :
    (s.stagingFell l).pending = s.pending ∧ (s.stagingFell l).stalls = s.stalls ∧
    (s.stagingFell l).unplaced = s.unplaced ∧ (s.stagingFell l).issue = s.issue ∧ (s.stagingFell l).keys = s.keys ∧
    (s.stagingFell l).dispatch = s.dispatch ∧ (s.stagingFell l).timers = s.timers ∧
    (s.stagingFell l).params = s.params ∧ (s.stagingFell l).power = s.power ∧
    (s.stagingFell l).events.flags = s.events.flags ∧ (s.stagingFell l).events.masks = s.events.masks ∧
    (s.stagingFell l).events.clock = s.events.clock ∧ (s.stagingFell l).events.routes = s.events.routes ∧
    (s.stagingFell l).events.latches = s.events.latches ∧ (s.stagingFell l).calls.schedule = s.calls.schedule ∧
    (s.stagingFell l).calls.estimates = s.calls.estimates ∧ (s.stagingFell l).links.passTable = s.links.passTable ∧
    (s.stagingFell l).links.strap = s.links.strap ∧ (s.stagingFell l).links.curb = s.links.curb ∧
    (s.stagingFell l).links.deck = s.links.deck := by
  unfold State.stagingFell; split <;> simp [State.grantCheck_frame]

/-- Filing a tenure touches what a grant touches. -/
theorem State.fileTenure_frame (s : State) (n b l : Nat) (d : Direction) (x y : Nat) :
    (s.fileTenure n b l d x y).1.pending = s.pending ∧ (s.fileTenure n b l d x y).1.stalls = s.stalls ∧
    (s.fileTenure n b l d x y).1.unplaced = s.unplaced ∧ (s.fileTenure n b l d x y).1.issue = s.issue ∧
    (s.fileTenure n b l d x y).1.keys = s.keys ∧ (s.fileTenure n b l d x y).1.dispatch = s.dispatch ∧
    (s.fileTenure n b l d x y).1.timers = s.timers ∧ (s.fileTenure n b l d x y).1.params = s.params ∧
    (s.fileTenure n b l d x y).1.power = s.power ∧ (s.fileTenure n b l d x y).1.events.flags = s.events.flags ∧
    (s.fileTenure n b l d x y).1.events.masks = s.events.masks ∧
    (s.fileTenure n b l d x y).1.events.clock = s.events.clock ∧
    (s.fileTenure n b l d x y).1.events.routes = s.events.routes ∧
    (s.fileTenure n b l d x y).1.events.latches = s.events.latches ∧
    (s.fileTenure n b l d x y).1.calls.schedule = s.calls.schedule ∧
    (s.fileTenure n b l d x y).1.calls.estimates = s.calls.estimates ∧
    (s.fileTenure n b l d x y).1.links.passTable = s.links.passTable ∧
    (s.fileTenure n b l d x y).1.links.strap = s.links.strap ∧
    (s.fileTenure n b l d x y).1.links.curb = s.links.curb ∧
    (s.fileTenure n b l d x y).1.links.deck = s.links.deck := by
  unfold State.fileTenure; dsimp only; split
  · simp
  · split <;> simp [State.grantCheck_frame]

/-- The cancelling of a reservation touches the lane and the ticket. -/
theorem State.cancelLane_frame (s : State) (n : Nat) :
    (s.cancelLane n).pending = s.pending ∧ (s.cancelLane n).stalls = s.stalls ∧
    (s.cancelLane n).unplaced = s.unplaced ∧ (s.cancelLane n).issue = s.issue ∧ (s.cancelLane n).keys = s.keys ∧
    (s.cancelLane n).dispatch = s.dispatch ∧ (s.cancelLane n).calls = s.calls ∧ (s.cancelLane n).timers = s.timers ∧
    (s.cancelLane n).events = s.events ∧ (s.cancelLane n).links = s.links ∧ (s.cancelLane n).params = s.params ∧
    (s.cancelLane n).power = s.power := by
  refine forEach_keeps (fun t : State =>
    t.pending = s.pending ∧ t.stalls = s.stalls ∧ t.unplaced = s.unplaced ∧ t.issue = s.issue ∧
    t.keys = s.keys ∧ t.dispatch = s.dispatch ∧ t.calls = s.calls ∧ t.timers = s.timers ∧
    t.events = s.events ∧ t.links = s.links ∧ t.params = s.params ∧ t.power = s.power) _ _ s ?_ (by simp)
  intro x t h
  dsimp only
  split <;> simpa using h

/-- Telling a ticket of a turnback touches tickets, lanes and the board. -/
theorem State.tellTurnback_frame (s : State) (n : Option Nat) :
    (s.tellTurnback n).pending = s.pending ∧ (s.tellTurnback n).stalls = s.stalls ∧
    (s.tellTurnback n).unplaced = s.unplaced ∧ (s.tellTurnback n).issue = s.issue ∧ (s.tellTurnback n).keys = s.keys ∧
    (s.tellTurnback n).dispatch = s.dispatch ∧ (s.tellTurnback n).timers = s.timers ∧
    (s.tellTurnback n).events = s.events ∧ (s.tellTurnback n).params = s.params ∧ (s.tellTurnback n).power = s.power ∧
    (s.tellTurnback n).calls.schedule = s.calls.schedule ∧ (s.tellTurnback n).calls.estimates = s.calls.estimates ∧
    (s.tellTurnback n).links.passTable = s.links.passTable ∧ (s.tellTurnback n).links.strap = s.links.strap ∧
    (s.tellTurnback n).links.curb = s.links.curb ∧ (s.tellTurnback n).links.deck = s.links.deck := by
  unfold State.tellTurnback
  split
  · simp
  · split <;> simp [State.laneGrantCheck_frame, State.cancelLane_frame, State.moveTicket_frame]

/-- A turnback touches the lift, tickets, lanes and the board. -/
theorem State.turnBack_frame (s : State) (l : Nat) (t : Tenure) (x : LiftState) :
    (s.turnBack l t x).pending = s.pending ∧ (s.turnBack l t x).stalls = s.stalls ∧
    (s.turnBack l t x).unplaced = s.unplaced ∧ (s.turnBack l t x).issue = s.issue ∧ (s.turnBack l t x).keys = s.keys ∧
    (s.turnBack l t x).dispatch = s.dispatch ∧ (s.turnBack l t x).timers = s.timers ∧
    (s.turnBack l t x).events = s.events ∧ (s.turnBack l t x).params = s.params ∧ (s.turnBack l t x).power = s.power ∧
    (s.turnBack l t x).calls.schedule = s.calls.schedule ∧ (s.turnBack l t x).calls.estimates = s.calls.estimates ∧
    (s.turnBack l t x).links.passTable = s.links.passTable ∧ (s.turnBack l t x).links.strap = s.links.strap ∧
    (s.turnBack l t x).links.curb = s.links.curb ∧ (s.turnBack l t x).links.deck = s.links.deck := by
  simp [State.turnBack, State.tellTurnback_frame]

/-- A ticket that lets go of its tenure touches what a grant touches. -/
theorem State.letGo_frame (s : State) (n : Nat) :
    (s.letGo n).pending = s.pending ∧ (s.letGo n).stalls = s.stalls ∧ (s.letGo n).unplaced = s.unplaced ∧
    (s.letGo n).issue = s.issue ∧ (s.letGo n).keys = s.keys ∧ (s.letGo n).dispatch = s.dispatch ∧
    (s.letGo n).timers = s.timers ∧ (s.letGo n).params = s.params ∧ (s.letGo n).power = s.power ∧
    (s.letGo n).events.flags = s.events.flags ∧ (s.letGo n).events.masks = s.events.masks ∧
    (s.letGo n).events.clock = s.events.clock ∧ (s.letGo n).events.routes = s.events.routes ∧
    (s.letGo n).events.latches = s.events.latches ∧ (s.letGo n).calls.schedule = s.calls.schedule ∧
    (s.letGo n).calls.estimates = s.calls.estimates ∧ (s.letGo n).links.passTable = s.links.passTable ∧
    (s.letGo n).links.strap = s.links.strap ∧ (s.letGo n).links.curb = s.links.curb ∧
    (s.letGo n).links.deck = s.links.deck := by
  unfold State.letGo
  refine forEach_keeps (fun t : State =>
    t.pending = s.pending ∧ t.stalls = s.stalls ∧ t.unplaced = s.unplaced ∧ t.issue = s.issue ∧
    t.keys = s.keys ∧ t.dispatch = s.dispatch ∧ t.timers = s.timers ∧ t.params = s.params ∧
    t.power = s.power ∧ t.events.flags = s.events.flags ∧ t.events.masks = s.events.masks ∧
    t.events.clock = s.events.clock ∧ t.events.routes = s.events.routes ∧
    t.events.latches = s.events.latches ∧ t.calls.schedule = s.calls.schedule ∧
    t.calls.estimates = s.calls.estimates ∧ t.links.passTable = s.links.passTable ∧
    t.links.strap = s.links.strap ∧ t.links.curb = s.links.curb ∧ t.links.deck = s.links.deck) _ _ s ?_ (by simp)
  intro x t h
  dsimp only
  split
  · simpa [State.grantCheck_frame] using h
  · split
    · exact h
    · split
      · simpa using h
      · exact h

/-! ### Keys -/

/-- Setting a key alert touches the hook's ticket alone. -/
theorem State.setAlert_frame (s : State) (h : Nat) (b : Bool) :
    (s.setAlert h b).pending = s.pending ∧ (s.setAlert h b).stalls = s.stalls ∧
    (s.setAlert h b).unplaced = s.unplaced ∧ (s.setAlert h b).issue = s.issue ∧ (s.setAlert h b).keys = s.keys ∧
    (s.setAlert h b).dispatch = s.dispatch ∧ (s.setAlert h b).arbiter = s.arbiter ∧ (s.setAlert h b).calls = s.calls ∧
    (s.setAlert h b).timers = s.timers ∧ (s.setAlert h b).events = s.events ∧ (s.setAlert h b).links = s.links ∧
    (s.setAlert h b).params = s.params ∧ (s.setAlert h b).power = s.power := by
  unfold State.setAlert; split <;> simp

/-- A binding touches the hook and the ticket. -/
theorem State.bindHook_frame (s : State) (h n : Nat) :
    (s.bindHook h n).pending = s.pending ∧ (s.bindHook h n).stalls = s.stalls ∧
    (s.bindHook h n).unplaced = s.unplaced ∧ (s.bindHook h n).issue = s.issue ∧
    (s.bindHook h n).dispatch = s.dispatch ∧ (s.bindHook h n).arbiter = s.arbiter ∧ (s.bindHook h n).calls = s.calls ∧
    (s.bindHook h n).timers = s.timers ∧ (s.bindHook h n).events = s.events ∧ (s.bindHook h n).links = s.links ∧
    (s.bindHook h n).params = s.params ∧ (s.bindHook h n).power = s.power := by
  simp [State.bindHook]

/-- The binding of a new ticket touches one hook and the ticket. -/
theorem State.bindLowest_frame (s : State) (n : Nat) :
    (s.bindLowest n).pending = s.pending ∧ (s.bindLowest n).stalls = s.stalls ∧
    (s.bindLowest n).unplaced = s.unplaced ∧ (s.bindLowest n).issue = s.issue ∧
    (s.bindLowest n).dispatch = s.dispatch ∧ (s.bindLowest n).arbiter = s.arbiter ∧ (s.bindLowest n).calls = s.calls ∧
    (s.bindLowest n).timers = s.timers ∧ (s.bindLowest n).events = s.events ∧ (s.bindLowest n).links = s.links ∧
    (s.bindLowest n).params = s.params ∧ (s.bindLowest n).power = s.power := by
  unfold State.bindLowest; split <;> simp [State.bindHook]

/-- A hook handed to binding touches the hook and one ticket. -/
theorem State.handHook_frame (s : State) (h : Nat) :
    (s.handHook h).pending = s.pending ∧ (s.handHook h).stalls = s.stalls ∧ (s.handHook h).unplaced = s.unplaced ∧
    (s.handHook h).issue = s.issue ∧ (s.handHook h).dispatch = s.dispatch ∧ (s.handHook h).arbiter = s.arbiter ∧
    (s.handHook h).calls = s.calls ∧ (s.handHook h).timers = s.timers ∧ (s.handHook h).events = s.events ∧
    (s.handHook h).links = s.links ∧ (s.handHook h).params = s.params ∧ (s.handHook h).power = s.power := by
  unfold State.handHook
  split
  · split <;> simp [State.bindHook]
  · simp

/-- A panel's hooks handed to binding touch hooks and tickets. -/
theorem State.handPanelHooks_frame (s : State) (p : Nat) :
    (s.handPanelHooks p).pending = s.pending ∧ (s.handPanelHooks p).stalls = s.stalls ∧
    (s.handPanelHooks p).unplaced = s.unplaced ∧ (s.handPanelHooks p).issue = s.issue ∧
    (s.handPanelHooks p).dispatch = s.dispatch ∧ (s.handPanelHooks p).arbiter = s.arbiter ∧
    (s.handPanelHooks p).calls = s.calls ∧ (s.handPanelHooks p).timers = s.timers ∧
    (s.handPanelHooks p).events = s.events ∧ (s.handPanelHooks p).links = s.links ∧
    (s.handPanelHooks p).params = s.params ∧ (s.handPanelHooks p).power = s.power := by
  refine forEach_keeps (fun t : State =>
    t.pending = s.pending ∧ t.stalls = s.stalls ∧ t.unplaced = s.unplaced ∧ t.issue = s.issue ∧
    t.dispatch = s.dispatch ∧ t.arbiter = s.arbiter ∧ t.calls = s.calls ∧ t.timers = s.timers ∧
    t.events = s.events ∧ t.links = s.links ∧ t.params = s.params ∧ t.power = s.power) _ _ s ?_ (by simp)
  intro x t h
  simpa [State.handHook_frame] using h

/-- An accepted presence touches the hook and its ticket, and reports KEY_FOUND at most. -/
theorem State.keyPresent_frame (s : State) (h : Nat) :
    (s.keyPresent h).pending = s.pending ∧ (s.keyPresent h).stalls = s.stalls ∧
    (s.keyPresent h).unplaced = s.unplaced ∧ (s.keyPresent h).issue = s.issue ∧
    (s.keyPresent h).dispatch = s.dispatch ∧ (s.keyPresent h).arbiter = s.arbiter ∧ (s.keyPresent h).calls = s.calls ∧
    (s.keyPresent h).timers = s.timers ∧ (s.keyPresent h).links = s.links ∧ (s.keyPresent h).params = s.params ∧
    (s.keyPresent h).power = s.power ∧ (s.keyPresent h).events.flags = s.events.flags ∧
    (s.keyPresent h).events.masks = s.events.masks ∧ (s.keyPresent h).events.clock = s.events.clock ∧
    (s.keyPresent h).events.routes = s.events.routes ∧ (s.keyPresent h).events.latches = s.events.latches := by
  unfold State.keyPresent; dsimp only; split <;> simp [State.raise, State.setAlert_frame]

/-- An accepted absence touches the hook and a ticket, and reports KEY_MISSING at most. -/
theorem State.keyAbsent_frame (s : State) (h : Nat) :
    (s.keyAbsent h).pending = s.pending ∧ (s.keyAbsent h).stalls = s.stalls ∧ (s.keyAbsent h).unplaced = s.unplaced ∧
    (s.keyAbsent h).issue = s.issue ∧ (s.keyAbsent h).dispatch = s.dispatch ∧ (s.keyAbsent h).arbiter = s.arbiter ∧
    (s.keyAbsent h).calls = s.calls ∧ (s.keyAbsent h).timers = s.timers ∧ (s.keyAbsent h).links = s.links ∧
    (s.keyAbsent h).params = s.params ∧ (s.keyAbsent h).power = s.power ∧
    (s.keyAbsent h).events.flags = s.events.flags ∧ (s.keyAbsent h).events.masks = s.events.masks ∧
    (s.keyAbsent h).events.clock = s.events.clock ∧ (s.keyAbsent h).events.routes = s.events.routes ∧
    (s.keyAbsent h).events.latches = s.events.latches := by
  unfold State.keyAbsent; dsimp only; split <;> simp [State.raise, State.setAlert_frame, State.handHook_frame]

/-- A hook bit touches hooks, tickets and the reported events. -/
theorem State.takeHookBit_frame (s : State) (h : Nat) (b : Bool) :
    (s.takeHookBit h b).pending = s.pending ∧ (s.takeHookBit h b).stalls = s.stalls ∧
    (s.takeHookBit h b).unplaced = s.unplaced ∧ (s.takeHookBit h b).issue = s.issue ∧
    (s.takeHookBit h b).dispatch = s.dispatch ∧ (s.takeHookBit h b).arbiter = s.arbiter ∧
    (s.takeHookBit h b).calls = s.calls ∧ (s.takeHookBit h b).timers = s.timers ∧
    (s.takeHookBit h b).links = s.links ∧ (s.takeHookBit h b).params = s.params ∧
    (s.takeHookBit h b).power = s.power ∧ (s.takeHookBit h b).events.flags = s.events.flags ∧
    (s.takeHookBit h b).events.masks = s.events.masks ∧ (s.takeHookBit h b).events.clock = s.events.clock ∧
    (s.takeHookBit h b).events.routes = s.events.routes ∧ (s.takeHookBit h b).events.latches = s.events.latches := by
  unfold State.takeHookBit
  dsimp only
  split
  · simp
  · split
    · split <;> simp [State.keyPresent_frame, State.keyAbsent_frame]
    · simp

/-! ### Timers and the event unit -/

/-- Setting a flag touches the flags and the notice markers. -/
theorem State.setFlag_frame (s : State) (k : Nat) :
    (s.setFlag k).pending = s.pending ∧ (s.setFlag k).stalls = s.stalls ∧ (s.setFlag k).unplaced = s.unplaced ∧
    (s.setFlag k).tickets = s.tickets ∧ (s.setFlag k).issue = s.issue ∧ (s.setFlag k).keys = s.keys ∧
    (s.setFlag k).dispatch = s.dispatch ∧ (s.setFlag k).arbiter = s.arbiter ∧ (s.setFlag k).calls = s.calls ∧
    (s.setFlag k).timers = s.timers ∧ (s.setFlag k).params = s.params ∧ (s.setFlag k).power = s.power ∧
    (s.setFlag k).events.masks = s.events.masks ∧ (s.setFlag k).events.clock = s.events.clock ∧
    (s.setFlag k).events.routes = s.events.routes ∧ (s.setFlag k).events.latches = s.events.latches ∧
    (s.setFlag k).events.waiting = s.events.waiting ∧ (s.setFlag k).links.passTable = s.links.passTable ∧
    (s.setFlag k).links.strap = s.links.strap ∧ (s.setFlag k).links.curb = s.links.curb ∧
    (s.setFlag k).links.deck = s.links.deck := by
  unfold State.setFlag
  split
  · simp
  · dsimp only
    split <;> simp [State.oweNotices, State.mapStations]

/-- An expiry handed on touches the channels and reports TIMER. -/
theorem State.handExpiry_frame (s : State) (k : Nat) :
    (s.handExpiry k).pending = s.pending ∧ (s.handExpiry k).stalls = s.stalls ∧
    (s.handExpiry k).unplaced = s.unplaced ∧ (s.handExpiry k).tickets = s.tickets ∧ (s.handExpiry k).issue = s.issue ∧
    (s.handExpiry k).keys = s.keys ∧ (s.handExpiry k).dispatch = s.dispatch ∧ (s.handExpiry k).arbiter = s.arbiter ∧
    (s.handExpiry k).calls = s.calls ∧ (s.handExpiry k).links = s.links ∧ (s.handExpiry k).params = s.params ∧
    (s.handExpiry k).power = s.power ∧ (s.handExpiry k).events.flags = s.events.flags ∧
    (s.handExpiry k).events.masks = s.events.masks ∧ (s.handExpiry k).events.clock = s.events.clock ∧
    (s.handExpiry k).events.routes = s.events.routes ∧ (s.handExpiry k).events.latches = s.events.latches := by
  unfold State.handExpiry
  dsimp only
  split
  · have h := forEach_keeps (fun t : State =>
        t.pending = s.pending ∧ t.stalls = s.stalls ∧ t.unplaced = s.unplaced ∧ t.tickets = s.tickets ∧
        t.issue = s.issue ∧ t.keys = s.keys ∧ t.dispatch = s.dispatch ∧ t.arbiter = s.arbiter ∧
        t.calls = s.calls ∧ t.links = s.links ∧ t.params = s.params ∧ t.power = s.power ∧
        t.events.flags = s.events.flags ∧ t.events.masks = s.events.masks ∧
        t.events.clock = s.events.clock ∧ t.events.routes = s.events.routes ∧
        t.events.latches = s.events.latches)
      (List.range Config.channelCount)
      (fun j t => if (t.channel j).mode = .window ∧ (t.channel j).master = some k then
        t.setChannel j (t.channel j).masterExpiry else t) s
      (by
        intro x t h
        split
        · simpa using h
        · exact h) (by simp)
    simpa [State.raise] using h
  · simp [State.raise]

/-- An expiry touches the channels and reports TIMER. -/
theorem State.expire_frame (s : State) (k : Nat) :
    (s.expire k).pending = s.pending ∧ (s.expire k).stalls = s.stalls ∧ (s.expire k).unplaced = s.unplaced ∧
    (s.expire k).tickets = s.tickets ∧ (s.expire k).issue = s.issue ∧ (s.expire k).keys = s.keys ∧
    (s.expire k).dispatch = s.dispatch ∧ (s.expire k).arbiter = s.arbiter ∧ (s.expire k).calls = s.calls ∧
    (s.expire k).links = s.links ∧ (s.expire k).params = s.params ∧ (s.expire k).power = s.power ∧
    (s.expire k).events.flags = s.events.flags ∧ (s.expire k).events.masks = s.events.masks ∧
    (s.expire k).events.clock = s.events.clock ∧ (s.expire k).events.routes = s.events.routes ∧
    (s.expire k).events.latches = s.events.latches := by
  unfold State.expire; dsimp only; split <;> simp [State.handExpiry_frame]

/-- A step by an event touches the channels and reports TIMER at most. -/
theorem State.eventStep_frame (s : State) (k : Nat) :
    (s.eventStep k).pending = s.pending ∧ (s.eventStep k).stalls = s.stalls ∧ (s.eventStep k).unplaced = s.unplaced ∧
    (s.eventStep k).tickets = s.tickets ∧ (s.eventStep k).issue = s.issue ∧ (s.eventStep k).keys = s.keys ∧
    (s.eventStep k).dispatch = s.dispatch ∧ (s.eventStep k).arbiter = s.arbiter ∧ (s.eventStep k).calls = s.calls ∧
    (s.eventStep k).links = s.links ∧ (s.eventStep k).params = s.params ∧ (s.eventStep k).power = s.power ∧
    (s.eventStep k).events.flags = s.events.flags ∧ (s.eventStep k).events.masks = s.events.masks ∧
    (s.eventStep k).events.clock = s.events.clock ∧ (s.eventStep k).events.routes = s.events.routes ∧
    (s.eventStep k).events.latches = s.events.latches := by
  unfold State.eventStep
  dsimp only
  split
  · simp
  · split
    · simp
    · simp
    · split <;> simp [State.expire_frame]

/-- A capture fed touches the estimates alone. -/
theorem State.feedCapture_frame (s : State) (c : Channel) (n : Nat) :
    (s.feedCapture c n).pending = s.pending ∧ (s.feedCapture c n).stalls = s.stalls ∧
    (s.feedCapture c n).unplaced = s.unplaced ∧ (s.feedCapture c n).tickets = s.tickets ∧
    (s.feedCapture c n).issue = s.issue ∧ (s.feedCapture c n).keys = s.keys ∧
    (s.feedCapture c n).dispatch = s.dispatch ∧ (s.feedCapture c n).arbiter = s.arbiter ∧
    (s.feedCapture c n).timers = s.timers ∧ (s.feedCapture c n).events = s.events ∧
    (s.feedCapture c n).links = s.links ∧ (s.feedCapture c n).params = s.params ∧
    (s.feedCapture c n).power = s.power ∧ (s.feedCapture c n).calls.schedule = s.calls.schedule ∧
    (s.feedCapture c n).calls.board = s.calls.board := by
  unfold State.feedCapture; split <;> simp

/-- A stop-event touches the channels, the estimates and the reported events. -/
theorem State.stopEvent_frame (s : State) (k : Nat) :
    (s.stopEvent k).pending = s.pending ∧ (s.stopEvent k).stalls = s.stalls ∧ (s.stopEvent k).unplaced = s.unplaced ∧
    (s.stopEvent k).tickets = s.tickets ∧ (s.stopEvent k).issue = s.issue ∧ (s.stopEvent k).keys = s.keys ∧
    (s.stopEvent k).dispatch = s.dispatch ∧ (s.stopEvent k).arbiter = s.arbiter ∧ (s.stopEvent k).links = s.links ∧
    (s.stopEvent k).params = s.params ∧ (s.stopEvent k).power = s.power ∧
    (s.stopEvent k).events.flags = s.events.flags ∧ (s.stopEvent k).events.masks = s.events.masks ∧
    (s.stopEvent k).events.clock = s.events.clock ∧ (s.stopEvent k).events.routes = s.events.routes ∧
    (s.stopEvent k).events.latches = s.events.latches ∧ (s.stopEvent k).calls.schedule = s.calls.schedule ∧
    (s.stopEvent k).calls.board = s.calls.board := by
  unfold State.stopEvent; dsimp only; split <;> simp [State.handExpiry_frame, State.feedCapture_frame]

/-! ### Placements, hand-ons and what sensors see -/

/-- A placement touches stalls, tickets, the unplaced list, the dispatch unit, the board and the vacancy markers. -/
theorem State.assign_frame (s : State) (n k : Nat) (b : Bool) (a : SiteTime) :
    (s.assign n k b a).pending = s.pending ∧ (s.assign n k b a).issue = s.issue ∧ (s.assign n k b a).keys = s.keys ∧
    (s.assign n k b a).arbiter = s.arbiter ∧ (s.assign n k b a).timers = s.timers ∧
    (s.assign n k b a).params = s.params ∧ (s.assign n k b a).power = s.power ∧
    (s.assign n k b a).calls.schedule = s.calls.schedule ∧ (s.assign n k b a).calls.estimates = s.calls.estimates ∧
    (s.assign n k b a).events.flags = s.events.flags ∧ (s.assign n k b a).events.masks = s.events.masks ∧
    (s.assign n k b a).events.clock = s.events.clock ∧ (s.assign n k b a).events.routes = s.events.routes ∧
    (s.assign n k b a).events.latches = s.events.latches ∧ (s.assign n k b a).links.passTable = s.links.passTable ∧
    (s.assign n k b a).links.strap = s.links.strap ∧ (s.assign n k b a).links.curb = s.links.curb ∧
    (s.assign n k b a).links.deck = s.links.deck := by
  simp [State.assign, State.makeTask_frame, State.moveTicket_frame, State.bindStall_frame]

/-- One ticket's turn in an attempt touches what a placement touches. -/
theorem State.attemptTicket_frame (s : State) (n : Nat) :
    (s.attemptTicket n).pending = s.pending ∧ (s.attemptTicket n).issue = s.issue ∧
    (s.attemptTicket n).keys = s.keys ∧ (s.attemptTicket n).arbiter = s.arbiter ∧
    (s.attemptTicket n).timers = s.timers ∧ (s.attemptTicket n).params = s.params ∧
    (s.attemptTicket n).power = s.power ∧ (s.attemptTicket n).calls.schedule = s.calls.schedule ∧
    (s.attemptTicket n).calls.estimates = s.calls.estimates ∧ (s.attemptTicket n).events.flags = s.events.flags ∧
    (s.attemptTicket n).events.masks = s.events.masks ∧ (s.attemptTicket n).events.clock = s.events.clock ∧
    (s.attemptTicket n).events.routes = s.events.routes ∧ (s.attemptTicket n).events.latches = s.events.latches ∧
    (s.attemptTicket n).links.passTable = s.links.passTable ∧ (s.attemptTicket n).links.strap = s.links.strap ∧
    (s.attemptTicket n).links.curb = s.links.curb ∧ (s.attemptTicket n).links.deck = s.links.deck := by
  unfold State.attemptTicket
  split
  · simp
  · split <;> simp [State.assign_frame]

/-- An attempt of the unplaced list touches what a placement touches. -/
theorem State.attemptUnplaced_frame (s : State) :
    (s.attemptUnplaced).pending = s.pending ∧ (s.attemptUnplaced).issue = s.issue ∧
    (s.attemptUnplaced).keys = s.keys ∧ (s.attemptUnplaced).arbiter = s.arbiter ∧
    (s.attemptUnplaced).timers = s.timers ∧ (s.attemptUnplaced).params = s.params ∧
    (s.attemptUnplaced).power = s.power ∧ (s.attemptUnplaced).calls.schedule = s.calls.schedule ∧
    (s.attemptUnplaced).calls.estimates = s.calls.estimates ∧ (s.attemptUnplaced).events.flags = s.events.flags ∧
    (s.attemptUnplaced).events.masks = s.events.masks ∧ (s.attemptUnplaced).events.clock = s.events.clock ∧
    (s.attemptUnplaced).events.routes = s.events.routes ∧ (s.attemptUnplaced).events.latches = s.events.latches ∧
    (s.attemptUnplaced).links.passTable = s.links.passTable ∧ (s.attemptUnplaced).links.strap = s.links.strap ∧
    (s.attemptUnplaced).links.curb = s.links.curb ∧ (s.attemptUnplaced).links.deck = s.links.deck := by
  unfold State.attemptUnplaced
  refine forEach_keeps (fun t : State =>
    t.pending = s.pending ∧ t.issue = s.issue ∧ t.keys = s.keys ∧ t.arbiter = s.arbiter ∧
    t.timers = s.timers ∧ t.params = s.params ∧ t.power = s.power ∧
    t.calls.schedule = s.calls.schedule ∧ t.calls.estimates = s.calls.estimates ∧
    t.events.flags = s.events.flags ∧ t.events.masks = s.events.masks ∧
    t.events.clock = s.events.clock ∧ t.events.routes = s.events.routes ∧
    t.events.latches = s.events.latches ∧ t.links.passTable = s.links.passTable ∧
    t.links.strap = s.links.strap ∧ t.links.curb = s.links.curb ∧ t.links.deck = s.links.deck) _ _ s ?_ (by simp)
  intro x t h
  simpa [State.attemptTicket_frame] using h

/-- The start of a restage touches what a placement touches. -/
theorem State.beginRestage_frame (s : State) (n k : Nat) :
    (s.beginRestage n k).pending = s.pending ∧ (s.beginRestage n k).issue = s.issue ∧
    (s.beginRestage n k).keys = s.keys ∧ (s.beginRestage n k).arbiter = s.arbiter ∧
    (s.beginRestage n k).timers = s.timers ∧ (s.beginRestage n k).params = s.params ∧
    (s.beginRestage n k).power = s.power ∧ (s.beginRestage n k).calls.schedule = s.calls.schedule ∧
    (s.beginRestage n k).calls.estimates = s.calls.estimates ∧ (s.beginRestage n k).events.flags = s.events.flags ∧
    (s.beginRestage n k).events.masks = s.events.masks ∧ (s.beginRestage n k).events.clock = s.events.clock ∧
    (s.beginRestage n k).events.routes = s.events.routes ∧ (s.beginRestage n k).events.latches = s.events.latches ∧
    (s.beginRestage n k).links.passTable = s.links.passTable ∧ (s.beginRestage n k).links.strap = s.links.strap ∧
    (s.beginRestage n k).links.curb = s.links.curb ∧ (s.beginRestage n k).links.deck = s.links.deck := by
  simp [State.beginRestage, State.makeTask_frame, State.moveTicket_frame, State.hold_frame]

/-- A charger stall that looks for a restage touches what a placement touches. -/
theorem State.lookRestage_frame (s : State) (k : Nat) :
    (s.lookRestage k).pending = s.pending ∧ (s.lookRestage k).issue = s.issue ∧ (s.lookRestage k).keys = s.keys ∧
    (s.lookRestage k).arbiter = s.arbiter ∧ (s.lookRestage k).timers = s.timers ∧
    (s.lookRestage k).params = s.params ∧ (s.lookRestage k).power = s.power ∧
    (s.lookRestage k).calls.schedule = s.calls.schedule ∧ (s.lookRestage k).calls.estimates = s.calls.estimates ∧
    (s.lookRestage k).events.flags = s.events.flags ∧ (s.lookRestage k).events.masks = s.events.masks ∧
    (s.lookRestage k).events.clock = s.events.clock ∧ (s.lookRestage k).events.routes = s.events.routes ∧
    (s.lookRestage k).events.latches = s.events.latches ∧ (s.lookRestage k).links.passTable = s.links.passTable ∧
    (s.lookRestage k).links.strap = s.links.strap ∧ (s.lookRestage k).links.curb = s.links.curb ∧
    (s.lookRestage k).links.deck = s.links.deck := by
  unfold State.lookRestage
  split
  · split
    · split <;> simp [State.beginRestage_frame]
    · simp
  · simp

/-- A hand-on touches what a placement touches. -/
theorem State.handOn_frame (s : State) (k : Nat) :
    (s.handOn k).pending = s.pending ∧ (s.handOn k).issue = s.issue ∧ (s.handOn k).keys = s.keys ∧
    (s.handOn k).arbiter = s.arbiter ∧ (s.handOn k).timers = s.timers ∧ (s.handOn k).params = s.params ∧
    (s.handOn k).power = s.power ∧ (s.handOn k).calls.schedule = s.calls.schedule ∧
    (s.handOn k).calls.estimates = s.calls.estimates ∧ (s.handOn k).events.flags = s.events.flags ∧
    (s.handOn k).events.masks = s.events.masks ∧ (s.handOn k).events.clock = s.events.clock ∧
    (s.handOn k).events.routes = s.events.routes ∧ (s.handOn k).events.latches = s.events.latches ∧
    (s.handOn k).links.passTable = s.links.passTable ∧ (s.handOn k).links.strap = s.links.strap ∧
    (s.handOn k).links.curb = s.links.curb ∧ (s.handOn k).links.deck = s.links.deck := by
  simp [State.handOn, State.lookRestage_frame, State.attemptUnplaced_frame]

/-- A release of a hold touches what a placement touches. -/
theorem State.release_frame (s : State) (k n : Nat) :
    (s.release k n).pending = s.pending ∧ (s.release k n).issue = s.issue ∧ (s.release k n).keys = s.keys ∧
    (s.release k n).arbiter = s.arbiter ∧ (s.release k n).timers = s.timers ∧ (s.release k n).params = s.params ∧
    (s.release k n).power = s.power ∧ (s.release k n).calls.schedule = s.calls.schedule ∧
    (s.release k n).calls.estimates = s.calls.estimates ∧ (s.release k n).events.flags = s.events.flags ∧
    (s.release k n).events.masks = s.events.masks ∧ (s.release k n).events.clock = s.events.clock ∧
    (s.release k n).events.routes = s.events.routes ∧ (s.release k n).events.latches = s.events.latches ∧
    (s.release k n).links.passTable = s.links.passTable ∧ (s.release k n).links.strap = s.links.strap ∧
    (s.release k n).links.curb = s.links.curb ∧ (s.release k n).links.deck = s.links.deck := by
  unfold State.release; split <;> simp [State.handOn_frame, State.releaseStall_frame]

/-- The re-placement of a ticket touches what a placement touches. -/
theorem State.replaceTicket_frame (s : State) (l : Option Nat) (n : Nat) :
    (s.replaceTicket l n).pending = s.pending ∧ (s.replaceTicket l n).issue = s.issue ∧
    (s.replaceTicket l n).keys = s.keys ∧ (s.replaceTicket l n).arbiter = s.arbiter ∧
    (s.replaceTicket l n).timers = s.timers ∧ (s.replaceTicket l n).params = s.params ∧
    (s.replaceTicket l n).power = s.power ∧ (s.replaceTicket l n).calls.schedule = s.calls.schedule ∧
    (s.replaceTicket l n).calls.estimates = s.calls.estimates ∧ (s.replaceTicket l n).events.flags = s.events.flags ∧
    (s.replaceTicket l n).events.masks = s.events.masks ∧ (s.replaceTicket l n).events.clock = s.events.clock ∧
    (s.replaceTicket l n).events.routes = s.events.routes ∧ (s.replaceTicket l n).events.latches = s.events.latches ∧
    (s.replaceTicket l n).links.passTable = s.links.passTable ∧ (s.replaceTicket l n).links.strap = s.links.strap ∧
    (s.replaceTicket l n).links.curb = s.links.curb ∧ (s.replaceTicket l n).links.deck = s.links.deck := by
  unfold State.replaceTicket
  split
  · simp
  · split
    · split
      · simp
      · dsimp only
        split
        · simp [State.bindStall_frame]
        · split <;> simp [State.bindStall_frame, State.release_frame]
    · simp

/-- The re-placement of the ASSIGNED tickets touches what a placement touches. -/
theorem State.replaceAll_frame (s : State) (l : Option Nat) :
    (s.replaceAll l).pending = s.pending ∧ (s.replaceAll l).issue = s.issue ∧ (s.replaceAll l).keys = s.keys ∧
    (s.replaceAll l).arbiter = s.arbiter ∧ (s.replaceAll l).timers = s.timers ∧ (s.replaceAll l).params = s.params ∧
    (s.replaceAll l).power = s.power ∧ (s.replaceAll l).calls.schedule = s.calls.schedule ∧
    (s.replaceAll l).calls.estimates = s.calls.estimates ∧ (s.replaceAll l).events.flags = s.events.flags ∧
    (s.replaceAll l).events.masks = s.events.masks ∧ (s.replaceAll l).events.clock = s.events.clock ∧
    (s.replaceAll l).events.routes = s.events.routes ∧ (s.replaceAll l).events.latches = s.events.latches ∧
    (s.replaceAll l).links.passTable = s.links.passTable ∧ (s.replaceAll l).links.strap = s.links.strap ∧
    (s.replaceAll l).links.curb = s.links.curb ∧ (s.replaceAll l).links.deck = s.links.deck := by
  unfold State.replaceAll
  refine forEach_keeps (fun t : State =>
    t.pending = s.pending ∧ t.issue = s.issue ∧ t.keys = s.keys ∧ t.arbiter = s.arbiter ∧
    t.timers = s.timers ∧ t.params = s.params ∧ t.power = s.power ∧
    t.calls.schedule = s.calls.schedule ∧ t.calls.estimates = s.calls.estimates ∧
    t.events.flags = s.events.flags ∧ t.events.masks = s.events.masks ∧
    t.events.clock = s.events.clock ∧ t.events.routes = s.events.routes ∧
    t.events.latches = s.events.latches ∧ t.links.passTable = s.links.passTable ∧
    t.links.strap = s.links.strap ∧ t.links.curb = s.links.curb ∧ t.links.deck = s.links.deck) _ _ s ?_ (by simp)
  intro x t h
  simpa [State.replaceTicket_frame] using h

/-- A lift that becomes serviceable touches what a placement touches. -/
theorem State.becameServiceable_frame (s : State) :
    (s.becameServiceable).pending = s.pending ∧ (s.becameServiceable).issue = s.issue ∧
    (s.becameServiceable).keys = s.keys ∧ (s.becameServiceable).arbiter = s.arbiter ∧
    (s.becameServiceable).timers = s.timers ∧ (s.becameServiceable).params = s.params ∧
    (s.becameServiceable).power = s.power ∧ (s.becameServiceable).calls.schedule = s.calls.schedule ∧
    (s.becameServiceable).calls.estimates = s.calls.estimates ∧ (s.becameServiceable).events.flags = s.events.flags ∧
    (s.becameServiceable).events.masks = s.events.masks ∧ (s.becameServiceable).events.clock = s.events.clock ∧
    (s.becameServiceable).events.routes = s.events.routes ∧ (s.becameServiceable).events.latches = s.events.latches ∧
    (s.becameServiceable).links.passTable = s.links.passTable ∧ (s.becameServiceable).links.strap = s.links.strap ∧
    (s.becameServiceable).links.curb = s.links.curb ∧ (s.becameServiceable).links.deck = s.links.deck := by
  simp [State.becameServiceable, State.replaceAll_frame, State.attemptUnplaced_frame]

/-- A sensed car touches what a placement touches. -/
theorem State.sensedOccupied_frame (s : State) (k : Nat) :
    (s.sensedOccupied k).pending = s.pending ∧ (s.sensedOccupied k).issue = s.issue ∧
    (s.sensedOccupied k).keys = s.keys ∧ (s.sensedOccupied k).arbiter = s.arbiter ∧
    (s.sensedOccupied k).timers = s.timers ∧ (s.sensedOccupied k).params = s.params ∧
    (s.sensedOccupied k).power = s.power ∧ (s.sensedOccupied k).calls.schedule = s.calls.schedule ∧
    (s.sensedOccupied k).calls.estimates = s.calls.estimates ∧ (s.sensedOccupied k).events.flags = s.events.flags ∧
    (s.sensedOccupied k).events.masks = s.events.masks ∧ (s.sensedOccupied k).events.clock = s.events.clock ∧
    (s.sensedOccupied k).events.routes = s.events.routes ∧ (s.sensedOccupied k).events.latches = s.events.latches ∧
    (s.sensedOccupied k).links.passTable = s.links.passTable ∧ (s.sensedOccupied k).links.strap = s.links.strap ∧
    (s.sensedOccupied k).links.curb = s.links.curb ∧ (s.sensedOccupied k).links.deck = s.links.deck := by
  unfold State.sensedOccupied; dsimp only; split <;> simp [State.block_frame, State.putStall_frame]

/-- A sensed departure touches what a placement touches. -/
theorem State.emptyUnder_frame (s : State) (k : Nat) (t : Ticket) :
    (s.emptyUnder k t).pending = s.pending ∧ (s.emptyUnder k t).issue = s.issue ∧ (s.emptyUnder k t).keys = s.keys ∧
    (s.emptyUnder k t).arbiter = s.arbiter ∧ (s.emptyUnder k t).timers = s.timers ∧
    (s.emptyUnder k t).params = s.params ∧ (s.emptyUnder k t).power = s.power ∧
    (s.emptyUnder k t).calls.schedule = s.calls.schedule ∧ (s.emptyUnder k t).calls.estimates = s.calls.estimates ∧
    (s.emptyUnder k t).events.flags = s.events.flags ∧ (s.emptyUnder k t).events.masks = s.events.masks ∧
    (s.emptyUnder k t).events.clock = s.events.clock ∧ (s.emptyUnder k t).events.routes = s.events.routes ∧
    (s.emptyUnder k t).events.latches = s.events.latches ∧ (s.emptyUnder k t).links.passTable = s.links.passTable ∧
    (s.emptyUnder k t).links.strap = s.links.strap ∧ (s.emptyUnder k t).links.curb = s.links.curb ∧
    (s.emptyUnder k t).links.deck = s.links.deck := by
  unfold State.emptyUnder
  split
  case h_4 => split <;> simp [State.handOn_frame, State.depart_frame]
  case h_5 => split <;> simp [State.handOn_frame, State.depart_frame]
  all_goals simp [State.raise, State.putStall_frame]

/-- A stall sensed empty touches what a placement touches. -/
theorem State.sensedEmpty_frame (s : State) (k : Nat) :
    (s.sensedEmpty k).pending = s.pending ∧ (s.sensedEmpty k).issue = s.issue ∧ (s.sensedEmpty k).keys = s.keys ∧
    (s.sensedEmpty k).arbiter = s.arbiter ∧ (s.sensedEmpty k).timers = s.timers ∧
    (s.sensedEmpty k).params = s.params ∧ (s.sensedEmpty k).power = s.power ∧
    (s.sensedEmpty k).calls.schedule = s.calls.schedule ∧ (s.sensedEmpty k).calls.estimates = s.calls.estimates ∧
    (s.sensedEmpty k).events.flags = s.events.flags ∧ (s.sensedEmpty k).events.masks = s.events.masks ∧
    (s.sensedEmpty k).events.clock = s.events.clock ∧ (s.sensedEmpty k).events.routes = s.events.routes ∧
    (s.sensedEmpty k).events.latches = s.events.latches ∧ (s.sensedEmpty k).links.passTable = s.links.passTable ∧
    (s.sensedEmpty k).links.strap = s.links.strap ∧ (s.sensedEmpty k).links.curb = s.links.curb ∧
    (s.sensedEmpty k).links.deck = s.links.deck := by
  unfold State.sensedEmpty
  dsimp only
  split
  case h_2 => split <;> simp [State.emptyUnder_frame]
  all_goals simp [State.handOn_frame, State.putStall_frame]

/-- A mark touches what a placement touches. -/
theorem State.takeMark_frame (s : State) (k : Nat) (m : Mark) :
    (s.takeMark k m).pending = s.pending ∧ (s.takeMark k m).issue = s.issue ∧ (s.takeMark k m).keys = s.keys ∧
    (s.takeMark k m).arbiter = s.arbiter ∧ (s.takeMark k m).timers = s.timers ∧ (s.takeMark k m).params = s.params ∧
    (s.takeMark k m).power = s.power ∧ (s.takeMark k m).calls.schedule = s.calls.schedule ∧
    (s.takeMark k m).calls.estimates = s.calls.estimates ∧ (s.takeMark k m).events.flags = s.events.flags ∧
    (s.takeMark k m).events.masks = s.events.masks ∧ (s.takeMark k m).events.clock = s.events.clock ∧
    (s.takeMark k m).events.routes = s.events.routes ∧ (s.takeMark k m).events.latches = s.events.latches ∧
    (s.takeMark k m).links.passTable = s.links.passTable ∧ (s.takeMark k m).links.strap = s.links.strap ∧
    (s.takeMark k m).links.curb = s.links.curb ∧ (s.takeMark k m).links.deck = s.links.deck := by
  unfold State.takeMark
  dsimp only
  split
  · simp [State.putStall_frame]
  · split
    · split <;> simp [State.sensedOccupied_frame, State.sensedEmpty_frame, State.putStall_frame]
    · simp [State.putStall_frame]

/-- A recheck touches what a placement touches. -/
theorem State.recheckStall_frame (s : State) (k : Nat) :
    (s.recheckStall k).pending = s.pending ∧ (s.recheckStall k).issue = s.issue ∧ (s.recheckStall k).keys = s.keys ∧
    (s.recheckStall k).arbiter = s.arbiter ∧ (s.recheckStall k).timers = s.timers ∧
    (s.recheckStall k).params = s.params ∧ (s.recheckStall k).power = s.power ∧
    (s.recheckStall k).calls.schedule = s.calls.schedule ∧ (s.recheckStall k).calls.estimates = s.calls.estimates ∧
    (s.recheckStall k).events.flags = s.events.flags ∧ (s.recheckStall k).events.masks = s.events.masks ∧
    (s.recheckStall k).events.clock = s.events.clock ∧ (s.recheckStall k).events.routes = s.events.routes ∧
    (s.recheckStall k).events.latches = s.events.latches ∧ (s.recheckStall k).links.passTable = s.links.passTable ∧
    (s.recheckStall k).links.strap = s.links.strap ∧ (s.recheckStall k).links.curb = s.links.curb ∧
    (s.recheckStall k).links.deck = s.links.deck := by
  unfold State.recheckStall; dsimp only; split <;> simp [State.block_frame, State.putStall_frame]

/-- A sensor report touches what a placement touches. -/
theorem State.takeReport_frame (s : State) (a : Nat) (r : ZoneReport) :
    (s.takeReport a r).pending = s.pending ∧ (s.takeReport a r).issue = s.issue ∧ (s.takeReport a r).keys = s.keys ∧
    (s.takeReport a r).arbiter = s.arbiter ∧ (s.takeReport a r).timers = s.timers ∧
    (s.takeReport a r).params = s.params ∧ (s.takeReport a r).power = s.power ∧
    (s.takeReport a r).calls.schedule = s.calls.schedule ∧ (s.takeReport a r).calls.estimates = s.calls.estimates ∧
    (s.takeReport a r).events.flags = s.events.flags ∧ (s.takeReport a r).events.masks = s.events.masks ∧
    (s.takeReport a r).events.clock = s.events.clock ∧ (s.takeReport a r).events.routes = s.events.routes ∧
    (s.takeReport a r).events.latches = s.events.latches ∧ (s.takeReport a r).links.passTable = s.links.passTable ∧
    (s.takeReport a r).links.strap = s.links.strap ∧ (s.takeReport a r).links.curb = s.links.curb ∧
    (s.takeReport a r).links.deck = s.links.deck := by
  unfold State.takeReport
  split
  · split
    · refine forEach_keeps (fun t : State =>
        t.pending = s.pending ∧ t.issue = s.issue ∧ t.keys = s.keys ∧ t.arbiter = s.arbiter ∧
        t.timers = s.timers ∧ t.params = s.params ∧ t.power = s.power ∧
        t.calls.schedule = s.calls.schedule ∧ t.calls.estimates = s.calls.estimates ∧
        t.events.flags = s.events.flags ∧ t.events.masks = s.events.masks ∧
        t.events.clock = s.events.clock ∧ t.events.routes = s.events.routes ∧
        t.events.latches = s.events.latches ∧ t.links.passTable = s.links.passTable ∧
        t.links.strap = s.links.strap ∧ t.links.curb = s.links.curb ∧ t.links.deck = s.links.deck) _ _ s ?_ (by simp)
      intro x t h
      dsimp only [State.takeStallMark]
      split <;> simpa [State.takeMark_frame, State.recheckStall_frame] using h
    · simp
  · simp

/-- The loss of a lift touches the lift, its order and what a placement touches. -/
theorem State.liftLost_frame (s : State) (l : Nat) (x : LiftState) :
    (s.liftLost l x).pending = s.pending ∧ (s.liftLost l x).issue = s.issue ∧ (s.liftLost l x).keys = s.keys ∧
    (s.liftLost l x).timers = s.timers ∧ (s.liftLost l x).params = s.params ∧ (s.liftLost l x).power = s.power ∧
    (s.liftLost l x).calls.schedule = s.calls.schedule ∧ (s.liftLost l x).calls.estimates = s.calls.estimates ∧
    (s.liftLost l x).events.flags = s.events.flags ∧ (s.liftLost l x).events.masks = s.events.masks ∧
    (s.liftLost l x).events.clock = s.events.clock ∧ (s.liftLost l x).events.routes = s.events.routes ∧
    (s.liftLost l x).events.latches = s.events.latches ∧ (s.liftLost l x).links.passTable = s.links.passTable ∧
    (s.liftLost l x).links.strap = s.links.strap ∧ (s.liftLost l x).links.curb = s.links.curb ∧
    (s.liftLost l x).links.deck = s.links.deck := by
  unfold State.liftLost; dsimp only; split <;> simp [State.replaceAll_frame, State.clearOrder_frame, State.raise]

/-- A passage to serviceable touches what a placement touches. -/
theorem State.passage_frame (s : State) (l : Nat) (b : Bool) :
    (s.passage l b).pending = s.pending ∧ (s.passage l b).issue = s.issue ∧ (s.passage l b).keys = s.keys ∧
    (s.passage l b).timers = s.timers ∧ (s.passage l b).params = s.params ∧ (s.passage l b).power = s.power ∧
    (s.passage l b).calls.schedule = s.calls.schedule ∧ (s.passage l b).calls.estimates = s.calls.estimates ∧
    (s.passage l b).events.flags = s.events.flags ∧ (s.passage l b).events.masks = s.events.masks ∧
    (s.passage l b).events.clock = s.events.clock ∧ (s.passage l b).events.routes = s.events.routes ∧
    (s.passage l b).events.latches = s.events.latches ∧ (s.passage l b).links.passTable = s.links.passTable ∧
    (s.passage l b).links.strap = s.links.strap ∧ (s.passage l b).links.curb = s.links.curb ∧
    (s.passage l b).links.deck = s.links.deck := by
  unfold State.passage; split <;> simp [State.becameServiceable_frame]

/-- A recovery touches what a passage and a grant touch. -/
theorem State.recover_frame (s : State) (l : Nat) :
    (s.recover l).pending = s.pending ∧ (s.recover l).issue = s.issue ∧ (s.recover l).keys = s.keys ∧
    (s.recover l).timers = s.timers ∧ (s.recover l).params = s.params ∧ (s.recover l).power = s.power ∧
    (s.recover l).calls.schedule = s.calls.schedule ∧ (s.recover l).calls.estimates = s.calls.estimates ∧
    (s.recover l).events.flags = s.events.flags ∧ (s.recover l).events.masks = s.events.masks ∧
    (s.recover l).events.clock = s.events.clock ∧ (s.recover l).events.routes = s.events.routes ∧
    (s.recover l).events.latches = s.events.latches ∧ (s.recover l).links.passTable = s.links.passTable ∧
    (s.recover l).links.strap = s.links.strap ∧ (s.recover l).links.curb = s.links.curb ∧
    (s.recover l).links.deck = s.links.deck := by
  unfold State.recover
  dsimp only
  split
  · simp [State.grantCheck_frame, State.passage_frame]
  · split <;> simp [State.grantCheck_frame, State.passage_frame, State.turnBack_frame]

end Sys2Proof.Machine
end

