-- ==== Sys2Proof/Laws/Links.lean ====
section
/-! SUPPORT. Frames as bytes and back, what own frames and kinds are, which own frame a port serves next, and groups. -/

namespace Sys2Proof.Machine

open Sys2Proof

/-! ### Frames (R147, R149) -/

/-- The bytes of a frame whose length field gives its payload's length make that frame again. -/
theorem parseFrame_frameBytes (f : Frame) (h : f.length.toNat ≤ Config.maxPayload)
    (h' : f.payload.length = f.length.toNat) : parseFrame (frameBytes f) = some f := by
  have check : f.check.extractLsb' 8 8 ++ f.check.extractLsb' 0 8 = f.check := by
    apply BitVec.eq_of_getLsbD_eq
    intro i hi
    simp only [BitVec.getLsbD_append, BitVec.getLsbD_extractLsb']
    by_cases h8 : i < 8
    · simp [h8]
    · simp [h8, show i - 8 < 8 by omega, show 8 + (i - 8) = i by omega]
  obtain ⟨d, s, k, n, p, c⟩ := f
  simp only at h h' check
  simp only [parseFrame, frameBytes, coveredBytes, List.cons_append, List.nil_append, List.length_append,
    List.length_cons, List.length_nil, h', h, true_and, if_true, Option.some.injEq, Frame.mk.injEq]
  simp [← h', check]

/-- A frame whose length field and payload fit is judged by its check, source and destination. -/
theorem judge_frameBytes (f : Frame) (h : f.length.toNat ≤ Config.maxPayload)
    (h' : f.payload.length = f.length.toNat) : judge (.bytes (frameBytes f)) = judgeFrame f := by
  simp [judge, parseFrame_frameBytes f h h']

/-- An own frame: source 0, its kind, and the length of its payload, of at most 32 bytes. -/
theorem OwnFrame.frame_fields (o : OwnFrame) :
    o.frame.source = 0 ∧ o.frame.kind = o.kind.value ∧ o.frame.payload.length ≤ 32 := by
  refine ⟨rfl, rfl, ?_⟩
  simp only [OwnFrame.frame, ownFrame, List.length_take]
  exact Nat.min_le_left ..

/-- Every kind stands in the table of kinds. -/
theorem mem_frameKinds (k : FrameKind) : k ∈ frameKinds := by cases k <;> decide

/-! ### Which own frame is served next (R161, R162) -/

/-- The next address of a cyclic search over ascending candidates: the lowest above the position, else the lowest. -/
theorem nextAbove_spec {position a : Nat} {xs : List Nat} (order : xs.Pairwise (· < ·)) (h : nextAbove position xs = some a) :
    a ∈ xs ∧ (position < a ∧ (∀ b ∈ xs, position < b → a ≤ b) ∨ ∀ b ∈ xs, b ≤ position ∧ a ≤ b) := by
  unfold nextAbove at h
  split at h
  · rename_i x hx
    cases h
    refine ⟨List.mem_of_find?_eq_some hx, .inl ⟨by simpa using List.find?_some hx, fun b hb hp => ?_⟩⟩
    obtain ⟨-, before, after, rfl, hn⟩ := List.find?_eq_some_iff_append.mp hx
    rw [List.pairwise_append, List.pairwise_cons] at order
    rcases List.mem_append.mp hb with hb | hb
    · exact absurd hp (by simpa using hn b hb)
    · rcases List.mem_cons.mp hb with rfl | hb
      · exact Nat.le_refl _
      · exact Nat.le_of_lt (order.2.1.1 b hb)
  · rename_i hx
    cases xs with
    | nil => simp at h
    | cons x xs =>
      simp only [List.head?_cons, Option.some.injEq] at h
      subst h
      refine ⟨List.mem_cons_self, .inr fun b hb => ⟨?_, ?_⟩⟩
      · simpa using List.find?_eq_none.mp hx b hb
      · rcases List.mem_cons.mp hb with rfl | hb
        · exact Nat.le_refl _
        · exact Nat.le_of_lt ((List.pairwise_cons.mp order).1 b hb)

/-- Only the addresses 1 to 60 have servable markers. -/
theorem State.servable_address {s : State} {p : Port} {c : OwnClass} {a : Nat} (h : s.servable p c a = true) :
    a ∈ addresses := by
  refine Decidable.byContradiction fun out => ?_
  have far : ¬(1 ≤ a ∧ a ≤ Config.stationCount) := fun ⟨h1, h2⟩ => out (by
    simp only [addresses, oneTo, List.mem_map, List.mem_range]
    exact ⟨a - 1, by omega, by omega⟩)
  have cold : s.station a = Station.cold := nth1_outside _ _ _ far
  have other : s.commissioning a = false := by
    have hs := s.links.strap.isLt
    simp only [State.commissioning, Bool.and_eq_false_iff, bne_eq_false_iff_eq, beq_eq_false_iff_ne]
    simp only [Config.stationCount] at far
    omega
  have off : s.onPort p a = false := by
    cases p <;> simp [State.onPort, State.segmentOf, other, cold, Station.cold]
  cases c <;> simp [State.servable, State.reaches, off, cold, Station.cold] at h

/-- What the search finds is the class and station that R162 serves next. -/
theorem State.nextOwn_servedNext {s : State} {p : Port} {c : OwnClass} {a : Nat} (h : s.nextOwn p = some (c, a)) :
    s.ServedNext p c a := by
  obtain ⟨before, x, behind, hl, hx, hn⟩ := List.findSome?_eq_some_iff.mp h
  obtain ⟨b, hb, hc⟩ := Option.map_eq_some_iff.mp hx
  cases hc
  have order : (addresses.filter (s.servable p c)).Pairwise (· < ·) :=
    List.Pairwise.filter _ (by decide)
  obtain ⟨mem, next⟩ := nextAbove_spec order hb
  have listed : ∀ b, b ∈ addresses.filter (s.servable p c) ↔ s.servable p c b = true := fun b =>
    ⟨fun h => (List.mem_filter.mp h).2, fun h => List.mem_filter.mpr ⟨State.servable_address h, h⟩⟩
  have range : 1 ≤ a ∧ a ≤ Config.stationCount := by
    have := (List.mem_filter.mp mem).1
    simp only [addresses, oneTo, List.mem_map, List.mem_range] at this
    omega
  refine ⟨⟨before, behind, hl, fun d hd b => ?_⟩, range.1, range.2, (listed a).mp mem, ?_⟩
  · have none := Option.map_eq_none_iff.mp (hn d hd)
    unfold State.candidate nextAbove at none
    split at none
    · cases none
    · rw [List.head?_eq_none_iff, List.filter_eq_nil_iff] at none
      exact Bool.eq_false_iff.mpr fun hb => none b (State.servable_address hb) hb
  · simpa only [listed] using next

/-- With no servable marker no own frame is sent, and nothing changes. -/
theorem State.sendOwn_idle {s : State} {p : Port} (h : s.nextOwn p = none) (fuel : Nat) :
    s.sendOwn fuel p = (s, none) := by
  cases fuel <;> simp [State.sendOwn, h]

/-! ### Groups (R131) -/

/-- A group of no open ticket has no places held. -/
theorem State.placesOf_nil {s : State} {g : Nat} (h : ∀ t ∈ s.tickets, t.group.map (·.1) ≠ some g) : s.placesOf g = [] := by
  refine List.filterMap_eq_nil_iff.mpr fun t ht => ?_
  have := h t ht
  split
  · rename_i g' place hg
    simp only [hg, Option.map_some, ne_eq, Option.some.injEq] at this
    simp [this]
  · rfl

/-- The rings of the groups 1 to 63 are all there is to check of groups. -/
theorem State.groupsRight_of {s : State} (numbers : (s.tickets.map (·.number)).Nodup)
    (range : s.tickets.all (fun t => t.group.all fun g => 1 ≤ g.1 && g.1 ≤ 63) = true)
    (rings : ∀ g, g < 64 → (s.placesOf g).Nodup ∧ (s.placesOf g).length ≤ 4 ∧
      ∀ place ∈ s.placesOf g, 1 ≤ place ∧ place ≤ (s.placesOf g).length) : s.GroupsRight := by
  have inRange : ∀ t ∈ s.tickets, ∀ g place, t.group = some (g, place) → 1 ≤ g ∧ g ≤ 63 := by
    intro t ht g place hg
    have := List.all_eq_true.mp range t ht
    simpa [hg] using this
  refine ⟨numbers, inRange, fun g => ?_⟩
  by_cases hg : g < 64
  · exact rings g hg
  · rw [State.placesOf_nil fun t ht h => ?_]
    · simp
    · obtain ⟨⟨g', place⟩, h1, rfl⟩ := Option.map_eq_some_iff.mp h
      have := inRange t ht g' place h1
      simp at hg
      omega

end Sys2Proof.Machine
end

