-- ==== Sys2Proof/Laws/PerInstr.lean ====
section
/-! SUPPORT. A statement about every command as syntax, made per constructor: a well-formed command that a station sends
comes from a station address the links can carry (R147). -/

namespace Sys2Proof.Laws.Sender

open Sys2Proof

/-- A well-formed command from a station comes from an address up to 60. -/
def Statement (i : Instr) : Prop := i.wellFormed = true → ∀ f, i.sender = some f → f.source ≤ Config.stationCount

/-- What the checks of a command's sender give. -/
theorem of_sender (i : Instr) (f : From) (hs : i.sender = some f) (h : i.wellFormed = true → f.wellFormed = true) :
    Statement i := by
  intro hw g hg
  rw [hs] at hg
  cases hg
  simpa [From.wellFormed] using h hw

theorem left2 {a b : Bool} (h : (a && b) = true) : a = true := ((Bool.and_eq_true a b).mp h).1

theorem left3 {a b c : Bool} (h : (a && b && c) = true) : a = true := left2 (left2 h)

theorem left4 {a b c d : Bool} (h : (a && b && c && d) = true) : a = true := left2 (left3 h)

/-- A command of the controller's own has no sender. -/
theorem of_none (i : Instr) (hs : i.sender = none) : Statement i := by
  intro _ g hg
  rw [hs] at hg
  cases hg

theorem arrive (f : From) (r : Wire ArriveFields) : Statement (.arrive f r) := of_sender _ f rfl fun h => left2 h
theorem call (f : From) (r : Wire CallFields) : Statement (.call f r) := of_sender _ f rfl fun h => left2 h
theorem schedule (f : From) (r : Wire ScheduleFields) : Statement (.schedule f r) := of_sender _ f rfl fun h => left2 h
theorem cancel (f : From) (r : Wire Nat) : Statement (.cancel f r) := of_sender _ f rfl fun h => left2 h
theorem groupLink (f : From) (r : Wire GroupFields) : Statement (.groupLink f r) := of_sender _ f rfl fun h => left2 h
theorem quoteAsk (f : From) (r : Wire Nat) : Statement (.quoteAsk f r) := of_sender _ f rfl fun h => left2 h
theorem runnerReady (f : From) (badge level : Nat) : Statement (.runnerReady f badge level) := of_sender _ f rfl fun h => left3 h
theorem runnerBreak (f : From) (badge level : Nat) : Statement (.runnerBreak f badge level) := of_sender _ f rfl fun h => left3 h
theorem runnerOffDuty (f : From) (badge level : Nat) : Statement (.runnerOffDuty f badge level) := of_sender _ f rfl fun h => left3 h
theorem runnerPosition (f : From) (badge level : Nat) : Statement (.runnerPosition f badge level) := of_sender _ f rfl fun h => left3 h
theorem taskAccept (f : From) (badge ticket : Nat) : Statement (.taskAccept f badge ticket) := of_sender _ f rfl fun h => left3 h
theorem taskDecline (f : From) (badge ticket : Nat) : Statement (.taskDecline f badge ticket) := of_sender _ f rfl fun h => left3 h
theorem atLobby (f : From) (badge ticket level : Nat) : Statement (.atLobby f badge ticket level) := of_sender _ f rfl fun h => left4 h
theorem departed (f : From) (badge ticket : Nat) : Statement (.departed f badge ticket) := of_sender _ f rfl fun h => left3 h
theorem parked (f : From) (badge ticket stall : Nat) (slotFree : Bool) : Statement (.parked f badge ticket stall slotFree) := of_sender _ f rfl fun h => left4 h
theorem keyRequest (f : From) (badge ticket : Nat) : Statement (.keyRequest f badge ticket) := of_sender _ f rfl fun h => left3 h
theorem handover (f : From) (badge ticket : Nat) (slotFree : Bool) : Statement (.handover f badge ticket slotFree) := of_sender _ f rfl fun h => left3 h
theorem liftIdleReport (f : From) (level : Nat) : Statement (.liftIdleReport f level) := of_sender _ f rfl fun h => left2 h
theorem liftLoadedReport (f : From) (level : Nat) : Statement (.liftLoadedReport f level) := of_sender _ f rfl fun h => left2 h
theorem liftArrivedReport (f : From) (level : Nat) : Statement (.liftArrivedReport f level) := of_sender _ f rfl fun h => left2 h
theorem liftUnloadedReport (f : From) (level : Nat) : Statement (.liftUnloadedReport f level) := of_sender _ f rfl fun h => left2 h
theorem liftObstructedReport (f : From) (level : Nat) : Statement (.liftObstructedReport f level) := of_sender _ f rfl fun h => left2 h
theorem liftFaultReport (f : From) (level : Nat) : Statement (.liftFaultReport f level) := of_sender _ f rfl fun h => left2 h
theorem laneOccupiedReport (f : From) : Statement (.laneOccupiedReport f) := of_sender _ f rfl fun h => h
theorem laneClearReport (f : From) : Statement (.laneClearReport f) := of_sender _ f rfl fun h => h
theorem zoneOccupancy (f : From) (r : ZoneReport) : Statement (.zoneOccupancy f r) := of_sender _ f rfl fun h => left2 h
theorem loadStation (f : From) (r : Wire StationFields) : Statement (.loadStation f r) := of_sender _ f rfl fun h => left2 h
theorem loadStall (f : From) (r : Wire StallFields) : Statement (.loadStall f r) := of_sender _ f rfl fun h => left2 h
theorem loadParams (f : From) (r : Wire ParamFields) : Statement (.loadParams f r) := of_sender _ f rfl fun h => left2 h
theorem loadPassRule (f : From) (r : Wire PassRuleFields) : Statement (.loadPassRule f r) := of_sender _ f rfl fun h => left2 h
theorem loadRoute (f : From) (r : Wire RouteFields) : Statement (.loadRoute f r) := of_sender _ f rfl fun h => left2 h
theorem loadTimer (f : From) (r : Wire TimerFields) : Statement (.loadTimer f r) := of_sender _ f rfl fun h => left2 h
theorem loadMasks (f : From) (r : Wire (Vector (Sent Bool) Config.sourceCount)) : Statement (.loadMasks f r) := of_sender _ f rfl fun h => h
theorem setStallService (f : From) (r : Wire StallServiceFields) : Statement (.setStallService f r) := of_sender _ f rfl fun h => left2 h
theorem setClock (f : From) (r : Wire ClockFields) : Statement (.setClock f r) := of_sender _ f rfl fun h => left2 h
theorem startTimer (f : From) (r : Wire Nat) : Statement (.startTimer f r) := of_sender _ f rfl fun h => left2 h
theorem stopTimer (f : From) (r : Wire Nat) : Statement (.stopTimer f r) := of_sender _ f rfl fun h => left2 h
theorem readTicket (f : From) (r : Wire ReadTicketFields) : Statement (.readTicket f r) := of_sender _ f rfl fun h => left2 h
theorem readStall (f : From) (r : Wire Nat) : Statement (.readStall f r) := of_sender _ f rfl fun h => left2 h
theorem readHook (f : From) (r : Wire Nat) : Statement (.readHook f r) := of_sender _ f rfl fun h => left2 h
theorem readRunner (f : From) (r : Wire Nat) : Statement (.readRunner f r) := of_sender _ f rfl fun h => left2 h
theorem readCounts (f : From) (r : Wire Nat) : Statement (.readCounts f r) := of_sender _ f rfl fun h => left2 h
theorem readFlags (f : From) : Statement (.readFlags f) := of_sender _ f rfl fun h => h
theorem readLatch (f : From) (r : Wire Nat) : Statement (.readLatch f r) := of_sender _ f rfl fun h => left2 h
theorem readEstimates (f : From) : Statement (.readEstimates f) := of_sender _ f rfl fun h => h
theorem clearFlags (f : From) (r : Wire (Vector Bool Config.sourceCount)) : Statement (.clearFlags f r) := of_sender _ f rfl fun h => h
theorem rebindHook (f : From) (r : Wire RebindFields) : Statement (.rebindHook f r) := of_sender _ f rfl fun h => left2 h
theorem restage (f : From) (r : Wire RestageFields) : Statement (.restage f r) := of_sender _ f rfl fun h => left2 h
theorem forceClose (f : From) (r : Wire Nat) : Statement (.forceClose f r) := of_sender _ f rfl fun h => left2 h
theorem restart (f : From) (strap : Fin 16) : Statement (.restart f strap) := of_sender _ f rfl fun h => h
theorem manageUnknownKind (f : From) (code : Option Nat) : Statement (.manageUnknownKind f code) := of_sender _ f rfl fun h => left2 h
theorem unhandledKind (f : From) (u : Unhandled) : Statement (.unhandledKind f u) := of_sender _ f rfl fun h => left2 h
theorem routeFrame (p : Port) (fr : Frame) (zone : Option ZoneReport) : Statement (.routeFrame p fr zone) := of_none _ rfl
theorem poll (p : Port) : Statement (.poll p) := of_none _ rfl
theorem idle (f : From) : Statement (.idle f) := of_sender _ f rfl fun h => h
theorem badAnswer (p : Port) (rx : Received) : Statement (.badAnswer p rx) := of_none _ rfl
theorem pollTimeout (p : Port) : Statement (.pollTimeout p) := of_none _ rfl
theorem strayFrame (p : Port) (rx : Received) : Statement (.strayFrame p rx) := of_none _ rfl
theorem transmitOpportunity (p : Port) : Statement (.transmitOpportunity p) := of_none _ rfl
theorem scanCycle : Statement .scanCycle := of_none _ rfl
theorem panelSample (x : PanelExchange) : Statement (.panelSample x) := of_none _ rfl
theorem clockTick : Statement .clockTick := of_none _ rfl
theorem confirmDeadline (stall : Nat) : Statement (.confirmDeadline stall) := of_none _ rfl
theorem releaseDeadline (hook : Nat) : Statement (.releaseDeadline hook) := of_none _ rfl
theorem offerDeadline (badge : Nat) : Statement (.offerDeadline badge) := of_none _ rfl
theorem clearingDeadline (lane : Nat) : Statement (.clearingDeadline lane) := of_none _ rfl
theorem overdueDeadline (ticket : Nat) : Statement (.overdueDeadline ticket) := of_none _ rfl
theorem scheduleRelease : Statement .scheduleRelease := of_none _ rfl
theorem intervalExpiry (channel : Nat) : Statement (.intervalExpiry channel) := of_none _ rfl
theorem delayExpiry (channel : Nat) : Statement (.delayExpiry channel) := of_none _ rfl
theorem windowExpiry (channel : Nat) : Statement (.windowExpiry channel) := of_none _ rfl
theorem pulseEnd (channel : Nat) : Statement (.pulseEnd channel) := of_none _ rfl
theorem eventTaken : Statement .eventTaken := of_none _ rfl
theorem powerOn (strap : Fin 16) : Statement (.powerOn strap) := of_none _ rfl
theorem powerLoss : Statement .powerLoss := of_none _ rfl
theorem batteryDropout : Statement .batteryDropout := of_none _ rfl
theorem destination61Or62 (f : From) (destination : Nat) : Statement (.destination61Or62 f destination) := of_sender _ f rfl fun h => left2 h

end Sys2Proof.Laws.Sender
end

