-- ==== Sys2Proof/Laws/Scan.lean ====
section
/-! SUPPORT. What the scanner puts out in an exchange and what the panel takes of it, what a sample leaves of the scanner
and the cabinet's latches, and the mask values of LOAD_MASKS. -/

namespace Sys2Proof.Machine

open Sys2Proof

/-! ### The bits put out (R75, R76) -/

/-- One bit for each clock: 66, and one for each further clock given. -/
theorem length_bitsOut (unlock : List Bool) (x : PanelExchange) (h : unlock.length = 64) :
    (bitsOut unlock x).length = 66 + furtherClocksGiven x := by simp [bitsOut, h]; omega

/-- The clocks 1 to 64 carry positions 63 down to 0. -/
theorem bitsOut_position (unlock : List Bool) (x : PanelExchange) (h : unlock.length = 64) (c : Nat) (hc : c < 64) :
    (bitsOut unlock x)[c]? = unlock[63 - c]? := by
  rw [bitsOut, List.append_assoc, List.getElem?_append_left (by simpa [h] using hc), List.getElem?_reverse (by omega)]
  congr 1
  omega

/-- From clock 65 on a 0 is put out. -/
theorem bitsOut_tail (unlock : List Bool) (x : PanelExchange) (h : unlock.length = 64) (c : Nat) (hc : 64 ≤ c)
    (hc' : c < 66 + furtherClocksGiven x) : (bitsOut unlock x)[c]? = some false := by
  have hz : [false, false] = List.replicate 2 false := rfl
  rw [bitsOut, List.append_assoc, List.getElem?_append_right (by simpa [h] using hc), hz, List.replicate_append_replicate,
    List.getElem?_replicate]
  simp [h]; omega

/-- A panel takes the 64 bits that were built for it. -/
theorem bitsTaken_bitsOut (unlock : List Bool) (x : PanelExchange) (h : unlock.length = 64) :
    bitsTaken (bitsOut unlock x) = unlock := by
  simp [bitsTaken, bitsOut, h, Config.hooksPerPanel]

/-! ### What the exchange and its sample leave as it is -/

/-- Of State, an exchange writes the bits put out and the latches of one panel. -/
theorem State.putOut_frame (s : State) (p : Nat) (x : PanelExchange) :
    (s.putOut p x).pending = s.pending ∧ (s.putOut p x).stalls = s.stalls ∧ (s.putOut p x).unplaced = s.unplaced ∧
    (s.putOut p x).tickets = s.tickets ∧ (s.putOut p x).issue = s.issue ∧
    (s.putOut p x).keys.hooks = s.keys.hooks ∧ (s.putOut p x).keys.panels = s.keys.panels ∧
    (s.putOut p x).keys.scan = { s.keys.scan with out := bitsOut s.keys.scan.unlock x } ∧
    (s.putOut p x).dispatch = s.dispatch ∧ (s.putOut p x).arbiter = s.arbiter ∧ (s.putOut p x).calls = s.calls ∧
    (s.putOut p x).timers = s.timers ∧ (s.putOut p x).events = s.events ∧ (s.putOut p x).links = s.links ∧
    (s.putOut p x).params = s.params ∧ (s.putOut p x).power = s.power := by
  simp [State.putOut]

/-- The scanner and the latches, which no sample changes. -/
abbrev Keys.scanSide (k : Keys) : Scan × Vector (List Bool) Config.panelCount := (k.scan, k.latches)

theorem State.handHook_scanSide (s : State) (h : Nat) : (s.handHook h).keys.scanSide = s.keys.scanSide := by
  unfold State.handHook
  split
  · split <;> rfl
  · rfl

theorem State.handPanelHooks_scanSide (s : State) (p : Nat) : (s.handPanelHooks p).keys.scanSide = s.keys.scanSide :=
  forEach_keeps (fun t : State => t.keys.scanSide = s.keys.scanSide) _ _ s
    (fun _ t h => (t.handHook_scanSide _).trans h) rfl

theorem State.takeHookBit_scanSide (s : State) (h : Nat) (b : Bool) :
    (s.takeHookBit h b).keys.scanSide = s.keys.scanSide := by
  have present (t : State) : (t.keyPresent h).keys.scanSide = t.keys.scanSide := by
    unfold State.keyPresent; dsimp only; split <;> simp [State.raise, State.setAlert_frame, State.setHook]
  have absent (t : State) : (t.keyAbsent h).keys.scanSide = t.keys.scanSide := by
    unfold State.keyAbsent
    dsimp only
    split
    · simp [State.raise, State.setAlert_frame, State.setHook]
    · rfl
    · exact (State.handHook_scanSide _ _).trans rfl
    all_goals rfl
  unfold State.takeHookBit
  dsimp only
  split
  · rfl
  · split
    · split
      · exact (present _).trans rfl
      · exact (absent _).trans rfl
    · rfl

/-- A good sample leaves the scanner and the latches as they are. -/
theorem State.acceptSample_scanSide (s : State) (p : Nat) (x : PanelExchange) :
    (s.acceptSample p x).keys.scanSide = s.keys.scanSide := by
  have taken (u : State) (f : Nat → Bool) :
      (forEach (hooksOf p) (fun h s => s.takeHookBit h (f h)) u).keys.scanSide = u.keys.scanSide :=
    forEach_keeps (fun t : State => t.keys.scanSide = u.keys.scanSide) _ _ u
      (fun _ t h => (t.takeHookBit_scanSide _ _).trans h) rfl
  unfold State.acceptSample
  dsimp only
  split
  · exact (State.handPanelHooks_scanSide _ _).trans ((taken _ _).trans rfl)
  · exact (taken _ _).trans rfl

/-- A discarded sample leaves the scanner and the latches as they are. -/
theorem State.discardSample_scanSide (s : State) (p : Nat) : (s.discardSample p).keys.scanSide = s.keys.scanSide := by
  unfold State.discardSample
  dsimp only
  split <;> rfl

/-! ### Mask values (R186, R196) -/

/-- Thirty values that are each OPEN or CLOSED are read as they stand. -/
theorem readMasks_values (m : Vector Bool Config.sourceCount) : readMasks (m.map .value) = some m := by
  have every : (m.map Sent.value).all (· != .outside) = true := by simp [Vector.all_eq_true]
  rw [readMasks, if_pos every]
  congr 1
  ext i hi
  simp only [Vector.getElem_map]
  cases m[i] <;> rfl

/-- With a value outside the set nothing is read. -/
theorem readMasks_outside (m : Vector (Sent Bool) Config.sourceCount) (h : .outside ∈ m) : readMasks m = none := by
  have some_ : (m.all (· != .outside)) = false := by
    rw [Vector.all_eq_false]
    obtain ⟨i, hi, he⟩ := Vector.getElem_of_mem h
    exact ⟨i, hi, by simp [he]⟩
  simp [readMasks, some_]

end Sys2Proof.Machine
end

