-- ==== Sys2Proof/Tests/Slice0.lean ====
section
/-! SUPPORT. Tests: what WellFormed refuses, single steps against values the manual gives, and for each statement a small
state and operands that meet its hypotheses. -/

namespace Sys2Proof.Tests

open Sys2Proof Sys2Proof.Machine

set_option Elab.async false

/-! ### Small states -/

/-- The state after a command that ends in a next state. -/
def after (c : Instr) (s : State) : State :=
  match exec c s with
  | .next t => t
  | _ => State.reset

/-- Station `f.source` is PRESENT with one miss, and `f.port` waits for its answer. -/
def asked (f : From) (cls : StationClass) (perm : Permissions) (served : Option Served) (s : State) : State :=
  (s.setStation f.source { Station.cold with
    segment := match f.port with | .curb => .curb | .deck => .deck
    cls, permissions := perm, served, presence := .present, silent := 1 }).setPort f.port
      { s.port f.port with phase := .window f.source }

/-- The desk, a podium, a runner base, the loop of lane 1, lift 1 and a sensor hub. -/
def desk : From := ⟨.curb, 4⟩
def podium : From := ⟨.curb, 12⟩
def base : From := ⟨.curb, 20⟩
def loop : From := ⟨.curb, 21⟩
def lift : From := ⟨.deck, 31⟩
def hub : From := ⟨.deck, 9⟩

def atDesk (s : State) : State := asked desk .desk ⟨true, true, true⟩ none s
def atPodium (s : State) : State := asked podium .podium ⟨false, false, true⟩ none s
def atBase (s : State) : State := asked base .runnerBase ⟨false, false, false⟩ none s
def atLoop (s : State) : State := asked loop .laneLoop ⟨false, false, false⟩ (some (.lane 1)) s
def atLift (s : State) : State := asked lift .lift ⟨false, false, false⟩ (some (.lift 1)) s
def atHub (s : State) : State := asked hub .sensorHub ⟨false, false, false⟩ (some (.stalls 280 311)) s

/-- Ticket 7 in a state. -/
def car (x : TicketState) : Ticket :=
  { newTicket 7 ⟨.standard, false, .evening, .standard, none⟩ SiteTime.zero with state := x }

def withCar (t : Ticket) (s : State) : State := { s with tickets := s.tickets ++ [t] }

/-- A stall of level 2 on lift 1 that takes a standard car. -/
def level2 : StallSite := ⟨2, 3, 40, .standard, false, 1⟩

def loaded (x : StallState) (n : Option Nat) : Stall := { Stall.cold with site := some level2, state := x, ticket := n }

def withStall (k : Nat) (r : Stall) (s : State) : State :=
  { s with stalls.records := setNth s.stalls.records k r }

/-- Lift 1 is configured, IDLE at level 0. -/
def liftIdle (s : State) : State :=
  { s with params.liftConfigured := setNth1 s.params.liftConfigured 1 true }.setLift 1 { Lift.cold with state := .idle }

/-- Runner 1 holds a task of ticket 7. -/
def holding (kind : TaskKind) (s : State) : State :=
  { s.setRunner 1 { Runner.atStart SiteTime.zero with state := .tasked, task := some (7, kind), base := some 20 } with
    dispatch.tasks := [⟨kind, 7, SiteTime.zero, [], .held 1⟩] }

/-- Runner 1 is offered a task of ticket 7. -/
def offeredTask (kind : TaskKind) (s : State) : State :=
  { s.setRunner 1 { Runner.atStart SiteTime.zero with
      state := .offered, task := some (7, kind), base := some 20, offerBy := some ⟨⟨0, 200⟩, false⟩ } with
    dispatch.tasks := [⟨kind, 7, SiteTime.zero, [], .offered 1⟩] }

/-- A FREE stall 12 of level 2 on lift 1, which is serviceable. -/
def oneStall (s : State) : State :=
  let t := withStall 12 (loaded .free none) (liftIdle s)
  { t with stalls.free := ⟨0, 1, 0, 0⟩ }

/-- An ARRIVE of a standard car without a charger, for an evening. -/
def evening : ArriveFields := ⟨.value .standard, .value false, .value .evening, .value .standard, none⟩

/-- The outcome of the desk's service reply and of its management reply. -/
def served (s : State) : Option Answer := (s.station 4).serviceReply.map (·.outcome)
def managed (s : State) : Option Answer := (s.station 4).manageReply.map (·.outcome)
/-- The outcome of runner 1's reply. -/
def told (s : State) : Option Answer := (s.runner 1).reply.map (·.outcome)

/-! ### WellFormed refuses -/

theorem test_source_too_high : (Instr.idle ⟨.curb, 61⟩).wellFormed = false := by decide
theorem test_badge_too_wide : (Instr.runnerReady base 256 0).wellFormed = false := by decide
theorem test_level_too_wide : (Instr.runnerReady base 1 256).wellFormed = false := by decide
theorem test_ticket_too_wide : (Instr.taskAccept base 1 65536).wellFormed = false := by decide
theorem test_tenth_too_wide : (Instr.setClock desk (.fields ⟨0, 16777216⟩)).wellFormed = false := by decide
theorem test_plate_too_long :
    (Instr.arrive desk (.fields { evening with plate := some (List.replicate 33 0x41#8) })).wellFormed = false := by decide
theorem test_too_many_marks : (Instr.zoneOccupancy hub ⟨280, List.replicate 256 .empty⟩).wellFormed = false := by
  decide +kernel
theorem test_first_stall_too_wide : (Instr.zoneOccupancy hub ⟨65536, []⟩).wellFormed = false := by decide
theorem test_kind_with_block : (Instr.unhandledKind desk (.kind 0x10#8)).wellFormed = false := by decide
theorem test_step_too_wide : (Instr.unhandledKind base (.stepKind 1 65536)).wellFormed = false := by decide
theorem test_payload_too_long :
    (Instr.routeFrame .deck ⟨1#8, 9#8, 0x40#8, 33#8, List.replicate 33 0#8, 0#16⟩ none).wellFormed = false := by decide +kernel
theorem test_zone_of_other_kind :
    (Instr.routeFrame .deck ⟨1#8, 9#8, 0x38#8, 0#8, [], 0#16⟩ (some ⟨280, []⟩)).wellFormed = false := by decide
theorem test_frame_for_the_controller :
    (Instr.routeFrame .deck ⟨0#8, 9#8, 0x40#8, 0#8, [], 0#16⟩ none).wellFormed = false := by decide
theorem test_length_of_another_payload :
    (Instr.routeFrame .deck ⟨1#8, 9#8, 0x10#8, 1#8, [], 0#16⟩ none).wellFormed = false := by decide
theorem test_bad_payload_of_a_service_kind :
    (Instr.unhandledKind desk (.badPayload .arrive)).wellFormed = false := by decide
theorem test_short_exchange : (Instr.panelSample ⟨true, [true], none⟩).wellFormed = false := by decide
theorem test_no_such_stall : (Instr.confirmDeadline 640).wellFormed = false := by decide
theorem test_no_such_hook : (Instr.releaseDeadline 576).wellFormed = false := by decide
theorem test_no_badge_0 : (Instr.offerDeadline 0).wellFormed = false := by decide
theorem test_no_lane_7 : (Instr.clearingDeadline 7).wellFormed = false := by decide
theorem test_no_ticket_10000 : (Instr.overdueDeadline 10000).wellFormed = false := by decide
theorem test_no_channel_8 : (Instr.intervalExpiry 8).wellFormed = false := by decide
theorem test_destination_60 : (Instr.destination61Or62 desk 60).wellFormed = false := by decide
theorem test_request_numbers_are_wellFormed : (Instr.readStall desk (.fields 640)).wellFormed = true := by decide

/-- No row of the table has bits, so no word spells a command. -/
theorem test_no_word_spells_a_command : decodeTableWord 16 0x50 = none := by decide

/-! ### What meets the hypotheses of the statements -/

def noPower : State := { State.reset with power.main := false }

theorem witness_CommandsNeedMainPower :
    noPower.power.main = false ∧ Instr.poll .curb ≠ .clockTick ∧ Instr.poll .curb ≠ .batteryDropout ∧
      (∀ strap, Instr.poll .curb ≠ .powerOn strap) ∧ State.reset.power.main = true :=
  ⟨by decide, by decide, by decide, fun _ h => (nomatch h), by decide⟩

theorem witness_StartsFollowTheMemory :
    noPower.power.main = false ∧
      ({ noPower with power.written := false } : State).power.written = false ∧
      ({ noPower with power.dropout := true } : State).power.dropout = true ∧
      noPower.power.written = true ∧ noPower.power.dropout = false ∧ (atDesk State.reset).Manages desk := by
  decide +kernel

theorem witness_EveryStepKeepsTheFreeCounts :
    (oneStall (atDesk State.reset)).FreeCountsRight ∧
      step { oneStall (atDesk State.reset) with pending := [.arrive desk (.fields evening)] } =
        .next (after (.arrive desk (.fields evening)) (oneStall (atDesk State.reset))) :=
  ⟨by decide +kernel, by rfl⟩

theorem witness_EveryStepKeepsSizesAndRanges :
    (oneStall (atDesk State.reset)).WithinSizes ∧ (oneStall (atDesk State.reset)).InRanges ∧
      (oneStall (atDesk State.reset)).ChannelsRight := by
  decide +kernel

/-- A frame from a station, with its length and check. -/
def ownFrameFrom (destination source : Nat) (kind : Byte) (payload : List Byte := []) : Frame :=
  let fr := { ownFrame (BitVec.ofNat 8 destination) kind payload with source := BitVec.ofNat 8 source }
  { fr with check := crc (coveredBytes fr) }

theorem witness_ChecksAreTheLinksOwn :
    ¬ (∃ n : Byte, [5#8, 0#8, 1#8, 33#8, 0#8, 0#8][3]? = some n ∧ n.toNat ≤ 32 ∧ 6 = 6 + n.toNat) ∧
      (∀ fr ∈ [ownFrameFrom 0 60 0x10#8 [1#8, 2#8], ownFrameFrom 0 61 0x10#8, ownFrameFrom 61 60 0x10#8,
          ownFrameFrom 62 0 0x10#8, { ownFrameFrom 0 60 0x10#8 with check := 0 }],
        fr.length.toNat ≤ 32 ∧ fr.payload.length = fr.length.toNat) ∧
      ({ ownFrameFrom 0 60 0x10#8 with check := 0 } : Frame).check ≠ crc [0#8, 60#8, 0x10#8, 0#8] ∧
      (∀ fr ∈ [ownFrameFrom 0 60 0x10#8 [1#8, 2#8], ownFrameFrom 0 61 0x10#8, ownFrameFrom 61 60 0x10#8],
        fr.check = crc ([fr.destination, fr.source, fr.kind, fr.length] ++ fr.payload)) ∧
      60 < (ownFrameFrom 0 61 0x10#8).source.toNat ∧ (ownFrameFrom 61 60 0x10#8).destination.toNat = 61 ∧
      (Instr.quoteAsk desk (.fields 7)).wellFormed = true ∧
      (Instr.quoteAsk desk (.fields 7)).frameKind = some .quoteAsk := by
  refine ⟨fun ⟨n, h, _, h'⟩ => ?_, by decide +kernel, by decide +kernel, by decide +kernel, by decide +kernel,
    by decide +kernel, by decide, rfl⟩
  cases h
  cases h'

/-- Stations 4 and 12 are polled on the curb port, which is ready. -/
def ready (last : Nat) : State :=
  let s := atPodium (atDesk State.reset)
  s.setPort .curb { s.port .curb with phase := .ready, pollPosition := last }

theorem witness_PollGoesToTheNextAddress :
    (ready 4).power.main = true ∧ ((ready 4).port .curb).phase = .ready ∧ 12 ∈ (ready 4).polled .curb ∧
      ((ready 4).port .curb).pollPosition < 12 ∧
      (∀ b ∈ (ready 4).polled .curb, ((ready 4).port .curb).pollPosition < b → 12 ≤ b) ∧
      4 ∈ (ready 12).polled .curb ∧ (∀ b ∈ (ready 12).polled .curb, b ≤ ((ready 12).port .curb).pollPosition) ∧
      (∀ b ∈ (ready 12).polled .curb, 4 ≤ b) := by
  decide +kernel

theorem witness_PresenceAloneOrNothing :
    (atDesk State.reset).Hears desk ∧ State.reset.power.main = true ∧
      (∀ a, (State.reset.port .curb).phase ≠ .window a) :=
  ⟨by decide +kernel, by decide, fun _ h => by cases h⟩

/-- A display and a lift, not yet PRESENT, answer their polls. -/
def newDisplay : State :=
  let s := asked ⟨.curb, 40⟩ .display ⟨false, false, false⟩ none State.reset
  s.setStation 40 { s.station 40 with presence := .unknown }

def newLift : State :=
  let s := (atLift State.reset).setLift 1 { Lift.cold with state := .absent }
  s.setStation 31 { s.station 31 with presence := .absent }

theorem witness_FirstGoodAnswerHandsPresenceOn :
    newDisplay.power.main = true ∧ (newDisplay.port .curb).phase = .window 40 ∧
      (newDisplay.station 40).presence ≠ .present ∧ newDisplay.classOf 40 = .display ∧
      newLift.power.main = true ∧ (newLift.port .deck).phase = .window 31 ∧ (newLift.station 31).presence ≠ .present ∧
      newLift.classOf 31 = .lift ∧ (newLift.station 31).served = some (.lift 1) ∧ (newLift.lift 1).state = .absent := by
  decide +kernel

theorem witness_PresenceComesBeforeTheBlock :
    (Instr.liftIdleReport lift 7).wellFormed = true ∧ (Instr.liftIdleReport lift 7).sender = some lift ∧
      newLift.power.main = true ∧ (newLift.port lift.port).phase = .window lift.source ∧
      exec (.idle lift) newLift = .next (after (.idle lift) newLift) :=
  ⟨by decide, by decide, by decide, by decide +kernel, by rfl⟩

/-- Station 31 is PRESENT with two misses. -/
def twoMisses : State :=
  let s := atLift State.reset
  s.setStation 31 { s.station 31 with silent := 2 }

theorem witness_MissesMakeAStationAbsent :
    (atLift State.reset).power.main = true ∧ ((atLift State.reset).port .deck).phase = .window 31 ∧
      ((atLift State.reset).station 31).silent < 2 ∧ judge .badCharacters = .discarded ∧
      (twoMisses.port .deck).phase = .window 31 ∧ 2 ≤ (twoMisses.station 31).silent ∧
      (twoMisses.station 31).presence ≠ .absent := by
  decide +kernel

/-- A ZONE_OCCUPANCY of station 9 for station 40 on the other link, with its check, as the deck port hears it. -/
def crossing : Frame :=
  ownFrameFrom 40 9 0x40#8

/-- A rule that forwards what a sensor hub sends, and the stations of both links. -/
def hubRule : PassRule := ⟨0x40#8, 0x40#8, some .sensorHub, .any, .deckToCurb, .forward⟩

def switching (queued : Nat) : State :=
  let s := atHub State.reset
  let t := s.setStation 40 { Station.cold with segment := .curb, cls := .display }
  { t with
    links.passTable := setNth t.links.passTable 3 (some hubRule)
    links.curb.forwarded := List.replicate queued crossing }

theorem witness_RoutedFramesFollowTheFirstRule :
    nth (switching 31).links.passTable 3 none = some hubRule ∧ (switching 31).ruleMatches .deck crossing hubRule = true ∧
      (∀ j, j < 3 → nth (switching 31).links.passTable j none = none) ∧
      (∀ j, j < 32 → nth State.reset.links.passTable j none = none) ∧
      (switching 31).Hears ⟨.deck, crossing.source.toNat⟩ ∧ judge (.bytes (frameBytes crossing)) = .good crossing ∧
      (switching 31).onPort .deck crossing.destination.toNat = false ∧
      (switching 31).onPort .curb crossing.destination.toNat = true ∧
      (switching 31).verdict .deck crossing = .forward ∧ ((switching 31).port .curb).forwarded.length < 32 ∧
      (switching 32).Hears ⟨.deck, crossing.source.toNat⟩ ∧ (switching 32).verdict .deck crossing = .forward ∧
      32 ≤ ((switching 32).port .curb).forwarded.length := by
  decide +kernel

/-- The curb port at its transmit opportunity, two frames forwarded and a reply owed to the desk. -/
def opportunity : State :=
  let s := (atDesk (switching 2)).oweService 4 .arrive .range none
  s.setPort .curb { s.port .curb with phase := .opportunity }

theorem witness_OpportunitySendsAtMostTwoFrames :
    opportunity.power.main = true ∧ (opportunity.port .curb).phase = .opportunity := by
  decide +kernel

theorem witness_ServiceNeedsPermission :
    (asked podium .podium ⟨true, true, false⟩ none State.reset).Hears podium ∧
      (asked podium .podium ⟨true, true, false⟩ none State.reset).classOf 12 = .podium ∧
      ((asked podium .podium ⟨true, true, false⟩ none State.reset).permissionsOf 12).service = false ∧
      (atBase State.reset).Hears base ∧ (atBase State.reset).classOf 20 ≠ .podium ∧
      (atBase State.reset).classOf 20 ≠ .desk := by
  decide +kernel

/-- Tickets 9999 and 1 are open and the issue counter stands at 9999; with `n` further tickets. -/
def lastNumber (n : Nat) : State :=
  { atPodium State.reset with
    issue := 9999
    tickets := [{ car .unplaced with number := 9999 }, { car .unplaced with number := 1 }] ++
      (List.range n).map fun k => { car .unplaced with number := k + 2 } }

theorem witness_ArriveIssuesTheFirstFreeNumber :
    (lastNumber 0).Serves podium ∧ readArrive evening ≠ none ∧ 1 ≤ (lastNumber 0).issue ∧ (lastNumber 0).issue ≤ 9999 ∧
      (lastNumber 0).tickets.length < 512 ∧ (lastNumber 510).Serves podium ∧ 512 ≤ (lastNumber 510).tickets.length := by
  decide +kernel

/-- No stall and a full unplaced list. -/
def noSpace : State := { atPodium State.reset with unplaced := List.range 32 }

theorem witness_ArriveEndsInOneOfThreeWays :
    noSpace.Serves podium ∧ readArrive evening ≠ none ∧ 1 ≤ noSpace.issue ∧ noSpace.issue ≤ 9999 ∧
      noSpace.tickets.length < 512 ∧ noSpace.unplaced.length ≤ 32 ∧
      (∀ w ∈ noSpace.dispatch.tasks, noSpace.ticket w.ticket ≠ none) ∧
      (oneStall (atPodium State.reset)).Serves podium ∧ (oneStall (atPodium State.reset)).unplaced.length ≤ 32 := by
  decide +kernel

theorem witness_PlacementTakesTheCheapestStall :
    (oneStall State.reset).placement (car .unplaced) false = some (12, false) ∧
      (oneStall State.reset).placement { car .unplaced with charger := true } false = some (12, true) ∧
      State.reset.placement (car .unplaced) false = none := by
  decide +kernel

theorem witness_PlacementTakesTheCheapestStall_mayTake : (oneStall State.reset).mayTake (car .unplaced) false 12 level2 := by
  unfold State.mayTake
  decide +kernel

/-- Ticket 7 stands in a state at the desk. -/
def deskCar (t : Ticket) : State := withCar t (atDesk State.reset)

theorem witness_CallOfAParkedCarMakesAFetchTask :
    (deskCar (car .parked)).Serves desk ∧ (deskCar (car .parked)).ticket 7 = some (car .parked) ∧
      (car .parked).number = 7 ∧ (deskCar (car .parked)).task 7 = none ∧
      (deskCar (car .scheduled)).Serves desk ∧ (deskCar (car .scheduled)).ticket 7 = some (car .scheduled) := by
  decide +kernel

theorem witness_CallsOutsideTheStallsWait :
    (deskCar (car .parking)).Serves desk ∧ (deskCar (car .parking)).ticket 7 = some (car .parking) ∧
      (car .parking).callPending = false ∧
      (deskCar { car .parking with callPending := true }).ticket 7 = some { car .parking with callPending := true } ∧
      (deskCar (car .atCurb)).ticket 7 = some (car .atCurb) ∧
      (deskCar (car .unplaced)).Serves desk ∧ (deskCar (car .unplaced)).ticket 7 = some (car .unplaced) := by
  decide +kernel

/-- Two entries stand in the schedule at one release time. -/
def entry (n : Nat) (release : Nat) : ScheduleEntry := ⟨n, ⟨0, release + 9000⟩, ⟨0, release⟩, false⟩

def scheduling (n : Nat) : State :=
  { deskCar (car .parked) with calls.schedule := (List.range n).map fun k => entry (k + 100) 18000 }

theorem witness_ScheduleEntersInOrderOrIsRefused :
    (scheduling 63).Serves desk ∧ (scheduling 63).ticket 7 = some (car .parked) ∧
      (scheduling 63).calls.schedule.length < 64 ∧ (∀ e ∈ (scheduling 63).calls.schedule, e.ticket ≠ 7) ∧
      (scheduling 63).calls.schedule.Pairwise (fun a b => b.release.before a.release = false) ∧
      1 * 864000 + 0 ≤ (scheduling 63).now.tenths + 864000 ∧
      (scheduling 63).now.before (SiteTime.less ⟨1, 0⟩ (600 * (scheduling 63).params.leadTime)) = true ∧
      (scheduling 63).now.tenths + 864000 < 1 * 864000 + 1 ∧ 64 ≤ (scheduling 64).calls.schedule.length ∧
      (scheduling 64).Serves desk ∧ (scheduling 64).ticket 7 = some (car .parked) := by
  decide +kernel

theorem witness_CancelIsJudgedByState :
    (deskCar (car .scheduled)).Serves desk ∧ (deskCar (car .scheduled)).ticket 7 = some (car .scheduled) ∧
      (deskCar (car .called)).ticket 7 = some (car .called) ∧
      (deskCar { car .assigned with callPending := true }).ticket 7 = some { car .assigned with callPending := true } ∧
      (deskCar (car .staged)).ticket 7 = some (car .staged) ∧
      (deskCar (car .assigned)).ticket 7 = some (car .assigned) ∧ (car .assigned).callPending = false := by
  decide +kernel

/-- Group 63 with `n` members besides ticket 7. -/
def grouped (own : Option (Nat × Nat)) (n : Nat) : State :=
  (List.range n).foldl (fun s k => withCar { car .parked with number := k + 8, group := some (63, k + 1) } s)
    (deskCar { car .parked with group := own })

theorem witness_GroupsHoldFourInARing :
    (grouped none 3).Serves desk ∧ (grouped none 3).ticket 7 = some { car .parked with group := none } ∧
      ((grouped none 3).groupRing 63).length < 4 ∧ 4 ≤ ((grouped none 4).groupRing 63).length ∧
      (grouped (some (63, 1)) 2).ticket 7 = some { car .parked with group := some (63, 1) } := by
  decide +kernel

theorem witness_QuoteAskChangesOnlyTheReply :
    (deskCar (car .unplaced)).Serves desk ∧ (deskCar (car .unplaced)).ticket 7 = some (car .unplaced) ∧
      (deskCar (car .parked)).ticket 7 = some (car .parked) ∧ (deskCar (car .parked)).ticket 8 = none := by
  decide +kernel

theorem witness_QuotesAndEstimatesStayInBounds : 1 ≤ 900 ∧ 900 ≤ 900 ∧ 893 ≤ 900 + 7 ∧ 900 ≤ 893 + 7 := by decide

theorem witness_StatusMovesOnlyAFreeRunner :
    (atBase State.reset).Carries base 32 ∧ ((atBase State.reset).runner 32).state = .offDuty ∧
      (atBase State.reset).NoneQueued ∧ (holding .park (atBase State.reset)).Carries base 1 ∧
      ((holding .park (atBase State.reset)).runner 1).state = .tasked := by
  decide +kernel

/-- Ticket 7 in the state in which the kind of task is offered. -/
def offering (kind : TaskKind) (x : TicketState) : State := offeredTask kind (withCar (car x) (atBase State.reset))

theorem witness_AcceptanceStartsTheTask :
    ∀ p ∈ [(TaskKind.park, TicketState.assigned), (.fetch, .called), (.restage, .restaging)],
      (offering p.1 p.2).Carries base 1 ∧ (offering p.1 p.2).ticket 7 = some (car p.2) ∧
        ((offering p.1 p.2).dispatch.tasks.map (·.ticket)).Nodup ∧
        (offering p.1 p.2).task 7 = some ⟨p.1, 7, SiteTime.zero, [], .offered 1⟩ ∧
        ((offering p.1 p.2).runner 1).state = .offered ∧ ((offering p.1 p.2).runner 1).task = some (7, p.1) := by
  decide +kernel

/-- Runner 1 is offered a task and runner 2 holds another. -/
def declining : State :=
  (offering .park .assigned).setRunner 2 { Runner.atStart SiteTime.zero with state := .tasked, task := some (8, .park) }

/-- A badge above 32 names no runner record. -/
theorem no_runner_above_32 (s : State) (d : Nat) (h : 32 < d) : (s.runner d).state = .offDuty := by
  obtain ⟨k, rfl⟩ : ∃ k, d = k + 1 := ⟨d - 1, by omega⟩
  have : s.dispatch.runners[k]? = none := by simp [Config.runnerCount]; omega
  simp [State.runner, nth1, nth, this, Runner.atStart]

theorem witness_DeclineKeepsTheTaskInItsPlace :
    declining.Carries base 1 ∧ (declining.dispatch.tasks.map (·.ticket)).Nodup ∧
      declining.task 7 = some ⟨.park, 7, SiteTime.zero, [], .offered 1⟩ ∧ (declining.runner 1).state = .offered ∧
      (declining.runner 1).task = some (7, .park) ∧ declining.NoneQueued ∧ (declining.runner 2).onDuty = true ∧
      ∀ d, d ≠ 1 → (declining.runner d).state ≠ .ready := by
  refine ⟨by decide +kernel, by decide +kernel, by decide +kernel, by decide +kernel, by decide +kernel,
    by decide +kernel, by decide +kernel, fun d _ => ?_⟩
  by_cases h : 32 < d
  · rw [no_runner_above_32 _ _ h]; decide
  · have : ∀ d, d < 33 → (declining.runner d).state ≠ .ready := by decide +kernel
    exact this d (by omega)

theorem witness_OnlyTheHolderActsOnATask :
    (holding .park (atBase State.reset)).Carries base 1 ∧
      (((holding .park (atBase State.reset)).runner 1).task.map (·.1)) ≠ some 8 ∧
      (holding .park (atBase State.reset)).holdsTask 1 8 = false ∧
      ((holding .park (atBase State.reset)).ticket 8).map (·.state) ≠ some .atCurb := by
  decide +kernel

/-- Runner 1 holds a task of ticket 7, which is in a state with a stall. -/
def held (kind : TaskKind) (t : Ticket) (s : State) : State := holding kind (withCar t (atBase s))

def parking : Ticket := { car .parking with stall := some 12, runner := some 1 }

def stallFor7 (s : State) : State := withStall 12 (loaded .held (some 7)) (liftIdle s)

/-- `n` tenures wait at lift 1. -/
def queueing (n : Nat) (s : State) : State :=
  s.setLift 1 { s.lift 1 with
    state := .busy, queue := List.replicate n ⟨some 100, some 2, .up, 0, 2, .waiting, SiteTime.zero, 0⟩ }

def atLobbyState (waiting : Nat) : State := held .park parking (queueing waiting (stallFor7 State.reset))

/-- Lift 1 does not serve level 0. -/
def noLevel0 : State :=
  { atLobbyState 0 with params.servedLevels := setNth1 Params.cold.servedLevels 1 [1, 2] }

theorem witness_LobbyFilesTheRideOrIsRefused :
    (atLobbyState 31).Holds base 1 parking ∧ parking.state = .parking ∧ parking.stall = some 12 ∧
      ((atLobbyState 31).stall 12).site = some level2 ∧ (atLobbyState 31).hasTenure 7 = false ∧
      0 ∈ (atLobbyState 31).servedLevels 1 ∧ 2 ∈ (atLobbyState 31).servedLevels 1 ∧
      ((atLobbyState 31).lift 1).queue.length < 32 ∧ noLevel0.Holds base 1 parking ∧
      (noLevel0.stall 12).site = some level2 ∧ noLevel0.hasTenure 7 = false ∧ 0 ∉ noLevel0.servedLevels 1 ∧
      (atLobbyState 32).Holds base 1 parking ∧ ((atLobbyState 32).stall 12).site = some level2 ∧
      (atLobbyState 32).hasTenure 7 = false ∧ 32 ≤ ((atLobbyState 32).lift 1).queue.length := by
  decide +kernel

def fetching : Ticket := { car .fetching with stall := some 12, runner := some 1 }

def leaving : State := held .fetch fetching (withStall 12 (loaded .occupied (some 7)) (liftIdle State.reset))

theorem witness_DepartureFreesTheStall :
    leaving.Holds base 1 fetching ∧ fetching.state = .fetching ∧ fetching.stall = some 12 ∧
      (leaving.stall 12).site = some level2 ∧ 1 ≤ level2.lift ∧ leaving.occupiedBy 12 7 = true ∧
      leaving.hasTenure 7 = false ∧ leaving.unplaced = [] ∧ (∀ d ∈ leaving.tickets, d.restageWanted = false) := by
  decide +kernel

theorem witness_ParkedOccupiesTheHeldStall :
    (atLobbyState 0).Holds base 1 parking ∧ parking.state = .parking ∧ parking.callPending = false ∧
      parking.stall = some 12 ∧ ((atLobbyState 0).stall 12).site = some level2 ∧ (atLobbyState 0).heldFor 12 7 = true ∧
      (atLobbyState 0).hasTenure 7 = false := by
  decide +kernel

/-- The key of ticket 7 hangs on hook 575, the last of panel 9. -/
def keyed (custody : Custody) (panel : PanelState) : State :=
  let s := held .fetch { fetching with hook := some 575 } State.reset
  (s.setHook 575 { Hook.cold with custody, ticket := some 7 }).setPanel 9 { Panel.cold with state := panel }

theorem witness_KeyRequestReleasesTheKey :
    leaving.Holds base 1 fetching ∧ fetching.hook = none ∧
      (keyed .cabinet .faulted).Holds base 1 { fetching with hook := some 575 } ∧
      ((keyed .cabinet .faulted).panel (panelOf 575)).state = .faulted ∧
      (keyed .cabinet .suspect).Holds base 1 { fetching with hook := some 575 } ∧
      ((keyed .cabinet .suspect).panel (panelOf 575)).state ≠ .faulted ∧
      ((keyed .cabinet .suspect).hook 575).custody = .cabinet ∧
      (keyed .missing .suspect).Holds base 1 { fetching with hook := some 575 } ∧
      ((keyed .missing .suspect).hook 575).ticket = some 7 ∧
      ((keyed .missing .suspect).panel (panelOf 575)).state ≠ .faulted ∧
      ((keyed .missing .suspect).hook 575).custody = .missing ∧
      (keyed .out .suspect).Holds base 1 { fetching with hook := some 575 } ∧
      ((keyed .out .suspect).hook 575).custody ≠ .cabinet ∧ ((keyed .out .suspect).hook 575).custody ≠ .missing := by
  decide +kernel

/-- Ticket 7 stands AT_CURB on lane 1. -/
def delivered : Ticket := { car .atCurb with lane := some 1, runner := some 1 }

def curbState : State :=
  (held .fetch delivered State.reset).setLane 1 { Lane.cold with state := .occupied, ticket := some 7 }

theorem witness_HandoverClosesTheTicket : curbState.Holds base 1 delivered ∧ delivered.state = .atCurb := by
  decide +kernel

/-- Lift 1 carries a tenure of ticket 7. -/
def riding (direction : Direction) (x : TenureState) : Tenure :=
  { ticket := some 7, runner := some 1, direction, fromLevel := 2, toLevel := 0, state := x, requested := SiteTime.zero,
    passes := 0 }

def carrying (x : LiftState) (w : Option Tenure) (t : Ticket) : State :=
  (withCar t (atLift (liftIdle State.reset))).setLift 1 { Lift.cold with state := x, current := w, orderOwed := true }

def descending : Ticket := { car .descending with lift := some 1, laneRequest := some SiteTime.zero }

theorem witness_RideReportsFollowTheTenure :
    (carrying .busy (some (riding .down .granted)) descending).LiftSpeaks lift 1 ∧
      ((carrying .busy (some (riding .down .granted)) descending).lift 1).state = .busy ∧
      ((carrying .busy (some (riding .down .granted)) descending).lift 1).current = some (riding .down .granted) ∧
      ((carrying .busy (some (riding .down .riding)) descending).lift 1).current = some (riding .down .riding) ∧
      ((carrying .busy none descending).lift 1).current = none ∧ (carrying .idle none descending).LiftSpeaks lift 1 ∧
      ((carrying .idle none descending).lift 1).state ≠ .busy := by
  decide +kernel

theorem witness_UnloadingEndsTheRide :
    (carrying .busy (some (riding .down .riding)) descending).LiftSpeaks lift 1 ∧
      ((carrying .busy (some (riding .down .riding)) descending).lift 1).state = .busy ∧
      ((carrying .busy (some (riding .down .riding)) descending).lift 1).current = some (riding .down .riding) ∧
      (carrying .busy (some (riding .down .riding)) descending).ticket 7 = some descending ∧
      ((carrying .busy (some (riding .down .riding)) descending).lift 1).queue = [] ∧
      (carrying .busy (some (riding .up .riding)) parking).ticket 7 = some parking := by
  decide +kernel

theorem witness_ObstructionTurnsTheTenureBack :
    (carrying .busy (some (riding .down .granted)) descending).LiftSpeaks lift 1 ∧
      ((carrying .busy (some (riding .down .granted)) descending).lift 1).state = .busy ∧
      ((carrying .busy (some (riding .down .granted)) descending).lift 1).current = some (riding .down .granted) ∧
      (riding .down .granted).state = .granted ∧
      (carrying .busy (some (riding .down .granted)) descending).ticket 7 = some descending := by
  decide +kernel

theorem witness_FaultsHoldAndIdleRecovers :
    (carrying .unknown none descending).LiftSpeaks lift 1 ∧ ((carrying .unknown none descending).lift 1).state = .unknown ∧
      ((carrying .unknown none descending).lift 1).queue = [] ∧
      (carrying .fault (some (riding .down .riding)) descending).LiftSpeaks lift 1 ∧
      ((carrying .fault (some (riding .down .riding)) descending).lift 1).state = .fault ∧
      ((carrying .fault (some (riding .down .riding)) descending).lift 1).current = some (riding .down .riding) ∧
      ((carrying .busy (some (riding .down .granted)) descending).lift 1).current = some (riding .down .granted) ∧
      ((carrying .idle none descending).lift 1).state = .idle := by
  decide +kernel

/-- A DOWN tenure of ticket 7 waits at lift 1, which is IDLE. -/
def waitingDown : State :=
  let s := liftIdle (withCar fetching State.reset)
  s.setLift 1 { s.lift 1 with queue := [riding .down .waiting] }

/-- Lane 6, alone configured, is FREE; ticket 7 asks for a lane. -/
def laneAsked (x : TicketState) : State :=
  { withCar { descending with state := x } State.reset with
    params.laneConfigured := setNth1 Params.cold.laneConfigured 6 true }

theorem witness_GrantsFollowTheLimits :
    (waitingDown.lift 1).current = none ∧
      ((waitingDown.grantCheck 1).lift 1).current = some (riding .down .granted) ∧
      (laneAsked .staged).tickets.filter (·.wantsLane) = [{ descending with state := .staged }] ∧
      6 ∈ (laneAsked .staged).freeLanes ∧ descending.lift.getD 0 ∈ (laneAsked .staged).preferredLifts 6 ∧
      (∀ m ∈ (laneAsked .staged).freeLanes, descending.lift.getD 0 ∈ (laneAsked .staged).preferredLifts m → 6 ≤ m) ∧
      (laneAsked .staged).ticket 7 = some { descending with state := .staged } := by
  decide +kernel

/-- Lane 1 stands in a state, and its loop is heard. -/
def laneState (x : LaneState) (hold : Bool) : State :=
  (atLoop State.reset).setLane 1 { Lane.cold with state := x, turnbackHold := hold }

theorem witness_LaneReportsFollowTheLane :
    (laneState .free false).LaneSpeaks loop 1 ∧ ((laneState .free false).lane 1).state = .free ∧
      ((laneState .clearing false).lane 1).state = .clearing ∧ ((laneState .occupied false).lane 1).state = .occupied ∧
      (laneState .occupied false).NoLaneRequest ∧ (laneState .blocked true).LaneSpeaks loop 1 ∧
      ((laneState .blocked true).lane 1).state = .blocked ∧ ((laneState .blocked true).lane 1).turnbackHold = true ∧
      ((laneState .reserved false).lane 1).state = .reserved := by
  decide +kernel

/-- Lane 1 is reserved for ticket 7. -/
def reservedFor (t : Ticket) : State :=
  (withCar t (atLoop State.reset)).setLane 1 { Lane.cold with state := .reserved, ticket := some 7 }

theorem witness_LaneReportsFollowTheLane_reserved :
    (reservedFor (car .toCurb)).LaneSpeaks loop 1 ∧ ((reservedFor (car .toCurb)).lane 1).state = .reserved ∧
      ((reservedFor (car .toCurb)).lane 1).ticket = some 7 ∧
      (reservedFor (car .toCurb)).ticket 7 = some (car .toCurb) ∧
      (reservedFor { descending with lane := some 1 }).LaneSpeaks loop 1 ∧
      (reservedFor { descending with lane := some 1 }).ticket 7 = some { descending with lane := some 1 } ∧
      (reservedFor { descending with lane := some 1 }).freeLanes = [] := by
  decide +kernel

/-- Stall 280, at the hub's lower end, is FREE and was last seen EMPTY. -/
def sensing (pending : Option Mark) : State :=
  withStall 280 { loaded .free none with sensed := .empty, pending } (atHub State.reset)

theorem witness_SensorsChangeAStallOnAgreement :
    (sensing none).Hears hub ∧ (sensing none).classOf 9 = .sensorHub ∧
      ((sensing none).station 9).served = some (.stalls 280 311) ∧ ((sensing none).stall 280).state = .free ∧
      ((sensing none).stall 280).recheck = false ∧ ((sensing none).stall 280).sensed ≠ .occupied ∧
      ((sensing none).stall 280).pending ≠ some .occupied ∧
      ((sensing (some .occupied)).stall 280).pending = some .occupied ∧
      (atLoop State.reset).classOf 21 ≠ .sensorHub ∧ (atLoop State.reset).Hears loop := by
  decide +kernel

theorem witness_SensorsChangeAStallOnAgreement_outside :
    ∀ first last, ((sensing none).station 9).served = some (.stalls first last) → last < 312 ∨ 312 + 1 ≤ first := by
  intro first last h
  have : ((sensing none).station 9).served = some (.stalls 280 311) := by decide +kernel
  rw [this] at h
  cases h
  decide

theorem witness_TheCabinetIsScannedAndSampled_scan :
    State.reset.power.main = true ∧ State.reset.keys.scan.selected = none ∧ 1 ≤ State.reset.params.panelCount ∧
      State.reset.params.panelCount ≤ 9 := by
  decide

/-- 66 bits: one key at `h` of 64 hooks, position 63 first, then the door and the parity bit. -/
def oneKey (h : Nat) (parity : Bool) : PanelExchange :=
  ⟨true, (List.range 64).map (fun i => i == 63 - h) ++ [false, parity], some 0⟩

/-- Panel `p` is selected; the hooks of panel 1 are known to be empty. -/
def scanning (p bad : Nat) (pending : Option Bool) : State :=
  let s := { State.reset with
    keys.scan := { Scan.cold with selected := some p }
    keys.hooks := Vector.replicate _ { Hook.cold with accepted := .absent } }
  (s.setPanel p { Panel.cold with bad := bad }).setHook 63 { Hook.cold with accepted := .absent, pending }

/-- The last panel is `p`, with position 0 to be unlocked. -/
def unlocking (p : Nat) : State :=
  { scanning p 0 none with keys.scan.unlock := true :: List.replicate 63 false }

theorem witness_TheCabinetIsScannedAndSampled_out :
    let s := { unlocking 1 with keys.scan.remaining := [9] }
    (unlocking 9).power.main = true ∧ (unlocking 9).keys.scan.selected = some 9 ∧
      (unlocking 9).keys.scan.unlock.length = 64 ∧ s.power.main = true ∧ s.keys.scan.selected = some 1 ∧
      s.keys.scan.unlock.length = 64 ∧ s.keys.scan.remaining.head? = some 9 := by
  decide +kernel

theorem witness_TheCabinetIsScannedAndSampled :
    (scanning 9 2 none).power.main = true ∧ (scanning 9 2 none).keys.scan.selected = some 9 ∧
      9 ≤ (scanning 9 2 none).params.panelCount ∧ (oneKey 0 true).bits.length = 66 ∧
      (oneKey 0 true).bits.countP id % 2 = 0 ∧ (scanning 1 0 none).keys.scan.selected = some 1 ∧
      sampleGood (oneKey 63 false) = true ∧ ((scanning 1 0 none).panel 1).state ≠ .faulted ∧
      (∀ i, i < 64 → i ≠ 63 → (oneKey 63 false).bits.getD (63 - i) false = false) ∧
      (oneKey 63 false).bits.getD (63 - 63) false = true ∧
      (∀ i, i < 64 → i ≠ 63 → ((scanning 1 0 none).hook i).accepted = .absent ∧ ((scanning 1 0 none).hook i).pending = none) ∧
      ((scanning 1 0 none).hook 63).custody = .vacant ∧ ((scanning 1 0 none).hook 63).accepted = .absent ∧
      ((scanning 1 0 none).hook 63).pending = none ∧ ((scanning 1 0 (some true)).hook 63).pending = some true := by
  decide +kernel

theorem witness_ManagementNeedsItsPermission :
    (asked desk .desk ⟨false, true, true⟩ none State.reset).Hears desk ∧
      (asked desk .desk ⟨false, true, true⟩ none State.reset).classOf 4 = .desk ∧
      ((asked desk .desk ⟨false, true, true⟩ none State.reset).permissionsOf 4).manage = false ∧
      (atPodium State.reset).Hears podium ∧ (atPodium State.reset).classOf 12 ≠ .desk ∧
      (atDesk State.reset).Manages desk := by
  decide +kernel

theorem witness_ReadsAndTableLoadsChangeNoMore :
    (atDesk State.reset).Manages desk ∧ 3 < 4 ∧ 4 ≤ 4 ∧ 31 < 32 ∧ hubRule.low.toNat ≤ hubRule.high.toNat ∧
      passDestFits hubRule.destination = true ∧ 32 ≤ 32 ∧ 15 < 16 ∧ 29 < 30 ∧ actionFits (.latch 3) = true ∧
      ((subjectRange 29).1 ≤ 7 ∧ 7 ≤ (subjectRange 29).2) ∧ actionFits (.latch 4) = false := by
  decide +kernel

theorem witness_StationLoadsStoreTheRecord :
    (atDesk State.reset).Manages desk ∧ servedFits .lift (some (.lift 4)) = true ∧
      servedFits .lift (some (.lift 5)) = false ∧ servedFits .desk none = true ∧
      ((atDesk State.reset).station 4).segment = .curb ∧ ((atDesk State.reset).station 4).cls = .desk ∧
      ((atDesk State.reset).station 4).served = none ∧ ((atDesk State.reset).station 60).segment ≠ .deck := by
  decide +kernel

theorem witness_StallLoadsAndServiceFollowTheState :
    (atDesk State.reset).Manages desk ∧ 7 ∈ (atDesk State.reset).servedLevels 4 ∧
      ((atDesk State.reset).stall 639).state = .undefined ∧ (atDesk State.reset).unplaced = [] ∧
      (∀ c ∈ (atDesk State.reset).tickets, c.restageWanted = false) ∧
      ((stallFor7 (atDesk State.reset)).stall 12).state = .held ∧ (stallFor7 (atDesk State.reset)).Manages desk ∧
      ((oneStall (atDesk State.reset)).stall 12).state = .free ∧ (oneStall (atDesk State.reset)).Manages desk := by
  decide +kernel

/-- Hook 64, the first of panel 2, is bound. -/
def bound64 : State := (atDesk State.reset).setHook 64 { Hook.cold with custody := .expecting, ticket := some 7 }

theorem witness_ParametersAreClampedAndStored :
    (atDesk State.reset).Manages desk ∧ bound64.Manages desk ∧
      1 < bound64.params.panelCount ∧ bound64.params.panelCount ≤ 9 ∧ 64 * max 1 1 ≤ 64 ∧
      64 < 64 * bound64.params.panelCount ∧ (bound64.hook 64).isBound = true := by
  decide +kernel

/-- Channel 7 in a mode and state. -/
def timer (mode : TimerMode) (x : ChannelState) : Channel := { Channel.cold with mode, state := x, reload := 3 }

def withTimer (k : Nat) (c : Channel) (s : State) : State := s.setChannel k c

theorem witness_TimersStartAndStop :
    (atDesk State.reset).Manages desk ∧ ((atDesk State.reset).channel 7).mode = .off ∧
      (withTimer 7 (timer .delay .armed) (atDesk State.reset)).Manages desk ∧
      ((withTimer 7 (timer .delay .armed) (atDesk State.reset)).channel 7).state ≠ .stopped ∧
      ((withTimer 7 (timer .delay .armed) (atDesk State.reset)).channel 7).mode ≠ .off ∧
      ((withTimer 7 (timer .interval .stopped) (atDesk State.reset)).channel 7).mode = .interval ∧
      ((withTimer 7 (timer .interval .stopped) (atDesk State.reset)).channel 7).state = .stopped ∧
      ((withTimer 7 (timer .window .stopped) (atDesk State.reset)).channel 7).mode = .window ∧
      (withTimer 7 (timer .window .stopped) (atDesk State.reset)).ChannelsRight := by
  decide +kernel

theorem witness_TimerLoadsStoreTheSetup :
    (atDesk State.reset).Manages desk ∧ ((atDesk State.reset).channel 7).state = .stopped ∧
      ((withTimer 7 (timer .delay .armed) (atDesk State.reset)).channel 7).state ≠ .stopped := by
  decide +kernel

/-- Hook 575 carries a key that no ticket had; ticket 7 is PARKED in stall 12, with hook 3 or none. -/
def rebinding (own : Option Nat) (custody : Custody) : State :=
  let s := (atDesk State.reset).setHook 575 { Hook.cold with custody := .found }
  withCar { car .parked with hook := own } (s.setHook 3 { Hook.cold with custody, ticket := own.map fun _ => 7 })

def parked12 : Ticket := { car .parked with stall := some 12 }

def restaging (x : StallState) : State :=
  withCar parked12 (withStall 12 (loaded .occupied (some 7)) (withStall 639 (loaded x none) (liftIdle (atDesk State.reset))))

theorem witness_DeskMovesKeysAndCars :
    (rebinding none .vacant).Manages desk ∧ ((rebinding none .vacant).hook 575).custody = .found ∧
      (rebinding none .vacant).ticket 7 = some { car .parked with hook := none } ∧
      (rebinding (some 3) .missing).ticket 7 = some { car .parked with hook := some 3 } ∧
      ((rebinding (some 3) .missing).hook 3).custody = .missing ∧
      ((rebinding (some 3) .cabinet).hook 3).custody = .cabinet ∧
      (restaging .free).Manages desk ∧ (restaging .free).ticket 7 = some parked12 ∧
      ((restaging .free).stall 639).state = .free ∧ ((restaging .free).stall 12).site = some level2 ∧
      ((restaging .free).stall 639).site = some level2 ∧ (restaging .free).serviceable level2.lift = true ∧
      (restaging .free).task 7 = none ∧ (deskCar (car .called)).ticket 7 = some (car .called) ∧
      ((restaging .out).stall 639).state ≠ .free := by
  decide +kernel

/-- Ticket 7 is RESTAGING from stall 12 to 639 with its key OUT, held by runner 1. -/
def closing : State :=
  let t := { parked12 with state := .restaging, target := some 639, hook := some 3, runner := some 1, group := some (2, 1) }
  let s := withStall 12 (loaded .occupied (some 7)) (withStall 639 (loaded .held (some 7)) (liftIdle (atDesk State.reset)))
  (holding .restage (withCar t s)).setHook 3 { Hook.cold with custody := .out, ticket := some 7, runner := some 1 }

theorem witness_ForceCloseUndoesWhatTheTicketHolds : closing.Manages desk ∧ (closing.ticket 7).isSome = true := by
  decide +kernel

/-- The last tenth of the last day; hook 3 is RELEASED until day 1. -/
def midnight : State :=
  let s := (atDesk State.reset).setHook 3
    { Hook.cold with custody := .released, ticket := some 7, runner := some 1, releaseBy := some ⟨⟨1, 0⟩, false⟩ }
  { s with events.clock := ⟨65535, 863999⟩ }

/-- A counting channel of each kind, and hook 3 RELEASED until tenth 600. -/
def ticking : State :=
  let s := (atDesk State.reset).setHook 3
    { Hook.cold with custody := .released, ticket := some 7, runner := some 1, releaseBy := some ⟨⟨0, 600⟩, false⟩ }
  withTimer 0 { timer .interval .counting with counter := 2 }
    (withTimer 1 { timer .delay .counting with counter := 1 }
      (withTimer 2 { timer .capture .counting with counter := 65535 }
        (withTimer 3 { timer .interval .counting with clock := .event, clockSource := some 0, counter := 1 } s)))

theorem witness_TheClockIsSetAndTicks :
    ticking.Manages desk ∧ ticking.Quiet ∧ ticking.now.before ⟨0, 600⟩ = true ∧ ticking.now.before ⟨0, 0⟩ = false ∧
      (ticking.hook 3).custody = .released ∧ (ticking.hook 3).releaseBy = some ⟨⟨0, 600⟩, false⟩ ∧
      SiteTime.notAfter ⟨0, 600⟩ ⟨0, 600⟩ = true ∧ ticking.now.tenth < 863999 ∧ midnight.power.main = true ∧
      midnight.Quiet ∧ midnight.now.tenth = 863999 ∧ (ticking.channel 0).state = .counting ∧
      2 ≤ (ticking.channel 0).counter ∧ (ticking.channel 1).counter ≤ 1 ∧ (ticking.channel 2).mode = .capture ∧
      (ticking.channel 3).clock = .event := by
  decide +kernel

/-- A deadline of each owner, reached or not. -/
def deadlines (reached : Bool) : State :=
  let d : Deadline := ⟨⟨0, 0⟩, reached⟩
  let s := withStall 639 { loaded .occupied (some 7) with sensed := .empty, confirmBy := some d } State.reset
  let s := s.setHook 575 { Hook.cold with custody := .released, ticket := some 7, runner := some 1, releaseBy := some d }
  let s := s.setLane 6 { Lane.cold with state := .clearing, clearingBy := some d }
  s.setChannel 7 { timer .delay .armed with drive := true, pulseEnd := some d }

theorem witness_ReachedDeadlinesAreTaken :
    (deadlines true).power.main = true ∧ ((deadlines true).stall 639).confirmBy = some ⟨⟨0, 0⟩, true⟩ ∧
      ((deadlines true).hook 575).custody = .released ∧ ((deadlines true).hook 575).releaseBy = some ⟨⟨0, 0⟩, true⟩ ∧
      ((deadlines true).lane 6).state = .clearing ∧ ((deadlines true).lane 6).clearingBy = some ⟨⟨0, 0⟩, true⟩ ∧
      (deadlines true).NoLaneRequest ∧ ((deadlines true).channel 7).pulseEnd = some ⟨⟨0, 0⟩, true⟩ ∧
      ((deadlines false).stall 639).confirmBy = some ⟨⟨0, 0⟩, false⟩ ∧
      ((deadlines false).hook 575).releaseBy = some ⟨⟨0, 0⟩, false⟩ ∧
      ((deadlines false).lane 6).clearingBy = some ⟨⟨0, 0⟩, false⟩ ∧
      ((deadlines false).channel 7).pulseEnd = some ⟨⟨0, 0⟩, false⟩ := by
  decide +kernel

/-- Runner 32 has let an offer pass. -/
def unanswered : State :=
  let s := (withCar (car .assigned) State.reset).setRunner 32 { Runner.atStart SiteTime.zero with
    state := .offered, task := some (7, .park), base := some 20, offerBy := some ⟨⟨0, 0⟩, true⟩ }
  { s with dispatch.tasks := [⟨.park, 7, SiteTime.zero, [], .offered 32⟩] }

/-- Ticket 7 has stood AT_CURB for the curb hold of 10 minutes. -/
def waiting : Ticket := { car .atCurb with overduePending := true, atCurbAt := some SiteTime.zero }

def overdueNow : State := { withCar waiting State.reset with events.clock := ⟨0, 6000⟩ }

/-- The release time of ticket 7's entry has come. -/
def releasing : State :=
  { withCar (car .scheduled) State.reset with calls.schedule := [entry 100 1, { entry 7 1 with reached := true }] }

theorem witness_ExpiredTimesActOnTheirRecords :
    unanswered.power.main = true ∧ (unanswered.runner 32).state = .offered ∧
      (unanswered.runner 32).task = some (7, .park) ∧ (unanswered.runner 32).offerBy = some ⟨⟨0, 0⟩, true⟩ ∧
      unanswered.task 7 = some ⟨.park, 7, SiteTime.zero, [], .offered 32⟩ ∧ overdueNow.power.main = true ∧
      overdueNow.ticket 7 = some waiting ∧ waiting.overduePending = true ∧
      (SiteTime.zero.plusSeconds (60 * overdueNow.params.curbHold)).notAfter overdueNow.now = true ∧
      releasing.power.main = true ∧ releasing.calls.schedule.find? (·.reached) = some { entry 7 1 with reached := true } ∧
      releasing.ticket 7 = some (car .scheduled) ∧ releasing.task 7 = none := by
  decide +kernel

/-- Channel 1 has a step due; channel 7 is an ARMED WINDOW of it. -/
def expiring (mode : TimerMode) : State :=
  withTimer 7 { timer .window .armed with master := some 1 }
    (withTimer 1 { timer mode .counting with counter := 1, due := true, drive := mode == .window } State.reset)

theorem witness_ExpiriesFollowTheMode :
    (expiring .interval).power.main = true ∧ ((expiring .interval).channel 1).mode = .interval ∧
      ((expiring .interval).channel 1).due = true ∧ ((expiring .interval).channel 7).mode = .window ∧
      ((expiring .interval).channel 7).master = some 1 ∧ ((expiring .interval).channel 7).state = .armed ∧
      ((expiring .delay).channel 1).mode = .delay ∧ ((expiring .delay).channel 1).due = true ∧
      ((expiring .window).channel 1).mode = .window ∧ ((expiring .window).channel 1).due = true ∧
      (State.reset.channel 7).due = false := by
  decide +kernel

/-- Two events wait; source 29 has an OPEN mask, and a route fills latch 3 with its events. -/
def eventful : State :=
  let s := atDesk State.reset
  { s with
    events.waiting := [⟨.timer 7, 7⟩, ⟨.arrival, 7⟩]
    events.masks := setNth s.events.masks 29 true
    events.routes := setNth s.events.routes 15 ⟨29, some 7, .latch 3⟩
    events.latches := setNth s.events.latches 0 (some ⟨SiteTime.zero, .arrival, 1, false⟩) }

theorem witness_EventsAreTakenInOrder :
    eventful.power.main = true ∧ eventful.events.waiting = ⟨.timer 7, 7⟩ :: [⟨.arrival, 7⟩] ∧
      (Source.timer 7).num < 30 ∧ eventful.flag 29 = false ∧ eventful.maskOpen 29 = true ∧
      (eventful.station 4).permissions.notice = true ∧
      nth eventful.events.latches 0 none = some ⟨SiteTime.zero, .arrival, 1, false⟩ ∧
      nth eventful.events.latches 3 none = none ∧
      (nth eventful.events.routes 15 Route.cold).isMatch ⟨.timer 7, 7⟩ = true ∧
      (nth eventful.events.routes 15 Route.cold).action = .latch 3 ∧ eventful.maskOpen 0 = false := by
  decide +kernel

/-! ### What meets the further clauses of the statements -/

/-- Ticket 7 is RESTAGING from stall 12 to 639 with its key OUT and a call pending; a ticket stands AT_CURB on lane 1. -/
def stored : State :=
  let t : Ticket := { car .restaging with
    stall := some 12, target := some 639, hook := some 3, runner := some 1, callPending := true
    calledAt := some SiteTime.zero }
  let s := withStall 12 (loaded .occupied (some 7)) (withStall 639 (loaded .held (some 7)) noPower)
  let s := (withCar t s).setHook 3 { Hook.cold with custody := .out, ticket := some 7, runner := some 1 }
  let s := withCar { car .atCurb with number := 8, hook := some 4, lane := some 1, atCurbAt := some SiteTime.zero } s
  s.setHook 4 { Hook.cold with custody := .released, ticket := some 8, runner := some 2 }

theorem no_lane_configured (s : State) (h : s.params.laneConfigured = Vector.replicate _ false) (n : Nat) :
    s.laneConfigured n = false := by
  unfold State.laneConfigured
  rw [h]
  cases n with
  | zero => rfl
  | succ k =>
    simp only [nth1, nth, Vector.getElem?_replicate]
    split <;> rfl

theorem witness_StartsFollowTheMemory_tables :
    stored.power.main = false ∧ stored.power.written = true ∧ stored.power.dropout = false ∧ stored.NothingHandedOn ∧
      stored.HeldAsTarget 639 ∧ (stored.stall 12).state ≠ .held ∧ (stored.hook 3).custody = .out ∧
      (stored.hook 4).custody = .released ∧ (stored.hook 5).custody = .vacant :=
  ⟨by decide, by decide, by decide,
    ⟨by decide +kernel, by decide +kernel, no_lane_configured _ (by decide +kernel), by decide +kernel⟩,
    ⟨by decide +kernel, 7, _, by decide +kernel, rfl, by decide +kernel, by decide +kernel⟩,
    by decide +kernel, by decide +kernel, by decide +kernel, by decide +kernel⟩

/-- A ring of three: ticket 7 in the last place. -/
def ring : State := grouped (some (63, 3)) 2

theorem ring_groupsRight : ring.GroupsRight :=
  State.groupsRight_of (by decide +kernel) (by decide +kernel) (by decide +kernel)

theorem witness_EveryStepKeepsGroupsAndRecords :
    ring.GroupsRight ∧
      step { ring with pending := [.forceClose desk (.fields 8)] } = .next (after (.forceClose desk (.fields 8)) ring) :=
  ⟨ring_groupsRight, by rfl⟩

theorem witness_PresenceAloneOrNothing_base :
    (atBase State.reset).Hears base ∧ (atBase State.reset).classOf base.source = .runnerBase ∧
      (Instr.unhandledKind base (.badPayload .taskAccept)).wellFormed = true ∧
      (atLift State.reset).Hears lift ∧ (atLift State.reset).classOf lift.source ≠ .runnerBase := by
  decide +kernel

/-- Station `a` has missed two polls. -/
def missedTwice (a : Nat) (s : State) : State := s.setStation a { s.station a with silent := 2 }

/-- A second station of lift 1, which is PRESENT. -/
def twoStations : State :=
  twoMisses.setStation 32 { twoMisses.station 31 with presence := .present, silent := 0 }

theorem witness_MissesMakeAStationAbsent_handedOn :
    (missedTwice 9 (atHub State.reset)).classOf 9 = .sensorHub ∧
      ((missedTwice 9 (atHub State.reset)).port .deck).phase = .window 9 ∧
      ((missedTwice 9 (atHub State.reset)).station 9).served = some (.stalls 280 311) ∧
      ((missedTwice 20 (offering .park .assigned)).port .curb).phase = .window 20 ∧
      2 ≤ ((missedTwice 20 (offering .park .assigned)).station 20).silent ∧
      (missedTwice 20 (offering .park .assigned)).classOf 20 = .runnerBase ∧
      ((missedTwice 20 (offering .park .assigned)).runner 1).base = some 20 ∧
      ((missedTwice 20 (offering .park .assigned)).runner 1).state = .offered ∧
      ((missedTwice 20 (offering .park .assigned)).runner 1).task = some (7, .park) ∧
      ((missedTwice 20 (holding .park (atBase State.reset))).runner 1).state ≠ .offered ∧
      twoMisses.classOf 31 = .lift ∧ (twoMisses.station 31).served = some (.lift 1) ∧
      (∀ b, b < 61 → b ≠ 31 → (twoMisses.station b).cls ≠ .lift) ∧
      twoStations.classOf 31 = .lift ∧ (twoStations.station 32).served = some (.lift 1) ∧
      (twoStations.station 32).presence ≠ .absent ∧ 2 ≤ (twoStations.station 31).silent ∧
      (missedTwice 21 (reservedFor (car .toCurb))).classOf 21 = .laneLoop ∧
      ((missedTwice 21 (reservedFor (car .toCurb))).station 21).served = some (.lane 1) ∧
      ((missedTwice 21 (reservedFor (car .toCurb))).lane 1).state = .reserved ∧
      ((missedTwice 21 (reservedFor (car .toCurb))).lane 1).ticket = some 7 ∧
      (missedTwice 21 (reservedFor (car .toCurb))).ticket 7 = some (car .toCurb) ∧
      (missedTwice 21 (reservedFor (car .toCurb))).freeLanes = [] := by
  decide +kernel

/-- The rule of the switch has another verdict. -/
def judgedBy (v : Verdict) : State :=
  { switching 31 with links.passTable := setNth (switching 31).links.passTable 3 (some { hubRule with verdict := v }) }

/-- The rule passes broadcasts. -/
def broadcasting : State :=
  { switching 31 with
    links.passTable := setNth (switching 31).links.passTable 3 (some { hubRule with destination := .broadcast }) }

theorem witness_RoutedFramesFollowTheFirstRule_ways :
    (∀ d ∈ [9, 50, 63, 64, 255], judge (.bytes (frameBytes (ownFrameFrom d 9 0x40#8))) =
      .good (ownFrameFrom d 9 0x40#8)) ∧
      (switching 31).onPort .deck 9 = true ∧ (switching 31).onPort .deck 50 = false ∧
      (switching 31).onPort .curb 50 = false ∧ (ownFrameFrom 63 9 0x40#8).destination.toNat = 63 ∧
      broadcasting.verdict .deck (ownFrameFrom 63 9 0x40#8) = .forward ∧ 64 ≤ (ownFrameFrom 64 9 0x40#8).destination.toNat ∧
      (∀ v ∈ [Verdict.forward, .snoopForward, .absorb, .drop], (judgedBy v).Hears hub ∧
        (judgedBy v).verdict .deck crossing = v) := by
  decide +kernel

/-- The curb port at its transmit opportunity, with a marker of each class and the class position before it. -/
def owing (c : OwnClass) : State :=
  let s := asked ⟨.curb, 40⟩ .display ⟨false, false, false⟩ none (atBase opportunity)
  let s := asked ⟨.curb, 31⟩ .lift ⟨false, false, false⟩ (some (.lift 1)) (s.oweManage 4 false .readFlags .done .empty none)
  let s := s.setRunner 1 { Runner.atStart SiteTime.zero with base := some 20, owed := some (.withdraw 7),
                                                             reply := some ⟨.parked, some 7, .done, false⟩ }
  let s := s.setStation 4 { s.station 4 with noticeMark := true }
  let s := s.setStation 31 { s.station 31 with orderMark := true }
  let s := s.setStation 40 { s.station 40 with boardMark := true, vacancyMark := true }
  let s := s.setLift 1 { Lift.cold with state := .busy, current := some (riding .down .granted), orderOwed := true }
  s.setPort .curb { s.port .curb with phase := .opportunity, classPosition := c }

theorem witness_OpportunitySendsAtMostTwoFrames_classes :
    (owing .boards).ServedNext .curb .serviceReplies 4 ∧ (owing .serviceReplies).ServedNext .curb .manageReplies 4 ∧
      (owing .manageReplies).ServedNext .curb .runnerFrames 20 ∧ (owing .runnerFrames).ServedNext .curb .liftOrders 31 ∧
      (owing .liftOrders).ServedNext .curb .notices 4 ∧ (owing .notices).ServedNext .curb .boards 40 :=
  ⟨State.nextOwn_servedNext (by decide +kernel), State.nextOwn_servedNext (by decide +kernel),
    State.nextOwn_servedNext (by decide +kernel), State.nextOwn_servedNext (by decide +kernel),
    State.nextOwn_servedNext (by decide +kernel), State.nextOwn_servedNext (by decide +kernel)⟩

theorem witness_OpportunitySendsAtMostTwoFrames_markers :
    (∀ c ∈ ownClasses, (owing c).power.main = true ∧ ((owing c).port .curb).phase = .opportunity) ∧
      ((owing .boards).station 4).serviceReply.isSome = true ∧ ((owing .boards).station 4).manageReply.isSome = true ∧
      (owing .boards).owedVia 20 1 = true ∧ ((owing .boards).runner 1).owed = some (.withdraw 7) ∧
      ((owing .boards).station 31).served = some (.lift 1) ∧
      ((owing .boards).lift 1).current = some (riding .down .granted) ∧ ((owing .boards).station 40).boardMark = true := by
  decide +kernel

/-- The only marker is the order of lift 1, whose tenure is RIDING. -/
def staleOrder : State :=
  let s := atLift State.reset
  let s := s.setStation 31 { s.station 31 with orderMark := true }
  let s := s.setLift 1 { Lift.cold with state := .busy, current := some (riding .down .riding), orderOwed := true }
  s.setPort .deck { s.port .deck with phase := .opportunity }

theorem witness_OpportunitySendsAtMostTwoFrames_staleOrder :
    staleOrder.power.main = true ∧ (staleOrder.port .deck).phase = .opportunity ∧
      (riding .down .riding).state ≠ .granted ∧ (staleOrder.lift 1).current = some (riding .down .riding) ∧
      staleOrder.servable .deck .liftOrders 31 = true ∧ (staleOrder.station 31).served = some (.lift 1) ∧
      (∀ c ∈ ownClasses, ∀ a, a < 61 → staleOrder.servable .deck c a = true → c = .liftOrders ∧ a = 31) := by
  decide +kernel

theorem witness_CallOfAParkedCarMakesAFetchTask_group :
    ring.Serves desk ∧ ring.GroupsRight ∧ ring.ticket 7 = some { car .parked with group := some (63, 3) } ∧
      (ring.ticket 8).map (·.group) = some (some (63, 1)) ∧ (ring.ticket 9).map (·.state) = some .parked :=
  ⟨by decide +kernel, ring_groupsRight, by decide +kernel, by decide +kernel, by decide +kernel⟩

/-- Ticket 7 is ASSIGNED stall 12, its PARK task in a place. -/
def assignedHeld (place : TaskPlace) : State :=
  let s := stallFor7 (deskCar { car .assigned with stall := some 12 })
  let s := s.setRunner 2 { Runner.atStart SiteTime.zero with
    state := .offered, task := some (7, .park), base := some 20, offerBy := some ⟨⟨0, 200⟩, false⟩ }
  { s with dispatch.tasks := [⟨.park, 7, SiteTime.zero, [], place⟩] }

theorem witness_CallsOutsideTheStallsWait_assigned :
    ∀ place ∈ [TaskPlace.queued, .offered 2], (assignedHeld place).Serves desk ∧
      (assignedHeld place).ticket 7 = some { car .assigned with stall := some 12 } ∧
      ((assignedHeld place).stall 12).site = some level2 ∧ (assignedHeld place).heldFor 12 7 = true ∧
      (assignedHeld place).unplaced = [] ∧ (∀ d ∈ (assignedHeld place).tickets, d.restageWanted = false) ∧
      (assignedHeld place).task 7 = some ⟨.park, 7, SiteTime.zero, [], place⟩ ∧
      (∀ v ∈ (assignedHeld place).dispatch.tasks, v.place ≠ .backlog ∧ v.ticket = 7) := by
  decide +kernel

/-- A tenure that has been passed `passes` times. -/
def waitingUp (fromLevel passes : Nat) : Tenure :=
  { ticket := some (100 + fromLevel), runner := some 2, direction := .up, fromLevel, toLevel := 5, state := .waiting,
    requested := SiteTime.zero, passes }

/-- Lift 1 is IDLE at level 0; two tenures stand before one that starts there. -/
def choosing (passes : Nat) : State :=
  let s := liftIdle State.reset
  s.setLift 1 { s.lift 1 with queue := [waitingUp 3 0, waitingUp 4 passes, waitingUp 0 0] }

theorem witness_GrantsFollowTheLimits_choice :
    (∀ n ∈ [2, 3], (choosing n).liftConfigured 1 = true ∧ ((choosing n).lift 1).state = .idle ∧
      ((choosing n).lift 1).current = none ∧ ((choosing n).lift 1).queue ≠ [] ∧ (choosing n).params.parkSkip = 2) ∧
      (((choosing 2).grantCheck 1).lift 1).current = some { waitingUp 0 0 with state := .granted } ∧
      (((choosing 2).grantCheck 1).lift 1).queue.map (·.passes) = [1, 3] ∧
      (((choosing 3).grantCheck 1).lift 1).current = some { waitingUp 3 0 with state := .granted } ∧
      State.reset.liftConfigured 1 = false := by
  decide +kernel

/-- Stall 280 of the reporting hub has a record. -/
def sensingAs (r : Stall) : State := withStall 280 r (withCar { car .parked with stall := some 280 } (atHub State.reset))

/-- Seen as another value, with the mark `m` pending. -/
def about (x : StallState) (m : Mark) (recheck : Bool) : Stall :=
  { loaded x (some 7) with sensed := if m = .occupied then .empty else .occupied, pending := some m, recheck }

theorem witness_SensorsChangeAStallOnAgreement_clauses :
    (∀ x ∈ [StallState.held, .occupied, .undefined, .blocked, .out, .free], ∀ m ∈ [Mark.occupied, .empty],
      (sensingAs (about x m false)).Hears hub ∧ ((sensingAs (about x m false)).stall 280).state = x ∧
      ((sensingAs (about x m false)).stall 280).pending = some m ∧
      ((sensingAs (about x m false)).stall 280).sensed ≠ (if m = .occupied then .occupied else .empty)) ∧
      ((sensingAs (about .occupied .empty false)).stall 280).ticket = some 7 ∧
      ((sensingAs (about .occupied .empty false)).ticket 7).map (·.state) = some .parked ∧
      (sensingAs (about .occupied .empty false)).unplaced = [] ∧
      (∀ d ∈ (sensingAs (about .occupied .empty false)).tickets, d.restageWanted = false) ∧
      ((withCar { car .fetching with number := 9 } (sensingAs { about .occupied .empty false with ticket := some 9 })).ticket
        9).map (·.state) = some .fetching ∧
      ((sensingAs { about .free .empty true with pending := none }).stall 280).sensed = .occupied ∧
      ((sensingAs { about .free .empty true with pending := none }).stall 280).recheck = true ∧
      ((sensingAs { about .out .empty true with pending := none }).stall 280).state ≠ .free := by
  decide +kernel

/-- Hook 0 of panel 1 has a custody, and its bit is about to be accepted as `bit`. -/
def accepting (custody : Custody) (bit : Bool) : State :=
  let s := withCar { car .parked with hook := if custody = .found then none else some 0 } (scanning 1 0 none)
  (s.setHook 63 { Hook.cold with accepted := .absent }).setHook 0
    { Hook.cold with custody, ticket := some 7, accepted := if bit then .absent else .present, pending := some bit }

theorem witness_TheCabinetIsScannedAndSampled_custody :
    (∀ c ∈ [Custody.vacant, .expecting, .out, .missing, .cabinet, .released, .found], ∀ bit ∈ [true, false],
      (accepting c bit).power.main = true ∧ (accepting c bit).keys.scan.selected = some 1 ∧
        ((accepting c bit).panel 1).state ≠ .faulted ∧ ((accepting c bit).hook 0).custody = c ∧
        ((accepting c bit).hook 0).pending = some bit) ∧
      (∀ i, i < 64 → i ≠ 0 → ((accepting .found false).hook i).pending = none ∧
        ((accepting .found false).hook i).accepted = .absent) ∧
      sampleGood (oneKey 0 false) = true ∧
      sampleGood { oneKey 0 true with bits := List.replicate 65 false ++ [true] } = true ∧
      (accepting .missing true).ticket 7 = some { car .parked with hook := some 0 } ∧
      (accepting .found false).tickets.filter (·.hook == none) = [{ car .parked with hook := none }] := by
  decide +kernel

theorem witness_ManagementNeedsItsPermission_requests :
    manageRequest (.startTimer desk .tooShort) = some (desk, .startTimer, .tooShort) ∧
      manageRequest (.readFlags desk) = some (desk, .readFlags, .empty) ∧
      manageRequest (.manageUnknownKind desk (some 255)) = some (desk, .unknown (some 255), .empty) := by
  decide

theorem witness_StallLoadsAndServiceFollowTheState_clauses :
    (∀ x ∈ [StallState.free, .blocked, .out, .held, .occupied],
      ((withStall 639 (loaded x none) (atDesk State.reset)).stall 639).state = x ∧
      (withStall 639 (loaded x none) (atDesk State.reset)).Manages desk ∧
      (withStall 639 (loaded x none) (atDesk State.reset)).unplaced = [] ∧
      (∀ c ∈ (withStall 639 (loaded x none) (atDesk State.reset)).tickets, c.restageWanted = false)) ∧
      0 ∉ noLevel0.servedLevels 1 ∧ (atDesk noLevel0).Manages desk := by
  decide +kernel

/-- Ticket 7 waits in the unplaced list, and stall 12 is FREE above its reserve. -/
def listed : State := { oneStall (atDesk (withCar (car .unplaced) State.reset)) with unplaced := [7] }

/-- Ticket 7 has stood AT_CURB for five minutes. -/
def curbCar : State :=
  { withCar { car .atCurb with overduePending := true, atCurbAt := some SiteTime.zero } (atDesk State.reset) with
    events.clock := ⟨0, 3000⟩ }

/-- No hook is bound after a cold start. -/
theorem reset_hook (h : Nat) : State.reset.hook h = Hook.cold := by
  show (Vector.replicate Config.hookCount Hook.cold)[h]?.getD Hook.cold = Hook.cold
  rw [Vector.getElem?_replicate]
  split <;> rfl

theorem witness_ParameterChangesAreHandedOn_numbers :
    (∀ h, h < 576 → ((atDesk State.reset).hook h).isBound = false) ∧ (atDesk State.reset).Manages desk ∧
      (atDesk State.reset).unplaced = [] ∧
      (atDesk State.reset).params.storeNumber 12 5 ≠ (atDesk State.reset).params ∧
      { listed with params := listed.params.storeNumber 15 63 }.placement (car .unplaced) false = some (12, false) ∧
      listed.params.storeNumber 15 63 ≠ listed.params ∧ listed.Manages desk ∧ listed.ticket 7 = some (car .unplaced) ∧
      curbCar.Manages desk ∧ 5 ≠ curbCar.params.curbHold ∧
      (SiteTime.zero.plusSeconds (60 * 5)).notAfter curbCar.now = true ∧
      (SiteTime.zero.plusSeconds (60 * 6)).notAfter curbCar.now = false ∧
      8 ≠ (atDesk State.reset).params.panelCount ∧
      (atDesk State.reset).tickets = [] :=
  ⟨fun h _ => congrArg Hook.isBound (reset_hook h), by decide +kernel⟩

/-- Lift 1 is IDLE, but not configured. -/
def unset (queue : List Tenure) (s : State) : State := (atDesk s).setLift 1 { Lift.cold with state := .idle, queue }

/-- Ticket 7 asks for a lane; lane 6 is FREE, but not configured. -/
def laneUnset : State :=
  atDesk { withCar { descending with state := .staged } State.reset with
    params.preferredLifts := setNth1 Params.cold.preferredLifts 6 [1] }

/-- Lane 1 is configured and reserved for ticket 7. -/
def laneSet : State :=
  atDesk { reservedFor (car .toCurb) with params.laneConfigured := setNth1 Params.cold.laneConfigured 1 true }

theorem witness_ParameterChangesAreHandedOn_flags :
    (atDesk State.reset).liftConfigured 4 = false ∧ ((atDesk State.reset).lift 4).state ≠ .idle ∧
      ((atDesk State.reset).lift 4).state ≠ .busy ∧ (unset [waitingUp 0 0] State.reset).Manages desk ∧
      ((unset [waitingUp 0 0] State.reset).lift 1).queue = [waitingUp 0 0] ∧
      (unset [waitingUp 0 0] State.reset).liftConfigured 1 = false ∧ (waitingUp 0 0).direction = .up ∧
      (unset [] { listed with params := Params.cold }).Manages desk ∧
      (unset [] { listed with params := Params.cold }).liftConfigured 1 = false ∧
      { unset [] { listed with params := Params.cold } with params := Params.cold.storeFlag 36 true }.placement
        (car .unplaced) false = some (12, false) ∧
      (atDesk State.reset).NoLaneRequest ∧ laneUnset.Manages desk ∧ laneUnset.laneConfigured 6 = false ∧
      (laneUnset.lane 6).state = .free ∧ laneUnset.freeLanes = [] ∧
      laneUnset.tickets.filter (·.wantsLane) = [{ descending with state := .staged }] ∧
      laneUnset.ticket 7 = some { descending with state := .staged } ∧ laneSet.Manages desk ∧
      laneSet.laneConfigured 1 = true ∧ (laneSet.lane 1).state = .reserved ∧ (laneSet.lane 1).ticket = some 7 ∧
      laneSet.ticket 7 = some (car .toCurb) ∧ laneSet.freeLanes = [] := by
  decide +kernel

/-- Channels counting seconds and ten seconds, before and at the end of their periods. -/
def slow (elapsed : Nat) : State :=
  withTimer 0 { timer .delay .counting with clock := .second, counter := 2, elapsed }
    (withTimer 1 { timer .window .counting with clock := .tenSeconds, counter := 1, elapsed } State.reset)

theorem witness_TheClockIsSetAndTicks_slow :
    (∀ n ∈ [8, 9, 99], (slow n).power.main = true ∧ (slow n).Quiet) ∧ ((slow 8).channel 0).elapsed + 1 < 10 ∧
      10 ≤ ((slow 9).channel 0).elapsed + 1 ∧ ((slow 9).channel 1).elapsed + 1 < 100 ∧
      100 ≤ ((slow 99).channel 1).elapsed + 1 ∧ ((slow 99).channel 1).counter ≤ 1 := by
  decide +kernel

theorem witness_ExpiredTimesActOnTheirRecords_early :
    (withCar waiting State.reset).power.main = true ∧ (withCar waiting State.reset).ticket 7 = some waiting ∧
      waiting.atCurbAt = some SiteTime.zero ∧
      (SiteTime.zero.plusSeconds (60 * (withCar waiting State.reset).params.curbHold)).notAfter
        (withCar waiting State.reset).now = false ∧
      (withCar (car .parked) State.reset).ticket 7 = some (car .parked) ∧ (car .parked).overduePending = false := by
  decide +kernel

/-- Channel 1 has a step due; channel 7 is a COUNTING WINDOW of it, channel 6 a STOPPED one. -/
def expiringOpen (mode : TimerMode) : State :=
  withTimer 6 { timer .window .stopped with master := some 1 }
    (withTimer 7 { timer .window .counting with master := some 1, counter := 2, drive := true } (expiring mode))

theorem witness_ExpiriesFollowTheMode_open :
    ∀ m ∈ [TimerMode.interval, .delay], (expiringOpen m).power.main = true ∧ ((expiringOpen m).channel 1).due = true ∧
      ((expiringOpen m).channel 7).state = .counting ∧ ((expiringOpen m).channel 7).master = some 1 ∧
      ((expiringOpen m).channel 6).state = .stopped ∧ ((expiringOpen m).channel 5).mode ≠ .window := by
  decide +kernel

/-- ARRIVAL waits to be taken; one route of it acts, and channel 2 has a record. -/
def routed (action : RouteAction) (c : Channel) (e : Event) : State :=
  let s := withTimer 2 c State.reset
  { s with events.waiting := [e], events.routes := setNth State.reset.events.routes 5 ⟨e.source.num, none, action⟩ }

theorem witness_RoutedEventsDriveTheChannels :
    (∀ e ∈ [(⟨.arrival, 7⟩ : Event), ⟨.timer 0, 0⟩], ∀ a ∈ [RouteAction.timerStart 2, .timerStop 2],
      (routed a (timer .capture .counting) e).power.main = true ∧
      (routed a (timer .capture .counting) e).events.waiting = e :: [] ∧
      (routed a (timer .capture .counting) e).routesOf e = [⟨e.source.num, none, a⟩] ∧
      ∀ j, j < 8 → ((routed a (timer .capture .counting) e).channel j).clock ≠ .event) ∧
      (Source.timer 0).isTimer = true ∧ Source.arrival.isTimer = false ∧
      (∀ n ∈ [7, 65535], (({ timer .capture .counting with counter := n, target := .taskMean } : Channel).state =
        .counting)) := by
  decide +kernel

/-- Channel 2 counts UNPLACED events. -/
def counting (mode : TimerMode) (n : Nat) : Channel :=
  { timer mode .counting with clock := .event, clockSource := some 1, counter := n }

theorem witness_RoutedEventsDriveTheChannels_counted :
    (∀ m ∈ [TimerMode.interval, .delay, .window, .capture], ∀ n ∈ [1, 2],
      (routed .none (counting m n) ⟨.unplaced, 7⟩).power.main = true ∧
      ((routed .none (counting m n) ⟨.unplaced, 7⟩).channel 2).clockSource = some Source.unplaced.num ∧
      (∀ j, j < 8 → j ≠ 2 → ((routed .none (counting m n) ⟨.unplaced, 7⟩).channel j).clock ≠ .event)) ∧
      (routed .none (counting .capture 1) ⟨.unplaced, 7⟩).routesOf ⟨.unplaced, 7⟩ = [] ∧
      (routed (.timerStop 2) (counting .capture 1) ⟨.unplaced, 7⟩).routesOf ⟨.unplaced, 7⟩ =
        [⟨1, none, .timerStop 2⟩] := by
  decide +kernel

/-- Channel 2 counts its last UNPLACED event; channel 5 is its ARMED WINDOW and counts the same events. -/
def opening (mode : TimerMode) : State :=
  (routed .none (counting mode 1) ⟨.unplaced, 7⟩).setChannel 5
    { timer .window .armed with clock := .event, clockSource := some 1, reload := 3, master := some 2 }

theorem witness_RoutedEventsDriveTheChannels_window :
    (∀ m ∈ [TimerMode.interval, .delay],
      (opening m).power.main = true ∧ (opening m).events.waiting = [⟨.unplaced, 7⟩] ∧
      (opening m).routesOf ⟨.unplaced, 7⟩ = [] ∧ ((opening m).channel 2).state = .counting ∧
      ((opening m).channel 2).clockSource = some Source.unplaced.num ∧
      (∀ j, j < 8 → j ≠ 2 → ((opening m).channel j).state ≠ .counting) ∧ ((opening m).channel 2).counter = 1 ∧
      ((opening m).channel 2).mode = m) ∧
      (opening .delay).ChannelsRight ∧ ((opening .delay).channel 5).clock = .event ∧
      ((opening .delay).channel 5).clockSource = ((opening .delay).channel 2).clockSource := by
  decide +kernel

/-! ### What meets the clauses on pairing, re-placement, rides, departures and times -/

/-- Tasks wait in the queue; runner 1 is in a state, at a base that may have fallen ABSENT. -/
def awaiting (x : RunnerState) (tasks : List Task) : State :=
  let s := withCar { car .called with number := 8, stall := some 12 }
    (withCar (car .assigned) (atBase (withStall 12 (loaded .occupied (some 8)) State.reset)))
  { s.setRunner 1 { Runner.atStart SiteTime.zero with state := x, base := some 20 } with dispatch.tasks := tasks }

def parkTask : Task := ⟨.park, 7, SiteTime.zero, [], .queued⟩
def fetchTask : Task := ⟨.fetch, 8, ⟨0, 5⟩, [], .queued⟩

/-- The runner base has been ABSENT, and answers. -/
def baseBack (s : State) : State := s.setStation 20 { s.station 20 with presence := .absent }

def baseHeard (s : State) : State :=
  ((baseBack s).setPort .curb { (baseBack s).port .curb with phase := .opportunity }).setStation 20
    { (baseBack s).station 20 with presence := .present, silent := 0 }

theorem may_be_offered {s : State} {b : Nat} {declined : List Nat} (h : 1 ≤ b ∧ b ≤ 32) (ready : (s.runner b).state = .ready)
    (fresh : b ∉ declined) (base : (s.runner b).base = some 20) (here : (s.station 20).presence ≠ .absent) :
    s.mayBeOffered declined b :=
  ⟨h.1, h.2, ready, fresh, fun a ha => by rw [base] at ha; cases ha; exact here⟩

/-- With one READY runner that runner is the nearest. -/
theorem alone_is_nearest {s : State} {b : Nat} {declined : List Nat} (level : Nat) (h : s.mayBeOffered declined b)
    (alone : ∀ d, d < 33 → (s.runner d).state = .ready → d = b) : s.NearestRunner declined level b :=
  ⟨h, fun d hd => by
    have := alone d (Nat.lt_succ_of_le hd.2.1) hd.2.2.1
    subst this
    exact .inr ⟨rfl, .inr ⟨rfl, Nat.le_refl _⟩⟩⟩

theorem witness_FirstGoodAnswerHandsPresenceOn_base :
    (baseBack (awaiting .ready [parkTask])).power.main = true ∧
      ((baseBack (awaiting .ready [parkTask])).port .curb).phase = .window 20 ∧
      ((baseBack (awaiting .ready [parkTask])).station 20).presence ≠ .present ∧
      (baseBack (awaiting .ready [parkTask])).classOf 20 = .runnerBase ∧
      (baseBack (awaiting .ready [])).NoneQueued ∧
      (baseBack (awaiting .ready [parkTask])).dispatch.tasks.filter (·.place == .queued) = [parkTask] ∧
      (baseHeard (awaiting .ready [parkTask])).NearestRunner
        ((baseBack (awaiting .ready [parkTask])).declinedNow parkTask) 0 1 :=
  ⟨by decide +kernel, by decide +kernel, by decide +kernel, by decide +kernel, by decide +kernel, by decide +kernel,
    alone_is_nearest 0 (may_be_offered (by decide) (by decide +kernel) (by decide +kernel) (by decide +kernel)
      (by decide +kernel)) (by decide +kernel)⟩

theorem witness_FirstGoodAnswerHandsPresenceOn_start :
    (baseBack (awaiting .ready [parkTask])).StartsAt parkTask 0 ∧
      (baseBack (awaiting .ready [fetchTask])).StartsAt fetchTask 2 :=
  ⟨.inl ⟨rfl, rfl⟩, .inr ⟨by decide, _, rfl, .inl ⟨12, level2, by decide +kernel, by decide +kernel, rfl⟩⟩⟩

theorem witness_FirstGoodAnswerHandsPresenceOn_none :
    ∀ b, ¬ (baseHeard (awaiting .offDuty [parkTask])).mayBeOffered
      ((baseBack (awaiting .offDuty [parkTask])).declinedNow parkTask) b := fun b h =>
  (by decide +kernel : ∀ d, d < 33 → ((baseHeard (awaiting .offDuty [parkTask])).runner d).state ≠ .ready) b
    (Nat.lt_succ_of_le h.2.1) h.2.2.1

theorem witness_FirstGoodAnswerHandsPresenceOn_several :
    ((baseBack (awaiting .ready [parkTask, fetchTask])).dispatch.tasks.map (·.ticket)).Nodup ∧
      fetchTask ∈ (baseBack (awaiting .ready [parkTask, fetchTask])).dispatch.tasks ∧
      (baseHeard (awaiting .ready [parkTask, fetchTask])).mayBeOffered [] 1 ∧
      (∀ d, (baseHeard (awaiting .ready [parkTask, fetchTask])).mayBeOffered [] d → d = 1) ∧
      ∀ v ∈ (baseBack (awaiting .ready [parkTask, fetchTask])).dispatch.tasks, v.place = .queued → 1 ∉ v.declined ∧
        (v = fetchTask ∨ (baseBack (awaiting .ready [parkTask, fetchTask])).standsBefore fetchTask
          ((baseBack (awaiting .ready [parkTask, fetchTask])).priority v) v.age v.ticket = true) :=
  ⟨by decide, by decide, may_be_offered (by decide) (by decide +kernel) (by decide) (by decide +kernel) (by decide +kernel),
    fun d h => (by decide +kernel : ∀ d, d < 33 →
      ((baseHeard (awaiting .ready [parkTask, fetchTask])).runner d).state = .ready → d = 1) d
        (Nat.lt_succ_of_le h.2.1) h.2.2.1,
    by decide +kernel⟩

/-- Runner 32 has entered READY at level 7. -/
def entered32 (s : State) : State :=
  (s.heard base).setRunner 32 { s.runner 32 with
    state := .ready, readySince := s.now, task := none, offerBy := none, level := 7, base := some 20 }

theorem witness_StatusMovesOnlyAFreeRunner_rows :
    (∀ x ∈ [RunnerState.offDuty, .onBreak, .silent, .ready, .offered], (awaiting x [parkTask]).Carries base 1 ∧
        ((awaiting x [parkTask]).runner 1).state = x) ∧
      (offering .park .assigned).Carries base 1 ∧ ((offering .park .assigned).runner 1).state = .offered ∧
      ((offering .park .assigned).runner 1).task = some (7, .park) ∧
      ∀ d, d ≠ 1 → ((offering .park .assigned).runner d).state ≠ .ready := by
  refine ⟨by decide +kernel, by decide +kernel, by decide +kernel, by decide +kernel, fun d _ => ?_⟩
  by_cases h : 32 < d
  · rw [no_runner_above_32 _ _ h]; decide
  · have : ∀ d, d < 33 → ((offering .park .assigned).runner d).state ≠ .ready := by decide +kernel
    exact this d (by omega)

theorem witness_StatusMovesOnlyAFreeRunner_pairing :
    (awaiting .onBreak [parkTask]).Carries base 32 ∧ ((awaiting .onBreak [parkTask]).runner 32).state = .offDuty ∧
      (awaiting .onBreak [parkTask]).dispatch.tasks.filter (·.place == .queued) = [parkTask] ∧
      ((awaiting .onBreak [parkTask]).dispatch.tasks.map (·.ticket)).Nodup ∧
      (awaiting .onBreak [parkTask]).StartsAt parkTask 0 ∧
      (entered32 (awaiting .onBreak [parkTask])).NearestRunner
        ((entered32 (awaiting .onBreak [parkTask])).declinedNow parkTask) 0 32 :=
  ⟨by decide +kernel, by decide +kernel, by decide +kernel, by decide +kernel, .inl ⟨rfl, rfl⟩,
    alone_is_nearest 0 (may_be_offered (by decide) (by decide +kernel) (by decide +kernel) (by decide +kernel)
      (by decide +kernel)) (by decide +kernel)⟩

/-- Ticket 7 has the newest of three entries. -/
def rescheduling : State :=
  { deskCar (car .scheduled) with calls.schedule := [entry 100 18000, entry 7 18000, entry 101 20000] }

theorem witness_ScheduleEntersInOrderOrIsRefused_again :
    rescheduling.Serves desk ∧ rescheduling.ticket 7 = some (car .scheduled) ∧
      rescheduling.calls.schedule.Pairwise (fun a b => b.release.before a.release = false) ∧
      0 * 864000 + 863999 ≤ rescheduling.now.tenths + 864000 ∧
      rescheduling.now.before (SiteTime.less ⟨0, 863999⟩ (600 * rescheduling.params.leadTime)) = true ∧
      rescheduling.now.before (SiteTime.less ⟨0, 9000⟩ (600 * rescheduling.params.leadTime)) = false ∧
      rescheduling.task 7 = none ∧ (scheduling 63).task 7 = none ∧ (scheduling 63).ticket 8 = none := by
  decide +kernel

theorem witness_ScheduleEntersInOrderOrIsRefused_refused :
    (∀ x ∈ [TicketState.called, .fetching, .descending, .staged, .toCurb, .atCurb, .unplaced, .assigned, .parking, .restaging],
      ∀ p ∈ [true, false], (deskCar { car x with callPending := p }).Serves desk ∧
        (deskCar { car x with callPending := p }).ticket 7 = some { car x with callPending := p }) := by
  decide +kernel

/-- Ticket 7 is fetched or restaged through lift 1, with no bound stall; its target lies on level 2. -/
def inLobby (x : TicketState) (l : Option Nat) : Ticket :=
  { car x with lift := l, target := some 12, runner := some 1 }

def lobbyState (x : TicketState) (l : Option Nat) : State := held .fetch (inLobby x l) (stallFor7 State.reset)

theorem witness_LobbyFilesTheRideOrIsRefused_down :
    (lobbyState .fetching (some 1)).Holds base 1 (inLobby .fetching (some 1)) ∧
      (lobbyState .fetching (some 1)).LobbyRide (inLobby .fetching (some 1)) 2 1 .down 2 0 ∧
      (lobbyState .fetching (some 1)).hasTenure 7 = false ∧ 2 ∈ (lobbyState .fetching (some 1)).servedLevels 1 ∧
      0 ∈ (lobbyState .fetching (some 1)).servedLevels 1 ∧ ((lobbyState .fetching (some 1)).lift 1).queue.length < 32 ∧
      (lobbyState .fetching (some 1)).GroupsRight :=
  ⟨by decide +kernel, .inr (.inl ⟨rfl, rfl, rfl, rfl, rfl, rfl⟩), by decide +kernel, by decide +kernel, by decide +kernel,
    by decide +kernel, State.groupsRight_of (by decide +kernel) (by decide +kernel) (by decide +kernel)⟩

theorem witness_LobbyFilesTheRideOrIsRefused_restage :
    (lobbyState .restaging (some 1)).Holds base 1 (inLobby .restaging (some 1)) ∧
      (lobbyState .restaging (some 1)).LobbyRide (inLobby .restaging (some 1)) 0 1 .up 0 2 ∧
      (lobbyState .restaging (some 1)).LobbyRide (inLobby .restaging (some 1)) 3 1 .down 3 2 ∧
      (lobbyState .restaging (some 1)).hasTenure 7 = false :=
  ⟨by decide +kernel, .inr (.inr ⟨rfl, rfl, rfl, rfl, ⟨12, level2, rfl, by decide +kernel, rfl⟩, .inl ⟨by decide, rfl⟩⟩),
    .inr (.inr ⟨rfl, rfl, rfl, rfl, ⟨12, level2, rfl, by decide +kernel, rfl⟩, .inr ⟨by decide, rfl⟩⟩), by decide +kernel⟩

theorem witness_LobbyFilesTheRideOrIsRefused_up :
    (atLobbyState 31).LobbyRide parking 0 1 .up 0 2 ∧ (atLobbyState 31).GroupsRight :=
  ⟨.inl ⟨rfl, rfl, rfl, 12, level2, rfl, by decide +kernel, rfl, rfl⟩,
    State.groupsRight_of (by decide +kernel) (by decide +kernel) (by decide +kernel)⟩

/-- Lift 1 holds a tenure of ticket 7. -/
def withRide (s : State) : State := s.setLift 1 { s.lift 1 with queue := [riding .up .waiting] }

theorem witness_LobbyFilesTheRideOrIsRefused_done :
    (withRide (atLobbyState 0)).Holds base 1 parking ∧ (withRide (atLobbyState 0)).hasTenure 7 = true ∧
      (∀ x ∈ [TicketState.fetching, .restaging], ∀ l ∈ [none, some 0],
        (lobbyState x l).Holds base 1 (inLobby x l) ∧ (inLobby x l).stall = none) ∧
      ((lobbyState .restaging (some 1)).stall 12).site = some level2 ∧ level2.level = 2 ∧
      leaving.Holds base 1 fetching ∧ fetching.stall ≠ none ∧ curbState.Holds base 1 delivered := by
  decide +kernel

/-- Ticket 7 leaves stall 12 of a lift. -/
def leavingAs (t : Ticket) (l : Nat) : State :=
  held .fetch t (withStall 12 { loaded .occupied (some 7) with site := some { level2 with lift := l } } (liftIdle State.reset))

/-- Lane 1, which prefers lift 0, is configured and FREE. -/
def laneReady (s : State) : State :=
  { s with
    params.laneConfigured := setNth1 s.params.laneConfigured 1 true
    params.preferredLifts := setNth1 s.params.preferredLifts 1 [0] }

theorem witness_DepartureFreesTheStall_others :
    (leavingAs { fetching with state := .restaging } 1).Holds base 1 { fetching with state := .restaging } ∧
      (leavingAs fetching 0).Holds base 1 fetching ∧ (leavingAs fetching 0).freeLanes = [] ∧
      (leavingAs fetching 0).hasTenure 7 = false ∧ (leavingAs fetching 0).occupiedBy 12 7 = true ∧
      ((leavingAs fetching 0).stall 12).site = some { level2 with lift := 0 } ∧
      (laneReady (leavingAs fetching 0)).Holds base 1 fetching ∧ (laneReady (leavingAs fetching 0)).NoLaneRequest ∧
      fetching.lane = none ∧ (laneReady (leavingAs fetching 0)).freeLanes = [1] ∧
      0 ∈ (laneReady (leavingAs fetching 0)).preferredLifts 1 ∧ (laneReady (leavingAs fetching 0)).unplaced = [] ∧
      (∀ d ∈ (laneReady (leavingAs fetching 0)).tickets, d.restageWanted = false) := by
  decide +kernel

theorem witness_DepartureFreesTheStall_groups : (laneReady (leavingAs fetching 0)).GroupsRight :=
  State.groupsRight_of (by decide +kernel) (by decide +kernel) (by decide +kernel)

theorem witness_DepartureFreesTheStall_unbound :
    (lobbyState .restaging (some 1)).Holds base 1 (inLobby .restaging (some 1)) ∧
      (lobbyState .fetching (some 1)).Holds base 1 (inLobby .fetching (some 1)) ∧
      (withRide leaving).Holds base 1 fetching ∧ (withRide leaving).hasTenure 7 = true ∧
      (∀ l ∈ [none, some 0], (lobbyState .fetching l).Holds base 1 (inLobby .fetching l) ∧
        (lobbyState .fetching l).hasTenure 7 = false ∧ (lobbyState .fetching l).freeLanes = []) ∧
      (atLobbyState 0).Holds base 1 parking := by
  decide +kernel

/-- Ticket 7 stands AT_CURB without a task; runner 1 is in a state. -/
def curbTaskless (x : RunnerState) : State :=
  (withCar delivered (atBase State.reset)).setRunner 1 { Runner.atStart SiteTime.zero with state := x, base := some 20 }

theorem witness_HandoverClosesTheTicket_free :
    curbState.holdsTask 1 7 = true ∧ curbState.Carries base 1 ∧ curbState.NoneQueued ∧
      ∀ x ∈ [RunnerState.ready, .offered, .tasked], (curbTaskless x).Carries base 1 ∧
        (curbTaskless x).ticket 7 = some delivered ∧ (curbTaskless x).holdsTask 1 7 = false ∧
        (curbTaskless x).task 7 = none ∧ ((curbTaskless x).runner 1).state = x := by
  decide +kernel

/-- Ticket 7 is ASSIGNED stall 12 of lift 1; stall 639 of lift 2, which is serviceable, is in a state. -/
def assigned12 : Ticket := { car .assigned with stall := some 12 }

def level5 : StallSite := { level2 with level := 5, walk := 80, lift := 2 }

def moving (x : LiftState) (other : StallState) : State :=
  let s := stallFor7 (withCar assigned12 (atLift State.reset))
  let s := withStall 639 { loaded other none with site := some level5 } (s.setLift 1
    { Lift.cold with state := x })
  { s.setLift 2 { Lift.cold with state := .idle } with
    params.liftConfigured := setNth1 s.params.liftConfigured 2 true
    stalls.free := ⟨0, if other = .free then 1 else 0, 0, 0⟩ }

/-- Of the stalls of a state in which two were loaded, the others are UNDEFINED. -/
theorem loaded_two {s : State} {a b : Nat} {r q : Stall}
    (h : s.stalls.records = setNth (setNth State.reset.stalls.records a r) b q) (k : Nat) :
    k = a ∨ k = b ∨ s.stall k = Stall.cold := by
  by_cases ha : k = a
  · exact .inl ha
  by_cases hb : k = b
  · exact .inr (.inl hb)
  refine .inr (.inr ?_)
  unfold State.stall
  rw [h, nth_setNth_ne _ _ _ _ _ (Ne.symm hb), nth_setNth_ne _ _ _ _ _ (Ne.symm ha)]
  show (Vector.replicate Config.stallCount Stall.cold)[k]?.getD Stall.cold = Stall.cold
  rw [Vector.getElem?_replicate]
  split <;> rfl

/-- Ticket 7's stall 12 is the only one held for it. -/
theorem one_assigned (s : State) {r q : Stall} (two : s.stalls.records = setNth (setNth State.reset.stalls.records 12 r) 639 q)
    (cars : s.tickets = [assigned12]) (idle : s.dispatch.tasks = []) (held : s.heldFor 12 7 = true)
    (other : s.heldFor 639 7 = false) : s.OneAssigned assigned12 12 where
  assigned := by rw [cars]; decide
  found := by simp [State.ticket, cars]
  bound := rfl
  held := ⟨by decide, fun j => by
    show s.heldFor j 7 = true ↔ j = 12
    by_cases h12 : j = 12
    · subst h12; exact ⟨fun _ => rfl, fun _ => held⟩
    · rcases loaded_two two j with h | h | h
      · exact absurd h h12
      · subst h; rw [other]; decide
      · have : s.heldFor j 7 = false := by unfold State.heldFor; rw [h]; rfl
        simp [this, h12]⟩
  notOffered := by simp [State.task, idle]

/-- Where two stalls alone have a site, a re-placement chooses one of them. -/
theorem one_of_two {s : State} {r q : Stall} (two : s.stalls.records = setNth (setNth State.reset.stalls.records 12 r) 639 q)
    {t : Ticket} {need : Bool} {k : Nat} {site : StallSite} (m : s.mayMoveTo t need k site) : k = 12 ∨ k = 639 := by
  rcases loaded_two two k with h | h | h
  · exact .inl h
  · exact .inr h
  · have := m.2.1
    rw [h] at this
    cases this

theorem same_site {x : Option StallSite} {a b : StallSite} (h : x = some a) (h' : x = some b) : a = b :=
  Option.some.inj (h.symm.trans h')

def faulted (other : StallState) : State := ((moving .idle other).heard lift).setLift 1 { (moving .idle other).lift 1 with
  state := .fault }

def recovered (s : State) : State := (s.heard lift).setLift 1 { s.lift 1 with state := .idle, parkedLevel := 7 }

theorem moving_two (x : LiftState) (other : StallState) : (moving x other).stalls.records =
    setNth (setNth State.reset.stalls.records 12 (loaded .held (some 7))) 639
      { loaded other none with site := some level5 } := rfl

theorem faulted_two (other : StallState) : (faulted other).stalls.records = (moving .idle other).stalls.records := rfl
theorem recovered_two (s : State) : (recovered s).stalls.records = s.stalls.records := rfl

/-- Stall 12 lies on the faulted lift. -/
theorem not_back {other : StallState} (h : other = .free ∨ other = .out) {need : Bool} {site : StallSite} :
    ¬ (faulted other).mayMoveTo assigned12 need 12 site := fun m => by
  have at12 : ((faulted other).stall 12).site = some level2 := by rcases h with rfl | rfl <;> decide +kernel
  obtain rfl := same_site m.2.1 at12
  have down : ((faulted other).lift level2.lift).state = .fault := by rcases h with rfl | rfl <;> decide +kernel
  rcases m.2.2.2.2.1 with h | ⟨-, h | h⟩
  · cases h
  all_goals rw [down] at h; cases h

theorem witness_FaultsHoldAndIdleRecovers_moved :
    (moving .idle .free).LiftSpeaks lift 1 ∧ ((moving .idle .free).lift 1).state = .idle ∧
      (moving .idle .free).liftConfigured 1 = true ∧ (moving .idle .free).OneAssigned assigned12 12 ∧
      ((moving .idle .free).stall 12).site = some level2 ∧ (moving .idle .free).unplaced = [] ∧
      (faulted .free).MovesTo assigned12 639 false := by
  refine ⟨by decide +kernel, by decide +kernel, by decide +kernel, one_assigned _ (moving_two _ _) rfl rfl
    (by decide +kernel) (by decide +kernel), by decide +kernel, by decide +kernel, level5, ?_, nofun, fun k site m => ?_⟩
  · unfold State.mayMoveTo; decide +kernel
  · rcases one_of_two ((faulted_two _).trans (moving_two _ _)) m with rfl | rfl
    · exact absurd m (not_back (.inl rfl))
    · obtain rfl := same_site m.2.1 (by decide +kernel : ((faulted .free).stall 639).site = some level5)
      exact .inr ⟨rfl, .inr ⟨rfl, Nat.le_refl _⟩⟩

theorem witness_FaultsHoldAndIdleRecovers_kept :
    (moving .idle .out).LiftSpeaks lift 1 ∧ (moving .idle .out).OneAssigned assigned12 12 ∧ ∀ k site, ¬ (faulted .out).mayMoveTo assigned12 false k site := by
  refine ⟨by decide +kernel, one_assigned _ (moving_two _ _) rfl rfl (by decide +kernel) (by decide +kernel), fun k site m => ?_⟩
  rcases one_of_two ((faulted_two _).trans (moving_two _ _)) m with rfl | rfl
  · exact not_back (.inr rfl) m
  · have out : ((faulted .out).stall 639).state = .out ∧ (faulted .out).heldFor 639 7 = false := by decide +kernel
    rcases m.2.2.1 with h | h
    · rw [out.1] at h; cases h
    · cases out.2.symm.trans h

theorem witness_FaultsHoldAndIdleRecovers_back :
    (moving .fault .free).LiftSpeaks lift 1 ∧ ((moving .fault .free).lift 1).state = .fault ∧
      ((moving .fault .free).lift 1).current = none ∧ ((moving .fault .free).lift 1).queue = [] ∧
      (moving .fault .free).liftConfigured 1 = true ∧ (moving .fault .free).OneAssigned assigned12 12 ∧
      (∀ d ∈ (moving .fault .free).tickets, d.state = .parked → d.restageWanted = false) ∧
      (recovered (moving .fault .free)).MovesTo assigned12 639 false := by
  refine ⟨by decide +kernel, by decide +kernel, by decide +kernel, by decide +kernel, by decide +kernel,
    one_assigned _ (moving_two _ _) rfl rfl (by decide +kernel) (by decide +kernel), by decide +kernel,
    level5, ?_, nofun, fun k site m => ?_⟩
  · unfold State.mayMoveTo; decide +kernel
  · rcases one_of_two ((recovered_two _).trans (moving_two _ _)) m with rfl | rfl
    · obtain rfl := same_site m.2.1 (by decide +kernel : ((recovered (moving .fault .free)).stall 12).site = some level2)
      decide +kernel
    · obtain rfl := same_site m.2.1 (by decide +kernel : ((recovered (moving .fault .free)).stall 639).site = some level5)
      exact .inr ⟨rfl, .inr ⟨rfl, Nat.le_refl _⟩⟩

/-- No stall takes ticket 7 when lift 1 recovers: every free count lies within its reserve. -/
def scarce (s : State) : State := { s with params.reserve := ⟨9, 9, 9, 9⟩ }

theorem scarce_two (x : LiftState) (other : StallState) :
    (scarce (moving x other)).stalls.records = (moving x other).stalls.records := rfl

theorem witness_FaultsHoldAndIdleRecovers_nowhere :
    (scarce (moving .fault .out)).LiftSpeaks lift 1 ∧ (scarce (moving .fault .out)).OneAssigned assigned12 12 ∧
      ((scarce (moving .fault .out)).lift 1).queue = [] ∧ (scarce (moving .fault .out)).liftConfigured 1 = true ∧
      ∀ k site, ¬ (recovered (scarce (moving .fault .out))).mayMoveTo assigned12 false k site := by
  refine ⟨by decide +kernel, one_assigned _ ((scarce_two _ _).trans (moving_two _ _)) rfl rfl (by decide +kernel) (by decide +kernel),
    by decide +kernel, by decide +kernel, fun k site m => ?_⟩
  have reserve := m.2.2.2.2.2.2
  rcases one_of_two ((recovered_two _).trans ((scarce_two _ _).trans (moving_two _ _))) m with rfl | rfl
  · obtain rfl := same_site m.2.1 (by decide +kernel : ((recovered (scarce (moving .fault .out))).stall 12).site = some level2)
    revert reserve; decide +kernel
  · obtain rfl := same_site m.2.1 (by decide +kernel : ((recovered (scarce (moving .fault .out))).stall 639).site = some level5)
    revert reserve; decide +kernel

/-- A GRANTED tenure stands at lift 1, which is down and configured or not. -/
def downed (configured : Bool) (w : Tenure) (t : Ticket) : State :=
  { carrying .fault (some w) t with
    params.liftConfigured := setNth1 State.reset.params.liftConfigured 1 configured }

theorem witness_FaultsHoldAndIdleRecovers_turnedBack :
    (downed false (riding .down .granted) descending).LiftSpeaks lift 1 ∧
      ((downed false (riding .down .granted) descending).lift 1).current = some (riding .down .granted) ∧
      (downed false (riding .down .granted) descending).ticket 7 = some descending ∧
      (downed false (riding .down .granted) descending).liftConfigured 1 = false ∧
      (downed false (riding .up .granted) parking).ticket 7 = some parking ∧
      (downed true (riding .up .granted) parking).LiftSpeaks lift 1 ∧
      (downed true (riding .up .granted) parking).liftConfigured 1 = true ∧
      ((downed true (riding .up .granted) parking).lift 1).queue = [] ∧
      ((downed true (riding .up .granted) parking).lift 1).current = some (riding .up .granted) ∧
      ((downed true { riding .up .granted with ticket := none } parking).lift 1).current =
        some { riding .up .granted with ticket := none } := by
  decide +kernel

/-- Station 31 of lift 1 is ABSENT with its order marker set. -/
def markedLift : State :=
  let s := atDesk (atLift State.reset)
  (s.setStation 31 { s.station 31 with presence := .absent, orderMark := true }).setLift 1 { Lift.cold with orderOwed := true }

theorem witness_StationLoadsStoreTheRecord_marked :
    markedLift.Manages desk ∧ servedFits .lift (some (.lift 2)) = true ∧ (markedLift.station 31).orderMark = true ∧
      (markedLift.station 31).served = some (.lift 1) := by
  decide +kernel

/-- A setup of channel 7 that passes, and one for each case of the RANGE list. -/
def setup : TimerFields := ⟨7, .value .interval, .value .event, some 21, 5, none, .value .out1, .value .none⟩

theorem witness_TimerLoadsStoreTheSetup_range :
    let s := withTimer 0 { timer .interval .stopped with clock := .event, clockSource := some 29 }
      (withTimer 1 { timer .window .stopped with master := some 7 } (atDesk State.reset))
    s.Manages desk ∧ s.TimerRefused { setup with channel := 8 } ∧ s.TimerRefused { setup with mode := .outside } ∧
      s.TimerRefused { setup with clockSource := none } ∧ s.TimerRefused { setup with clockSource := some 30 } ∧
      s.TimerRefused { setup with clock := .value .tenth } ∧ s.TimerRefused { setup with mode := .value .window } ∧
      s.TimerRefused { setup with mode := .value .window, master := some 7 } ∧
      s.TimerRefused { setup with mode := .value .window, master := some 1 } ∧
      s.TimerRefused { setup with mode := .value .window, master := some 8 } ∧
      s.TimerRefused { setup with master := some 0 } ∧ s.TimerRefused { setup with target := .value .taskMean } ∧
      s.TimerRefused { setup with mode := .value .capture, target := .value .taskMean } ∧
      s.TimerRefused { setup with clockSource := some 29 } ∧ s.TimerRefused { setup with clockSource := some 22 } ∧
      s.TimerRefused setup ∧ s.TimerRefused { setup with mode := .value .capture, clock := .value .second, clockSource := none } :=
  ⟨by decide +kernel, .channel (by decide), .outsideSet (.inl rfl), .sourceAbsent rfl rfl,
    .sourceRange 30 rfl rfl (by decide), .sourcePresent .tenth rfl (by decide) (by decide), .masterAbsent rfl rfl,
    .masterItself rfl rfl, .masterMode 1 rfl rfl (.inr (by decide +kernel)), .masterMode 8 rfl rfl (.inl (by decide)),
    .masterPresent .interval rfl (by decide) (by decide), .target .taskMean rfl (by decide) (.inl (by decide)),
    .target .taskMean rfl (by decide) (.inr rfl), .countsEventChannel 7 rfl (by decide) rfl (.inl rfl),
    .countsEventChannel 0 rfl (by decide) rfl (.inr (by decide +kernel)),
    .countedByEventChannel 0 rfl (by decide) (by decide) (by decide +kernel) (by decide +kernel),
    .isMaster .capture 1 rfl (by decide) (by decide) (by decide) (by decide +kernel) (by decide +kernel)⟩

/-- The tenure of the RESTAGING ticket 7 stands at lift 1. -/
def closingRide (x : TenureState) : State :=
  closing.setLift 1 { closing.lift 1 with state := .busy, current := some (riding .up x) }

theorem witness_ForceCloseUndoesWhatTheTicketHolds_held :
    (∀ x ∈ [TenureState.granted, .riding], (closingRide x).Manages desk ∧
      ((closingRide x).lift 1).current = some (riding .up x) ∧ ((closingRide x).lift 1).queue = []) ∧
      closing.task 7 = some ⟨.restage, 7, SiteTime.zero, [], .held 1⟩ ∧
      (offering .park .assigned).task 7 = some ⟨.park, 7, SiteTime.zero, [], .offered 1⟩ ∧
      (atDesk (offering .park .assigned)).Manages desk := by
  decide +kernel

theorem witness_ForceCloseUndoesWhatTheTicketHolds_named :
    (∀ h, (closing.hook h).ticket = some 7 → (closing.ticket 7).bind (·.hook) = some h) ∧
      (∀ k, (closing.stall k).ticket = some 7 → k = 12 ∧ (closing.stall k).state = .occupied ∨
        k = 639 ∧ (closing.stall k).state = .held) ∧
      ∀ b, 1 ≤ b → b ≤ 32 → (closing.runner b).task.map (·.1) = some 7 →
        ∃ w, closing.task 7 = some w ∧ (w.place = .offered b ∨ w.place = .held b) := by
  refine ⟨fun h e => ?_, fun k e => ?_, fun b _ hb e => ?_⟩
  · by_cases h3 : h = 3
    · subst h3; decide +kernel
    · have cold : closing.hook h = Hook.cold :=
        (nth_setNth_ne State.reset.keys.hooks 3 h _ _ (Ne.symm h3)).trans (reset_hook h)
      rw [cold] at e
      cases e
  · rcases loaded_two (a := 639) (b := 12) (s := closing) rfl k with h | h | h
    · subst h; exact .inr ⟨rfl, by decide +kernel⟩
    · subst h; exact .inl ⟨rfl, by decide +kernel⟩
    · rw [h] at e; cases e
  · have : b = 1 := (by decide +kernel : ∀ b, b < 33 → (closing.runner b).task.map (·.1) = some 7 → b = 1) b (by omega) e
    subst this
    exact ⟨_, rfl, .inr rfl⟩

/-- The latch that the route fills is FULL. -/
def latched : State :=
  { eventful with events.latches := setNth eventful.events.latches 3 (some ⟨SiteTime.zero, .arrival, 1, false⟩) }

theorem witness_EventsAreTakenInOrder_full :
    latched.power.main = true ∧ latched.events.waiting = ⟨.timer 7, 7⟩ :: [⟨.arrival, 7⟩] ∧
      nth latched.events.latches 3 none = some ⟨SiteTime.zero, .arrival, 1, false⟩ ∧
      (nth latched.events.routes 15 Route.cold).isMatch ⟨.timer 7, 7⟩ = true ∧
      (nth latched.events.routes 15 Route.cold).action = .latch 3 ∧
      ∀ i, i < 16 → (nth latched.events.routes i Route.cold).action ≠ .latch 0 := by
  decide +kernel

/-- The FETCH task of the called ticket 8, 8 tasks of other tickets, and one READY runner. -/
def quoting (place : TaskPlace) : State :=
  awaiting .ready ({ fetchTask with place } :: (List.range 8).map fun k => { parkTask with ticket := k + 20 })

def calledCar : Ticket := { car .called with number := 8, stall := some 12 }

theorem witness_QuotesAndEstimatesStayInBounds_arithmetic :
    (∀ place ∈ [TaskPlace.queued, .offered 1, .backlog], (quoting place).task 8 = some { fetchTask with place }) ∧
      (quoting .queued).ticket 8 = some calledCar ∧ ((quoting .queued).stall 12).site = some level2 ∧
      (quoting .queued).tasksAhead calledCar fetchTask.age < 1 ∧
      (quoting .backlog).tasksAhead calledCar fetchTask.age = 8 ∧ 8 + 1 ≤ 1 + 1 * 8 ∧ 1 + 1 * 8 < 8 + 1 + 1 ∧
      ((oneTo 32).filter fun b => ((quoting .backlog).runner b).state == .ready).length = 1 ∧
      (quoting .queued).runnerWait calledCar fetchTask.age = 0 ∧
      0 + (quoting .queued).calls.estimates.taskMean + (quoting .queued).quoteWalk calledCar +
        (quoting .queued).liftPart calledCar + (quoting .queued).calls.estimates.laneDrive = 250 ∧ 250 ≤ 60 * 5 ∧
      60 * 5 < 250 + 60 ∧ 30 ≤ 60 * 1 ∧ 60 * 1 < 30 + 60 ∧ (quoting .queued).calls.estimates.laneDrive = 30 := by
  decide +kernel

/-! ### Single steps, with the values the manual gives -/

/-- R148: the register ends at 29B1h for "123456789". -/
theorem test_crc : crc [0x31#8, 0x32#8, 0x33#8, 0x34#8, 0x35#8, 0x36#8, 0x37#8, 0x38#8, 0x39#8] = 0x29B1#16 := by
  decide +kernel

/-- R29, R44: a FREE stall of its class and a new ticket: ASSIGNED. -/
theorem test_arrive_assigned :
    ((after (.arrive desk (.fields evening)) (oneStall (atDesk State.reset))).ticket 1).map (·.state) = some .assigned := by
  decide +kernel

/-- R32, R45: no stall, a place in the list: PLACED_LATER. -/
theorem test_arrive_later : served (after (.arrive desk (.fields evening)) (atDesk State.reset)) = some .placedLater := by
  decide +kernel

/-- R50. -/
theorem test_call_parked :
    ((after (.call desk (.fields ⟨7, .value false⟩)) (deskCar (car .parked))).ticket 7).map (·.state) = some .called := by
  decide +kernel

/-- R49: number 0 is RANGE. -/
theorem test_call_range : served (after (.call desk (.fields ⟨0, .value false⟩)) (deskCar (car .parked))) = some .range := by
  decide +kernel

/-- R128: the release time is the requested time less the lead time, 15 minutes at the cold value. -/
theorem test_schedule_release_time :
    ((after (.schedule desk (.fields ⟨7, 0, 36000⟩)) (deskCar (car .parked))).calls.schedule.map (·.release)) =
      [⟨0, 27000⟩] := by
  decide +kernel

/-- R128: more than 24 hours after now is RANGE. -/
theorem test_schedule_too_far : served (after (.schedule desk (.fields ⟨7, 1, 1⟩)) (deskCar (car .parked))) = some .range := by
  decide +kernel

/-- R54. -/
theorem test_cancel_staged : served (after (.cancel desk (.fields 7)) (deskCar (car .staged))) = some .tooLate := by
  decide +kernel

/-- R132: a fifth member is FULL; a leave of no group is STATE. -/
theorem test_group_of_four : served (after (.groupLink desk (.fields ⟨63, 7⟩)) (grouped none 4)) = some .full := by
  decide +kernel

theorem test_group_leave_none : served (after (.groupLink desk (.fields ⟨0, 7⟩)) (grouped none 4)) = some .state := by
  decide +kernel

/-- R139: a ticket that is not open is RANGE. -/
theorem test_quote_range : served (after (.quoteAsk desk (.fields 8)) (deskCar (car .parked))) = some .range := by
  decide +kernel

/-- R85. -/
theorem test_ready : ((after (.runnerReady base 32 7) (atBase State.reset)).runner 32).state = .ready := by decide +kernel
theorem test_ready_level_8 :
    ((after (.runnerReady base 1 8) (atBase State.reset)).runner 1).reply.map (·.outcome) = some .range := by
  decide +kernel
theorem test_break : ((after (.runnerBreak base 32 7) (atBase State.reset)).runner 32).state = .onBreak := by decide +kernel
theorem test_off_duty_tasked :
    told (after (.runnerOffDuty base 1 0) (holding .park (atBase State.reset))) = some .tasked := by
  decide +kernel
theorem test_position : ((after (.runnerPosition base 1 7) (atBase State.reset)).runner 1).level = 7 := by decide +kernel

/-- R47, R94: an accepted PARK task. -/
theorem test_accept :
    ((after (.taskAccept base 1 7) (offering .park .assigned)).ticket 7).map (·.state) = some .parking := by
  decide +kernel

/-- R95: a decline of a task that was not offered is WITHDRAWN. -/
theorem test_decline_not_offered : told (after (.taskDecline base 1 7) (atBase State.reset)) = some .withdrawn := by
  decide +kernel

/-- R99, R107. -/
theorem test_lobby_full : told (after (.atLobby base 1 7 0) (atLobbyState 32)) = some .full := by decide +kernel
theorem test_lobby_files : ((after (.atLobby base 1 7 0) (atLobbyState 31)).lift 1).queue.length = 32 := by decide +kernel

/-- R7: a departed stall is FREE. -/
theorem test_departed : ((after (.departed base 1 7) leaving).stall 12).state = .free := by decide +kernel

/-- R6, R16: a stall parked in without a sensor that sees the car has a confirm deadline, 120 seconds by the cold value. -/
theorem test_parked : ((after (.parked base 1 7 12 false) (atLobbyState 0)).stall 12).confirmBy = some ⟨⟨0, 1200⟩, false⟩ := by
  decide +kernel

/-- R70: the release window is 30 seconds by the cold value. -/
theorem test_key_request :
    ((after (.keyRequest base 1 7) (keyed .cabinet .suspect)).hook 575).releaseBy = some ⟨⟨0, 300⟩, false⟩ := by
  decide +kernel
theorem test_key_panel : told (after (.keyRequest base 1 7) (keyed .cabinet .faulted)) = some .keyPanel := by decide +kernel

/-- R57. -/
theorem test_handover : (after (.handover base 1 7 true) curbState).ticket 7 = none := by decide +kernel

/-- R116, R112, R113, R115. -/
theorem test_idle_report : ((after (.liftIdleReport lift 5) (carrying .unknown none descending)).lift 1).state = .idle := by
  decide +kernel
theorem test_loaded :
    ((after (.liftLoadedReport lift 2) (carrying .busy (some (riding .down .granted)) descending)).lift 1).current =
      some (riding .down .riding) := by
  decide +kernel
theorem test_arrived :
    ((after (.liftArrivedReport lift 3) (carrying .busy (some (riding .down .riding)) descending)).lift 1).parkedLevel = 3 := by
  decide +kernel
theorem test_unloaded :
    ((after (.liftUnloadedReport lift 0) (carrying .busy (some (riding .down .riding)) descending)).ticket 7).map (·.state) =
      some .staged := by
  decide +kernel
theorem test_obstructed :
    ((after (.liftObstructedReport lift 2) (carrying .busy (some (riding .down .granted)) descending)).ticket 7).map
      (·.state) = some .fetching := by
  decide +kernel
theorem test_fault : ((after (.liftFaultReport lift 2) (carrying .idle none descending)).lift 1).state = .fault := by
  decide +kernel

/-- R53, R120, R121. -/
theorem test_lane_delivers : ((after (.laneOccupiedReport loop) (reservedFor (car .toCurb))).ticket 7).map (·.state) =
    some .atCurb := by
  decide +kernel
theorem test_lane_turns_back :
    ((after (.laneOccupiedReport loop) (reservedFor { descending with lane := some 1 })).ticket 7).map (·.turnbacks) =
      some 1 := by
  decide +kernel

/-- R122: the clearance time is 30 seconds by the cold value. -/
theorem test_lane_clear : ((after (.laneClearReport loop) (laneState .blocked true)).lane 1).clearingBy =
    some ⟨⟨0, 300⟩, false⟩ := by
  decide +kernel

/-- R12: a car sensed twice in a FREE stall. -/
theorem test_phantom : ((after (.zoneOccupancy hub ⟨280, [.occupied]⟩) (sensing (some .occupied))).stall 280).state =
    .blocked := by
  decide +kernel

/-- R161: a station that brings its marker to a lift leaves that lift's order owed, and takes it from the lift it served. -/
theorem test_load_station_marker :
    let moved := after (.loadStation desk (.fields ⟨31, .value .deck, .value .lift, .value ⟨false, false, false⟩,
      some (.lift 2)⟩)) markedLift
    (moved.lift 1).orderOwed = false ∧ (moved.lift 2).orderOwed = true := by
  decide +kernel

/-- R151: MANAGE belongs to a DESK on the curb link alone. -/
theorem test_load_station_manage :
    managed (after (.loadStation desk (.fields ⟨9, .value .deck, .value .desk, .value ⟨true, false, false⟩, none⟩))
      (atDesk State.reset)) = some .range := by
  decide +kernel

/-- R17. -/
theorem test_load_stall :
    ((after (.loadStall desk (.fields ⟨639, 7, 15, 255#8, .value .oversize, .value true, 4⟩)) (atDesk State.reset)).stall
      639).state = .free := by
  decide +kernel
theorem test_load_stall_level_8 :
    managed (after (.loadStall desk (.fields ⟨639, 8, 15, 255#8, .value .oversize, .value true, 4⟩)) (atDesk State.reset)) =
      some .range := by
  decide +kernel

/-- R198: the level time is 1 to 30 seconds. -/
theorem test_param_clamped : (after (.loadParams desk (.fields ⟨0, .number 31⟩)) (atDesk State.reset)).params.levelTime = 30 := by
  decide +kernel

/-- R158, R190, R186: rule 32 and route 16 do not exist; thirty masks are stored. -/
theorem test_pass_rule_32 : managed (after (.loadPassRule desk (.fields ⟨32, none⟩)) (atDesk State.reset)) = some .range := by
  decide +kernel
theorem test_route_16 :
    managed (after (.loadRoute desk (.fields ⟨16, 0, none, .value .none⟩)) (atDesk State.reset)) = some .range := by
  decide +kernel
theorem test_masks :
    (after (.loadMasks desk (.fields (Vector.replicate _ (.value true)))) (atDesk State.reset)).maskOpen 29 = true := by
  decide +kernel
/-- R196: a mask value outside OPEN and CLOSED is RANGE. -/
theorem test_masks_outside :
    managed (after (.loadMasks desk (.fields ((Vector.replicate _ (.value true)).set 29 .outside))) (atDesk State.reset)) =
      some .range := by
  decide +kernel

/-- R167: a reload of 0 is stored as 1. -/
theorem test_load_timer :
    ((after (.loadTimer desk (.fields ⟨7, .value .interval, .value .second, none, 0, none, .value .out1, .value .none⟩))
      (atDesk State.reset)).channel 7).reload = 1 := by
  decide +kernel

/-- R18. -/
theorem test_service_out : ((after (.setStallService desk (.fields ⟨12, .value .out⟩)) (oneStall (atDesk State.reset))).stall
    12).state = .out := by
  decide +kernel

/-- R182: tenth 864,000 is RANGE. -/
theorem test_set_clock_range : managed (after (.setClock desk (.fields ⟨0, 864000⟩)) (atDesk State.reset)) = some .range := by
  decide +kernel

/-- R168, R169. -/
theorem test_start_off : managed (after (.startTimer desk (.fields 7)) (atDesk State.reset)) = some .state := by
  decide +kernel
theorem test_start_interval :
    ((after (.startTimer desk (.fields 7)) (withTimer 7 (timer .interval .stopped) (atDesk State.reset))).channel 7).counter
      = 3 := by
  decide +kernel
theorem test_stop : ((after (.stopTimer desk (.fields 7)) (withTimer 7 (timer .delay .counting) (atDesk State.reset))).channel
    7).state = .stopped := by
  decide +kernel

/-- R19, R61, R73, R103, R197: the numbers of the reads. -/
theorem test_read_ticket_part_2 : managed (after (.readTicket desk (.fields ⟨7, 2⟩)) (deskCar (car .parked))) = some .range := by
  decide +kernel
theorem test_read_stall_640 : managed (after (.readStall desk (.fields 640)) (atDesk State.reset)) = some .range := by
  decide +kernel
theorem test_read_hook_575 : managed (after (.readHook desk (.fields 575)) (atDesk State.reset)) = some .done := by
  decide +kernel
theorem test_read_runner_33 : managed (after (.readRunner desk (.fields 33)) (atDesk State.reset)) = some .range := by
  decide +kernel
theorem test_read_counts_5 : managed (after (.readCounts desk (.fields 5)) (atDesk State.reset)) = some .range := by
  decide +kernel
theorem test_read_flags : managed (after (.readFlags desk) (atDesk State.reset)) = some .done := by decide +kernel
theorem test_read_latch_empties :
    nth (after (.readLatch desk (.fields 0)) eventful).events.latches 0 none = none := by
  decide +kernel
theorem test_read_estimates : managed (after (.readEstimates desk) (atDesk State.reset)) = some .done := by decide +kernel

/-- R189. -/
theorem test_clear_flags :
    (after (.clearFlags desk (.fields (Vector.replicate _ true))) ((atDesk State.reset).setFlag 4)).flag 4 = false := by
  decide +kernel

/-- R72, R102, R59. -/
theorem test_rebind : ((after (.rebindHook desk (.fields ⟨575, 7⟩)) (rebinding (some 3) .missing)).hook 3).custody = .vacant := by
  decide +kernel
theorem test_restage : ((after (.restage desk (.fields ⟨7, 639⟩)) (restaging .free)).stall 639).state = .held := by
  decide +kernel
theorem test_force_close : (after (.forceClose desk (.fields 7)) closing).tickets = [] := by decide +kernel

/-- R62: what a retained start makes of a ticket under way. -/
theorem test_restart_states :
    [car .parking, car .fetching, { car .fetching with stall := some 12 }, car .toCurb, car .restaging,
      { car .restaging with callPending := true }, car .scheduled].map Ticket.stateAtStart =
    [.assigned, .staged, .called, .staged, .parked, .called, .scheduled] := by
  decide

/-- R82: a RELEASED key is taken to hang in the cabinet, one that was OUT to be missing. -/
theorem test_start_hooks : (Hook.atStart { Hook.cold with custody := .released, runner := some 1 }).custody = .cabinet ∧
    (Hook.atStart { Hook.cold with custody := .out }).custody = .missing := by
  decide

/-- R195, R149. -/
theorem test_unknown_code :
    managed (after (.manageUnknownKind desk (some 255)) (atDesk State.reset)) = some .unknownKind ∧
      managed (after (.manageUnknownKind desk none) (atDesk State.reset)) = some .unknownKind := by
  decide +kernel
theorem test_unknown_status_code :
    ((after (.unhandledKind base (.statusRequest 1 0)) (atBase State.reset)).runner 1).reply.map (·.outcome) = some .range := by
  decide +kernel

/-- R160: the front of the queue goes out; R159, R160: a copy for a full queue is CONGESTION. -/
theorem test_route_full :
    (after (.routeFrame .deck crossing none) (switching 32)).events.waiting = [⟨.congestion, 1⟩] := by
  decide +kernel
theorem test_opportunity : ((after (.transmitOpportunity .curb) opportunity).port .curb).forwarded.length = 1 := by
  decide +kernel

/-- R147: a length field above 32, and a byte count that differs from it, are malformed. -/
theorem test_length_33 : judge (.bytes (frameBytes (ownFrameFrom 0 9 0x10#8 (List.replicate 33 0#8)))) = .discarded := by
  decide +kernel
theorem test_one_byte_more : judge (.bytes (frameBytes (ownFrameFrom 0 9 0x10#8) ++ [0#8])) = .discarded := by
  decide +kernel

/-- R149: the kind of a LIFT_ORDER. -/
theorem test_order_kind : (OwnFrame.liftOrder 31 1 .up 0 2 (some 7) (some 1)).frame.kind = 0x31#8 := by rfl

/-- R111, R161: an order without a GRANTED tenure is cleared with the lift's marker. -/
theorem test_stale_order : ((after (.transmitOpportunity .deck) staleOrder).lift 1).orderOwed = false := by
  decide +kernel

/-- R45, R138: the DONE of an ARRIVE carries the quote of an ASSIGNED ticket, whatever the ticket has become. -/
theorem test_arrive_quote :
    ((deskCar (car .atCurb)).buildService ⟨.arrive, .done, some 7, none, false, false⟩).quote =
      (deskCar (car .assigned)).quote (car .assigned) := by
  decide +kernel

/-- R132: a refused GROUP_LINK carries the group of an open ticket. -/
theorem test_group_range_shows_the_group :
    ((grouped (some (63, 3)) 2).buildService ⟨.groupLink, .range, some 7, none, false, false⟩).group = some (63, 3) := by
  decide +kernel

/-- R153: the lowest address above the last, wrapping. -/
theorem test_poll_next : ((after (.poll .curb) (ready 4)).port .curb).phase = .window 12 := by decide +kernel
theorem test_poll_wraps : ((after (.poll .curb) (ready 12)).port .curb).phase = .window 4 := by decide +kernel

/-- R155, R156: the third miss in a row; a good answer takes an ABSENT lift to UNKNOWN. -/
theorem test_third_miss : ((after (.pollTimeout .deck) twoMisses).station 31).presence = .absent := by decide +kernel
theorem test_bad_answer : ((after (.badAnswer .deck (.bytes [1#8, 2#8, 3#8])) (atLift State.reset)).station 31).silent = 2 := by
  decide +kernel
theorem test_idle : ((after (.idle lift) newLift).lift 1).state = .unknown := by decide +kernel
theorem test_stray : ((after (.strayFrame .deck .badCharacters) twoMisses).station 31).silent = 2 := by decide +kernel
theorem test_destination_62 : ((after (.destination61Or62 lift 62) newLift).station 31).presence = .present := by
  decide +kernel

/-- R74, R79: panel 1 is selected first; the third bad sample in a row is PANEL_FAULT. -/
theorem test_scan_cycle : (after .scanCycle State.reset).keys.scan.selected = some 1 := by decide +kernel
theorem test_third_bad_sample : ((after (.panelSample (oneKey 0 true)) (scanning 9 2 none)).panel 9).state = .faulted := by
  decide +kernel
theorem test_key_found : ((after (.panelSample (oneKey 63 false)) (scanning 1 0 (some true))).hook 63).custody = .found := by
  decide +kernel

/-- R75, R76: positions 63 down to 0, then zeros, in 66 clocks and the further ones; a late end mark latches the same
bits, a missing one none. -/
theorem test_bits_put_out :
    (after (.panelSample ⟨true, [], some 2⟩) (unlocking 9)).keys.scan.out =
      List.replicate 63 false ++ [true] ++ List.replicate 4 false := by
  decide +kernel
theorem test_end_mark_latches :
    (nth1 (after (.panelSample ⟨true, [], some 32⟩) (unlocking 9)).keys.latches 9 []).head? = some true ∧
      (nth1 (after (.panelSample ⟨true, [], some 33⟩) (unlocking 9)).keys.latches 9 []).head? = some false := by
  decide +kernel

/-- R180: tenth 863,999 of day 65535 is followed by day 0, tenth 0. -/
theorem test_clock_wraps : (after .clockTick midnight).now = ⟨0, 0⟩ := by decide +kernel
theorem test_capture_saturates : ((after .clockTick ticking).channel 2).counter = 65535 := by decide +kernel

/-- R16, R71, R96, R122, R58, R130, R171. -/
theorem test_confirm : (after (.confirmDeadline 639) (deadlines true)).events.waiting = [⟨.stallMismatch, 639⟩] := by
  decide +kernel
theorem test_release : ((after (.releaseDeadline 575) (deadlines true)).hook 575).custody = .cabinet := by decide +kernel
theorem test_offer_passes : ((after (.offerDeadline 32) unanswered).runner 32).state = .silent := by decide +kernel
theorem test_clearing : ((after (.clearingDeadline 6) (deadlines true)).lane 6).state = .free := by decide +kernel
theorem test_overdue : (after (.overdueDeadline 7) overdueNow).events.waiting = [⟨.curbOverdue, 7⟩] := by decide +kernel
theorem test_schedule_release : ((after .scheduleRelease releasing).ticket 7).map (·.state) = some .called := by decide +kernel
theorem test_pulse_end : ((after (.pulseEnd 7) (deadlines true)).channel 7).drive = false := by decide +kernel

/-- R170, R171, R172, R174. -/
theorem test_interval : ((after (.intervalExpiry 1) (expiring .interval)).channel 1).drive = true := by decide +kernel
theorem test_interval_opens_window : ((after (.intervalExpiry 1) (expiring .interval)).channel 7).state = .counting := by
  decide +kernel
theorem test_delay : ((after (.delayExpiry 1) (expiring .delay)).channel 1).pulseEnd = some ⟨⟨0, 1⟩, false⟩ := by
  decide +kernel
theorem test_window : (after (.windowExpiry 1) (expiring .window)).events.waiting = [⟨.timer 1, 1⟩] := by decide +kernel

/-- R184, R185, R192. -/
theorem test_event_notice : ((after .eventTaken eventful).station 4).noticeMark = true := by decide +kernel
theorem test_event_latch : (nth (after .eventTaken eventful).events.latches 3 none).map (·.subject) = some 7 := by
  decide +kernel

/-- R192: a FULL latch hit again keeps its event, with its overrun mark set. -/
theorem test_latch_overrun : nth (after .eventTaken latched).events.latches 3 none =
    some ⟨SiteTime.zero, .arrival, 1, true⟩ := by decide +kernel

/-- R200, R201. -/
theorem test_power_loss : (after .powerLoss closing).tickets = closing.tickets := by decide +kernel
theorem test_dropout : (after .batteryDropout noPower).power.dropout = true := by decide +kernel
theorem test_cold_start :
    (after (.powerOn 5) { closing with power := { closing.power with main := false, dropout := true } }).tickets = [] := by
  decide +kernel

/-! ### Records that name the open tickets -/

/-- Ticket 7 is restaged from stall 12 to stall 639, its key on hook 575; ticket 8 is UNPLACED and 9 SCHEDULED. -/
def restaged7 : Ticket := { car .restaging with stall := some 12, target := some 639, hook := some 575 }

def recorded : State :=
  let s := (withStall 639 { loaded .held (some 7) with site := some level2 } (withStall 12 (loaded .occupied (some 7)) (atDesk State.reset))).setHook
    575 { Hook.cold with custody := .cabinet, ticket := some 7 }
  { s with
    tickets := [restaged7, { car .unplaced with number := 8 }, { car .scheduled with number := 9 }], unplaced := [8]
    calls.schedule := [⟨9, ⟨1, 0⟩, ⟨0, 5⟩, false⟩] }

theorem recorded_ticket {n : Nat} {c : Ticket} (h : recorded.ticket n = some c) :
    c = restaged7 ∧ n = 7 ∨ c = { car .unplaced with number := 8 } ∧ n = 8 ∨ c = { car .scheduled with number := 9 } ∧ n = 9 := by
  have e : recorded.ticket n = [restaged7, { car .unplaced with number := 8 }, { car .scheduled with number := 9 }].find?
    (·.number == n) := rfl
  rw [e] at h
  simp only [List.find?] at h
  split at h
  · cases h; exact .inl ⟨rfl, (eq_of_beq ‹_›).symm⟩
  split at h
  · cases h; exact .inr (.inl ⟨rfl, (eq_of_beq ‹_›).symm⟩)
  split at h
  · cases h; exact .inr (.inr ⟨rfl, (eq_of_beq ‹_›).symm⟩)
  · cases h

theorem recorded_stall (k : Nat) : k = 12 ∨ k = 639 ∨ recorded.stall k = Stall.cold := loaded_two (by rfl) k

theorem recorded_hook (h : Nat) : h = 575 ∨ recorded.hook h = Hook.cold := by
  by_cases e : h = 575
  · exact .inl e
  · refine .inr ?_
    show nth (setNth State.reset.keys.hooks 575 _) h Hook.cold = Hook.cold
    rw [nth_setNth_ne _ _ _ _ _ (Ne.symm e)]
    exact reset_hook h

theorem recorded_right : recorded.RecordsRight where
  numbers := by decide
  unplaced := ⟨by decide, fun n => by
    refine ⟨fun h => ?_, fun h => ?_⟩
    · obtain rfl : n = 8 := by simpa [recorded] using h
      rfl
    · cases e : recorded.ticket n with
      | none => rw [e] at h; cases h
      | some c => rw [e] at h; rcases recorded_ticket e with ⟨rfl, rfl⟩ | ⟨rfl, rfl⟩ | ⟨rfl, rfl⟩ <;> revert h <;> decide⟩
  schedule := ⟨by decide, fun n => by
    refine ⟨fun h => ?_, fun h => ?_⟩
    · obtain rfl : n = 9 := by simpa [recorded] using h
      rfl
    · cases e : recorded.ticket n with
      | none => rw [e] at h; cases h
      | some c => rw [e] at h; rcases recorded_ticket e with ⟨rfl, rfl⟩ | ⟨rfl, rfl⟩ | ⟨rfl, rfl⟩ <;> revert h <;> decide⟩
  hooks h := by
    rcases recorded_hook h with rfl | e
    · refine ⟨fun n => ⟨fun h => ?_, fun h => ?_⟩, by decide +kernel⟩
      · have e : (recorded.hook 575).ticket = some 7 := by decide +kernel
        obtain rfl : (7 : Nat) = n := Option.some.inj (e.symm.trans h)
        rfl
      · cases e : recorded.ticket n with
        | none => rw [e] at h; cases h
        | some c =>
          rw [e] at h; rcases recorded_ticket e with ⟨rfl, rfl⟩ | ⟨rfl, rfl⟩ | ⟨rfl, rfl⟩ <;> revert h <;> decide +kernel
    · rw [e]
      refine ⟨fun n => ⟨nofun, fun h' => ?_⟩, by decide⟩
      cases e' : recorded.ticket n with
      | none => rw [e'] at h'; cases h'
      | some c =>
        rw [e'] at h'
        rcases recorded_ticket e' with ⟨rfl, rfl⟩ | ⟨rfl, rfl⟩ | ⟨rfl, rfl⟩
        · obtain rfl : 575 = h := Option.some.inj h'
          exact absurd e (by decide +kernel)
        all_goals cases h'
  named k := by
    rcases recorded_stall k with rfl | rfl | e
    · decide +kernel
    · decide +kernel
    · rw [e]; decide
  held k n := by
    refine ⟨fun h => ?_, fun ⟨c, e, h⟩ => ?_⟩
    · rcases recorded_stall k with rfl | rfl | e
      · have : recorded.stall 12 = loaded .occupied (some 7) := by decide +kernel
        unfold State.heldFor at h; rw [this] at h; cases h
      · have : recorded.stall 639 = loaded .held (some 7) := by decide +kernel
        unfold State.heldFor at h; rw [this] at h
        obtain rfl : 7 = n := Option.some.inj (eq_of_beq (Bool.and_eq_true_iff.mp h).2)
        exact ⟨restaged7, rfl, .inr ⟨rfl, rfl⟩⟩
      · unfold State.heldFor at h; rw [e] at h; cases h
    · rcases recorded_ticket e with ⟨rfl, rfl⟩ | ⟨rfl, rfl⟩ | ⟨rfl, rfl⟩ <;>
        rcases h with ⟨h, h' | h'⟩ | ⟨h, h'⟩ <;> cases h'
      cases h
      decide +kernel
  occupied k n := by
    refine ⟨fun h => ?_, fun ⟨c, e, h, h'⟩ => ?_⟩
    · rcases recorded_stall k with rfl | rfl | e
      · have : recorded.stall 12 = loaded .occupied (some 7) := by decide +kernel
        unfold State.occupiedBy at h; rw [this] at h
        obtain rfl : 7 = n := Option.some.inj (eq_of_beq (Bool.and_eq_true_iff.mp h).2)
        exact ⟨restaged7, rfl, rfl, .inr (.inr (.inr (.inl rfl)))⟩
      · have : recorded.stall 639 = loaded .held (some 7) := by decide +kernel
        unfold State.occupiedBy at h; rw [this] at h; cases h
      · unfold State.occupiedBy at h; rw [e] at h; cases h
    · rcases recorded_ticket e with ⟨rfl, rfl⟩ | ⟨rfl, rfl⟩ | ⟨rfl, rfl⟩ <;> cases h
      decide +kernel
  bound := by decide
  tenures := ⟨by decide +kernel, by
    have : recorded.tenureTickets = [] := by decide +kernel
    rw [this]; nofun⟩

theorem witness_EveryStepKeepsGroupsAndRecords_records :
    recorded.RecordsRight ∧
      step { recorded with pending := [.forceClose desk (.fields 9)] } = .next (after (.forceClose desk (.fields 9)) recorded) :=
  ⟨recorded_right, by rfl⟩

theorem cold_params_right : Params.cold.Right where
  levelTime := by decide
  stayTarget i := by
    rcases i with _ | _ | _ | _ | i
    iterate 4 decide
    rw [nth_outside _ _ _ (Nat.le_add_left 4 i)]; decide
  stayWeight i := by
    rcases i with _ | _ | _ | _ | i
    iterate 4 decide
    rw [nth_outside _ _ _ (Nat.le_add_left 4 i)]; decide
  penalties := by decide
  reserve c := by cases c <;> decide
  parkSkip := by decide
  clearanceTime := by decide
  curbHold := by decide
  confirmWindow := by decide
  acceptWindow := by decide
  releaseWindow := by decide
  leadTime := by decide
  agingStep := by decide
  scanInterval := by decide
  panelCount := by decide

theorem witness_EveryStepKeepsSizesAndRanges_loads :
    (withStall 12 (loaded .free none) (atDesk State.reset)).LoadsRight ∧
      managed (after (.loadParams desk (.fields ⟨0, .number 31⟩)) (withStall 12 (loaded .free none) (atDesk State.reset))) =
        some .clamped ∧
      (after (.loadParams desk (.fields ⟨0, .number 31⟩))
        (withStall 12 (loaded .free none) (atDesk State.reset))).params.levelTime = 30 :=
  ⟨⟨cold_params_right, by decide +kernel⟩, by decide +kernel, by decide +kernel⟩

/-! ### Where a car is set down -/

/-- Runner 1 restages ticket 7 from stall 12 to stall 639; stall 0 stands in a state. -/
def restaging7 : Ticket := { car .restaging with stall := some 12, target := some 639, runner := some 1, callPending := true }

def setDownState (other : StallState) : State :=
  withStall 0 (loaded other none) (held .restage restaging7
    (withStall 639 (loaded .held (some 7)) (withStall 12 (loaded .occupied (some 7)) (liftIdle State.reset))))

theorem witness_ParkedOccupiesTheHeldStall_otherStalls :
    (setDownState .free).Holds base 1 restaging7 ∧ (setDownState .free).unplaced = [] ∧
      (∀ d ∈ (setDownState .free).tickets, d.restageWanted = false) ∧ (setDownState .free).Leaves restaging7 639 12 ∧
      (setDownState .free).GivesUp restaging7 12 639 ∧ (setDownState .free).GivesUp restaging7 0 639 ∧
      (setDownState .free).Leaves restaging7 0 12 ∧ ((setDownState .free).stall 0).state = .free ∧
      (setDownState .free).occupiedBy 12 7 = true ∧ (setDownState .free).heldFor 639 7 = true ∧
      ((setDownState .free).stall 0).site = some level2 ∧
      (withStall 0 (loaded .free none) (atLobbyState 0)).Holds base 1 parking ∧
      (withStall 0 (loaded .free none) (atLobbyState 0)).GivesUp parking 0 12 := by
  unfold State.Leaves State.GivesUp
  decide +kernel

theorem witness_ParkedOccupiesTheHeldStall_refused :
    (setDownState .blocked).Holds base 1 restaging7 ∧ ((setDownState .blocked).stall 0).state ≠ .free ∧
      (setDownState .blocked).heldFor 0 7 = false ∧ (setDownState .blocked).occupiedBy 0 7 = false ∧
      leaving.Holds base 1 fetching ∧ fetching.state ≠ .parking ∧ fetching.state ≠ .restaging := by
  decide +kernel

theorem test_parked_in_a_free_stall :
    ((after (.parked base 1 7 0 true) (setDownState .free)).stall 0).state = .occupied ∧
      ((after (.parked base 1 7 0 true) (setDownState .free)).stall 12).state = .free ∧
      ((after (.parked base 1 7 0 true) (setDownState .free)).stall 639).recheck = true ∧
      ((after (.parked base 1 7 0 true) (setDownState .free)).ticket 7).map (·.state) = some .called := by
  decide +kernel

/-! ### What meets the widened clauses on requests, lifts, lanes, costs and reads -/

theorem witness_ServiceNeedsPermission_range :
    (atPodium State.reset).Serves podium ∧ (atPodium State.reset).ticket 7 = none ∧ (deskCar (car .parked)).Serves desk ∧
      (deskCar (car .parked)).ticket 7 = some (car .parked) ∧ 63 < 64 := by
  decide +kernel

/-- Lift 1 is BUSY without a tenure, as an OBSTRUCTED report leaves it, and one may wait. -/
def emptied (queue : List Tenure) : State :=
  let s := carrying .busy none parking
  s.setLift 1 { s.lift 1 with queue }

theorem witness_FaultsHoldAndIdleRecovers_emptied :
    (emptied []).LiftSpeaks lift 1 ∧ ((emptied []).lift 1).state = .busy ∧ ((emptied []).lift 1).current = none ∧
      ((emptied []).lift 1).queue = [] ∧ (emptied [waitingUp 0 0]).LiftSpeaks lift 1 ∧
      ((emptied [waitingUp 0 0]).lift 1).queue = [waitingUp 0 0] ∧ (emptied [waitingUp 0 0]).liftConfigured 1 = true ∧
      (waitingUp 0 0).direction = .up ∧ (emptied [riding .down .waiting]).stagingCount 1 < 2 ∧
      (carrying .busy (some (riding .down .riding)) descending).LiftSpeaks lift 1 ∧
      ((carrying .busy (some (riding .down .riding)) descending).lift 1).state = .busy := by
  decide +kernel

/-- Tickets 7 and 8 ask for a lane, 8 the longer; lanes 5 and 6 are FREE, and lane 6 alone prefers a lift, lift 1. -/
def lanesAsked (l : Nat) : State :=
  let s := withCar { car .staged with number := 8, lift := some l, laneRequest := some SiteTime.zero }
    (withCar { descending with laneRequest := some ⟨0, 5⟩ } State.reset)
  { s with
    params.laneConfigured := setNth1 (setNth1 Params.cold.laneConfigured 6 true) 5 true
    params.preferredLifts := setNth1 (setNth1 Params.cold.preferredLifts 6 [1]) 5 [] }

theorem witness_GrantsFollowTheLimits_lanes :
    (∀ l ∈ [1, 2], ((lanesAsked l).tickets.map (·.number)).Nodup ∧ (lanesAsked l).freeLanes = [5, 6] ∧
      ∃ c ∈ (lanesAsked l).tickets, c.number = 8 ∧ c.wantsLane = true ∧ c.lift.getD 0 = l ∧
        ∀ d ∈ (lanesAsked l).tickets, d.number ≠ 8 → d.wantsLane = true ∧
          (c.laneRequest.getD SiteTime.zero).before (d.laneRequest.getD SiteTime.zero) = true) ∧
      (1 ∈ (lanesAsked 1).preferredLifts 6 ∧ 1 ∉ (lanesAsked 1).preferredLifts 5) ∧
      (∀ m ∈ (lanesAsked 2).freeLanes, 2 ∉ (lanesAsked 2).preferredLifts m ∧ 5 ≤ m) ∧ State.reset.NoLaneRequest ∧
      State.reset.freeLanes = [] := by
  decide +kernel

theorem test_lanes_to_the_oldest_first :
    ((lanesAsked 1).laneGrantCheck.ticket 8).map (·.lane) = some (some 6) ∧
      ((lanesAsked 1).laneGrantCheck.ticket 7).map (·.lane) = some (some 5) ∧
      ((lanesAsked 2).laneGrantCheck.ticket 8).map (·.lane) = some (some 5) := by
  decide +kernel

/-- Every allocation parameter stands at its top, and sixteen tenures wait at lift 4 behind the current one. -/
def dearest : State :=
  { State.reset.setLift 4 { Lift.cold with
      queue := List.replicate 16 (riding .up .waiting), current := some (riding .up .granted) } with
    params := { Params.cold with
      levelTime := 30, stayTarget := #v[0, 0, 0, 0], stayWeight := #v[7, 7, 7, 7], sizePenalty := 63
      chargerPenalty := 255, liftLoadPenalty := 63 } }

def farthest : StallSite := ⟨7, 15, 255, .oversize, true, 4⟩

theorem witness_PlacementTakesTheCheapestStall_cost :
    (car .unplaced).size.num ≤ farthest.size.num ∧ farthest.right = true ∧ level2.right = true ∧ Params.cold.Right :=
  ⟨by decide, by decide, by decide, cold_params_right⟩

/-- The bounds of R26 to R28 are met all at once: 3255, 126 (a STANDARD car in an OVERSIZE stall), 255 and 1008; a COMPACT
car costs 63 more, 4707. -/
theorem test_cost_at_its_bounds :
    dearest.stayTerm (car .unplaced) farthest = 3255 ∧ dearest.loadTerm farthest = 1008 ∧
      dearest.cost (car .unplaced) farthest = 4644 ∧ dearest.cost { car .unplaced with size := .compact } farthest = 4707 ∧
      dearest.cost { car .unplaced with charger := true } farthest = 4389 ∧
      dearest.cost (car .unplaced) { farthest with lift := 0 } = 3636 := by
  decide +kernel

theorem witness_ReadsAndTableLoadsChangeNoMore_contents :
    recorded.ticket 9 = some { car .scheduled with number := 9 } ∧
      (∃ e ∈ recorded.calls.schedule, e.ticket = 9) ∧ (recorded.calls.schedule.map (·.ticket)).Nodup ∧
      recorded.ticket 7 = some restaged7 ∧ (∀ e ∈ recorded.calls.schedule, e.ticket ≠ 7) ∧ recorded.ticket 10 = none := by
  decide

theorem test_code_too_wide : (Instr.manageUnknownKind desk (some 256)).wellFormed = false := by decide
theorem test_no_code : (Instr.manageUnknownKind desk none).wellFormed = true := by decide

/-! ### What meets the clauses on servability, replies, hooks, groups, old records and passed times -/

/-- Nine entries of the board name the open ticket 7. -/
def boarded : State := { withCar delivered State.reset with calls.board := List.replicate 9 ⟨7, SiteTime.zero⟩ }

theorem witness_OpportunitySendsAtMostTwoFrames_contents :
    ((atLobbyState 0).runner 1).task = some (7, .park) ∧ (atLobbyState 0).ticket 7 = some parking ∧
      parking.stall = some 12 ∧ ((atLobbyState 0).stall 12).site = some level2 ∧
      ((setDownState .free).runner 1).task = some (7, .restage) ∧ (setDownState .free).ticket 7 = some restaging7 ∧
      ((offering .park .assigned).runner 1).task = some (7, .park) ∧
      (offering .park .assigned).ticket 7 = some (car .assigned) ∧ (car .assigned).stall = none ∧
      ((keyed .out .suspect).ticket 7).map (·.hook) = some (some 575) ∧ State.reset.ticket 7 = none ∧
      (∀ e ∈ boarded.calls.board, boarded.ticket e.ticket ≠ none) ∧
      boarded.calls.board[7]? = some ⟨7, SiteTime.zero⟩ ∧ boarded.ticket 7 = some delivered ∧
      State.reset.power.main = true ∧
      ∀ p ∈ [Port.curb, .deck], (State.reset.port p).phase = .ready ∧ State.reset.polled p = [] := by
  decide +kernel

theorem witness_OpportunitySendsAtMostTwoFrames_noTask (kind : TaskKind) : (State.reset.runner 1).task ≠ some (7, kind) := by
  cases kind <;> decide +kernel

/-- Panel 1 is FAULTED, and with `all` every panel is. -/
def panelsDown (all : Bool) : State :=
  let s := oneStall (atPodium State.reset)
  if all then { s with keys.panels := Vector.replicate _ { Panel.cold with state := .faulted } }
  else s.setPanel 1 { Panel.cold with state := .faulted }

theorem witness_ArriveEndsInOneOfThreeWays_hook :
    (panelsDown false).Serves podium ∧ (panelsDown false).MayBind 64 ∧ (∀ g, g < 64 → ¬ (panelsDown false).MayBind g) ∧
      (after (.arrive podium (.fields evening)) (panelsDown false)).ticket 1 ≠ none ∧
      ((after (.arrive podium (.fields evening)) (panelsDown false)).ticket 1).bind (·.hook) = some 64 ∧
      (after (.arrive podium (.fields evening)) noSpace).ticket 1 = none ∧ (noSpace.hook 575).ticket ≠ some 1 := by
  unfold State.MayBind
  decide +kernel

theorem witness_ArriveEndsInOneOfThreeWays_noHook :
    (panelsDown true).Serves podium ∧ (∀ h, ¬ (panelsDown true).MayBind h) ∧
      (after (.arrive podium (.fields evening)) (panelsDown true)).ticket 1 ≠ none := by
  refine ⟨by decide +kernel, fun h hb => ?_, by decide +kernel⟩
  have all : ∀ p, p < 10 → 1 ≤ p → ((panelsDown true).panel p).state = .faulted := by decide +kernel
  have count : (panelsDown true).params.panelCount = 9 := by decide
  have := hb.2.2.1
  exact hb.2.2.2 (all _ (by omega) (Nat.le_add_left 1 _))

/-- A ring of three with the lead, ticket 7, in the last place. -/
def leading (lead : Ticket) : State :=
  (List.range 2).foldl (fun s k => withCar { car .parked with number := k + 8, group := some (63, k + 1) } s)
    (deskCar { lead with group := some (63, 3) })

theorem witness_CallOfAParkedCarMakesAFetchTask_leads :
    ∀ x ∈ [car .parking, car .restaging, car .unplaced, { car .assigned with stall := some 12 }, car .staged],
      (leading x).Serves desk ∧ (leading x).GroupsRight ∧
        (leading x).ticket 7 = some { x with group := some (63, 3) } ∧ x.callPending = false ∧ 7 ∉ (leading x).unplaced := by
  intro x hx
  have all : ∀ x ∈ [car .parking, car .restaging, car .unplaced, { car .assigned with stall := some 12 }, car .staged],
      (leading x).Serves desk ∧ ((leading x).tickets.map (·.number)).Nodup ∧
        (leading x).tickets.all (fun t => t.group.all fun g => 1 ≤ g.1 && g.1 ≤ 63) = true ∧
        (∀ g, g < 64 → ((leading x).placesOf g).Nodup ∧ ((leading x).placesOf g).length ≤ 4 ∧
          ∀ place ∈ (leading x).placesOf g, 1 ≤ place ∧ place ≤ ((leading x).placesOf g).length) ∧
        (leading x).ticket 7 = some { x with group := some (63, 3) } ∧ x.callPending = false ∧
        7 ∉ (leading x).unplaced := by
    decide +kernel
  obtain ⟨serves, numbers, range, rings, rest⟩ := all x hx
  exact ⟨serves, State.groupsRight_of numbers range rings, rest⟩

theorem witness_QuoteAskChangesOnlyTheReply_contents :
    (∀ x ∈ [TicketState.parked, .scheduled, .called, .unplaced, .atCurb], (deskCar (car x)).ticket 7 = some (car x)) ∧
      (deskCar (car .parked)).ticket 8 = none ∧ recorded.ticket 9 = some { car .scheduled with number := 9 } ∧
      (recorded.calls.schedule.map (·.ticket)).Nodup ∧ ⟨9, ⟨1, 0⟩, ⟨0, 5⟩, false⟩ ∈ recorded.calls.schedule ∧
      (deskCar { car .atCurb with lane := some 0 }).ticket 7 = some { car .atCurb with lane := some 0 } := by
  decide +kernel

theorem witness_OnlyTheHolderActsOnATask_holder :
    (holding .park (atBase State.reset)).Carries base 1 ∧ (holding .park (atBase State.reset)).holdsTask 1 7 = true := by
  decide +kernel

theorem witness_ParkedOccupiesTheHeldStall_task :
    (∀ s ∈ [atLobbyState 0, withStall 0 (loaded .free none) (atLobbyState 0)],
      (s.dispatch.tasks.map (·.ticket)).Nodup ∧ s.task 7 = some ⟨.park, 7, SiteTime.zero, [], .held 1⟩) ∧
      ((setDownState .free).dispatch.tasks.map (·.ticket)).Nodup ∧
      (setDownState .free).task 7 = some ⟨.restage, 7, SiteTime.zero, [], .held 1⟩ := by
  decide +kernel

theorem witness_KeyRequestReleasesTheKey_otherState :
    (atLobbyState 0).Holds base 1 parking ∧ parking.state ≠ .fetching ∧ parking.state ≠ .restaging := by
  decide +kernel

theorem witness_SensorsChangeAStallOnAgreement_several :
    (sensing none).Hears hub ∧ (sensing none).classOf hub.source = .sensorHub ∧
      ((sensing none).station 9).served = some (.stalls 280 311) ∧ (List.replicate 31 Mark.empty).length < 32 := by
  decide +kernel

/-- Lift 1 has a second station, which is PRESENT. -/
def secondLift : State :=
  let s := atDesk (atLift (liftIdle State.reset))
  s.setStation 32 { s.station 31 with presence := .present }

theorem witness_StationLoadsStoreTheRecord_absence :
    (∀ s ∈ [atDesk (atHub State.reset), atDesk (offering .park .assigned), atDesk (holding .park (atBase State.reset)),
        atDesk (atLift (liftIdle State.reset)), secondLift, atDesk (reservedFor (car .toCurb)), markedLift,
        atDesk (atPodium State.reset)],
      s.Manages desk) ∧
      (atDesk (atHub State.reset)).station 9 = { Station.cold with
        segment := .deck, cls := .sensorHub, served := some (.stalls 280 311), presence := .present, silent := 1 } ∧
      ((atDesk (offering .park .assigned)).station 20).cls = .runnerBase ∧
      ((atDesk (offering .park .assigned)).station 20).presence ≠ .absent ∧
      ((atDesk (offering .park .assigned)).runner 1).base = some 20 ∧
      ((atDesk (offering .park .assigned)).runner 1).state = .offered ∧
      ((atDesk (offering .park .assigned)).runner 1).task = some (7, .park) ∧
      ((atDesk (holding .park (atBase State.reset))).runner 1).state ≠ .offered ∧
      ((atDesk (holding .park (atBase State.reset))).runner 1).base = some 20 ∧
      (∀ s ∈ [atDesk (atLift (liftIdle State.reset)), secondLift], (s.station 31).cls = .lift ∧
        (s.station 31).served = some (.lift 1) ∧ (s.station 31).presence ≠ .absent) ∧
      (∀ b, 1 ≤ b → b ≤ 60 → b ≠ 31 → ((atDesk (atLift (liftIdle State.reset))).station b).cls ≠ .lift) ∧
      (secondLift.station 32).cls = .lift ∧ (secondLift.station 32).served = some (.lift 1) ∧
      (secondLift.station 32).presence ≠ .absent ∧ (markedLift.station 31).presence = .absent ∧
      ((atDesk (atPodium State.reset)).station 12).cls = .podium := by
  decide +kernel

theorem witness_StationLoadsStoreTheRecord_lane :
    let s := atDesk (reservedFor (car .toCurb))
    (s.station 21).cls = .laneLoop ∧ (s.station 21).served = some (.lane 1) ∧ (s.station 21).presence ≠ .absent ∧
      (s.lane 1).state = .reserved ∧ (s.lane 1).ticket = some 7 ∧ s.ticket 7 = some (car .toCurb) ∧ s.freeLanes = [] := by
  decide +kernel

theorem witness_ParametersAreClampedAndStored_rows :
    let p := (atDesk State.reset).params
    p.NumberRow 30 0 1 30 { p with levelTime := 30 } ∧ p.NumberRow 100 24 100 1000 { p with scanInterval := 100 } ∧
      p.NumberRow 9 25 1 9 p ∧ p.NumberRow 0 15 0 63 p ∧
      p.SetRow ((List.range 8).filter (· ∈ [7, 2])) 26 8 { p with servedLevels := setNth1 p.servedLevels 1 [2, 7] } ∧
      p.SetRow ((List.range 5).filter (· ∈ [5])) 35 5 { p with preferredLifts := setNth1 p.preferredLifts 6 [] } ∧
      p.FlagRow false 36 p ∧ p.FlagRow true 45 { p with laneConfigured := setNth1 p.laneConfigured 6 true } :=
  ⟨.levelTime, .scanInterval, .panelCount, .reserveOversize, .servedLevels 1 (by decide), .preferredLifts 6 (by decide),
    .lift 1 (by decide), .lane 6 (by decide)⟩

theorem witness_TimerLoadsStoreTheSetup_passes : ¬ (atDesk State.reset).TimerRefused setup := by
  have cold : ∀ j, j < 8 → (atDesk State.reset).channel j = Channel.cold := by decide +kernel
  intro h
  cases h with
  | channel h => exact absurd h (by decide)
  | outsideSet h => exact absurd h (by decide)
  | sourceAbsent _ h => cases h
  | sourceRange k _ h h' => cases h; exact absurd h' (by decide)
  | sourcePresent clock h h' => cases h; exact h' rfl
  | masterAbsent h => cases h
  | masterItself h => cases h
  | masterMode m h => cases h
  | masterPresent mode _ _ h => exact h rfl
  | target t h h' => cases h; exact h' rfl
  | countsEventChannel j _ _ h => have := Option.some.inj h; omega
  | countedByEventChannel j _ hj _ h => rw [cold j hj] at h; cases h
  | isMaster mode j _ _ hj _ h => rw [cold j hj] at h; cases h

/-- Ticket 7 is PARKED in stall 12 of lift 1; stall 639 is FREE, on another lift, too small or the same. -/
def restagingTo (site : StallSite) (s : State) : State :=
  withCar parked12 (withStall 12 (loaded .occupied (some 7)) (withStall 639 { loaded .free none with site := some site } s))

theorem witness_DeskMovesKeysAndCars_refused :
    (∀ s ∈ [restagingTo level5 (liftIdle (atDesk State.reset)),
        restagingTo { level2 with size := .compact } (liftIdle (atDesk State.reset)), restagingTo level2 (atDesk State.reset)],
      s.Manages desk ∧ s.ticket 7 = some parked12 ∧ (s.stall 639).state = .free ∧ (s.stall 12).site = some level2) ∧
      level2.lift ≠ level5.lift ∧ SizeClass.compact.num < parked12.size.num ∧ level2.lift ≠ 0 ∧
      (restagingTo level2 (atDesk State.reset)).serviceable level2.lift = false ∧
      (restagingTo level2 (atDesk State.reset)).ticket 9999 = none := by
  decide +kernel

/-- Records of each owner with a time of their own; none is reached. -/
def passing (d : SiteTime) : State :=
  let x : Deadline := ⟨d, false⟩
  let s := offeredTask .park (withCar (car .assigned) (atDesk State.reset))
  let s := s.setRunner 1 { s.runner 1 with offerBy := some x }
  let s := withCar { car .atCurb with number := 8, overduePending := true, atCurbAt := some ⟨0, d.tenth - 6000⟩ } s
  let s := withCar { car .scheduled with number := 9 } s
  let s := withStall 639 { loaded .occupied (some 8) with sensed := .empty, confirmBy := some x } s
  let s := (s.setLane 6 { Lane.cold with state := .clearing, clearingBy := some x }).setHook 575
    { Hook.cold with custody := .released, ticket := some 7, runner := some 1, releaseBy := some x }
  { withTimer 7 { timer .delay .armed with drive := true, pulseEnd := some x } s with
    calls.schedule := [⟨9, ⟨1, 0⟩, d, false⟩] }

theorem witness_TheClockIsSetAndTicks_passed :
    (∀ d ∈ [(⟨0, 6000⟩ : SiteTime), ⟨0, 6001⟩], (passing d).Manages desk ∧ (passing d).Quiet ∧
      (passing d).now.before ⟨0, 6000⟩ = true ∧ ((passing d).tickets.map (·.number)).Nodup ∧
      ((passing d).calls.schedule.map (·.ticket)).Nodup ∧
      (∀ e ∈ (passing d).calls.schedule, ((passing d).ticket e.ticket).map (·.state) = some .scheduled) ∧
      (passing d).now.before d = true ∧ ((passing d).stall 639).confirmBy = some ⟨d, false⟩ ∧
      ((passing d).stall 639).sensed = .empty ∧ ((passing d).hook 575).releaseBy = some ⟨d, false⟩ ∧
      ((passing d).runner 1).state = .offered ∧ ((passing d).runner 1).task = some (7, .park) ∧
      ((passing d).runner 1).offerBy = some ⟨d, false⟩ ∧ ((passing d).lane 6).state = .clearing ∧
      ((passing d).lane 6).clearingBy = some ⟨d, false⟩ ∧ ((passing d).channel 7).pulseEnd = some ⟨d, false⟩ ∧
      (passing d).ticket 8 = some
        { car .atCurb with number := 8, overduePending := true, atCurbAt := some ⟨0, d.tenth - 6000⟩ }) ∧
      SiteTime.notAfter ⟨0, 6000⟩ ⟨0, 6000⟩ = true ∧ SiteTime.notAfter ⟨0, 6001⟩ ⟨0, 6000⟩ = false := by
  decide +kernel

end Sys2Proof.Tests
end

section
/-! SUPPORT and PROOFS. The choice of a stall (R22 to R28): the first of a list by a key, which stalls a try finds, and the
bounds of the four terms of the cost. Settles O20. -/

namespace Sys2Proof.Machine

open Sys2Proof

/-! ### The first by a key -/

section FirstBy

variable {α β : Type} [LinearOrder β] {before : α → α → Bool} {key : α → β}

theorem firstBy_eq_none_iff {xs : List α} : firstBy before xs = none ↔ xs = [] := by
  cases xs with
  | nil => simp [firstBy]
  | cons x xs =>
    simp only [firstBy, reduceCtorEq, iff_false]
    split
    · nofun
    · split <;> nofun

/-- Where `before` compares a key in a linear order, `firstBy` finds an element of the least key. -/
theorem firstBy_least (hkey : ∀ a b, before a b = true ↔ key a < key b) {xs : List α} {m : α}
    (h : firstBy before xs = some m) : m ∈ xs ∧ ∀ x ∈ xs, key m ≤ key x := by
  induction xs generalizing m with
  | nil => cases h
  | cons x xs ih =>
    simp only [firstBy] at h
    split at h
    next alone =>
      obtain rfl := Option.some.inj h
      simp [firstBy_eq_none_iff.mp alone]
    next y found =>
      obtain ⟨mem, least⟩ := ih found
      split at h
      next less =>
        obtain rfl := Option.some.inj h
        exact ⟨.tail _ mem, List.forall_mem_cons.mpr ⟨((hkey _ _).mp less).le, least⟩⟩
      next notLess =>
        obtain rfl := Option.some.inj h
        have below : key x ≤ key y := not_lt.mp fun less => notLess ((hkey _ _).mpr less)
        exact ⟨.head _, List.forall_mem_cons.mpr ⟨le_rfl, fun z mz => below.trans (least z mz)⟩⟩

end FirstBy

/-! ### The order of the choice (R28) -/

/-- What R28 compares of a stall, the first part first: cost, level, number. -/
def State.choiceKey (s : State) (t : Ticket) (c : Candidate) : ℕ ×ₗ ℕ ×ₗ ℕ :=
  toLex (s.cost t c.site, toLex (c.site.level, c.number))

theorem State.cheaper_iff (s : State) (t : Ticket) (a b : Candidate) :
    s.cheaper t a b = true ↔ s.choiceKey t a < s.choiceKey t b := by
  simp [State.cheaper, State.choiceKey, Prod.Lex.toLex_lt_toLex]

theorem State.choiceKey_le_iff (s : State) (t : Ticket) (a b : Candidate) :
    s.choiceKey t a ≤ s.choiceKey t b ↔ s.cost t a.site < s.cost t b.site ∨
      (s.cost t a.site = s.cost t b.site ∧
        (a.site.level < b.site.level ∨ (a.site.level = b.site.level ∧ a.number ≤ b.number))) := by
  simp [State.choiceKey, Prod.Lex.toLex_le_toLex]

/-! ### The stalls of one try (R22, R25) -/

/-- The candidates are the stalls that have a site, each with its record (R21). -/
theorem State.mem_candidates (s : State) (c : Candidate) :
    c ∈ s.candidates ↔ c.number < Config.stallCount ∧ c.record = s.stall c.number ∧ c.record.site = some c.site := by
  have record_at (r : Stall) (k : Nat) :
      (r, k) ∈ s.stalls.records.toList.zipIdx ↔ k < Config.stallCount ∧ r = s.stall k := by
    by_cases h : k < Config.stallCount <;>
      simp [List.mk_mem_zipIdx_iff_getElem?, State.stall, nth, h, eq_comm]
  obtain ⟨number, record, site⟩ := c
  simp only [State.candidates, List.mem_filterMap, Prod.exists, record_at, Option.map_eq_some_iff, Candidate.mk.injEq]
  constructor
  · rintro ⟨_, _, ⟨inside, rfl⟩, _, loaded, rfl, rfl, rfl⟩
    exact ⟨inside, rfl, loaded⟩
  · rintro ⟨inside, rfl, loaded⟩
    exact ⟨_, number, ⟨inside, rfl⟩, site, loaded, rfl, rfl, rfl⟩

/-- A choice is an eligible candidate that no other stands before (R28). -/
theorem State.choose_some {s : State} {t : Ticket} {replacing need : Bool} {k : Nat}
    (h : s.choose t replacing need = some k) :
    ∃ c ∈ s.candidates, c.number = k ∧ s.eligible t replacing need c = true ∧
      ∀ d ∈ s.candidates, s.eligible t replacing need d = true → s.choiceKey t c ≤ s.choiceKey t d := by
  obtain ⟨c, found, number⟩ := Option.map_eq_some_iff.mp h
  obtain ⟨mem, least⟩ := firstBy_least (s.cheaper_iff t) found
  obtain ⟨mem, eligible⟩ := List.mem_filter.mp mem
  exact ⟨c, mem, number, eligible, fun d md ed => least d (List.mem_filter.mpr ⟨md, ed⟩)⟩

/-- A try finds no stall exactly when no candidate is eligible (R25). -/
theorem State.choose_none_iff (s : State) (t : Ticket) (replacing need : Bool) :
    s.choose t replacing need = none ↔ ∀ c ∈ s.candidates, s.eligible t replacing need c = false := by
  simp [State.choose, firstBy_eq_none_iff, List.filter_eq_nil_iff]

theorem State.serviceable_iff (s : State) (l : Nat) :
    s.serviceable l = true ↔ s.liftConfigured l = true ∧ ((s.lift l).state = .idle ∨ (s.lift l).state = .busy) := by
  simp [State.serviceable]

/-- What `State.mayTake` says of a stall is that a placement has it as an eligible candidate. -/
theorem State.mayTake_iff_eligible (s : State) (t : Ticket) (need : Bool) (c : Candidate)
    (own : c.record = s.stall c.number) :
    s.mayTake t need c.number c.site ↔ c ∈ s.candidates ∧ s.eligible t false need c = true := by
  simp only [State.mayTake, s.mem_candidates, own, State.eligible, State.reserveAdmits, Candidate.isOwn,
    ← s.serviceable_iff]
  cases need <;> simp [and_assoc]

/-- The stall of a successful try may take the ticket, at the lowest cost, level and number (R25, R28). -/
theorem State.choose_takes_cheapest {s : State} {t : Ticket} {need : Bool} {k : Nat}
    (h : s.choose t false need = some k) :
    ∃ site, s.mayTake t need k site ∧ ∀ k' site', s.mayTake t need k' site' →
      s.cost t site < s.cost t site' ∨
        (s.cost t site = s.cost t site' ∧ (site.level < site'.level ∨ (site.level = site'.level ∧ k ≤ k'))) := by
  obtain ⟨c, mem, rfl, eligible, least⟩ := State.choose_some h
  obtain ⟨-, own, -⟩ := (s.mem_candidates c).mp mem
  refine ⟨c.site, (s.mayTake_iff_eligible t need c own).mpr ⟨mem, eligible⟩, fun k' site' may => ?_⟩
  obtain ⟨mem', eligible'⟩ := (s.mayTake_iff_eligible t need ⟨k', s.stall k', site'⟩ rfl).mp may
  exact (s.choiceKey_le_iff t c ⟨k', s.stall k', site'⟩).mp (least _ mem' eligible')

/-- A try fails only where no stall may take the ticket (R25). -/
theorem State.not_mayTake_of_choose_none {s : State} {t : Ticket} {need : Bool} (h : s.choose t false need = none)
    (k : Nat) (site : StallSite) : ¬ s.mayTake t need k site := fun may => by
  obtain ⟨mem, eligible⟩ := (s.mayTake_iff_eligible t need ⟨k, s.stall k, site⟩ rfl).mp may
  rw [(s.choose_none_iff t false need).mp h _ mem] at eligible
  cases eligible

/-! ### The two tries (R25) -/

/-- A placement has its stall from the first try, or from the second after a first that judged the charger and failed. -/
theorem State.placement_some {s : State} {t : Ticket} {replacing second : Bool} {k : Nat}
    (h : s.placement t replacing = some (k, second)) :
    s.choose t replacing (t.charger && !second) = some k ∧
      (second = true → t.charger = true ∧ s.choose t replacing true = none) := by
  unfold State.placement at h
  split at h
  next first =>
    cases h
    simpa using first
  next failed =>
    split at h
    next charger =>
      obtain ⟨_, found, same⟩ := Option.map_eq_some_iff.mp h
      cases same
      exact ⟨by simpa using found, fun _ => ⟨charger, charger ▸ failed⟩⟩
    next => cases h

/-- A placement fails only when its try or its two tries fail. -/
theorem State.placement_none {s : State} {t : Ticket} {replacing : Bool} (h : s.placement t replacing = none) :
    s.choose t replacing t.charger = none ∧ s.choose t replacing false = none := by
  unfold State.placement at h
  split at h
  next => cases h
  next failed =>
    split at h
    next => exact ⟨failed, Option.map_eq_none_iff.mp h⟩
    next noCharger => exact ⟨failed, Bool.eq_false_iff.mpr noCharger ▸ failed⟩

/-- A stall that the second try finds has no charger: the first try would have found it (R25, R27). -/
theorem State.no_charger_of_mayTake {s : State} {t : Ticket} {k : Nat} {site : StallSite} (h : s.mayTake t false k site)
    (failed : ∀ k site, ¬ s.mayTake t true k site) : site.charger = false := by
  rw [← Bool.not_eq_true]
  intro charger
  obtain ⟨inside, loaded, free, size, lift, -, reserve⟩ := h
  exact failed k site ⟨inside, loaded, free, size, lift, fun _ => charger, reserve⟩

/-! ### The terms of the cost (R26 to R28) -/

theorem StallSite.right_bounds {x : StallSite} (h : x.right = true) : x.level ≤ 7 ∧ x.walk ≤ 255 := by
  simp only [StallSite.right, Bool.and_eq_true, decide_eq_true_eq] at h
  omega

theorem distance_eq (a b : Nat) : distance a b = if a ≤ b then b - a else a - b := by
  unfold distance
  split <;> omega

theorem Lift.tenures_length (r : Lift) : r.tenures.length = r.queue.length + if r.current = none then 0 else 1 := by
  cases h : r.current <;> simp [Lift.tenures, h]

theorem sizeClass_num_le (c : SizeClass) : c.num ≤ 3 := by cases c <;> decide

theorem State.retrievalSeconds_le {s : State} {site : StallSite} (params : s.params.Right) (right : site.right = true) :
    s.retrievalSeconds site ≤ 465 := by
  obtain ⟨level, walk⟩ := StallSite.right_bounds right
  have climb : site.level * s.params.levelTime ≤ 7 * 30 := Nat.mul_le_mul level params.levelTime.2
  unfold State.retrievalSeconds
  omega

theorem State.stayTerm_le {s : State} (t : Ticket) {site : StallSite} (params : s.params.Right)
    (right : site.right = true) : s.stayTerm t site ≤ 3255 := by
  have seconds := State.retrievalSeconds_le params right
  have target := params.stayTarget t.stay.index
  refine Nat.mul_le_mul (params.stayWeight t.stay.index) (?_ : _ ≤ 465)
  unfold distance
  omega

/-- The stay term, the difference without sign written as the larger less the smaller. -/
theorem State.stayTerm_eq (s : State) (t : Ticket) (site : StallSite) :
    s.stayTerm t site =
      let seconds := site.walk + site.level * s.params.levelTime
      let target := nth s.params.stayTarget t.stay.index 0
      nth s.params.stayWeight t.stay.index 0 * (if seconds ≤ target then target - seconds else seconds - target) := by
  simp only [State.stayTerm, State.retrievalSeconds, distance_eq]

theorem State.sizeTerm_le {s : State} (t : Ticket) (site : StallSite) (params : s.params.Right) :
    (site.size.num - t.size.num) * s.params.sizePenalty ≤ 189 := by
  obtain ⟨size, -, -⟩ := params.penalties
  exact Nat.mul_le_mul ((Nat.sub_le _ _).trans (sizeClass_num_le _)) size

theorem Params.Right.chargerTerm_le {p : Params} (right : p.Right) (paid : Prop) [Decidable paid] :
    (if paid then p.chargerPenalty else 0) ≤ 255 := by
  obtain ⟨-, charger, -⟩ := right.penalties
  split <;> omega

theorem State.loadTerm_le {s : State} (site : StallSite) (params : s.params.Right) : s.loadTerm site ≤ 1008 := by
  obtain ⟨-, -, load⟩ := params.penalties
  unfold State.loadTerm
  split
  · omega
  · exact Nat.mul_le_mul (Nat.min_le_left 16 _) load

/-- The load term, the tenures of the lift counted from its queue and its current tenure. -/
theorem State.loadTerm_eq (s : State) (site : StallSite) :
    s.loadTerm site =
      let tenures := (s.lift site.lift).queue.length + if (s.lift site.lift).current = none then 0 else 1
      if site.lift = 0 then 0 else (if tenures ≤ 16 then tenures else 16) * s.params.liftLoadPenalty := by
  simp only [State.loadTerm, Lift.tenures_length, min_comm 16, Nat.min_def]

theorem State.cost_le {s : State} (t : Ticket) {site : StallSite} (params : s.params.Right) (right : site.right = true) :
    s.cost t site ≤ 4707 := by
  have stay := State.stayTerm_le t params right
  have size := State.sizeTerm_le t site params
  have charger := params.chargerTerm_le ((site.charger && !t.charger) = true)
  have load := State.loadTerm_le site params
  unfold State.cost
  omega

/-- Settles O20: the choice is the first by cost, level and number among the stalls that may take the ticket, and each
term of the cost is bounded by the ranges of what it multiplies. -/
theorem placementTakesTheCheapestStall : Obligations.PlacementTakesTheCheapestStall := by
  unfold Obligations.PlacementTakesTheCheapestStall
  refine ⟨fun s t => ⟨fun k second placed => ?chosen, fun failed => ?unplaced⟩,
    fun s t site _ => ⟨?terms, fun params right => ?bounds⟩⟩
  case chosen =>
    obtain ⟨chosen, secondTry⟩ := State.placement_some placed
    obtain ⟨site, may, least⟩ := State.choose_takes_cheapest chosen
    refine ⟨site, may, fun again => ?_, least⟩
    subst again
    obtain ⟨charger, failed⟩ := secondTry rfl
    have first := State.not_mayTake_of_choose_none failed
    exact ⟨charger, State.no_charger_of_mayTake (by simpa using may) first, first⟩
  case unplaced =>
    obtain ⟨first, second⟩ := State.placement_none failed
    exact fun k site => ⟨State.not_mayTake_of_choose_none first k site, State.not_mayTake_of_choose_none second k site⟩
  case terms =>
    simp only [State.cost, State.stayTerm_eq, State.loadTerm_eq, Bool.and_eq_true, Bool.not_eq_true']
  case bounds =>
    exact ⟨s.stayTerm_eq t site ▸ State.stayTerm_le t params right, State.sizeTerm_le t site params,
      params.chargerTerm_le _, s.loadTerm_eq site ▸ State.loadTerm_le site params, State.cost_le t params right⟩

end Sys2Proof.Machine
end

section
/-! SUPPORT and PROOFS. The issue of a ticket number (R40): the candidates and the first free one, the numbers of the open
tickets after each part of an ARRIVE, and the request taken whole. Settles O18. -/

namespace Sys2Proof.Machine

open Sys2Proof

/-! ### The open tickets' numbers -/

/-- The numbers of the open tickets, in the order of the ticket table. -/
def State.numbers (s : State) : List Nat := s.tickets.map (·.number)

theorem State.ticket_eq_none_iff (s : State) (n : Nat) : s.ticket n = none ↔ n ∉ s.numbers := by
  simp [State.ticket, State.numbers]

/-- The numbers are read from the ticket table alone. -/
theorem State.numbers_congr {s t : State} (same : t.tickets = s.tickets) : t.numbers = s.numbers :=
  congrArg (List.map Ticket.number) same

theorem State.modifyTicket_numbers (s : State) (n : Nat) (f : Ticket → Ticket) (keeps : ∀ t, (f t).number = t.number) :
    (s.modifyTicket n f).numbers = s.numbers := by
  simp only [State.numbers, State.modifyTicket, List.map_map]
  refine List.map_congr_left fun t _ => ?_
  simp only [Function.comp_apply, apply_ite Ticket.number, keeps, ite_self]

/-! ### The candidates (R40) -/

/-- Each candidate in closed form: 9999 is followed by 1. -/
theorem nextNumber_iterate {n : Nat} (low : 1 ≤ n) (high : n ≤ 9999) (i : Nat) :
    nextNumber^[i] n = (n - 1 + i) % 9999 + 1 := by
  induction i with
  | zero => rw [Function.iterate_zero_apply]; omega
  | succ i ih =>
    rw [Function.iterate_succ_apply', ih]
    simp only [nextNumber, Config.maxTicketNumber]
    split <;> omega

theorem nextNumber_eq {n : Nat} (high : n ≤ 9999) : nextNumber n = if n = 9999 then 1 else n + 1 := by
  simp only [nextNumber, Config.maxTicketNumber]
  split <;> split <;> omega

/-- More candidates than open tickets hold a free number, as long as the candidates differ. -/
theorem State.exists_free_candidate (s : State) (low : 1 ≤ s.issue) (high : s.issue ≤ 9999)
    (few : s.tickets.length < 9999) : ∃ j ≤ s.tickets.length, s.ticket (nextNumber^[j] s.issue) = none := by
  by_contra! taken
  have inTable : ∀ i ∈ Finset.range (s.tickets.length + 1), nextNumber^[i] s.issue ∈ s.numbers.toFinset := by
    intro i within
    have open' := taken i (by simpa [Nat.lt_succ_iff] using within)
    simpa [State.ticket_eq_none_iff] using open'
  have fewer : s.numbers.toFinset.card < (Finset.range (s.tickets.length + 1)).card := by
    have := s.numbers.toFinset_card_le
    simp only [State.numbers, List.length_map, Finset.card_range] at this ⊢
    omega
  obtain ⟨i, hi, j, hj, differ, equal⟩ := Finset.exists_ne_map_eq_of_card_lt_of_maps_to fewer inTable
  rw [nextNumber_iterate low high, nextNumber_iterate low high] at equal
  rw [Finset.mem_range] at hi hj
  omega

theorem State.firstFreeNumber_eq (s : State) {fuel j n : Nat} (within : j < fuel)
    (taken : ∀ i < j, s.ticket (nextNumber^[i] n) ≠ none) (free : s.ticket (nextNumber^[j] n) = none) :
    s.firstFreeNumber fuel n = nextNumber^[j] n := by
  obtain ⟨fuel, rfl⟩ := Nat.exists_eq_succ_of_ne_zero (Nat.ne_zero_of_lt within)
  induction j generalizing fuel n with
  | zero =>
    have here : s.ticket n = none := free
    simp [State.firstFreeNumber, here]
  | succ j ih =>
    have here : (s.ticket n).isSome := Option.isSome_iff_ne_none.mpr (taken 0 (Nat.succ_pos j))
    have fuelLeft : fuel ≠ 0 := by omega
    obtain ⟨fuel, rfl⟩ := Nat.exists_eq_succ_of_ne_zero fuelLeft
    rw [State.firstFreeNumber, if_pos here]
    exact ih (fun i less => taken (i + 1) (Nat.succ_lt_succ less)) free fuel (Nat.lt_of_succ_lt_succ within)

/-- The issued number is the first candidate that no open ticket has. -/
theorem State.issued_first_free (s : State) (low : 1 ≤ s.issue) (high : s.issue ≤ 9999) (room : s.tickets.length < 512) :
    ∃ j ≤ 512, s.issued = nextNumber^[j] s.issue ∧ s.ticket s.issued = none ∧
      ∀ i < j, s.ticket (nextNumber^[i] s.issue) ≠ none := by
  obtain ⟨k, few, isFree⟩ := s.exists_free_candidate low high (by omega)
  have found : ∃ j, s.ticket (nextNumber^[j] s.issue) = none := ⟨k, isFree⟩
  have least : Nat.find found ≤ k := Nat.find_min' found isFree
  have eq : s.issued = nextNumber^[Nat.find found] s.issue :=
    s.firstFreeNumber_eq (by simp only [Config.maxTickets]; omega) (fun i less => Nat.find_min found less) (Nat.find_spec found)
  exact ⟨Nat.find found, by omega, eq, eq ▸ Nat.find_spec found, fun i less => Nat.find_min found less⟩

/-! ### What an ARRIVE's parts keep of the numbers -/

theorem State.bindStall_numbers (s : State) (n k : Nat) (second : Bool) : (s.bindStall n k second).numbers = s.numbers := by
  have held : (s.hold k n).numbers = s.numbers := State.numbers_congr (by simp [State.hold_frame])
  rw [State.bindStall, State.modifyTicket_numbers, held]
  exact fun _ => rfl

theorem State.moveTicket_numbers (s : State) (n : Nat) (x : TicketState) : (s.moveTicket n x).numbers = s.numbers := by
  rw [State.numbers_congr (s.moveTicket_tickets n x)]
  exact State.modifyTicket_numbers _ _ _ fun t => t.enter_number x s.now

theorem State.makeTask_numbers (s : State) (kind : TaskKind) (n : Nat) (age : SiteTime) :
    (s.makeTask kind n age).numbers = s.numbers := by
  unfold State.makeTask
  dsimp only
  split
  · exact State.numbers_congr (by simp [State.pair_frame])
  · exact State.modifyTicket_numbers _ _ _ fun _ => rfl

theorem State.assign_numbers (s : State) (n k : Nat) (second : Bool) (arrived : SiteTime) :
    (s.assign n k second arrived).numbers = s.numbers := by
  rw [State.assign, State.makeTask_numbers, State.moveTicket_numbers, State.bindStall_numbers]

theorem State.bindHook_numbers (s : State) (h n : Nat) : (s.bindHook h n).numbers = s.numbers :=
  State.modifyTicket_numbers _ _ _ fun _ => rfl

theorem State.bindLowest_numbers (s : State) (n : Nat) : (s.bindLowest n).numbers = s.numbers := by
  unfold State.bindLowest
  split
  · rfl
  · exact s.bindHook_numbers ..

theorem State.handHook_numbers (s : State) (h : Nat) : (s.handHook h).numbers = s.numbers := by
  unfold State.handHook
  split
  · split
    · rfl
    · exact s.bindHook_numbers ..
  · rfl

/-! ### What a command keeps of the setup -/

theorem State.KeepsSetup.trans {s t u : State} (first : s.KeepsSetup t) (second : t.KeepsSetup u) : s.KeepsSetup u := by
  simp only [State.KeepsSetup] at first second ⊢
  simp only [second, first, and_self]

theorem State.raise_keepsSetup (s : State) (source : Source) (subject : Nat) : s.KeepsSetup (s.raise source subject) := by
  simp [State.KeepsSetup, State.raise]

theorem State.oweService_keepsSetup (s : State) (a : Nat) (kind : ServiceKind) (outcome : Answer) (n m : Option Nat) :
    s.KeepsSetup (s.oweService a kind outcome n m) := by
  simp [State.KeepsSetup, State.oweService, State.setStation]

theorem State.heard_keepsSetup (s : State) (f : From) : s.KeepsSetup (s.heard f) := by
  obtain ⟨port, source⟩ := f
  cases port <;> simp [State.KeepsSetup, State.heard, State.setPort, State.setStation, State.port]

/-! ### The parts of an ARRIVE (R29, R32, R40, R41, R44) -/

/-- A new ticket stands last in the table and moves the issue counter past its number. -/
theorem State.makeTicket_result (s : State) (n : Nat) (q : ArriveRequest) :
    s.KeepsSetup (s.makeTicket n q) ∧ (s.makeTicket n q).issue = nextNumber n ∧
      (s.makeTicket n q).numbers = s.numbers ++ [n] := by
  refine ⟨?_, ?_, ?_⟩
  · simp [State.KeepsSetup, State.makeTicket, State.bindLowest_frame]
  · simp [State.makeTicket, State.bindLowest_frame]
  · rw [State.makeTicket, State.bindLowest_numbers]
    simp [State.numbers, newTicket]

/-- A removed ticket leaves the table; the issue counter does not go back. -/
theorem State.removeTicket_result (s : State) (n : Nat) :
    s.KeepsSetup (s.removeTicket n) ∧ (s.removeTicket n).issue = s.issue ∧
      (s.removeTicket n).numbers = s.numbers.filter (· != n) := by
  unfold State.removeTicket
  dsimp only
  split
  · simp [State.KeepsSetup, State.numbers, List.filter_map, Function.comp_def]
  · refine ⟨?_, ?_, ?_⟩
    · simp [State.KeepsSetup, State.handHook_frame, State.unbindHook]
    · simp [State.handHook_frame, State.unbindHook]
    · rw [State.handHook_numbers]
      simp [State.numbers, State.unbindHook, List.filter_map, Function.comp_def]

/-- Placed or listed, a new ticket stays open; it is removed only where the outcome is NO_SPACE. The issue counter stays
in each case. -/
theorem State.placeNew_result (s : State) (n : Nat) (now : SiteTime) :
    s.KeepsSetup (s.placeNew n now).state ∧ (s.placeNew n now).state.issue = s.issue ∧
      ((s.placeNew n now).state.numbers = s.numbers ∨
        (s.placeNew n now).outcome = .noSpace ∧ (s.placeNew n now).state.numbers = s.numbers.filter (· != n)) := by
  unfold State.placeNew
  split
  next k second _ =>
    refine ⟨.trans ?_ (State.raise_keepsSetup ..), ?_, .inl ?_⟩
    · simp [State.KeepsSetup, State.assign_frame]
    · simp [State.assign_frame]
    · rw [← s.assign_numbers n k second now]
      exact State.numbers_congr (State.raise_tickets ..)
  next =>
    split
    next =>
      exact ⟨.trans (State.raise_keepsSetup ..) (State.raise_keepsSetup ..), rfl, .inl rfl⟩
    next =>
      obtain ⟨setup, issue, numbers⟩ := s.removeTicket_result n
      exact ⟨setup, issue, .inr ⟨rfl, numbers⟩⟩

/-! ### A service request that is heard (R43) -/

/-- A written record that agrees with the old one in `g` leaves `g` of the whole bank as it was. -/
theorem map_setNth1 {α β : Type} {n : Nat} (g : α → β) (v : Vector α n) (i : Nat) (x d : α) (low : 1 ≤ i) (high : i ≤ n)
    (same : g x = g (nth1 v i d)) : (setNth1 v i x).toList.map g = v.toList.map g := by
  obtain ⟨k, rfl⟩ := Nat.exists_eq_add_of_le' low
  have inside : k < n := high
  have old : g (nth1 v (k + 1) d) = (v.toList.map g)[k]'(by simpa using inside) := by simp [nth1, nth, inside]
  calc (setNth1 v (k + 1) x).toList.map g
    _ = (v.toList.map g).set k (g x) := by simp [setNth1, setNth, List.map_set]
    _ = v.toList.map g := by rw [same, old, List.set_getElem_self]

/-- A station that is heard has an address of the station table: the others are never PRESENT. -/
theorem State.Hears.address {s : State} {f : From} (h : s.Hears f) : 1 ≤ f.source ∧ f.source ≤ Config.stationCount := by
  obtain ⟨_, _, present⟩ := h
  by_contra outside
  rw [State.station, nth1_outside _ _ _ outside] at present
  cases present

theorem State.Hears.station_heard {s : State} {f : From} (h : s.Hears f) :
    (s.heard f).station f.source = { s.station f.source with silent := 0 } :=
  State.station_setStation_same _ _ _ h.address.1 h.address.2

theorem State.Hears.hasManager_heard {s : State} {f : From} (h : s.Hears f) : (s.heard f).hasManager = s.hasManager := by
  have kept : (s.heard f).links.stations.toList.map (·.permissions.manage) =
      s.links.stations.toList.map (·.permissions.manage) := by
    rw [← s.stations_setPort f.port]
    exact map_setNth1 _ _ _ _ Station.cold h.address.1 h.address.2 (by rw [State.stations_setPort]; rfl)
  simpa [State.hasManager, List.any_map, Function.comp_def] using congrArg (List.any · id) kept

theorem State.Hears.commissioning_heard {s : State} {f : From} (h : s.Hears f) (a : Nat) :
    (s.heard f).commissioning a = s.commissioning a := by
  obtain ⟨_, _, _, _, _, _, _, _, _, _, _, strap, _⟩ := s.heard_keepsSetup f
  rw [State.commissioning, h.hasManager_heard, strap, State.commissioning]

theorem State.Hears.classOf_heard {s : State} {f : From} (h : s.Hears f) :
    (s.heard f).classOf f.source = s.classOf f.source := by
  rw [State.classOf, h.commissioning_heard, h.station_heard, State.classOf]

theorem State.Hears.permissionsOf_heard {s : State} {f : From} (h : s.Hears f) :
    (s.heard f).permissionsOf f.source = s.permissionsOf f.source := by
  rw [State.permissionsOf, h.commissioning_heard, h.station_heard, State.permissionsOf]

/-- A request from a station that may send it is served in the state `heard`, and its reply is owed. -/
theorem State.Serves.admitService {α : Type} {s : State} {f : From} (h : s.Serves f) (kind : ServiceKind) (x : α)
    (named : α → Option Nat) (k : α → State → RequestResult) :
    (s.heard f).admitService f.source kind (.fields x) named k =
      (k x (s.heard f)).state.oweService f.source kind (k x (s.heard f)).outcome (k x (s.heard f)).ticket
        (k x (s.heard f)).members := by
  obtain ⟨hears, cls, permitted⟩ := h
  have served : ¬((s.heard f).classOf f.source ≠ .podium ∧ (s.heard f).classOf f.source ≠ .desk) := by
    rw [hears.classOf_heard]
    tauto
  rw [State.admitService, if_neg served]
  simp only [hears.permissionsOf_heard, permitted, if_true]

/-! ### The whole ARRIVE (R40, R44) -/

theorem exec_arrive_served {s : State} {f : From} (h : s.Serves f) (x : ArriveFields) :
    exec (.arrive f (.fields x)) s =
      .next (((s.heard f).takeArrive f.source x).state.oweService f.source .arrive
        ((s.heard f).takeArrive f.source x).outcome ((s.heard f).takeArrive f.source x).ticket
        ((s.heard f).takeArrive f.source x).members) := by
  change Host.Outcome.next (s.onFrame f _) = _
  rw [State.onFrame_heard s f _ h.1, h.admitService]

theorem State.takeArrive_full {s : State} {a : Nat} {x : ArriveFields} {q : ArriveRequest} (read : readArrive x = some q)
    (full : 512 ≤ s.tickets.length) :
    s.takeArrive a x = { state := s.raise .tableFull a, outcome := .full, ticket := none, members := none } := by
  simp only [State.takeArrive, read]
  exact if_pos full

theorem State.takeArrive_room {s : State} {a : Nat} {x : ArriveFields} {q : ArriveRequest} (read : readArrive x = some q)
    (room : s.tickets.length < 512) : s.takeArrive a x = (s.makeTicket s.issued q).placeNew s.issued s.now := by
  simp only [State.takeArrive, read]
  exact if_neg (by simpa [Config.maxTickets] using room)

/-- An ARRIVE with a free place moves the counter past the issued number, and of the numbers of open tickets at most that
one is new: it is open, or the outcome is NO_SPACE. -/
theorem State.takeArrive_result {s : State} {a : Nat} {x : ArriveFields} {q : ArriveRequest} (read : readArrive x = some q)
    (room : s.tickets.length < 512) :
    s.KeepsSetup (s.takeArrive a x).state ∧ (s.takeArrive a x).state.issue = nextNumber s.issued ∧
      (∀ m, m ≠ s.issued → (m ∈ (s.takeArrive a x).state.numbers ↔ m ∈ s.numbers)) ∧
      (s.issued ∈ (s.takeArrive a x).state.numbers ∨ (s.takeArrive a x).outcome = .noSpace) := by
  obtain ⟨madeSetup, madeIssue, madeNumbers⟩ := s.makeTicket_result s.issued q
  obtain ⟨setup, issue, ends⟩ := (s.makeTicket s.issued q).placeNew_result s.issued s.now
  rw [State.takeArrive_room read room]
  refine ⟨madeSetup.trans setup, issue.trans madeIssue, ?_⟩
  rcases ends with stays | ⟨noSpace, removed⟩
  · rw [stays, madeNumbers]
    exact ⟨fun m other => by simp [other], .inl (by simp)⟩
  · rw [removed, madeNumbers]
    exact ⟨fun m other => by simp [other], .inr noSpace⟩

theorem State.serviceReply_oweService (s : State) {a : Nat} (low : 1 ≤ a) (high : a ≤ Config.stationCount)
    (kind : ServiceKind) (outcome : Answer) (n m : Option Nat) :
    ((s.oweService a kind outcome n m).station a).serviceReply.map (·.outcome) = some outcome := by
  rw [State.oweService, State.station_setStation_same _ _ _ low high]
  rfl

/-- Settles O18: the issued number is the first free candidate, and after the ticket is made no part of the ARRIVE writes
the counter again. -/
theorem arriveIssuesTheFirstFreeNumber : Obligations.ArriveIssuesTheFirstFreeNumber := by
  unfold Obligations.ArriveIssuesTheFirstFreeNumber
  intro s f x q serves read low high
  have heardIssue : (s.heard f).issue = s.issue := by simp [State.heard]
  have heardTickets : (s.heard f).tickets = s.tickets := by simp [State.heard]
  have heardNumbers : (s.heard f).numbers = s.numbers := State.numbers_congr heardTickets
  have heardTicket (m : Nat) : (s.heard f).ticket m = s.ticket m := by simp only [State.ticket, heardTickets]
  refine ⟨fun room => ?issued, fun full => ?refused⟩
  case issued =>
    rw [← heardTickets] at room
    rw [← heardIssue] at low high
    obtain ⟨j, few, first, free, taken⟩ := (s.heard f).issued_first_free low high room
    obtain ⟨setup, issue, others, open'⟩ := State.takeArrive_result (a := f.source) read room
    have range : 1 ≤ (s.heard f).issued ∧ (s.heard f).issued ≤ 9999 := by
      rw [first, nextNumber_iterate low high]
      omega
    refine ⟨j, (s.heard f).issued, _, few, heardIssue ▸ first, range.1, range.2, heardTicket _ ▸ free, fun i less => ?_,
      exec_arrive_served serves x, ?_, ?_, fun m other => ?_, ?_⟩
    · rw [← heardTicket, ← heardIssue]
      exact taken i less
    · exact (s.heard_keepsSetup f).trans (setup.trans (State.oweService_keepsSetup ..))
    · rw [State.oweService_issue, issue, nextNumber_eq range.2]
    · rw [State.ticket_eq_none_iff, State.ticket_eq_none_iff, ← heardNumbers]
      exact not_congr (others m other)
    · refine open'.imp (fun isOpen => ?_) fun noSpace => ?_
      · rw [Ne, State.ticket_eq_none_iff, not_not]
        exact isOpen
      · rw [State.serviceReply_oweService _ serves.1.address.1 serves.1.address.2, noSpace]
  case refused =>
    rw [← heardTickets] at full
    rw [exec_arrive_served serves, State.takeArrive_full read full]

end Sys2Proof.Machine
end

section
/-! SUPPORT. What every command keeps, said once: the writes that the work of the controller is made of, and that a
property which each of these writes keeps is kept by every operation of the blocks. -/

namespace Sys2Proof.Machine

open Sys2Proof

/-! ### The writes -/

/-- The silent counts of a bank of stations are in their range (R150). -/
abbrev silentFits (v : Vector Station Config.stationCount) : Prop := v.toList.all (·.silent ≤ 3) = true

/-- The change of a ticket keeps its number and its group. -/
abbrev KeepsIdentity (f : Ticket → Ticket) : Prop := ∀ t, (f t).number = t.number ∧ (f t).group = t.group

/-- The change of a station's record is one of marks and replies: the record as loaded, the presence and the silent count
stay. -/
abbrev KeepsRecord (f : Station → Station) : Prop := ∀ r, (f r).segment = r.segment ∧ (f r).cls = r.cls ∧
  (f r).permissions = r.permissions ∧ (f r).served = r.served ∧ (f r).presence = r.presence ∧ (f r).silent = r.silent

/-- The change of a station's record leaves its lift order, its notice and its replies as they are owed. -/
abbrev KeepsOwed (f : Station → Station) : Prop := ∀ r, (f r).orderMark = r.orderMark ∧ (f r).noticeMark = r.noticeMark ∧
  (f r).serviceReply = r.serviceReply ∧ (f r).manageReply = r.manageReply

/-- A ticket's state as far as the records that name tickets go: CALLED counts as PARKED, and STAGED and TO_CURB, with the
car past its lift, count as AT_CURB. -/
def TicketState.phase : TicketState → TicketState
  | .called => .parked
  | .staged => .atCurb
  | .toCurb => .atCurb
  | x => x

/-- What a ticket says of the records that name it: its phase, its stalls and its hook. -/
structure Footing where
  state : TicketState
  stall : Option Nat
  target : Option Nat
  hook : Option Nat

/-- The footing of a ticket. -/
def Ticket.footing (t : Ticket) : Footing := ⟨t.state.phase, t.stall, t.target, t.hook⟩

/-- What a stall's state says of its ticket: HELD, OCCUPIED, or none. -/
def StallState.claim : StallState → StallState
  | .held => .held
  | .occupied => .occupied
  | _ => .free

/-- A hook that belongs to no ticket: VACANT or FOUND. -/
def Custody.loose : Custody → Bool
  | .vacant => true
  | .found => true
  | _ => false

/-- The property is kept by each write that leaves the records of who stands where: tasks and runners, the curb board, the
reported events other than STATION_ABSENT, the marks of every station for its boards, and what tickets and stalls hold beside
their footing and their claim. -/
structure DutyKeeps (P : State → Prop) : Prop where
  dispatch : ∀ {s : State} d, P s → P { s with dispatch := d }
  board : ∀ {s : State} x, P s → P { s with calls.board := x }
  raised : ∀ {s : State} x n, x ≠ .stationAbsent → P s → P (s.raise x n)
  marks : ∀ {s : State} f, KeepsRecord f → KeepsOwed f → P s → P (s.mapStations f)
  notes : ∀ {s : State} f, KeepsIdentity f → (∀ t ∈ s.tickets, (f t).footing = t.footing) → P s →
    P { s with tickets := s.tickets.map f }
  stallMarks : ∀ {s : State} k r, r.site = (s.stall k).site → r.ticket = (s.stall k).ticket →
    r.state.claim = (s.stall k).state.claim → P s → P (s.putStall k r)

/-- The property is kept by each write that the placing of cars is made of: those of the duties, the state of a stall, the
records of open tickets, and places given up in the unplaced list. -/
structure PlaceKeeps (P : State → Prop) : Prop extends DutyKeeps P where
  putStall : ∀ {s : State} k r, r.site = (s.stall k).site → P s → P (s.putStall k r)
  tickets : ∀ {s : State} f, KeepsIdentity f → P s → P { s with tickets := s.tickets.map f }
  unplaced : ∀ {s : State} l, l.Sublist s.unplaced → P s → P { s with unplaced := l }
  notes := fun f same _ hs => tickets f same hs
  stallMarks := fun k r site _ _ hs => putStall k r site hs

/-- The property is kept by each write that the waiting of tickets is made of: those of the placing of cars, the hooks, the
lanes and the schedule. -/
structure TableKeeps (P : State → Prop) : Prop extends PlaceKeeps P where
  hooks : ∀ {s : State} v, P s → P { s with keys.hooks := v }
  lanes : ∀ {s : State} v, P s → P { s with arbiter.lanes := v }
  schedule : ∀ {s : State} x, P s → P { s with calls.schedule := x }

/-- The property is kept by each write of marks that the hooks, lifts and lanes take: those of the duties, a hook's and a
lift's record with the tickets they name, and the marks of lift orders. -/
structure MarkKeeps (P : State → Prop) : Prop extends DutyKeeps P where
  hookMarks : ∀ {s : State} k r, r.ticket = (s.hook k).ticket → r.custody.loose = (s.hook k).custody.loose → P s →
    P (s.setHook k r)
  liftMarks : ∀ {s : State} l r, r.tenures.map (·.ticket) = (s.lift l).tenures.map (·.ticket) → P s → P (s.setLift l r)
  lanes : ∀ {s : State} v, P s → P { s with arbiter.lanes := v }
  orders : ∀ {s : State} f, KeepsRecord f → P s → P (s.mapStations f)
  marks := fun f same _ hs => orders f same hs

/-- The property is kept by each write that an absence, handed on, is made of: those of the waiting of tickets, the lifts,
and the marks of lift orders. -/
structure HandKeeps (P : State → Prop) : Prop extends TableKeeps P, MarkKeeps P where
  arbiter : ∀ {s : State} a, P s → P { s with arbiter := a }
  lanes := fun _ hs => arbiter _ hs
  hookMarks := fun _ _ _ _ hs => hooks _ hs

/-- Every silent count written lies in its range, or is the one that stood there. -/
theorem silentFits_setNth1 {v : Vector Station Config.stationCount} {a : Nat} {r : Station}
    (fits : r.silent ≤ 3 ∨ r.silent = (nth1 v a Station.cold).silent) (h : silentFits v) : silentFits (setNth1 v a r) := by
  cases a with
  | zero => exact h
  | succ i =>
    by_cases inside : i < Config.stationCount
    · have old : (nth1 v (i + 1) Station.cold).silent ≤ 3 := by
        have mem : v[i] ∈ v.toList := by simp
        simpa [nth1, nth, inside] using List.all_eq_true.mp h _ mem
      have new : r.silent ≤ 3 := fits.elim id fun same => same ▸ old
      simp only [silentFits, List.all_eq_true, decide_eq_true_eq, setNth1, setNth] at h ⊢
      intro x mem
      rw [Vector.toList_setIfInBounds] at mem
      rcases List.mem_or_eq_of_mem_set mem with mem | rfl
      exacts [h x mem, new]
    · rw [setNth1, setNth_outside _ _ _ (by omega)]
      exact h

theorem silentFits_mapBank {v : Vector Station Config.stationCount} {f : Station → Station}
    (same : ∀ r, (f r).silent = r.silent) (h : silentFits v) : silentFits (mapBank v f) := by
  simpa [silentFits, same] using h

/-- The property is kept by each write of marks that the links take: those above, and every report of an event and every
change of a station's marks, replies and presence. -/
structure LinkKeeps (P : State → Prop) : Prop extends MarkKeeps P where
  waiting : ∀ {s : State} x, P s → P { s with events.waiting := x }
  stations : ∀ {s : State} v, (silentFits s.links.stations → silentFits v) → P s → P { s with links.stations := v }
  raised := fun _ _ _ hs => waiting _ hs
  orders := fun _ same hs => stations _ (silentFits_mapBank fun r => (same r).2.2.2.2.2) hs

/-- The property is kept by each write that the work of the blocks is made of: those of a handed-on absence and those of the
links. -/
structure WorkKeeps (P : State → Prop) : Prop extends HandKeeps P, LinkKeeps P

theorem forEach_keeps_of_mem {α σ : Type} (P : σ → Prop) (xs : List α) (f : α → σ → σ) (s : σ)
    (step : ∀ x ∈ xs, ∀ s, P s → P (f x s)) (h : P s) : P (forEach xs f s) := by
  induction xs generalizing s with
  | nil => exact h
  | cons x xs ih => exact ih (f x s) (fun y mem => step y (List.mem_cons_of_mem _ mem)) (step x List.mem_cons_self s h)

theorem Ticket.enter_identity (x : TicketState) (now : SiteTime) : KeepsIdentity (·.enter x now) := by
  intro t
  simp only [Ticket.enter]
  split <;> exact ⟨rfl, rfl⟩

/-- A step keeps what its continuation keeps for the ticket of the number. -/
theorem State.heldStep_keeps {P : State → Prop} {s : State} (b n : Nat) (k : Ticket → State × Answer)
    (hk : ∀ t, s.ticket n = some t → P (k t).1) (hs : P s) : P (s.heldStep b n k).1 := by
  unfold State.heldStep
  split
  · split
    exacts [hs, hk _ ‹_›]
  · exact hs

namespace DutyKeeps

variable {P : State → Prop} {s : State} (h : DutyKeeps P)
include h

/-! ### One record written -/

theorem setRunner (b : Nat) (r : Runner) (hs : P s) : P (s.setRunner b r) := h.dispatch _ hs
theorem modifyTask (n : Nat) (f : Task → Task) (hs : P s) : P (s.modifyTask n f) := h.dispatch _ hs
theorem dropTask (n : Nat) (hs : P s) : P (s.dropTask n) := h.dispatch _ hs
theorem raise (x : Source) (n : Nat) (other : x ≠ .stationAbsent) (hs : P s) : P (s.raise x n) := h.raised x n other hs
theorem joinBoard (n : Nat) (hs : P s) : P (s.joinBoard n) := h.board _ hs
theorem leaveBoard (n : Nat) (hs : P s) : P (s.leaveBoard n) := h.board _ hs

/-- A note is taken in the ticket of the number. -/
theorem noteTicket (n : Nat) (f : Ticket → Ticket) (same : KeepsIdentity f)
    (foot : ∀ t ∈ s.tickets, t.number = n → (f t).footing = t.footing) (hs : P s) : P (s.modifyTicket n f) := by
  refine h.notes _ (fun t => ?_) (fun t mem => ?_) hs
  · split
    exacts [same t, ⟨rfl, rfl⟩]
  · split
    exacts [foot t mem (by simpa using ‹_›), rfl]

/-- A note that leaves number, group and footing as they are written. -/
theorem note (n : Nat) {f : Ticket → Ticket} (hs : P s) (same : KeepsIdentity f := by exact fun _ => ⟨rfl, rfl⟩)
    (foot : ∀ t, (f t).footing = t.footing := by exact fun _ => rfl) : P (s.modifyTicket n f) :=
  h.noteTicket n f same (fun t _ _ => foot t) hs

/-! ### Marks, replies and the curb board -/

theorem oweRunner (b : Nat) (k : RunnerFrameKind) (o : Answer) (n : Option Nat) (hs : P s) : P (s.oweRunner b k o n) :=
  h.setRunner _ _ hs

theorem oweVacancy (hs : P s) : P s.oweVacancy := h.marks _ (fun r => by split <;> simp) (fun r => by split <;> simp) hs

theorem oweBoard (hs : P s) : P s.oweBoard := h.marks _ (fun r => by split <;> simp) (fun r => by split <;> simp) hs

theorem boardSince (before : State) (hs : P s) : P (s.boardSince before) := by
  unfold State.boardSince
  split
  exacts [hs, h.oweBoard hs]

/-- A ticket changes its state within a phase. -/
theorem moveWithin (n : Nat) (x : TicketState) (same : ∀ t ∈ s.tickets, t.number = n → t.state.phase = x.phase) (hs : P s) :
    P (s.moveTicket n x) := by
  have moved : P (s.modifyTicket n (·.enter x s.now)) := by
    refine h.noteTicket n _ (Ticket.enter_identity x s.now) (fun t mem number => ?_) hs
    simp only [Ticket.footing, same t mem number, Ticket.enter]
    split <;> rfl
  unfold State.moveTicket
  split
  · exact hs
  · refine h.boardSince _ ?_
    repeat' split
    exacts [moved, h.joinBoard _ moved, h.leaveBoard _ moved, moved]

/-! ### Tasks and runners -/

theorem offer (t : Task) (b : Nat) (hs : P s) : P (s.offer t b) := h.setRunner _ _ (h.modifyTask _ _ hs)

theorem pairTask (n : Nat) (hs : P s) : P (s.pairTask n) := by
  unfold State.pairTask
  split
  · split
    · exact hs
    · have emptied (c : Bool) : P (if c then s.modifyTask n fun t => { t with declined := [] } else s) := by
        split
        exacts [h.modifyTask _ _ hs, hs]
      dsimp only
      split
      exacts [emptied _, h.offer _ _ (emptied _)]
  · exact hs

theorem pair (hs : P s) : P s.pair := forEach_keeps P _ _ s (fun n _ => h.pairTask n) hs

theorem makeTask (k : TaskKind) (n : Nat) (age : SiteTime) (hs : P s) : P (s.makeTask k n age) := by
  unfold State.makeTask
  dsimp only
  split
  exacts [h.pair (h.dispatch _ hs), h.noteTicket n _ (fun _ => ⟨rfl, rfl⟩) (fun _ _ _ => rfl) (h.dispatch _ hs)]

theorem promote (hs : P s) : P s.promote := by
  unfold State.promote
  split
  · split
    exacts [hs, h.pair (h.noteTicket _ _ (fun _ => ⟨rfl, rfl⟩) (fun _ _ _ => rfl) (h.modifyTask _ _ hs))]
  · exact hs

theorem returnOffer (b : Nat) (hs : P s) : P (s.returnOffer b) := by
  unfold State.returnOffer
  split
  exacts [hs, h.modifyTask _ _ hs]

theorem endOffer (b : Nat) (x : RunnerState) (hs : P s) : P (s.endOffer b x) := h.setRunner _ _ (h.returnOffer b hs)

theorem expireOffer (b : Nat) (hs : P s) : P (s.expireOffer b) := by
  unfold State.expireOffer
  split
  exacts [h.pair (h.raise _ _ nofun (h.endOffer b _ hs)), hs]

theorem withdrawTask (n : Nat) (hs : P s) : P (s.withdrawTask n) := by
  have dropped : P (s.dropTask n) := h.dropTask n hs
  unfold State.withdrawTask
  split
  · exact hs
  · dsimp only
    split
    · exact h.promote dropped
    · exact h.noteTicket n _ (fun _ => ⟨rfl, rfl⟩) (fun _ _ _ => rfl) dropped
    · exact h.pair (h.promote (h.setRunner _ _ dropped))
    · exact h.pair (h.noteTicket n _ (fun _ => ⟨rfl, rfl⟩) (fun _ _ _ => rfl) (h.setRunner _ _ dropped))

theorem endTask (b n : Nat) (slotFree : Bool) (hs : P s) : P (s.endTask b n slotFree) := by
  have ended (r : Runner) : P (((s.dropTask n).setRunner b r).raise .taskEnd b) :=
    h.raise _ _ nofun (h.setRunner _ _ (h.dropTask n hs))
  unfold State.endTask
  dsimp only
  split
  exacts [h.pair (ended _), ended _]

theorem setLevel (b level : Nat) (hs : P s) : P (s.setLevel b level) := h.setRunner _ _ hs

theorem baseLost (a : Nat) (hs : P s) : P (s.baseLost a) := forEach_keeps P _ _ s (fun b _ => h.expireOffer b) hs

/-! ### Runners' frames -/

theorem placeRunner (b level base : Nat) (hs : P s) : P (s.placeRunner b level base) := h.setRunner _ _ hs

theorem askReady (b level base : Nat) (hs : P s) : P (s.askReady b level base).1 := by
  have placed : P (s.placeRunner b level base) := h.placeRunner _ _ _ hs
  unfold State.askReady
  dsimp only
  split
  exacts [h.pair (h.setRunner _ _ placed), h.pair (h.setRunner _ _ placed), h.pair (h.setRunner _ _ placed), placed,
    h.setRunner _ _ placed, hs]

theorem askLeave (b level base : Nat) (x : RunnerState) (hs : P s) : P (s.askLeave b level base x).1 := by
  have placed : P (s.placeRunner b level base) := h.placeRunner _ _ _ hs
  unfold State.askLeave
  dsimp only
  split
  exacts [h.setRunner _ _ placed, h.setRunner _ _ placed, h.setRunner _ _ placed, h.setRunner _ _ placed,
    h.pair (h.endOffer _ _ placed), hs]

theorem takeDecline (b n : Nat) (hs : P s) : P (s.takeDecline b n).1 := by
  unfold State.takeDecline
  split
  exacts [h.pair (h.setRunner _ _ (h.modifyTask _ _ hs)), hs]

theorem levelled (b level : Nat) (r : State × Answer) (hr : P r.1) : P (levelled b level r).1 := by
  unfold Machine.levelled
  split
  exacts [h.setLevel b level hr, hr]

/-! ### Overdue tickets -/

theorem overdueReached (n : Nat) (hs : P s) : P (s.overdueReached n) := by
  unfold State.overdueReached
  split
  · exact hs
  · split
    exacts [h.raise _ _ nofun (h.boardSince _ (h.noteTicket n _ (fun _ => ⟨rfl, rfl⟩) (fun _ _ _ => rfl) hs)), hs]

theorem takeOverdue (hs : P s) : P s.takeOverdue := forEach_keeps P _ _ s (fun n _ => h.overdueReached n) hs

/-! ### Stalls and sensors -/

theorem block (k : Nat) (free : (s.stall k).state.claim = .free) (hs : P s) : P (s.block k) :=
  h.raise _ _ nofun (h.stallMarks _ _ rfl rfl free.symm hs)

theorem sensedOccupied (k : Nat) (hs : P s) : P (s.sensedOccupied k) := by
  unfold State.sensedOccupied
  dsimp only
  split
  next free => exact h.block k (by rw [free]; rfl) hs
  exacts [h.stallMarks _ _ rfl rfl rfl hs, h.stallMarks _ _ rfl rfl rfl hs, hs, hs, hs]

theorem recheckStall (k : Nat) (hs : P s) : P (s.recheckStall k) := by
  have cleared : P (s.putStall k { s.stall k with recheck := false }) := h.stallMarks _ _ rfl rfl rfl hs
  unfold State.recheckStall
  dsimp only
  split
  next blocked =>
    refine h.block k ?_ cleared
    by_cases low : k < Config.stallCount
    · rw [State.stall_putStall_same s k _ low]
      exact congrArg StallState.claim blocked.1
    · rw [State.stall, nth_outside _ _ _ (by omega)]
      rfl
  · exact cleared

/-- A mark keeps what the emptying of its stall keeps. -/
theorem markTaken (k : Nat) (m : Mark) (empties : ∀ u, P u → P (u.sensedEmpty k)) (hs : P s) : P (s.takeMark k m) := by
  unfold State.takeMark
  dsimp only
  split
  · exact h.stallMarks _ _ rfl rfl rfl hs
  · split
    · split
      exacts [h.sensedOccupied k (h.stallMarks _ _ rfl rfl rfl hs), empties _ (h.stallMarks _ _ rfl rfl rfl hs)]
    · exact h.stallMarks _ _ rfl rfl rfl hs

/-- A report keeps what the emptying of each stall keeps. -/
theorem reportTaken (a : Nat) (r : ZoneReport) (empties : ∀ k u, P u → P (u.sensedEmpty k)) (hs : P s) :
    P (s.takeReport a r) := by
  have marked {u : State} (k : Nat) (m : Mark) (hu : P u) : P (u.takeStallMark k m) := by
    unfold State.takeStallMark
    dsimp only
    split
    exacts [h.recheckStall k (h.markTaken k m (empties k) hu), h.markTaken k m (empties k) hu]
  unfold State.takeReport
  split
  · split
    exacts [forEach_keeps P _ _ s (fun km _ => marked km.1 km.2) hs, hs]
  · exact hs

theorem hubAbsent (first last : Nat) (hs : P s) : P (s.hubAbsent first last) :=
  forEach_keeps P _ _ s (fun k _ => h.stallMarks k _ rfl rfl rfl) hs

theorem confirmReached (k : Nat) (hs : P s) : P (s.confirmReached k) := by
  have taken : P (s.putStall k { s.stall k with confirmBy := none }) := h.stallMarks _ _ rfl rfl rfl hs
  unfold State.confirmReached
  split
  · exact hs
  · split
    · dsimp only
      split
      exacts [h.raise _ _ nofun taken, taken]
    · exact hs

end DutyKeeps

namespace PlaceKeeps

variable {P : State → Prop} {s : State} (h : PlaceKeeps P)
include h

/-! ### One record written -/

theorem modifyTicket (n : Nat) (f : Ticket → Ticket) (same : KeepsIdentity f) (hs : P s) : P (s.modifyTicket n f) := by
  refine h.tickets _ (fun t => ?_) hs
  split
  exacts [same t, ⟨rfl, rfl⟩]

/-- A change of a ticket's record in which number and group are left as they are written. -/
theorem editTicket (n : Nat) {f : Ticket → Ticket} (hs : P s) (same : KeepsIdentity f := by exact fun _ => ⟨rfl, rfl⟩) :
    P (s.modifyTicket n f) := h.modifyTicket n f same hs

theorem unlist (n : Nat) (hs : P s) : P { s with unplaced := s.unplaced.filter (· != n) } :=
  h.unplaced _ List.filter_sublist hs

/-! ### Marks, replies and the curb board -/

theorem moveTicket (n : Nat) (x : TicketState) (hs : P s) : P (s.moveTicket n x) := by
  have moved : P (s.modifyTicket n (·.enter x s.now)) := h.modifyTicket _ _ (Ticket.enter_identity x s.now) hs
  unfold State.moveTicket
  split
  · exact hs
  · refine h.boardSince _ ?_
    repeat' split
    exacts [moved, h.joinBoard _ moved, h.leaveBoard _ moved, moved]

/-! ### Stalls and the allocator -/

theorem hold (k n : Nat) (hs : P s) : P (s.hold k n) := by
  unfold State.hold
  dsimp only
  split
  exacts [h.putStall _ _ rfl hs, hs]

theorem releaseStall (k n : Nat) (hs : P s) : P (s.releaseStall k n) := by
  unfold State.releaseStall
  split
  exacts [h.putStall _ _ rfl hs, hs]

theorem freeOccupied (k : Nat) (recheck : Bool) (hs : P s) : P (s.freeOccupied k recheck) := h.putStall _ _ rfl hs

theorem depart (k n : Nat) (hs : P s) : P (s.depart k n) := by
  unfold State.depart
  split
  exacts [h.modifyTicket n _ (fun _ => ⟨rfl, rfl⟩) (h.freeOccupied k _ hs), hs]

theorem bindStall (n k : Nat) (second : Bool) (hs : P s) : P (s.bindStall n k second) := h.modifyTicket n _ (fun _ => ⟨rfl, rfl⟩) (h.hold k n hs)

theorem assign (n k : Nat) (second : Bool) (arrived : SiteTime) (hs : P s) : P (s.assign n k second arrived) :=
  h.makeTask _ _ _ (h.moveTicket _ _ (h.bindStall n k second hs))

theorem attemptTicket (n : Nat) (hs : P s) : P (s.attemptTicket n) := by
  unfold State.attemptTicket
  split
  · exact hs
  · split
    exacts [hs, h.assign _ _ _ _ (h.unlist n hs)]

theorem attemptUnplaced (hs : P s) : P s.attemptUnplaced := forEach_keeps P _ _ s (fun n _ => h.attemptTicket n) hs

theorem beginRestage (n k : Nat) (hs : P s) : P (s.beginRestage n k) :=
  h.makeTask _ _ _ (h.moveTicket _ _ (h.modifyTicket n _ (fun _ => ⟨rfl, rfl⟩) (h.hold k n hs)))

theorem lookRestage (k : Nat) (hs : P s) : P (s.lookRestage k) := by
  unfold State.lookRestage
  split
  · split
    · split
      exacts [hs, h.beginRestage _ _ hs]
    · exact hs
  · exact hs

theorem handOn (k : Nat) (hs : P s) : P (s.handOn k) := h.lookRestage k (h.attemptUnplaced hs)

theorem release (k n : Nat) (hs : P s) : P (s.release k n) := by
  unfold State.release
  split
  exacts [h.handOn k (h.releaseStall k n hs), hs]

theorem replaceTicket (lift : Option Nat) (n : Nat) (hs : P s) : P (s.replaceTicket lift n) := by
  unfold State.replaceTicket
  split
  · exact hs
  · split
    · split
      · exact hs
      · dsimp only
        split
        · exact h.bindStall _ _ _ hs
        · split
          exacts [h.bindStall _ _ _ hs, h.release _ _ (h.bindStall _ _ _ hs)]
    · exact hs

theorem replaceAll (lift : Option Nat) (hs : P s) : P (s.replaceAll lift) :=
  forEach_keeps P _ _ s (fun n _ => h.replaceTicket lift n) hs

theorem becameServiceable (hs : P s) : P s.becameServiceable := h.replaceAll none (h.attemptUnplaced hs)

/-! ### Sensors -/

theorem emptyUnder (k : Nat) (t : Ticket) (hs : P s) : P (s.emptyUnder k t) := by
  have left : P ((s.depart k t.number).handOn k) := h.handOn k (h.depart k _ hs)
  have mismatch : P ((s.putStall k { s.stall k with confirmed := false }).raise .stallMismatch k) :=
    h.raise _ _ nofun (h.putStall _ _ rfl hs)
  unfold State.emptyUnder
  repeat' split
  all_goals first | exact hs | exact left | exact mismatch

theorem sensedEmpty (k : Nat) (hs : P s) : P (s.sensedEmpty k) := by
  unfold State.sensedEmpty
  dsimp only
  split
  · exact h.putStall _ _ rfl hs
  · split
    exacts [hs, h.emptyUnder k _ hs]
  · exact h.handOn k (h.putStall _ _ rfl hs)
  all_goals exact hs

theorem takeReport (a : Nat) (r : ZoneReport) (hs : P s) : P (s.takeReport a r) :=
  h.reportTaken a r (fun k _ => h.sensedEmpty k) hs

end PlaceKeeps

namespace TableKeeps

variable {P : State → Prop} {s : State} (h : TableKeeps P)
include h

/-! ### One record written -/

theorem setHook (k : Nat) (r : Hook) (hs : P s) : P (s.setHook k r) := h.hooks _ hs
theorem setLane (n : Nat) (r : Lane) (hs : P s) : P (s.setLane n r) := h.lanes _ hs
theorem unschedule (n : Nat) (hs : P s) : P (s.unschedule n) := h.schedule _ hs

/-! ### Lanes -/

theorem reserveLane (n : Nat) (t : Ticket) (hs : P s) : P (s.reserveLane n t) := by
  have reserved (r : Lane) : P ((s.setLane n r).modifyTicket t.number fun t => { t with lane := some n }) :=
    h.modifyTicket _ _ (fun _ => ⟨rfl, rfl⟩) (h.setLane _ _ hs)
  unfold State.reserveLane
  dsimp only
  split
  exacts [h.moveTicket _ _ (reserved _), reserved _]

theorem serveLanes (fuel : Nat) (hs : P s) : P (s.serveLanes fuel) := by
  induction fuel generalizing s with
  | zero => exact hs
  | succ fuel ih =>
    unfold State.serveLanes
    split
    · exact hs
    · split
      exacts [hs, ih (h.reserveLane _ _ hs)]

theorem laneGrantCheck (hs : P s) : P s.laneGrantCheck := h.serveLanes _ hs

theorem freeLane (n : Nat) (hs : P s) : P (s.freeLane n) := h.laneGrantCheck (h.setLane _ _ hs)

theorem clearingReached (n : Nat) (hs : P s) : P (s.clearingReached n) := by
  unfold State.clearingReached
  split
  · exact hs
  · split
    exacts [h.freeLane n hs, hs]

/-! ### Hooks -/

theorem bindHook (k n : Nat) (hs : P s) : P (s.bindHook k n) := h.modifyTicket n _ (fun _ => ⟨rfl, rfl⟩) (h.setHook _ _ hs)

theorem bindLowest (n : Nat) (hs : P s) : P (s.bindLowest n) := by
  unfold State.bindLowest
  split
  exacts [hs, h.bindHook _ _ hs]

theorem handHook (k : Nat) (hs : P s) : P (s.handHook k) := by
  unfold State.handHook
  split
  · split
    exacts [hs, h.bindHook _ _ hs]
  · exact hs

theorem handPanelHooks (p : Nat) (hs : P s) : P (s.handPanelHooks p) := forEach_keeps P _ _ s (fun k _ => h.handHook k) hs

/-! ### Calls and overdue tickets -/

theorem toPodium (n : Nat) (hs : P s) : P (s.toPodium n) := h.moveTicket _ _ (h.modifyTicket n _ (fun _ => ⟨rfl, rfl⟩) hs)

theorem callParked (t : Ticket) (time : SiteTime) (hs : P s) : P (s.callParked t time) :=
  h.makeTask _ _ _ (h.moveTicket _ _ (h.modifyTicket _ _ (fun _ => ⟨rfl, rfl⟩) (h.unschedule _ hs)))

theorem callTicket (t : Ticket) (time : SiteTime) (hs : P s) : P (s.callTicket t time).1 := by
  have withdrawn : P (s.withdrawTask t.number) := h.withdrawTask _ hs
  unfold State.callTicket
  split
  · exact h.toPodium _ (h.unlist _ hs)
  · split
    · exact hs
    · refine h.toPodium _ ?_
      split
      · exact withdrawn
      · dsimp only
        have freed (k : Nat) : P (((s.withdrawTask t.number).releaseStall k t.number).modifyTicket t.number fun t =>
            { t with stall := none }) := h.modifyTicket _ _ (fun _ => ⟨rfl, rfl⟩) (h.releaseStall _ _ withdrawn)
        split
        exacts [h.handOn _ (freed _), freed _]
  · split
    exacts [hs, h.modifyTicket _ _ (fun _ => ⟨rfl, rfl⟩) hs]
  · split
    exacts [hs, h.modifyTicket _ _ (fun _ => ⟨rfl, rfl⟩) hs]
  · exact h.callParked t time hs
  · exact h.callParked t time hs
  all_goals exact hs

theorem releaseEntry (n : Nat) (hs : P s) : P (s.releaseEntry n) := by
  unfold State.releaseEntry
  split
  exacts [h.unschedule n hs, h.raise _ _ nofun (h.callTicket _ _ (h.unschedule n hs))]

theorem releaseReachedEntry (hs : P s) : P s.releaseReachedEntry := by
  unfold State.releaseReachedEntry
  split
  exacts [hs, h.releaseEntry _ hs]

theorem releaseAllReached (hs : P s) : P s.releaseAllReached := forEach_keeps P _ _ s (fun n _ => h.releaseEntry n) hs

end TableKeeps

namespace MarkKeeps

variable {P : State → Prop} {s : State} (h : MarkKeeps P)
include h

/-! ### Lifts -/

theorem setOrder (l : Nat) (hs : P s) : P (s.setOrder l) :=
  h.orders _ (fun r => by split <;> simp) (h.liftMarks l _ rfl hs)

theorem clearOrder (l : Nat) (hs : P s) : P (s.clearOrder l) :=
  h.orders _ (fun r => by split <;> simp) (h.liftMarks l _ rfl hs)

theorem settleOrder (l : Nat) (hs : P s) : P (s.settleOrder l) := h.liftMarks l _ rfl hs

theorem setParked (l level : Nat) (hs : P s) : P (s.setParked l level) := h.liftMarks l _ rfl hs

theorem liftLoaded (l : Nat) (hs : P s) : P (s.liftLoaded l) := by
  unfold State.liftLoaded
  split
  next current =>
    split
    · exact h.liftMarks l _ (by simp [Lift.tenures, current]) hs
    · exact hs
  · exact hs

theorem liftArrived (l level : Nat) (hs : P s) : P (s.liftArrived l level) := by
  unfold State.liftArrived
  split
  exacts [h.setParked l level hs, hs]

theorem liftStationPresent (l : Nat) (hs : P s) : P (s.liftStationPresent l) := by
  unfold State.liftStationPresent
  split
  exacts [h.liftMarks l _ rfl hs, hs]

/-! ### Keys -/

theorem setAlert (k : Nat) (on : Bool) (hs : P s) : P (s.setAlert k on) := by
  unfold State.setAlert
  split
  exacts [hs, h.note _ hs]

theorem keyPresent (k : Nat) (hs : P s) : P (s.keyPresent k) := by
  unfold State.keyPresent
  dsimp only
  split
  next custody => exact h.raise _ _ nofun (h.hookMarks _ _ rfl (by rw [custody]; rfl) hs)
  next custody => exact h.hookMarks _ _ rfl (by rw [custody]; rfl) hs
  next custody => exact h.hookMarks _ _ rfl (by rw [custody]; rfl) hs
  next custody => exact h.setAlert _ _ (h.hookMarks _ _ rfl (by rw [custody]; rfl) hs)
  exacts [hs, hs, hs]

/-- An accepted absence keeps what the binding of a VACANT hook keeps. -/
theorem absenceTaken (k : Nat) (binds : k < Config.hookCount → ∀ u, P u → P (u.handHook k)) (hs : P s) : P (s.keyAbsent k) := by
  unfold State.keyAbsent
  dsimp only
  split
  next custody => exact h.raise _ _ nofun (h.setAlert _ _ (h.hookMarks _ _ rfl (by rw [custody]; rfl) hs))
  next custody => exact h.hookMarks _ _ rfl (by rw [custody]; rfl) hs
  next custody =>
    refine binds ?_ _ (h.hookMarks _ _ rfl (by rw [custody]; rfl) hs)
    by_contra high
    rw [State.hook, nth_outside _ _ _ (by omega)] at custody
    cases custody
  exacts [hs, hs, hs, hs]

/-- A hook bit keeps what the binding of a VACANT hook keeps. -/
theorem bitTaken (k : Nat) (bit : Bool) (binds : k < Config.hookCount → ∀ u, P u → P (u.handHook k)) (hs : P s) : P (s.takeHookBit k bit) := by
  unfold State.takeHookBit
  dsimp only
  split
  · exact h.hookMarks _ _ rfl rfl hs
  · split
    · split
      exacts [h.keyPresent _ (h.hookMarks _ _ rfl rfl hs), h.absenceTaken _ binds (h.hookMarks _ _ rfl rfl hs)]
    · exact h.hookMarks _ _ rfl rfl hs

theorem requestKey (t : Ticket) (badge : Nat) (hs : P s) : P (s.requestKey t badge).1 := by
  unfold State.requestKey
  split
  · exact hs
  · dsimp only
    split
    · exact hs
    · split
      next custody => exact h.hookMarks _ _ rfl (by rw [custody]; rfl) hs
      next custody => exact h.setAlert _ _ (h.hookMarks _ _ rfl (by rw [custody]; rfl) hs)
      · exact hs

theorem releaseReached (k : Nat) (hs : P s) : P (s.releaseReached k) := by
  unfold State.releaseReached
  dsimp only
  split
  · exact hs
  · split
    next due => exact h.hookMarks _ _ rfl (by rw [due.2]; rfl) hs
    · exact hs

theorem keyStep (b : Nat) (t : Ticket) (hs : P s) : P (s.keyStep b t).1 := by
  unfold State.keyStep
  split
  exacts [h.requestKey t b hs, h.requestKey t b hs, hs]

end MarkKeeps

namespace HandKeeps

variable {P : State → Prop} {s : State} (h : HandKeeps P)
include h

/-! ### One record written -/

theorem setLift (l : Nat) (r : Lift) (hs : P s) : P (s.setLift l r) := h.arbiter _ hs

/-! ### Lanes and lifts -/

theorem tellGrant (t : Tenure) (hs : P s) : P (s.tellGrant t) := by
  unfold State.tellGrant
  split
  · exact hs
  · split
    exacts [h.laneGrantCheck (h.moveTicket _ _ (h.modifyTicket _ _ (fun _ => ⟨rfl, rfl⟩) hs)), hs]

theorem grant (l : Nat) (t : Tenure) (passed : List Tenure) (hs : P s) : P (s.grant l t passed) :=
  h.tellGrant t (h.raise _ _ nofun (h.setOrder l (h.setLift _ _ hs)))

theorem grantCheck (l : Nat) (hs : P s) : P (s.grantCheck l) := by
  unfold State.grantCheck
  dsimp only
  split
  · split
    exacts [hs, h.grant _ _ _ hs]
  · exact hs

theorem stagingFell (lift : Option Nat) (hs : P s) : P (s.stagingFell lift) := by
  unfold State.stagingFell
  split
  exacts [hs, h.grantCheck _ hs]

theorem fileTenure (n badge l : Nat) (d : Direction) (x y : Nat) (hs : P s) : P (s.fileTenure n badge l d x y).1 := by
  unfold State.fileTenure
  dsimp only
  split
  · exact hs
  · split
    exacts [hs, h.grantCheck l (h.modifyTicket n _ (fun _ => ⟨rfl, rfl⟩) (h.setLift _ _ hs))]

theorem letGo (n : Nat) (hs : P s) : P (s.letGo n) := by
  refine forEach_keeps P _ _ s (fun l t ht => ?_) hs
  dsimp only
  split
  · exact h.grantCheck l (h.setLift _ _ ht)
  · split
    · exact ht
    · split
      exacts [h.setLift _ _ ht, ht]

theorem cancelLane (n : Nat) (hs : P s) : P (s.cancelLane n) := by
  refine forEach_keeps P _ _ s (fun l t ht => ?_) hs
  dsimp only
  split
  exacts [h.modifyTicket n _ (fun _ => ⟨rfl, rfl⟩) (h.setLane _ _ ht), ht]

theorem loseLane (n : Nat) (hs : P s) : P (s.loseLane n) := by
  unfold State.loseLane
  split
  · dsimp only
    split
    exacts [h.modifyTicket _ _ (fun _ => ⟨rfl, rfl⟩) (h.moveTicket _ _ hs), h.modifyTicket _ _ (fun _ => ⟨rfl, rfl⟩) hs]
  · exact hs

theorem laneAbsent (n : Nat) (hs : P s) : P (s.laneAbsent n) := h.laneGrantCheck (h.setLane _ _ (h.loseLane n hs))

theorem laneUnconfigured (n : Nat) (hs : P s) : P (s.laneUnconfigured n) := by
  unfold State.laneUnconfigured
  split
  exacts [h.laneGrantCheck (h.setLane _ _ (h.loseLane n hs)), hs]

theorem tellTurnback (n : Option Nat) (hs : P s) : P (s.tellTurnback n) := by
  unfold State.tellTurnback
  split
  · exact hs
  · split
    exacts [h.laneGrantCheck (h.cancelLane _ (h.moveTicket _ _ hs)), hs]

theorem turnBack (l : Nat) (t : Tenure) (x : LiftState) (hs : P s) : P (s.turnBack l t x) :=
  h.tellTurnback _ (h.setLift _ _ hs)

theorem passage (l : Nat) (before : Bool) (hs : P s) : P (s.passage l before) := by
  unfold State.passage
  split
  exacts [h.becameServiceable hs, hs]

theorem recover (l : Nat) (hs : P s) : P (s.recover l) := by
  unfold State.recover
  refine h.grantCheck l (h.passage l _ ?_)
  dsimp only
  split
  · exact h.setLift _ _ hs
  · split
    exacts [h.setLift _ _ hs, h.turnBack _ _ _ hs]

theorem liftIdle (l level : Nat) (hs : P s) : P (s.liftIdle l level) := by
  have parked : P (s.setParked l level) := h.setLift _ _ hs
  unfold State.liftIdle
  dsimp only
  split
  · exact hs
  · exact h.recover l parked
  · exact h.recover l parked
  · exact parked
  · split
    · exact h.grantCheck l (h.setLift _ _ parked)
    · split
      exacts [h.setOrder l parked, parked]

theorem tellUnloaded (n : Option Nat) (hs : P s) : P (s.tellUnloaded n) := by
  unfold State.tellUnloaded
  split
  · exact hs
  · split
    exacts [h.moveTicket _ _ hs, hs]

theorem liftUnloaded (l : Nat) (hs : P s) : P (s.liftUnloaded l) := by
  unfold State.liftUnloaded
  split
  exacts [h.grantCheck l (h.tellUnloaded _ (h.raise _ _ nofun (h.setLift _ _ hs))), hs]

theorem liftObstructed (l : Nat) (hs : P s) : P (s.liftObstructed l) := by
  unfold State.liftObstructed
  split
  · split
    exacts [h.grantCheck l (h.turnBack _ _ _ hs), hs]
  · exact hs

theorem liftLost (l : Nat) (x : LiftState) (hs : P s) : P (s.liftLost l x) := by
  have lost : P (((s.setLift l { s.lift l with state := x }).clearOrder l).raise .liftFault l) :=
    h.raise _ _ nofun (h.clearOrder l (h.setLift _ _ hs))
  unfold State.liftLost
  dsimp only
  split
  exacts [h.replaceAll _ lost, lost]

theorem liftFaulted (l : Nat) (hs : P s) : P (s.liftFaulted l) := by
  unfold State.liftFaulted
  split
  exacts [hs, hs, h.liftLost l _ hs]

theorem liftStationAbsent (l : Nat) (hs : P s) : P (s.liftStationAbsent l) := by
  unfold State.liftStationAbsent
  split
  exacts [h.liftLost l _ hs, hs]

theorem blockLane (n : Nat) (hold : Bool) (hs : P s) : P (s.blockLane n hold) := h.raise _ _ nofun (h.setLane _ _ hs)

theorem deliver (n : Nat) (t : Ticket) (hs : P s) : P (s.deliver n t) :=
  h.stagingFell _ (h.raise _ _ nofun (h.moveTicket _ _ (h.setLane _ _ hs)))

theorem laneTurnback (n : Nat) (t : Ticket) (hs : P s) : P (s.laneTurnback n t) :=
  h.laneGrantCheck (h.raise _ _ nofun (h.modifyTicket _ _ (fun _ => ⟨rfl, rfl⟩) (h.setLane _ _ hs)))

theorem laneOccupied (n : Nat) (hs : P s) : P (s.laneOccupied n) := by
  unfold State.laneOccupied
  dsimp only
  split
  · exact h.blockLane _ _ hs
  · split
    · exact hs
    · split
      exacts [h.deliver _ _ hs, h.laneTurnback _ _ hs, hs]
  exacts [hs, hs, h.blockLane _ _ hs, h.blockLane _ _ hs]

/-! ### Presence -/

theorem handAbsence (a : Nat) (cls : StationClass) (served : Option Served) (hs : P s) : P (s.handAbsence a cls served) := by
  unfold State.handAbsence
  split
  exacts [h.hubAbsent _ _ hs, h.liftStationAbsent _ hs, h.laneAbsent _ hs, h.baseLost a hs, hs]

/-! ### Keys -/

theorem unbindHook (k : Nat) (hs : P s) : P (s.unbindHook k) := h.setHook _ _ hs

theorem takeHookBit (k : Nat) (bit : Bool) (hs : P s) : P (s.takeHookBit k bit) :=
  h.bitTaken k bit (fun _ _ => h.handHook k) hs

theorem rebind (k : Nat) (t : Ticket) (hs : P s) : P (s.rebind k t).1 := by
  have bound (r : Hook) : P ((s.setHook k r).modifyTicket t.number fun t => { t with hook := some k }) :=
    h.modifyTicket _ _ (fun _ => ⟨rfl, rfl⟩) (h.setHook _ _ hs)
  unfold State.rebind
  extract_lets settled r
  split
  · exact hs
  · split
    · exact bound _
    · refine h.handHook _ (h.setHook _ _ ?_)
      split
      exacts [h.modifyTicket _ _ (fun _ => ⟨rfl, rfl⟩) (bound _), bound _]

/-! ### Calls -/

theorem groupCall (t : Ticket) (g place : Nat) (hs : P s) : P (s.groupCall t g place).1 := by
  refine forEach_keeps (fun acc : State × Nat => P acc.1) _ _ _ (fun n acc ha => ?_) (h.callTicket t _ hs)
  unfold callMember
  split
  · exact ha
  · split
    exacts [h.callTicket _ _ ha, ha]

theorem enterSchedule (n : Nat) (requested : SiteTime) (hs : P s) : P (s.enterSchedule n requested) := by
  have made (x : List ScheduleEntry) : P { s.unschedule n with calls.schedule := x } := h.schedule _ (h.unschedule n hs)
  unfold State.enterSchedule
  dsimp only
  split
  exacts [h.releaseEntry n (made _), made _]

theorem scheduleTicket (t : Ticket) (requested : SiteTime) (hs : P s) : P (s.scheduleTicket t requested).1 := by
  unfold State.scheduleTicket
  split
  · split
    exacts [h.enterSchedule _ _ (h.moveTicket _ _ hs), hs]
  · exact h.enterSchedule _ _ hs
  all_goals exact hs

theorem uncall (n : Nat) (hs : P s) : P (s.uncall n) := h.modifyTicket n _ (fun _ => ⟨rfl, rfl⟩) hs

theorem cancelTicket (t : Ticket) (hs : P s) : P (s.cancelTicket t).1 := by
  unfold State.cancelTicket
  split
  · exact h.moveTicket _ _ (h.unschedule _ hs)
  · exact h.uncall _ (h.moveTicket _ _ (h.withdrawTask _ hs))
  · split
    exacts [h.uncall _ (h.modifyTicket _ _ (fun _ => ⟨rfl, rfl⟩) hs), hs]
  · split
    exacts [h.uncall _ (h.modifyTicket _ _ (fun _ => ⟨rfl, rfl⟩) hs), hs]
  · split
    exacts [h.uncall _ (h.modifyTicket _ _ (fun _ => ⟨rfl, rfl⟩) hs), hs]
  all_goals exact hs

theorem vacateLanes (n : Nat) (hs : P s) : P (s.vacateLanes n) := by
  refine forEach_keeps P _ _ s (fun l t ht => ?_) hs
  dsimp only
  split
  exacts [h.setLane _ _ ht, ht]

theorem freeStalls (t : Ticket) (hs : P s) : P (s.freeStalls t).1 :=
  forEach_keeps P _ _ _ (fun k _ => h.freeOccupied k true) (forEach_keeps P _ _ s (fun k _ => h.releaseStall k t.number) hs)

/-! ### Runners' frames -/

theorem tellAccept (b n : Nat) (hs : P s) : P (s.tellAccept b n) := by
  have named : P (s.modifyTicket n fun t => { t with runner := some b }) := h.modifyTicket n _ (fun _ => ⟨rfl, rfl⟩) hs
  unfold State.tellAccept
  dsimp only
  split
  exacts [h.moveTicket _ _ named, h.moveTicket _ _ (h.modifyTicket n _ (fun _ => ⟨rfl, rfl⟩) named), named, hs]

theorem acceptTask (b n : Nat) (hs : P s) : P (s.acceptTask b n) :=
  h.tellAccept b n (h.raise _ _ nofun (h.promote (h.setRunner _ _ (h.modifyTask _ _ hs))))

theorem takeAccept (b n : Nat) (hs : P s) : P (s.takeAccept b n).1 := by
  unfold State.takeAccept
  split
  · exact h.acceptTask b n hs
  · split <;> exact hs

theorem lobbyStep (b level : Nat) (t : Ticket) (hs : P s) : P (s.lobbyStep b level t).1 := by
  unfold State.lobbyStep
  split
  · unfold State.lobbyParking
    split
    · exact hs
    · split
      exacts [hs, h.fileTenure _ _ _ _ _ _ hs]
  · unfold State.lobbyRestaging
    dsimp only
    split
    · exact hs
    · split
      exacts [hs, h.fileTenure _ _ _ _ _ _ hs]
  · unfold State.lobbyFetching
    dsimp only
    split
    exacts [hs, h.fileTenure _ _ _ _ _ _ hs]
  · exact hs

theorem departStep (b : Nat) (t : Ticket) (hs : P s) : P (s.departStep b t) := by
  unfold State.departStep
  split
  · exact hs
  · split
    exacts [h.handOn _ (h.setLevel _ _ (h.depart _ _ hs)), hs]

theorem stageCar (n : Nat) (hs : P s) : P (s.stageCar n) := by
  unfold State.stageCar
  split
  exacts [h.laneGrantCheck (h.moveTicket _ _ (h.modifyTicket n _ (fun _ => ⟨rfl, rfl⟩) hs)), hs]

theorem departedStep (b : Nat) (t : Ticket) (hs : P s) : P (s.departedStep b t).1 := by
  unfold State.departedStep
  split
  · exact h.departStep b t hs
  · dsimp only
    split
    exacts [hs, h.stageCar _ (h.departStep b t hs)]
  · exact hs

theorem occupy (k n : Nat) (hs : P s) : P (s.occupy k n) := h.putStall _ _ rfl hs

theorem departOld (t : Ticket) (k : Nat) (hs : P s) : P (s.departOld t k).1 := by
  unfold State.departOld
  split
  · split
    exacts [h.depart _ _ hs, hs]
  · exact hs

theorem releaseOther (t : Ticket) (k : Nat) (hs : P s) : P (s.releaseOther t k).1 := by
  unfold State.releaseOther
  split
  · exact hs
  · split
    exacts [h.releaseStall _ _ hs, hs]

theorem setDown (t : Ticket) (k : Nat) (hs : P s) : P (s.setDown t k).1 := by
  have kept : P (if s.occupiedBy k t.number then s else s.occupy k t.number) := by
    split
    exacts [hs, h.occupy _ _ hs]
  have bound (c : Bool) : P ((((if s.occupiedBy k t.number then s else s.occupy k t.number).departOld t k).1.releaseOther t
      k).1.modifyTicket t.number (·.parkedIn k c s.now)) := h.modifyTicket _ _ (fun _ => ⟨rfl, rfl⟩) (h.releaseOther _ _ (h.departOld _ _ kept))
  unfold State.setDown
  dsimp only
  split
  exacts [bound _, h.handOn _ (bound _)]

theorem endParking (b : Nat) (t : Ticket) (slotFree : Bool) (hs : P s) : P (s.endParking b t slotFree) := by
  unfold State.endParking
  dsimp only
  split
  · exact h.makeTask _ _ _ (h.endTask _ _ _ (h.letGo _ (h.moveTicket _ _ (h.modifyTicket _ _ (fun _ => ⟨rfl, rfl⟩) hs))))
  · exact h.endTask _ _ _ (h.letGo _ (h.moveTicket _ _ hs))

theorem parkedStep (b k : Nat) (slotFree : Bool) (t : Ticket) (hs : P s) : P (s.parkedStep b k slotFree t).1 := by
  have parks : P (s.parkStep b k slotFree t).1 := by
    unfold State.parkStep
    split
    · split
      · dsimp only
        have ended (level : Nat) : P (((s.setDown t k).1.setLevel b level).endParking b t slotFree) :=
          h.endParking _ _ _ (h.setLevel _ _ (h.setDown t k hs))
        split
        exacts [ended _, h.handOn _ (ended _)]
      · exact hs
    · exact hs
  unfold State.parkedStep
  split
  exacts [parks, parks, hs]

end HandKeeps

namespace LinkKeeps

variable {P : State → Prop} {s : State} (h : LinkKeeps P)
include h

/-! ### Stations -/

theorem raise (x : Source) (n : Nat) (hs : P s) : P (s.raise x n) := h.waiting _ hs

theorem setStation (a : Nat) (r : Station) (fits : r.silent ≤ 3 ∨ r.silent = (s.station a).silent) (hs : P s) :
    P (s.setStation a r) := h.stations _ (silentFits_setNth1 fits) hs

theorem mapStations (f : Station → Station) (same : ∀ r, (f r).silent = r.silent) (hs : P s) : P (s.mapStations f) :=
  h.stations _ (silentFits_mapBank same) hs

theorem oweService (a : Nat) (k : ServiceKind) (o : Answer) (n m : Option Nat) (hs : P s) : P (s.oweService a k o n m) :=
  h.setStation _ _ (.inr rfl) hs

theorem oweManage (a : Nat) (b : Bool) (c : ManageCode) (o : Answer) (r : ManageRecord) (l : Option (Option LatchContent))
    (hs : P s) : P (s.oweManage a b c o r l) := h.setStation _ _ (.inr rfl) hs

theorem handPresence (a : Nat) (cls : StationClass) (served : Option Served) (hs : P s) :
    P (s.handPresence a cls served) := by
  unfold State.handPresence
  split
  exacts [h.liftStationPresent _ hs, h.pair hs, h.setStation _ _ (.inr rfl) hs, hs]

theorem goodAnswer (a : Nat) (hs : P s) : P (s.goodAnswer a) := by
  have answered : P (s.setStation a { s.station a with presence := .present, silent := 0 }) :=
    h.setStation _ _ (.inl (Nat.zero_le 3)) hs
  unfold State.goodAnswer
  dsimp only
  split
  exacts [answered, h.handPresence _ _ _ answered]

/-! ### Own frames -/

theorem takeRunner (a b : Nat) (hs : P s) : P (s.takeRunner a b).1 := by
  unfold State.takeRunner
  dsimp only
  split
  exacts [h.setRunner _ _ hs, h.setRunner _ _ hs, hs]

theorem takeOrder (a : Nat) (hs : P s) : P (s.takeOrder a).1 := by
  have cleared : P (s.setStation a { s.station a with orderMark := false }) := h.setStation _ _ (.inr rfl) hs
  unfold State.takeOrder
  dsimp only
  split
  · exact cleared
  · split
    exacts [h.clearOrder _ cleared, h.settleOrder _ cleared]

theorem takeOwn (c : OwnClass) (a : Nat) (hs : P s) : P (s.takeOwn c a).1 := by
  unfold State.takeOwn
  dsimp only
  split
  · exact h.setStation _ _ (.inr rfl) hs
  · exact h.setStation _ _ (.inr rfl) hs
  · split
    exacts [hs, h.takeRunner _ _ hs]
  · exact h.takeOrder _ hs
  · exact h.setStation _ _ (.inr rfl) hs
  · split
    exacts [h.setStation _ _ (.inr rfl) hs, h.setStation _ _ (.inr rfl) hs]

end LinkKeeps

namespace WorkKeeps

variable {P : State → Prop} {s : State} (h : WorkKeeps P)
include h

/-! ### Stations -/

theorem miss (a : Nat) (hs : P s) : P (s.miss a) := by
  have few (n : Nat) : min 3 n ≤ 3 := Nat.min_le_left ..
  unfold State.miss
  dsimp only
  split
  · exact h.handAbsence _ _ _ (h.raise _ _ (h.setStation _ _ (.inl (few _)) hs))
  · exact h.setStation _ _ (.inl (few _)) hs

end WorkKeeps

end Sys2Proof.Machine
end

section
/-! SUPPORT. What every command keeps, continued: the writes of the table loads, the ticket table, the timers, the links and
the starts, and every command and step. -/

namespace Sys2Proof.Machine

open Sys2Proof

/-- The counts of a panel are in their ranges (R65). -/
abbrev Panel.countsFit (r : Panel) : Prop := r.bad ≤ 3 ∧ r.good ≤ 2

/-- The property is kept by each write that leaves the records of who stands where, whatever makes it: the marks of the
links, the fields of stalls, hooks and schedule entries beside the tickets they name, and everything of the scanner, the
timers, the events, the ports and the parameters. -/
structure EdgeKeeps (P : State → Prop) : Prop extends LinkKeeps P where
  loadedStall : ∀ {s : State} k r, k < Config.stallCount → (∀ x, r.site = some x → x.right = true) →
    r.ticket = (s.stall k).ticket → r.state.claim = (s.stall k).state.claim → P s → P (s.putStall k r)
  markedStalls : ∀ {s : State} f, (∀ r : Stall, (f r).state = r.state ∧ (f r).site = r.site) →
    (∀ r : Stall, (f r).ticket = r.ticket) → P s → P { s with stalls.records := mapBank s.stalls.records f }
  markedHooks : ∀ {s : State} f, (∀ r : Hook, (f r).ticket = r.ticket ∧ (f r).custody.loose = r.custody.loose) → P s →
    P { s with keys.hooks := mapBank s.keys.hooks f }
  markedEntries : ∀ {s : State} f, (∀ e : ScheduleEntry, (f e).ticket = e.ticket) → P s →
    P { s with calls.schedule := s.calls.schedule.map f }
  setPanel : ∀ {s : State} p r, ((s.panel p).countsFit → r.countsFit) → P s → P (s.setPanel p r)
  panels : ∀ {s : State} v, (∀ r ∈ v.toList, r.countsFit) → P s → P { s with keys.panels := v }
  scan : ∀ {s : State} x, P s → P { s with keys.scan := x }
  cabinet : ∀ {s : State} x, P s → P { s with keys.latches := x }
  setChannel : ∀ {s : State} k c, ((s.channel k).atRest = true → c.atRest = true) → P s → P (s.setChannel k c)
  timers : ∀ {s : State} f, (∀ c : Channel, c.atRest = true → (f c).atRest = true) → P s →
    P { s with timers := mapBank s.timers f }
  fed : ∀ {s : State} target sample, P s → P { s with calls.estimates := s.calls.estimates.feed target sample }
  events : ∀ {s : State} e, e.clock = s.events.clock → P s → P { s with events := e }
  clock : ∀ {s : State} t, t.day < Config.dayCount → t.tenth < Config.dayTenths → P s → P (s.putClock t)
  setPort : ∀ {s : State} p r, ((s.port p).forwarded.length ≤ Config.maxForwarded →
    r.forwarded.length ≤ Config.maxForwarded) → P s → P (s.setPort p r)
  passTable : ∀ {s : State} x, P s → P { s with links.passTable := x }
  strap : ∀ {s : State} x, P s → P { s with links.strap := x }
  params : ∀ {s : State} p, (s.params.Right → p.Right) → P s → P { s with params := p }
  pending : ∀ {s : State} x, P s → P { s with pending := x }
  power : ∀ {s : State} x, P s → P { s with power := x }

/-- The property is kept by each write that any command is made of, each as far as a command makes it. -/
structure StepKeeps (P : State → Prop) : Prop extends WorkKeeps P, EdgeKeeps P where
  made : ∀ {s : State} q, s.tickets.length < Config.maxTickets → P s →
    P { s with issue := nextNumber s.issued, tickets := s.tickets ++ [newTicket s.issued q s.now] }
  dropped : ∀ {s : State} n, (s.ticket n).bind (·.group) = none → P s →
    P { s with tickets := s.tickets.filter (·.number != n) }
  leftGroup : ∀ {s : State} t, (s.ticket t.number).map (·.group) = some t.group → P s → P (s.leaveGroup t)
  joined : ∀ {s : State} t g, s.ticket t.number = some t → t.group = none → 1 ≤ g → g ≤ 63 →
    (s.groupRing g).length < Config.maxGroup → P s →
    P (s.modifyTicket t.number fun k => { k with group := some (g, (s.groupRing g).length + 1) })
  listed : ∀ {s : State} n, s.unplaced.length < Config.maxUnplaced → P s → P { s with unplaced := s.unplaced ++ [n] }
  countedStalls : ∀ {s : State} (v : Vector Stall Config.stallCount),
    (∀ r ∈ v.toList, ∃ r' ∈ s.stalls.records.toList, r.site = r'.site) → P s →
    P { s with stalls := { records := v, free := freeCounts v.toList } }
  cold : ∀ {s : State} strap, P (s.coldStart strap)
  markedHooks := fun _ _ hs => hooks _ hs
  markedEntries := fun _ _ hs => schedule _ hs

/-- The property is kept by each operation that a command has a block make, where the operation moves the records of who
stands where; and by the writes that leave them. -/
structure CommandKeeps (P : State → Prop) : Prop extends EdgeKeeps P where
  arrives : ∀ {s : State} a f, P s → P (s.takeArrive a f).state
  calls : ∀ {s : State} f, P s → P (s.requestCall f).state
  schedules : ∀ {s : State} t time, s.ticket t.number = some t → P s → P (s.scheduleTicket t time).1
  cancels : ∀ {s : State} t, s.ticket t.number = some t → P s → P (s.cancelTicket t).1
  groups : ∀ {s : State} t g, g ≤ 63 → s.ticket t.number = some t → P s → P (s.linkGroup t g).1
  accepts : ∀ {s : State} b n, P s → P (s.acceptTask b n)
  lobbies : ∀ {s : State} b level t, s.ticket t.number = some t → P s → P (s.lobbyStep b level t).1
  departs : ∀ {s : State} b t, s.ticket t.number = some t → P s → P (s.departedStep b t).1
  parks : ∀ {s : State} b k slotFree t, s.ticket t.number = some t → P s → P (s.parkedStep b k slotFree t).1
  closes : ∀ {s : State} t, s.ticket t.number = some t → t.state = .atCurb → P s → P (s.closeTicket t)
  idles : ∀ {s : State} l level, P s → P (s.liftIdle l level)
  unloads : ∀ {s : State} l, P s → P (s.liftUnloaded l)
  obstructs : ∀ {s : State} l, P s → P (s.liftObstructed l)
  faults : ∀ {s : State} l, P s → P (s.liftFaulted l)
  delivers : ∀ {s : State} n, P s → P (s.laneOccupied n)
  clears : ∀ {s : State} n, P s → P (s.freeLane n)
  empties : ∀ {s : State} k, P s → P (s.sensedEmpty k)
  absences : ∀ {s : State} a cls served, P s → P (s.handAbsence a cls served)
  hands : ∀ {s : State} k, P s → P (s.handOn k)
  binds : ∀ {s : State} k, k < Config.hookCount → P s → P (s.handHook k)
  changes : ∀ {s : State} k, P s → P (s.paramChanged k)
  counts : ∀ {s : State} n, 1 ≤ n ∧ n ≤ 9 → s.panelCountBusy n = false → P s → P (s.storePanelCount n)
  releases : ∀ {s : State} n, P s → P (s.releaseEntry n)
  rebinds : ∀ {s : State} k t, s.ticket t.number = some t → P s → P (s.rebind k t).1
  restages : ∀ {s : State} t k, s.ticket t.number = some t → k < Config.stallCount → P s → P (s.restageTicket t k).1
  forces : ∀ {s : State} t, s.ticket t.number = some t → P s → P (s.forceCloseTicket t)
  starts : ∀ {s : State} strap, P s → P (s.retainedStart strap)
  colds : ∀ {s : State} strap, P (s.coldStart strap)

/-! ### Tickets through the work of the blocks -/

/-- No work of the blocks changes an open ticket's group. -/
theorem workKeeps_groupOf (n : Nat) (g : Option (Option (Nat × Nat))) :
    WorkKeeps fun s => (s.ticket n).map (·.group) = g where
  hooks _ hs := hs
  dispatch _ hs := hs
  arbiter _ hs := hs
  liftMarks _ _ _ hs := hs
  schedule _ hs := hs
  board _ hs := hs
  waiting _ hs := hs
  stations _ _ hs := hs
  putStall k r _ hs := by simpa only [State.ticket, State.putStall_frame] using hs
  tickets f same hs := by
    rw [← hs]
    simp only [State.ticket, List.find?_map, Option.map_map]
    congr 1
    · funext t
      exact (same t).2
    · congr 1
      funext t
      exact congrArg (· == n) (same t).1
  unplaced _ _ hs := hs

/-- With fewer than 512 open tickets the issued number is of none, whatever the issue counter holds (R40). -/
theorem State.ticket_issued (s : State) (room : s.tickets.length < 512) : s.ticket s.issued = none := by
  have next : 1 ≤ nextNumber s.issue ∧ nextNumber s.issue ≤ 9999 := by
    simp only [nextNumber, Config.maxTicketNumber]
    split <;> omega
  obtain ⟨j, few, free⟩ := State.exists_free_candidate { s with issue := nextNumber s.issue } next.1 next.2
    (show s.tickets.length < 9999 by omega)
  have found : ∃ j, s.ticket (nextNumber^[j] s.issue) = none := ⟨j + 1, free⟩
  have least : Nat.find found ≤ j + 1 := Nat.find_min' found free
  have short : j ≤ s.tickets.length := few
  rw [State.issued, s.firstFreeNumber_eq (j := Nat.find found) (by simp only [Config.maxTickets]; omega)
    (fun i less => Nat.find_min found less) (Nat.find_spec found)]
  exact Nat.find_spec found

theorem State.vacateLanes_tickets (s : State) (n : Nat) : (s.vacateLanes n).tickets = s.tickets := by
  refine forEach_keeps (fun t : State => t.tickets = s.tickets) _ _ s (fun l t ht => ?_) rfl
  dsimp only
  split <;> exact ht

/-- The ticket that left its group has none. -/
theorem State.leaveGroup_group (s : State) (t : Ticket) (own : (s.ticket t.number).map (·.group) = some t.group) :
    ((s.leaveGroup t).ticket t.number).bind (·.group) = none := by
  obtain ⟨c, found, same⟩ := Option.map_eq_some_iff.mp own
  unfold State.leaveGroup
  split
  next alone => simp [found, same, alone]
  next g place _ =>
    have number := State.ticket_number found
    simp only [State.ticket, List.find?_map] at found ⊢
    rw [show ((fun x : Ticket => x.number == t.number) ∘ _) = (fun x : Ticket => x.number == t.number) from ?_, found]
    · simp [number]
    · funext k
      simp only [Function.comp_apply]
      repeat' split
      all_goals rfl

/-! ### Channels -/

theorem Channel.atRest_iff (c : Channel) : c.atRest = true ↔
    (c.mode = .off → c.state = .stopped) ∧ (c.state ≠ .counting → c.counter = 0) ∧
      (c.state = .stopped → c.drive = false ∧ c.pulseEnd = none ∧ c.elapsed = 0 ∧ c.due = false) := by
  cases h : c.mode <;> cases h' : c.state <;> simp [Channel.atRest, h, h', and_assoc]

theorem Channel.stop_atRest (c : Channel) : c.stop.atRest = true := by simp [Channel.stop, Channel.atRest_iff]

theorem Channel.begin_atRest {c : Channel} (n : Nat) (h : c.mode ≠ .off) : (c.begin n).atRest = true := by
  simp [Channel.begin, Channel.atRest_iff, h]

theorem Channel.rearm_atRest {c : Channel} (h : c.mode ≠ .off) : c.rearm.atRest = true := by
  simp [Channel.rearm, Channel.atRest_iff, h]

/-- A channel that is not STOPPED is in no mode OFF. -/
theorem Channel.mode_of_atRest {c : Channel} (h : c.atRest = true) (running : c.state ≠ .stopped) : c.mode ≠ .off :=
  fun off => running ((c.atRest_iff.mp h).1 off)

theorem Channel.masterExpiry_atRest {c : Channel} (h : c.atRest = true) : c.masterExpiry.atRest = true := by
  unfold Channel.masterExpiry
  split
  next => exact h
  next armed => simp [Channel.begin, Channel.atRest_iff, Channel.mode_of_atRest h (by simp [armed])]
  next counting => exact Channel.begin_atRest _ (Channel.mode_of_atRest h (by simp [counting]))

theorem Channel.startEvent_atRest {c : Channel} (h : c.atRest = true) : c.startEvent.atRest = true := by
  unfold Channel.startEvent
  split
  · exact Channel.begin_atRest _ (by simp_all)
  · exact Channel.begin_atRest _ (by simp_all)
  · exact Channel.begin_atRest _ (by simp_all)
  · exact h

theorem Channel.start_atRest {c : Channel} (h : c.mode ≠ .off) : c.start.atRest = true := by
  unfold Channel.start
  split
  exacts [Channel.begin_atRest _ h, Channel.rearm_atRest h]

theorem Channel.tenthPassed_atRest {c : Channel} (h : c.atRest = true) : c.tenthPassed.atRest = true := by
  unfold Channel.tenthPassed
  split
  · exact h
  · next running =>
    have counting : c.state = .counting := by
      by_contra still
      exact running (.inl still)
    have mode := Channel.mode_of_atRest h (by simp [counting])
    repeat' split
    all_goals simp [Channel.atRest_iff, counting, mode]

theorem State.readTimer_atRest {s : State} {f : TimerFields} {k : Nat} {c : Channel} (h : s.readTimer f = some (k, c)) :
    c.atRest = true ∧ k < Config.channelCount := by
  simp only [State.readTimer, bind, Option.bind_eq_some_iff] at h
  obtain ⟨mode, _, clock, _, output, _, target, _, h⟩ := h
  split at h
  next fits =>
    obtain ⟨rfl, rfl⟩ := Prod.mk.inj (Option.some.inj h)
    simp only [Bool.and_eq_true, decide_eq_true_eq] at fits
    exact ⟨by simp [Channel.atRest_iff, Channel.cold], fits.1.1.1⟩
  next => cases h

/-! ### Panels -/

theorem Panel.cold_countsFit : Panel.cold.countsFit := by decide

theorem Panel.discardedSample_countsFit (r : Panel) : r.discardedSample.countsFit :=
  ⟨Nat.min_le_left _ _, Nat.zero_le _⟩

theorem Panel.goodSample_countsFit (r : Panel) : r.goodSample.countsFit :=
  ⟨Nat.zero_le _, Nat.min_le_left _ _⟩

/-! ### Parameters -/

theorem clampTo_le {low high n : Nat} (h : low ≤ high) : low ≤ clampTo low high n ∧ clampTo low high n ≤ high := by
  unfold clampTo
  omega

theorem nth_setNth_le {n : Nat} {v : Vector Nat n} {i x bound : Nat} (h : ∀ j, nth v j 0 ≤ bound) (hx : x ≤ bound) (j : Nat) :
    nth (setNth v i x) j 0 ≤ bound := by
  by_cases same : i = j
  · subst same
    by_cases inside : i < n
    · rwa [nth_setNth_same _ _ _ _ inside]
    · rw [nth_outside _ _ _ (by omega)]
      omega
  · rw [nth_setNth_ne _ _ _ _ _ same]
    exact h j

theorem PerSize.get_set (v : PerSize) (c d : SizeClass) (n : Nat) : (v.set c n).get d = if c = d then n else v.get d := by
  cases c <;> cases d <;> rfl

theorem Params.storeNumber_right {p : Params} (right : p.Right) {k low high n : Nat}
    (kind : paramKind k = some (.number low high)) (hn : low ≤ n ∧ n ≤ high) : (p.storeNumber k n).Right := by
  obtain ⟨lt, st, sw, pen, res, ps, ct, ch, cw, aw, rw', ld, ag, sc, pc⟩ := right
  have stored (c : SizeClass) (h : n ≤ 63) (d : SizeClass) : (p.reserve.set c n).get d ≤ 63 := by
    rw [PerSize.get_set]
    split
    exacts [h, res d]
  unfold paramKind at kind
  split at kind <;> cases kind <;>
    exact ⟨by first | exact lt | exact hn, by first | exact st | exact nth_setNth_le st hn.2,
      by first | exact sw | exact nth_setNth_le sw hn.2,
      by first | exact pen | exact ⟨hn.2, pen.2⟩ | exact ⟨pen.1, hn.2, pen.2.2⟩ | exact ⟨pen.1, pen.2.1, hn.2⟩,
      by first | exact res | exact stored _ hn.2, by first | exact ps | exact hn.2, by first | exact ct | exact hn,
      by first | exact ch | exact hn, by first | exact cw | exact hn, by first | exact aw | exact hn,
      by first | exact rw' | exact hn, by first | exact ld | exact hn.2, by first | exact ag | exact hn,
      by first | exact sc | exact hn, by first | exact pc | exact hn⟩

theorem Params.storeSet_right {p : Params} (right : p.Right) (k : Nat) (xs : List Nat) : (p.storeSet k xs).Right := by
  obtain ⟨lt, st, sw, pen, res, ps, ct, ch, cw, aw, rw', ld, ag, sc, pc⟩ := right
  unfold Params.storeSet
  split <;> exact ⟨lt, st, sw, pen, res, ps, ct, ch, cw, aw, rw', ld, ag, sc, pc⟩

theorem Params.storeFlag_right {p : Params} (right : p.Right) (k : Nat) (b : Bool) : (p.storeFlag k b).Right := by
  obtain ⟨lt, st, sw, pen, res, ps, ct, ch, cw, aw, rw', ld, ag, sc, pc⟩ := right
  unfold Params.storeFlag
  split <;> exact ⟨lt, st, sw, pen, res, ps, ct, ch, cw, aw, rw', ld, ag, sc, pc⟩

theorem paramKind_range {k low high : Nat} (kind : paramKind k = some (.number low high)) : low ≤ high := by
  unfold paramKind at kind
  split at kind <;> cases kind <;> decide

theorem Params.read_right {p q : Params} {f : ParamFields} {clamped : Bool} (h : p.read f = some (q, clamped))
    (right : p.Right) : q.Right := by
  unfold Params.read at h
  split at h
  next kind _ =>
    cases h
    exact Params.storeNumber_right right kind (clampTo_le (paramKind_range kind))
  · split at h <;> cases h
    exact Params.storeSet_right right _ _
  · split at h <;> cases h
    exact Params.storeSet_right right _ _
  · obtain ⟨b, -, same⟩ := Option.map_eq_some_iff.mp h
    cases same
    exact Params.storeFlag_right right _ _
  · cases h

theorem Params.read_panelCount {p q : Params} {f : ParamFields} {clamped : Bool} (h : p.read f = some (q, clamped))
    (count : f.number = 25) : 1 ≤ q.panelCount ∧ q.panelCount ≤ 9 := by
  have kind : paramKind f.number = some (.number 1 9) := by rw [count]; rfl
  unfold Params.read at h
  rw [kind] at h
  split at h
  next low high n same _ =>
    cases same
    cases h
    rw [count]
    exact clampTo_le (by decide)
  next same _ => cases same
  next same _ => cases same
  next same _ => cases same
  · cases h

theorem State.readStallSite_right {s : State} {f : StallFields} {site : StallSite} (h : s.readStallSite f = some site) :
    site.right = true ∧ f.stall < Config.stallCount := by
  simp only [State.readStallSite, bind, Option.bind_eq_some_iff] at h
  obtain ⟨size, _, charger, _, h⟩ := h
  rw [Option.ite_none_right_eq_some] at h
  obtain ⟨fits, stored⟩ := h
  obtain rfl := Option.some.inj stored
  simp only [Bool.and_eq_true, decide_eq_true_eq] at fits
  obtain ⟨⟨⟨⟨stall, level⟩, zone⟩, lift⟩, served⟩ := fits
  refine ⟨?_, stall⟩
  have walk := f.walk.isLt
  simp only [StallSite.right, Bool.and_eq_true, decide_eq_true_eq, Bool.or_eq_true, bne_iff_ne, beq_iff_eq]
  by_cases none : f.lift = 0
  · exact ⟨⟨⟨⟨by omega, by omega⟩, by omega⟩, lift⟩, .inr (by simpa [none] using served)⟩
  · exact ⟨⟨⟨⟨by omega, by omega⟩, by omega⟩, lift⟩, .inl none⟩

end Sys2Proof.Machine
end

section
/-! SUPPORT. What every command keeps, continued: every operation of the ticket table, the scanner, the timers, the loads,
the starts and the links keeps what its writes keep, and so does every command and step. -/

namespace Sys2Proof.Machine

open Sys2Proof

namespace EdgeKeeps

variable {P : State → Prop} {s : State} (h : EdgeKeeps P)
include h

/-! ### The scanner -/

theorem discardSample (p : Nat) (hs : P s) : P (s.discardSample p) := by
  have kept : P (s.setPanel p (s.panel p).discardedSample) := h.setPanel _ _ (fun _ => Panel.discardedSample_countsFit _) hs
  unfold State.discardSample
  dsimp only
  split
  exacts [h.raise _ _ kept, kept]

theorem putOut (p : Nat) (x : PanelExchange) (hs : P s) : P (s.putOut p x) :=
  h.cabinet _ (h.scan { s.keys.scan with out := bitsOut s.keys.scan.unlock x } hs)

theorem selectNext (hs : P s) : P s.selectNext := by
  unfold State.selectNext
  split
  exacts [h.scan _ hs, h.scan _ hs]

theorem beginCycle (hs : P s) : P s.beginCycle := by
  unfold State.beginCycle
  split
  · exact hs
  · exact h.selectNext (h.scan _ hs)

/-! ### Timers and events -/

theorem handExpiry (k : Nat) (hs : P s) : P (s.handExpiry k) := by
  unfold State.handExpiry
  dsimp only
  refine h.raise _ _ ?_
  split
  · refine forEach_keeps P _ _ s (fun j u hu => ?_) hs
    split
    · exact h.setChannel j _ Channel.masterExpiry_atRest hu
    · exact hu
  · exact hs

theorem expire (k : Nat) (hs : P s) : P (s.expire k) := by
  unfold State.expire
  dsimp only
  split
  next mode => exact h.handExpiry k (h.setChannel k _ (fun _ => by simp [Channel.begin, Channel.atRest_iff, mode]) hs)
  next mode => exact h.handExpiry k (h.setChannel k _ (fun _ => by simp [Channel.rearm, Channel.atRest_iff, mode]) hs)
  next mode => exact h.handExpiry k (h.setChannel k _ (fun _ => by simp [Channel.rearm, Channel.atRest_iff, mode]) hs)
  · exact hs
  · exact hs

theorem eventStep (k : Nat) (hs : P s) : P (s.eventStep k) := by
  unfold State.eventStep
  dsimp only
  split
  · exact hs
  next counting =>
    have counting : (s.channel k).state = .counting := by simpa using counting
    have counts (n : Nat) : P (s.setChannel k { s.channel k with counter := n }) := by
      refine h.setChannel k _ (fun rest => ?_) hs
      have mode := Channel.mode_of_atRest rest (by simp [counting])
      simp [Channel.atRest_iff, counting, mode]
    split
    · exact hs
    · exact counts _
    · split
      exacts [h.expire k hs, counts _]

theorem feedCapture (c : Channel) (n : Nat) (hs : P s) : P (s.feedCapture c n) := by
  unfold State.feedCapture
  split
  exacts [hs, h.fed _ _ hs]

theorem stopEvent (k : Nat) (hs : P s) : P (s.stopEvent k) := by
  unfold State.stopEvent
  dsimp only
  split
  next mode _ => exact h.setChannel k _ (fun _ => by simp [Channel.rearm, Channel.atRest_iff, mode]) hs
  next mode _ => exact h.setChannel k _ (fun _ => by simp [Channel.rearm, Channel.atRest_iff, mode]) hs
  next mode _ =>
    exact h.handExpiry k (h.feedCapture _ _
      (h.setChannel k _ (fun _ => by simp [Channel.rearm, Channel.atRest_iff, mode]) hs))
  · exact hs

theorem endPulse (k : Nat) (hs : P s) : P (s.endPulse k) := by
  refine h.setChannel k _ (fun rest => ?_) hs
  rw [Channel.atRest_iff] at rest ⊢
  obtain ⟨off, counter, stopped⟩ := rest
  exact ⟨off, counter, fun still => ⟨rfl, rfl, (stopped still).2.2⟩⟩

theorem takeDue (k : Nat) (hs : P s) : P (s.takeDue k) := by
  unfold State.takeDue
  split
  exacts [h.expire k hs, hs]

theorem oweNotices (hs : P s) : P s.oweNotices := h.mapStations _ (fun r => by split <;> rfl) hs

theorem setFlag (k : Nat) (hs : P s) : P (s.setFlag k) := by
  unfold State.setFlag
  split
  · exact hs
  · dsimp only
    have set : P { s with events.flags := setNth s.events.flags k true } := h.events _ rfl hs
    split
    exacts [h.oweNotices set, set]

theorem hitLatch (n : Nat) (e : Event) (hs : P s) : P (s.hitLatch n e) := h.events _ rfl hs

theorem actRoute (e : Event) (r : Route) (hs : P s) : P (s.actRoute e r) := by
  unfold State.actRoute
  split
  · exact hs
  · split
    exacts [hs, h.setChannel _ _ Channel.startEvent_atRest hs]
  · split
    exacts [hs, h.stopEvent _ hs]
  · exact h.hitLatch _ _ hs

theorem takeEvent (e : Event) (hs : P s) : P (s.takeEvent e) := by
  unfold State.takeEvent
  dsimp only
  refine forEach_keeps P _ _ _ (fun r u hu => ?_) (forEach_keeps P _ _ _ (fun k _ => h.eventStep k) (h.setFlag _ hs))
  split
  exacts [h.actRoute e r hu, hu]

theorem takeNextEvent (hs : P s) : P s.takeNextEvent := by
  unfold State.takeNextEvent
  split
  exacts [hs, h.takeEvent _ (h.waiting _ hs)]

/-! ### The course of the clock -/

theorem markReached (hit : SiteTime → Bool) (hs : P s) : P (s.markReached hit) := by
  have marked := h.markedStalls (fun r => { r with confirmBy := r.confirmBy.map (·.mark hit) })
    (fun _ => ⟨rfl, rfl⟩) (fun _ => rfl) hs
  have hooks := h.markedHooks (fun r => { r with releaseBy := r.releaseBy.map (·.mark hit) }) (fun _ => ⟨rfl, rfl⟩) marked
  have runners := h.dispatch { s.dispatch with
    runners := mapBank s.dispatch.runners fun r => { r with offerBy := r.offerBy.map (·.mark hit) } } hooks
  have lanes := h.lanes (mapBank s.arbiter.lanes fun r => { r with clearingBy := r.clearingBy.map (·.mark hit) }) runners
  have pulses := h.timers (fun c => { c with pulseEnd := c.pulseEnd.map (·.mark hit) }) (fun c rest => by
    rw [Channel.atRest_iff] at rest ⊢
    obtain ⟨off, counter, stopped⟩ := rest
    refine ⟨off, counter, fun still => ?_⟩
    obtain ⟨drive, pulse, elapsed, due⟩ := stopped still
    exact ⟨drive, by simp [pulse], elapsed, due⟩) lanes
  exact h.markedEntries (fun e => { e with reached := e.reached || hit e.release }) (fun _ => rfl) pulses

theorem offerReached (b : Nat) (hs : P s) : P (s.offerReached b) := by
  unfold State.offerReached
  split
  exacts [h.expireOffer b hs, hs]

theorem pulseReached (k : Nat) (hs : P s) : P (s.pulseReached k) := by
  unfold State.pulseReached
  split
  exacts [h.endPulse k hs, hs]

theorem tenthClock (t : SiteTime) (hs : P s) : P (s.putClock (t.plus 1)) := by
  refine h.clock _ ?_ ?_ hs
  · exact Nat.mod_lt _ (by decide)
  · exact Nat.mod_lt _ (by decide)

theorem takeExpiry (k : Nat) (m : TimerMode) (hs : P s) : P (s.takeExpiry k m) := by
  unfold State.takeExpiry
  split
  exacts [h.takeDue k hs, hs]

/-! ### The management requests -/

theorem loadPassRule (f : PassRuleFields) (hs : P s) : P (s.loadPassRule f).1 := by
  unfold State.loadPassRule
  split
  exacts [hs, h.passTable _ hs]

theorem loadRoute (f : RouteFields) (hs : P s) : P (s.loadRoute f).1 := by
  unfold State.loadRoute
  split
  · exact hs
  · split
    exacts [h.events _ rfl hs, hs]

theorem loadMasks (v : Vector (Sent Bool) Config.sourceCount) (hs : P s) : P (s.loadMasks v).1 := by
  unfold State.loadMasks
  split
  exacts [hs, h.events _ rfl hs]

theorem loadTimer (f : TimerFields) (hs : P s) : P (s.loadTimer f).1 := by
  unfold State.loadTimer
  split
  · exact hs
  next k c read =>
    split
    exacts [hs, h.setChannel _ _ (fun _ => (State.readTimer_atRest read).1) hs]

theorem requestStart (k : Nat) (hs : P s) : P (s.requestStart k).1 := by
  unfold State.requestStart State.startTimer
  dsimp only
  split
  · split
    · exact hs
    next mode =>
      split
      exacts [hs, h.setChannel _ _ (fun _ => Channel.start_atRest mode) hs]
  · exact hs

theorem requestStop (k : Nat) (hs : P s) : P (s.requestStop k).1 := by
  unfold State.requestStop
  split
  exacts [h.setChannel _ _ (fun _ => Channel.stop_atRest _) hs, hs]

/-! ### The starts -/

theorem startEdges (strap : Fin 16) (hs : P s) : P (s.startEdges strap) := by
  have ports := h.setPort .deck PortState.cold (fun _ => by simp [PortState.cold])
    (h.setPort .curb PortState.cold (fun _ => by simp [PortState.cold]) hs)
  have switch := h.strap strap (h.stations (mapBank s.links.stations Station.atStart)
    (fun _ => by simp [silentFits, Station.atStart, Station.cold]) ports)
  have timers : P { s with
      links := { s.links with stations := mapBank s.links.stations Station.atStart, curb := PortState.cold
                              deck := PortState.cold, strap := strap }
      timers := mapBank s.timers Channel.atStart } :=
    h.timers Channel.atStart (fun c _ => by simp [Channel.atStart, Channel.stop, Channel.atRest_iff]) switch
  refine h.events { s.events with
    flags := Vector.replicate _ false, latches := Vector.replicate _ none, waiting := [] } ?_ timers
  rfl

theorem startKeys (hs : P s) : P s.startKeys := by
  have tickets : P { s with tickets := s.tickets.map fun t => if s.hookOut t then { t with keyAlert := true } else t } :=
    h.notes _ (fun t => by split <;> exact ⟨rfl, rfl⟩) (fun t _ => by split <;> rfl) hs
  have hooks := h.markedHooks Hook.atStart (fun r => by unfold Hook.atStart; split <;> simp [*, Custody.loose]) tickets
  have panels := h.panels (Vector.replicate _ Panel.cold) (fun r mem => by
    rw [Vector.toList_replicate] at mem
    exact List.eq_of_mem_replicate mem ▸ Panel.cold_countsFit) hooks
  exact h.scan { Scan.cold with interval := s.params.scanInterval } panels

theorem startDispatch (hs : P s) : P s.startDispatch := by
  have named := h.notes (fun t => if ((sortBy (fun a b => earlier (a.age, a.ticket) (b.age, b.ticket))
    (s.tickets.filterMap taskAtStart)).drop Config.maxQueue |>.map fun t =>
      { t with place := TaskPlace.backlog }).any (·.ticket == t.number) then { t with backlog := true } else t)
    (fun t => by dsimp only; split <;> exact ⟨rfl, rfl⟩) (fun t _ => by split <;> rfl) hs
  exact h.dispatch _ named

theorem startBoard (hs : P s) : P s.startBoard := h.board _ hs

/-! ### The links -/

theorem sendPoll (p : Port) (hs : P s) : P (s.sendPoll p) := by
  unfold State.sendPoll
  split
  exacts [h.setPort _ _ id hs, hs]

theorem endExchange (p : Port) (hs : P s) : P (s.endExchange p) := h.setPort _ _ id hs

theorem enqueue (p : Port) (f : Frame) (hs : P s) : P (s.enqueue p f) := by
  unfold State.enqueue
  split
  next room => exact h.setPort _ _ (fun _ => by simp only [List.length_append, List.length_singleton]; omega) hs
  · exact h.raise _ _ hs

theorem sendOwn (fuel : Nat) (p : Port) (hs : P s) : P (s.sendOwn fuel p).1 := by
  induction fuel generalizing s with
  | zero => exact hs
  | succ fuel ih =>
    unfold State.sendOwn
    split
    · exact hs
    next c a _ =>
      have taken := h.takeOwn c a hs
      split
      next own => exact h.setPort _ _ id (by rw [own] at taken; exact taken)
      next own => exact ih (by rw [own] at taken; exact taken)

theorem takeForwarded (p : Port) (hs : P s) : P (s.takeForwarded p).1 := by
  unfold State.takeForwarded
  split
  · exact hs
  next waiting =>
    refine h.setPort _ _ (fun fits => ?_) hs
    rw [waiting, List.length_cons] at fits
    exact Nat.le_of_succ_le fits

theorem transmit (p : Port) (hs : P s) : P (s.transmit p) := by
  unfold State.transmit
  split
  exacts [h.setPort _ _ id (h.takeForwarded _ (h.sendOwn _ _ hs)), hs]

/-! ### Frames for the controller -/

omit h in
theorem powered (k : State → State) (hk : ∀ u, P u → P (k u)) (hs : P s) : P (s.powered k) := by
  unfold State.powered
  split
  exacts [hk s hs, hs]

theorem admitService {α : Type} (a : Nat) (kind : ServiceKind) (r : Wire α) (named : α → Option Nat)
    (k : α → State → RequestResult) (hk : ∀ x, P (k x s).state) (hs : P s) : P (s.admitService a kind r named k) := by
  unfold State.admitService
  split
  · exact hs
  · split
    · exact h.oweService _ _ _ _ _ hs
    · split
      exacts [h.oweService _ _ _ _ _ (hk _), h.oweService _ _ _ _ _ hs]

omit h in
theorem serveTicket (n : Nat) (k : Ticket → State × Answer) (hk : ∀ t, s.ticket t.number = some t → P (k t).1) (hs : P s) :
    P (s.serveTicket n k).state := by
  unfold State.serveTicket
  split
  · exact hs
  next t named =>
    rw [State.named, Option.ite_none_right_eq_some] at named
    exact hk t (by rw [State.ticket_number named.2, named.2])

theorem admitManage {α : Type} (a : Nat) (code : ManageCode) (r : Wire α) (record : α → ManageRecord)
    (k : α → State → State × Answer × Option (Option LatchContent)) (hk : ∀ x, P (k x s).1) (hs : P s) :
    P (s.admitManage a code r record k) := by
  unfold State.admitManage
  dsimp only
  split
  · split
    · exact h.oweManage _ _ _ _ _ _ hs
    · split
      exacts [h.oweManage _ _ _ _ _ _ (hk _), h.oweManage _ _ _ _ _ _ hs]
  · exact hs

theorem runnerFrame (a b : Nat) (kind : RunnerFrameKind) (n : Option Nat) (k : State → State × Answer)
    (hk : ∀ u, P u → P (k u).1) (hs : P s) : P (s.runnerFrame a b kind n k) := by
  unfold State.runnerFrame State.fromBase
  split
  exacts [h.oweRunner _ _ _ _ (hk s hs), hs]

theorem takeUnhandled (a : Nat) (x : Unhandled) (hs : P s) : P (s.takeUnhandled a x) := by
  unfold State.takeUnhandled
  split
  exacts [hs, h.runnerFrame _ _ _ _ _ (fun _ hu => hu) hs, h.runnerFrame _ _ _ _ _ (fun _ hu => hu) hs, hs, hs, hs]

end EdgeKeeps

namespace CommandKeeps

variable {P : State → Prop} {s : State} (h : CommandKeeps P)
include h

/-! ### Runners' frames -/

theorem takeAccept (b n : Nat) (hs : P s) : P (s.takeAccept b n).1 := by
  unfold State.takeAccept
  split
  · exact h.accepts b n hs
  · split <;> exact hs

theorem takeLobby (b n level : Nat) (hs : P s) : P (s.takeLobby b n level).1 := by
  unfold State.takeLobby
  split
  · refine h.levelled _ _ _ (State.heldStep_keeps _ _ _ (fun t found => h.lobbies b level t ?_ hs) hs)
    rw [State.ticket_number found, found]
  · exact hs

/-! ### The scanner -/

theorem handoverHeld (b : Nat) (slotFree : Bool) (t : Ticket) (own : s.ticket t.number = some t) (hs : P s) :
    P (s.handoverHeld b slotFree t).1 := by
  unfold State.handoverHeld
  split
  next atCurb =>
    exact h.endTask _ _ _ (h.setLevel _ _ (h.closes t own atCurb hs))
  · exact hs

theorem handoverFree (b n : Nat) (hs : P s) : P (s.handoverFree b n).1 := by
  unfold State.handoverFree
  split
  · exact hs
  next t found =>
    split
    next free => exact h.setLevel _ _ (h.closes t (by rw [State.ticket_number found, found]) free.1 hs)
    · exact hs

theorem takeHandover (b n : Nat) (slotFree : Bool) (hs : P s) : P (s.takeHandover b n slotFree).1 := by
  unfold State.takeHandover
  split
  · refine State.heldStep_keeps b n _ (fun t found => h.handoverHeld b slotFree t ?_ hs) hs
    rw [State.ticket_number found, found]
  · exact h.handoverFree b n hs

theorem acceptSample (p : Nat) (x : PanelExchange) (hs : P s) : P (s.acceptSample p x) := by
  have taken := forEach_keeps P (hooksOf p) _ _ (fun k _ => h.bitTaken k
      (x.bits.getD (Config.hooksPerPanel - 1 - k % Config.hooksPerPanel) false) fun low _ => h.binds _ low)
    (h.setPanel p { (s.panel p).goodSample with door := doorOf (x.bits.getD Config.hooksPerPanel false) } (fun _ =>
      Panel.goodSample_countsFit (s.panel p)) hs)
  unfold State.acceptSample
  dsimp only
  split
  next faulted =>
    refine forEach_keeps_of_mem P _ _ _ (fun k mem _ => h.binds k ?_) taken
    have inside : 1 ≤ p ∧ p ≤ Config.panelCount := by
      by_contra out
      rw [State.panel, nth1_outside _ _ _ out] at faulted
      cases faulted
    simp only [hooksOf, List.mem_map, List.mem_range] at mem
    simp only [Config.panelCount, Config.hookCount, Config.hooksPerPanel] at *
    omega
  · exact taken

theorem completeExchange (x : PanelExchange) (hs : P s) : P (s.completeExchange x) := by
  unfold State.completeExchange
  split
  · exact hs
  · refine h.selectNext ?_
    split
    · split
      exacts [h.acceptSample _ _ (h.putOut _ _ hs), h.discardSample _ (h.putOut _ _ hs)]
    · exact h.putOut _ _ hs

/-! ### The course of the clock -/

theorem clearingReached (n : Nat) (hs : P s) : P (s.clearingReached n) := by
  unfold State.clearingReached
  split
  · exact hs
  · split
    exacts [h.clears _ hs, hs]

theorem laneClear (n : Nat) (hs : P s) : P (s.laneClear n) := by
  unfold State.laneClear
  dsimp only
  split
  · exact h.clears _ hs
  · split
    exacts [h.lanes _ hs, h.clears _ hs]
  exacts [h.clears _ hs, hs, hs, hs]

theorem releaseReachedEntry (hs : P s) : P s.releaseReachedEntry := by
  unfold State.releaseReachedEntry
  split
  exacts [hs, h.releases _ hs]

theorem releaseAllReached (hs : P s) : P s.releaseAllReached := forEach_keeps P _ _ s (fun n _ => h.releases n) hs

theorem takeReached (hs : P s) : P s.takeReached := by
  unfold State.takeReached
  extract_lets confirmed released expired cleared scheduled pulsed
  have confirmedP : P confirmed := forEach_keeps P _ _ _ (fun k _ => h.confirmReached k) hs
  have releasedP : P released := forEach_keeps P _ _ _ (fun k _ => h.releaseReached k) confirmedP
  have expiredP : P expired := forEach_keeps P _ _ _ (fun b _ => h.offerReached b) releasedP
  have clearedP : P cleared := forEach_keeps P _ _ _ (fun n _ => h.clearingReached n) expiredP
  have scheduledP : P scheduled := h.releaseAllReached (h.takeOverdue clearedP)
  have pulsedP : P pulsed := forEach_keeps P _ _ _ (fun k _ => h.pulseReached k) scheduledP
  exact forEach_keeps P _ _ _ (fun k _ => h.takeDue k) pulsedP

theorem tick (hs : P s) : P s.tick :=
  h.timers _ (fun _ => Channel.tenthPassed_atRest) (h.markReached _ (h.tenthClock _ (h.takeReached hs)))

theorem setClock (t : SiteTime) (day : t.day < Config.dayCount) (tenth : t.tenth < Config.dayTenths) (hs : P s) :
    P (s.setClock t) := by
  unfold State.setClock
  dsimp only
  split
  · exact h.takeReached (h.markReached _ (h.clock t day tenth (h.takeReached hs)))
  · exact h.clock t day tenth (h.takeReached hs)

/-! ### The management requests -/

theorem leaveRecord (a : Nat) (hs : P s) : P (s.leaveRecord a) := by
  unfold State.leaveRecord
  dsimp only
  refine h.setStation _ _ (.inl (by simp)) ?_
  split
  · exact hs
  · exact h.absences _ _ _ (h.setStation _ _ (.inr rfl) hs)

theorem storeStation (a : Nat) (x : StationSetup) (hs : P s) : P (s.storeStation a x) := by
  refine forEach_keeps P _ _ _ (fun l _ => h.settleOrder l) (h.setStation _ _ (.inr rfl) ?_)
  split
  exacts [h.leaveRecord a hs, hs]

theorem loadStation (f : StationFields) (hs : P s) : P (s.loadStation f).1 := by
  unfold State.loadStation
  split
  exacts [hs, h.storeStation _ _ hs]

theorem loadStall (f : StallFields) (hs : P s) : P (s.loadStall f).1 := by
  unfold State.loadStall
  split
  · exact hs
  next site read =>
    obtain ⟨right, stall⟩ := State.readStallSite_right read
    have load (r : Stall) (stored : r.site = some site) (ticket : r.ticket = (s.stall f.stall).ticket)
        (claim : r.state.claim = (s.stall f.stall).state.claim) : P (s.putStall f.stall r) :=
      h.loadedStall _ _ stall (fun x same => by rw [stored] at same; cases same; exact right) ticket claim hs
    unfold State.storeStall
    dsimp only
    split
    next state => exact h.hands _ (load { s.stall f.stall with site := some site, state := .free, recheck := true } rfl rfl
      (by rw [state]; rfl))
    exacts [h.hands _ (load { s.stall f.stall with site := some site, recheck := true } rfl rfl rfl),
      load { s.stall f.stall with site := some site } rfl rfl rfl, load { s.stall f.stall with site := some site } rfl rfl rfl,
      hs, hs]

theorem bringBack (k : Nat) (idle : (s.stall k).state.claim = .free) (hs : P s) : P (s.bringBack k) :=
  h.hands _ (h.stallMarks k { s.stall k with state := .free, recheck := true } rfl rfl idle.symm hs)

theorem setStallService (f : StallServiceFields) (hs : P s) : P (s.setStallService f).1 := by
  have out (k : Nat) (idle : (s.stall k).state.claim = .free) : P (s.takeOut k) :=
    h.stallMarks k { s.stall k with state := .out, confirmed := false, recheck := false } rfl rfl idle.symm hs
  unfold State.setStallService
  split
  · exact hs
  · split
    · unfold State.serveStall
      split
      exacts [hs, hs, hs, out _ (by rw [‹(s.stall _).state = _›]; rfl), out _ (by rw [‹(s.stall _).state = _›]; rfl), hs, hs,
        h.bringBack _ (by rw [‹(s.stall _).state = _›]; rfl) hs, h.bringBack _ (by rw [‹(s.stall _).state = _›]; rfl) hs]
    · exact hs

theorem loadParams (f : ParamFields) (hs : P s) : P (s.loadParams f).1 := by
  unfold State.loadParams
  split
  · exact hs
  next p clamped read =>
    split
    · exact hs
    · split
      next count =>
        split
        · exact hs
        next idle => exact h.counts _ (Params.read_panelCount read count) (by simpa using idle) hs
      · exact h.changes _ (h.params _ (fun right => Params.read_right read right) hs)

theorem requestClock (f : ClockFields) (hs : P s) : P (s.requestClock f).1 := by
  unfold State.requestClock
  split
  next fits => exact h.setClock _ fits.1 fits.2 hs
  · exact hs

omit h in
/-- The ticket a request names is open under its own number. -/
theorem own_of_named {n : Nat} {t : Ticket} (named : s.named n = some t) : s.ticket t.number = some t := by
  rw [State.named, Option.ite_none_right_eq_some] at named
  rw [State.ticket_number named.2, named.2]

theorem requestRebind (f : RebindFields) (hs : P s) : P (s.requestRebind f).1 := by
  unfold State.requestRebind
  split
  · exact hs
  next named =>
    split
    exacts [h.rebinds _ _ (own_of_named named) hs, hs]

theorem requestRestage (f : RestageFields) (hs : P s) : P (s.requestRestage f).1 := by
  unfold State.requestRestage
  split
  · exact hs
  next named =>
    split
    next low => exact h.restages _ _ (own_of_named named) low hs
    · exact hs

theorem requestForceClose (n : Nat) (hs : P s) : P (s.requestForceClose n).1 := by
  unfold State.requestForceClose
  split
  · exact hs
  next named => exact h.forces _ (own_of_named named) hs

/-! ### The starts -/

theorem powerUp (strap : Fin 16) (hs : P s) : P (s.powerUp strap) := by
  unfold State.powerUp
  split
  · exact hs
  · split
    exacts [h.starts strap (h.power { s.power with main := true } hs), h.colds strap]

theorem restartKeeping (a : Nat) (strap : Fin 16) (hs : P s) : P (s.restartKeeping a strap) :=
  h.setStation _ _ (.inr rfl) (h.starts strap hs)

/-! ### The links -/

theorem miss (a : Nat) (hs : P s) : P (s.miss a) := by
  have few (n : Nat) : min 3 n ≤ 3 := Nat.min_le_left ..
  unfold State.miss
  dsimp only
  split
  · exact h.absences _ _ _ (h.raise _ _ (h.setStation _ _ (.inl (few _)) hs))
  · exact h.setStation _ _ (.inl (few _)) hs

theorem missOn (p : Port) (hs : P s) : P (s.missOn p) := by
  unfold State.missOn
  split
  exacts [h.miss _ (h.endExchange p hs), hs]

theorem answerFrom (f : From) (k : State → State) (hk : ∀ u, P u → P (k u)) (hs : P s) : P (s.answerFrom f k) := by
  unfold State.answerFrom
  split
  · split
    exacts [hk _ (h.goodAnswer _ (h.endExchange _ hs)), h.missOn _ hs]
  · exact hs

theorem readFrame (f : Frame) (zone : Option ZoneReport) (hs : P s) : P (s.readFrame f zone) := by
  unfold State.readFrame
  split
  · exact hs
  · split
    exacts [h.reportTaken _ _ (fun k _ => h.empties k) hs, hs]

theorem passFrame (p : Port) (f : Frame) (zone : Option ZoneReport) (hs : P s) : P (s.passFrame p f zone) := by
  have copied : P (if copies (s.verdict p f) then s.enqueue (otherPort p) f else s) := by
    split
    exacts [h.enqueue _ _ hs, hs]
  unfold State.passFrame
  dsimp only
  split
  exacts [h.readFrame _ _ copied, copied]

theorem route (p : Port) (f : Frame) (zone : Option ZoneReport) (hs : P s) : P (s.route p f zone) := by
  unfold State.route
  dsimp only
  split
  · exact h.passFrame _ _ _ hs
  · split
    · split
      · exact hs
      · split
        exacts [h.passFrame _ _ _ hs, hs]
    · exact hs

theorem receive (p : Port) (rx : Received) (zone : Option ZoneReport) (hs : P s) : P (s.receive p rx zone) := by
  unfold State.receive
  split
  · exact h.missOn p hs
  · exact h.answerFrom _ _ (fun _ hu => hu) hs
  · exact h.answerFrom _ _ (fun _ hu => h.route _ _ _ hu) hs

theorem takeBadAnswer (p : Port) (rx : Received) (hs : P s) : P (s.takeBadAnswer p rx) := by
  unfold State.takeBadAnswer
  split
  · exact h.missOn p hs
  · split
    exacts [hs, h.missOn p hs]
  · split
    exacts [hs, h.missOn p hs]

/-! ### Frames for the controller -/

theorem onFrame (f : From) (k : State → State) (hk : ∀ u, P u → P (k u)) (hs : P s) : P (s.onFrame f k) :=
  EdgeKeeps.powered _ (fun _ => h.answerFrom f k hk) hs

/-- A service frame keeps what its request keeps in every state. -/
theorem service {α : Type} (f : From) (kind : ServiceKind) (r : Wire α) (named : α → Option Nat)
    (k : α → State → RequestResult) (hk : ∀ x u, P u → P (k x u).state) (hs : P s) :
    P (s.onFrame f fun s => s.admitService f.source kind r named k) :=
  h.onFrame f _ (fun _ hu => h.admitService _ _ _ _ _ (fun x => hk x _ hu) hu) hs

theorem manage {α : Type} (f : From) (code : ManageCode) (r : Wire α) (record : α → ManageRecord)
    (k : α → State → State × Answer) (hk : ∀ x u, P u → P (k x u).1) (hs : P s) : P (s.manage f code r record k) :=
  h.onFrame f _ (fun _ hu => h.admitManage _ _ _ _ _ (fun x => hk x _ hu) hu) hs

/-- A runner's frame keeps what its step keeps in every state. -/
theorem runner (f : From) (b : Nat) (kind : RunnerFrameKind) (n : Option Nat) (k : State → State × Answer)
    (hk : ∀ u, P u → P (k u).1) (hs : P s) : P (s.onFrame f fun s => s.runnerFrame f.source b kind n k) :=
  h.onFrame f _ (fun _ => h.runnerFrame _ _ _ _ k hk) hs

theorem runnerStatus (f : From) (b level : Nat) (k : State → State × Answer) (hk : ∀ u, P u → P (k u).1) (hs : P s) :
    P (s.runnerStatus f b level k) := by
  refine h.runner f b _ _ _ (fun u hu => ?_) hs
  split
  exacts [hk u hu, hu]

theorem lift (f : From) (level : Nat) (k : Nat → State → State) (hk : ∀ l u, P u → P (k l u)) (hs : P s) :
    P (s.onFrame f fun s => s.liftReport f.source level k) := by
  refine h.onFrame f _ (fun u hu => ?_) hs
  unfold State.liftReport
  split
  · split
    exacts [hk _ u hu, hu]
  · exact hu

theorem lane (f : From) (k : Nat → State → State) (hk : ∀ n u, P u → P (k n u)) (hs : P s) :
    P (s.onFrame f fun s => s.laneReport f.source k) := by
  refine h.onFrame f _ (fun u hu => ?_) hs
  unfold State.laneReport
  split
  · split
    exacts [hk _ u hu, hu]
  · exact hu

theorem scheduleRequest (f : From) (r : Wire ScheduleFields) (hs : P s) :
    P (s.onFrame f fun s => s.admitService f.source .schedule r (some ·.ticket) fun x s =>
      s.serveTicket x.ticket fun t =>
        match readSchedule s.now x.day x.tenth with
        | none => (s, .range)
        | some time => s.scheduleTicket t time) := by
  refine h.service f _ r _ _ (fun x u hu => EdgeKeeps.serveTicket _ _ (fun t own => ?_) hu) hs
  split
  exacts [hu, h.schedules _ _ own hu]

/-! ### Commands and steps -/

theorem restart (f : From) (strap : Fin 16) (hs : P s) : ∃ t, exec (.restart f strap) s = .next t ∧ P t := by
  refine ⟨_, rfl, h.onFrame f _ (fun u hu => ?_) hs⟩
  have replied := h.admitManage f.source .restart (.fields ()) (fun _ => .empty) (fun _ s => (s, .done, none))
    (fun _ => hu) hu
  split
  exacts [h.restartKeeping _ _ replied, replied]

/-- Every command keeps the property. -/
theorem exec_next (i : Instr) (hs : P s) : ∃ t, exec i s = .next t ∧ P t := by
  cases i with
  | arrive f r => exact ⟨_, rfl, h.service f _ r _ _ (fun x _ => h.arrives _ x) hs⟩
  | call f r => exact ⟨_, rfl, h.service f _ r _ _ (fun x _ => h.calls x) hs⟩
  | schedule f r => exact ⟨_, rfl, h.scheduleRequest f r hs⟩
  | cancel f r =>
    exact ⟨_, rfl, h.service f _ r _ _ (fun n _ hu => EdgeKeeps.serveTicket n _ (fun t own => h.cancels t own hu) hu) hs⟩
  | groupLink f r =>
    refine ⟨_, rfl, h.service f _ r _ _ (fun x u hu => EdgeKeeps.serveTicket _ _ (fun t own => ?_) hu) hs⟩
    split
    exacts [h.groups t _ ‹_› own hu, hu]
  | quoteAsk f r => exact ⟨_, rfl, h.service f _ r _ _ (fun n _ hu => EdgeKeeps.serveTicket n _ (fun _ _ => hu) hu) hs⟩
  | runnerReady f b level => exact ⟨_, rfl, h.runnerStatus f b level _ (fun _ => h.askReady _ _ _) hs⟩
  | runnerBreak f b level => exact ⟨_, rfl, h.runnerStatus f b level _ (fun _ => h.askLeave _ _ _ _) hs⟩
  | runnerOffDuty f b level => exact ⟨_, rfl, h.runnerStatus f b level _ (fun _ => h.askLeave _ _ _ _) hs⟩
  | runnerPosition f b level => exact ⟨_, rfl, h.runnerStatus f b level _ (fun _ => h.placeRunner _ _ _) hs⟩
  | taskAccept f b n => exact ⟨_, rfl, h.runner f b _ _ _ (fun _ => h.takeAccept _ _) hs⟩
  | taskDecline f b n => exact ⟨_, rfl, h.runner f b _ _ _ (fun _ => h.takeDecline _ _) hs⟩
  | atLobby f b n level => exact ⟨_, rfl, h.runner f b _ _ _ (fun _ => h.takeLobby _ _ _) hs⟩
  | departed f b n =>
    exact ⟨_, rfl, h.runner f b _ _ _
      (fun _ hu => State.heldStep_keeps b n _ (fun t found => h.departs b t (by rw [State.ticket_number found, found]) hu) hu) hs⟩
  | parked f b n k slotFree =>
    exact ⟨_, rfl, h.runner f b _ _ _
      (fun _ hu => State.heldStep_keeps b n _ (fun t found => h.parks b k slotFree t (by rw [State.ticket_number found, found]) hu) hu) hs⟩
  | keyRequest f b n =>
    exact ⟨_, rfl, h.runner f b _ _ _ (fun _ hu => State.heldStep_keeps b n _ (fun t _ => h.keyStep b t hu) hu) hs⟩
  | handover f b n slotFree => exact ⟨_, rfl, h.runner f b _ _ _ (fun _ => h.takeHandover b n slotFree) hs⟩
  | liftIdleReport f level => exact ⟨_, rfl, h.lift f level _ (fun _ _ => h.idles _ _) hs⟩
  | liftLoadedReport f level => exact ⟨_, rfl, h.lift f level _ (fun _ _ => h.liftLoaded _) hs⟩
  | liftArrivedReport f level => exact ⟨_, rfl, h.lift f level _ (fun _ _ => h.liftArrived _ _) hs⟩
  | liftUnloadedReport f level => exact ⟨_, rfl, h.lift f level _ (fun _ _ => h.unloads _) hs⟩
  | liftObstructedReport f level => exact ⟨_, rfl, h.lift f level _ (fun _ _ => h.obstructs _) hs⟩
  | liftFaultReport f level => exact ⟨_, rfl, h.lift f level _ (fun _ _ => h.faults _) hs⟩
  | laneOccupiedReport f => exact ⟨_, rfl, h.lane f _ (fun _ _ => h.delivers _) hs⟩
  | laneClearReport f => exact ⟨_, rfl, h.lane f _ (fun _ _ => h.laneClear _) hs⟩
  | zoneOccupancy f r => exact ⟨_, rfl, h.onFrame f _ (fun _ => h.reportTaken _ _ fun k _ => h.empties k) hs⟩
  | loadStation f r => exact ⟨_, rfl, h.manage f _ r _ _ (fun x _ => h.loadStation x) hs⟩
  | loadStall f r => exact ⟨_, rfl, h.manage f _ r _ _ (fun x _ => h.loadStall x) hs⟩
  | loadParams f r => exact ⟨_, rfl, h.manage f _ r _ _ (fun x _ => h.loadParams x) hs⟩
  | loadPassRule f r => exact ⟨_, rfl, h.manage f _ r _ _ (fun x _ => h.loadPassRule x) hs⟩
  | loadRoute f r => exact ⟨_, rfl, h.manage f _ r _ _ (fun x _ => h.loadRoute x) hs⟩
  | loadTimer f r => exact ⟨_, rfl, h.manage f _ r _ _ (fun x _ => h.loadTimer x) hs⟩
  | loadMasks f r => exact ⟨_, rfl, h.manage f _ r _ _ (fun x _ => h.loadMasks x) hs⟩
  | setStallService f r => exact ⟨_, rfl, h.manage f _ r _ _ (fun x _ => h.setStallService x) hs⟩
  | setClock f r => exact ⟨_, rfl, h.manage f _ r _ _ (fun x _ => h.requestClock x) hs⟩
  | startTimer f r => exact ⟨_, rfl, h.manage f _ r _ _ (fun k _ => h.requestStart k) hs⟩
  | stopTimer f r => exact ⟨_, rfl, h.manage f _ r _ _ (fun k _ => h.requestStop k) hs⟩
  | readTicket f r => exact ⟨_, rfl, h.manage f _ r _ _ (fun _ _ hu => hu) hs⟩
  | readStall f r => exact ⟨_, rfl, h.manage f _ r _ _ (fun _ _ hu => hu) hs⟩
  | readHook f r => exact ⟨_, rfl, h.manage f _ r _ _ (fun _ _ hu => hu) hs⟩
  | readRunner f r => exact ⟨_, rfl, h.manage f _ r _ _ (fun _ _ hu => hu) hs⟩
  | readCounts f r => exact ⟨_, rfl, h.manage f _ r _ _ (fun _ _ hu => hu) hs⟩
  | readFlags f => exact ⟨_, rfl, h.manage f _ _ _ _ (fun _ _ hu => hu) hs⟩
  | readLatch f r =>
    refine ⟨_, rfl, h.onFrame f _ (fun u hu => h.admitManage _ _ r _ _ (fun n => ?_) hu) hs⟩
    split
    exacts [h.events _ rfl hu, hu]
  | readEstimates f => exact ⟨_, rfl, h.manage f _ _ _ _ (fun _ _ hu => hu) hs⟩
  | clearFlags f r => exact ⟨_, rfl, h.manage f _ r _ _ (fun x _ hu => h.events _ rfl hu) hs⟩
  | rebindHook f r => exact ⟨_, rfl, h.manage f _ r _ _ (fun x _ => h.requestRebind x) hs⟩
  | restage f r => exact ⟨_, rfl, h.manage f _ r _ _ (fun x _ => h.requestRestage x) hs⟩
  | forceClose f r => exact ⟨_, rfl, h.manage f _ r _ _ (fun n _ => h.requestForceClose n) hs⟩
  | restart f strap => exact h.restart f strap hs
  | manageUnknownKind f code => exact ⟨_, rfl, h.manage f _ _ _ _ (fun _ _ hu => hu) hs⟩
  | unhandledKind f u => exact ⟨_, rfl, h.onFrame f _ (fun _ => h.takeUnhandled _ u) hs⟩
  | routeFrame p fr zone =>
    refine ⟨_, rfl, ?_⟩
    split
    exacts [hs, EdgeKeeps.powered _ (fun _ => h.receive _ _ _) hs]
  | poll p => exact ⟨_, rfl, EdgeKeeps.powered _ (fun _ => h.sendPoll p) hs⟩
  | idle f => exact ⟨_, rfl, h.onFrame f _ (fun _ hu => hu) hs⟩
  | badAnswer p rx => exact ⟨_, rfl, EdgeKeeps.powered _ (fun _ => h.takeBadAnswer p rx) hs⟩
  | pollTimeout p => exact ⟨_, rfl, EdgeKeeps.powered _ (fun _ => h.missOn p) hs⟩
  | strayFrame p rx => exact ⟨_, rfl, hs⟩
  | transmitOpportunity p => exact ⟨_, rfl, EdgeKeeps.powered _ (fun _ => h.transmit p) hs⟩
  | scanCycle => exact ⟨_, rfl, EdgeKeeps.powered _ (fun _ => h.beginCycle) hs⟩
  | panelSample x => exact ⟨_, rfl, EdgeKeeps.powered _ (fun _ => h.completeExchange x) hs⟩
  | clockTick =>
    refine ⟨_, rfl, ?_⟩
    split
    exacts [h.tick hs, h.tenthClock _ hs]
  | confirmDeadline k => exact ⟨_, rfl, EdgeKeeps.powered _ (fun _ => h.confirmReached k) hs⟩
  | releaseDeadline k => exact ⟨_, rfl, EdgeKeeps.powered _ (fun _ => h.releaseReached k) hs⟩
  | offerDeadline b => exact ⟨_, rfl, EdgeKeeps.powered _ (fun _ => h.offerReached b) hs⟩
  | clearingDeadline n => exact ⟨_, rfl, EdgeKeeps.powered _ (fun _ => h.clearingReached n) hs⟩
  | overdueDeadline n => exact ⟨_, rfl, EdgeKeeps.powered _ (fun _ => h.overdueReached n) hs⟩
  | scheduleRelease => exact ⟨_, rfl, EdgeKeeps.powered _ (fun _ => h.releaseReachedEntry) hs⟩
  | intervalExpiry k => exact ⟨_, rfl, EdgeKeeps.powered _ (fun _ => h.takeExpiry k _) hs⟩
  | delayExpiry k => exact ⟨_, rfl, EdgeKeeps.powered _ (fun _ => h.takeExpiry k _) hs⟩
  | windowExpiry k => exact ⟨_, rfl, EdgeKeeps.powered _ (fun _ => h.takeExpiry k _) hs⟩
  | pulseEnd k => exact ⟨_, rfl, EdgeKeeps.powered _ (fun _ => h.pulseReached k) hs⟩
  | eventTaken => exact ⟨_, rfl, EdgeKeeps.powered _ (fun _ => h.takeNextEvent) hs⟩
  | powerOn strap => exact ⟨_, rfl, h.powerUp strap hs⟩
  | powerLoss => exact ⟨_, rfl, h.power { s.power with main := false } hs⟩
  | batteryDropout =>
    refine ⟨_, rfl, ?_⟩
    split
    exacts [hs, h.power { s.power with dropout := true } hs]
  | destination61Or62 f d =>
    refine ⟨_, rfl, ?_⟩
    split
    exacts [h.onFrame f _ (fun _ hu => hu) hs, hs]

/-- Every step keeps the property. -/
theorem step_next (hs : P s) {t : State} (run : step s = .next t) : P t := by
  unfold step at run
  split at run
  · cases run
    exact hs
  next c rest _ =>
    obtain ⟨u, same, hu⟩ := h.exec_next c (h.pending rest hs)
    rw [same] at run
    cases run
    exact hu

end CommandKeeps

namespace StepKeeps

variable {P : State → Prop} {s : State} (h : StepKeeps P)
include h

/-! ### Closing a ticket -/

theorem dropTicket (n : Nat) (alone : (s.ticket n).bind (·.group) = none) (hs : P s) : P (s.dropTicket n) :=
  h.boardSince _ (h.dropped (s := s.leaveBoard n) n alone (h.leaveBoard n hs))

theorem closeTicket (t : Ticket) (own : (s.ticket t.number).map (·.group) = some t.group) (hs : P s) :
    P (s.closeTicket t) := by
  have closed (u : State) (same : u.tickets = s.tickets) (hu : P u) :
      P (((u.leaveGroup t).vacateLanes t.number).dropTicket t.number) := by
    have own' : (u.ticket t.number).map (·.group) = some t.group := by rw [State.ticket, same]; exact own
    refine h.dropTicket _ ?_ (h.vacateLanes _ (h.leftGroup t own' hu))
    rw [State.ticket, State.vacateLanes_tickets]
    exact u.leaveGroup_group t own'
  unfold State.closeTicket
  dsimp only
  split
  · exact closed _ rfl hs
  · exact h.handHook _ (closed _ rfl (h.unbindHook _ hs))

theorem forceCloseTicket (t : Ticket) (own : s.ticket t.number = some t) (hs : P s) : P (s.forceCloseTicket t) := by
  have group := workKeeps_groupOf t.number (some t.group)
  have named : (s.ticket t.number).map (·.group) = some t.group := by rw [own]; rfl
  have closed : P ((((((({ s with unplaced := s.unplaced.filter (· != t.number) }.withdrawTask t.number).unschedule
      t.number).letGo t.number).freeStalls t).1.cancelLane t.number)).closeTicket t) := by
    refine h.closeTicket t ?_
      (h.cancelLane _ (h.freeStalls t (h.letGo _ (h.unschedule _ (h.withdrawTask _ (h.unlist t.number hs))))))
    exact group.cancelLane _ (group.freeStalls t (group.letGo _ (group.unschedule _ (group.withdrawTask _
      (group.unlist t.number named)))))
  unfold State.forceCloseTicket
  dsimp only
  split
  · exact h.stagingFell _ (h.laneGrantCheck (forEach_keeps P _ _ _ (fun k _ => h.handOn k) closed))
  · exact h.laneGrantCheck (forEach_keeps P _ _ _ (fun k _ => h.handOn k) closed)

/-! ### A new ticket -/

theorem makeTicket (q : ArriveRequest) (room : s.tickets.length < Config.maxTickets) (hs : P s) :
    P (s.makeTicket s.issued q) := h.bindLowest _ (h.made q room hs)

theorem removeTicket (n : Nat) (alone : (s.ticket n).bind (·.group) = none) (hs : P s) : P (s.removeTicket n) := by
  unfold State.removeTicket
  dsimp only
  split
  · exact h.dropped n alone hs
  · exact h.handHook _ (h.dropped n alone (h.unbindHook _ hs))

theorem placeNew (n : Nat) (now : SiteTime) (alone : (s.ticket n).bind (·.group) = none) (hs : P s) :
    P (s.placeNew n now).state := by
  unfold State.placeNew
  split
  · exact h.raise _ _ (h.assign _ _ _ _ hs)
  · split
    next room => exact h.raise _ _ (h.raise _ _ (h.listed n room hs))
    · exact h.removeTicket n alone hs

theorem takeArrive (a : Nat) (f : ArriveFields) (hs : P s) : P (s.takeArrive a f).state := by
  unfold State.takeArrive
  split
  · exact hs
  next q _ =>
    split
    · exact h.raise _ _ hs
    next room =>
      have room : s.tickets.length < Config.maxTickets := by omega
      refine h.placeNew _ _ ?_ (h.makeTicket q room hs)
      have fresh := s.ticket_issued room
      have group : ((s.makeTicket s.issued q).ticket s.issued).map (·.group) = some none := by
        refine (workKeeps_groupOf s.issued (some none)).bindLowest _ ?_
        simp only [State.ticket] at fresh ⊢
        simp [fresh, newTicket]
      revert group
      cases (s.makeTicket s.issued q).ticket s.issued with
      | none => exact fun _ => rfl
      | some t => exact fun group => Option.some.inj group

/-! ### Calls and groups -/

theorem takeCall (t : Ticket) (whole : Bool) (hs : P s) : P (s.takeCall t whole).state := by
  unfold State.takeCall
  split
  · exact h.groupCall _ _ _ hs
  · exact h.callTicket _ _ hs

theorem requestCall (f : CallFields) (hs : P s) : P (s.requestCall f).state := by
  unfold State.requestCall
  split
  · exact h.takeCall _ _ hs
  · exact hs

theorem linkGroup (t : Ticket) (g : Nat) (bound : g ≤ 63) (own : s.ticket t.number = some t) (hs : P s) :
    P (s.linkGroup t g).1 := by
  unfold State.linkGroup
  split
  · exact hs
  · exact h.leftGroup t (by rw [own]; rfl) hs
  · exact hs
  next g' alone =>
    dsimp only
    split
    · exact hs
    · exact h.joined t _ own alone (by omega) bound (by omega) hs

/-! ### Keys and the scanner -/

theorem unconfigurePanel (p : Nat) (hs : P s) : P (s.unconfigurePanel p) :=
  h.setPanel _ _ (fun _ => Panel.cold_countsFit) (forEach_keeps P _ _ s (fun _ _ => h.setHook _ _) hs)

theorem storePanelCount (n : Nat) (fits : 1 ≤ n ∧ n ≤ 9) (hs : P s) : P (s.storePanelCount n) := by
  have stored : P { s with params.panelCount := n } := h.params _ (fun right => { right with panelCount := fits }) hs
  unfold State.storePanelCount
  dsimp only
  refine forEach_keeps P _ _ _ (fun p u hu => ?_) stored
  split
  · exact h.handPanelHooks _ (h.setPanel _ _ (fun _ => Panel.cold_countsFit) hu)
  · split
    exacts [h.unconfigurePanel _ hu, hu]

/-! ### The course of the clock -/

theorem siteClockCheck (hs : P s) : P s.siteClockCheck := h.takeOverdue (h.releaseAllReached (h.schedule _ hs))

/-! ### The management requests -/

theorem liftConfiguredNow (l : Nat) (hs : P s) : P (s.liftConfiguredNow l) := h.passage _ _ (h.grantCheck _ hs)

theorem paramChanged (k : Nat) (hs : P s) : P (s.paramChanged k) := by
  unfold State.paramChanged
  split
  case h_1 | h_2 | h_3 | h_4 => exact h.attemptUnplaced hs
  case h_5 => exact h.takeOverdue hs
  case h_6 | h_7 | h_8 | h_9 =>
    split
    exacts [h.liftConfiguredNow _ hs, hs]
  case h_10 | h_11 | h_12 | h_13 | h_14 | h_15 =>
    split
    exacts [h.laneGrantCheck hs, h.laneUnconfigured _ hs]
  case h_16 => exact hs

/-! ### The starts -/

theorem startStalls (freed : List Nat) (hs : P s) : P (s.startStalls freed) := by
  have counted : P { s with stalls := { records := _, free := freeCounts (Vector.toList _) } } := h.countedStalls
    (forEach freed (fun k v => setNth v k { nth v k Stall.cold with state := .free, ticket := none, confirmed := false })
      (mapBank s.stalls.records s.stallAtStart)) (by
      refine forEach_keeps (fun v : Vector Stall Config.stallCount =>
        ∀ r ∈ v.toList, ∃ r' ∈ s.stalls.records.toList, r.site = r'.site) _ _ _ (fun k v sites r mem => ?_) ?_
      · by_cases inside : k < Config.stallCount
        · rw [setNth, Vector.toList_setIfInBounds] at mem
          rcases List.mem_or_eq_of_mem_set mem with mem | rfl
          · exact sites r mem
          · have old : v[k] ∈ v.toList := by simp
            simpa [nth, inside] using sites _ old
        · rw [setNth_outside _ _ _ (by omega)] at mem
          exact sites r mem
      · intro r mem
        rw [toList_mapBank, List.mem_map] at mem
        obtain ⟨r', mem', rfl⟩ := mem
        exact ⟨r', mem', rfl⟩) hs
  unfold State.startStalls
  dsimp only
  split
  exacts [counted, h.oweVacancy counted]

theorem startTickets (hs : P s) : P s.startTickets := h.tickets _ (fun _ => ⟨rfl, rfl⟩) hs

theorem startArbiter (hs : P s) : P s.startArbiter := h.arbiter _ hs

theorem bindVacant (hs : P s) : P s.bindVacant := forEach_keeps P _ _ s (fun p _ => h.handPanelHooks p) hs

theorem startBlocks (strap : Fin 16) (hs : P s) : P (s.startBlocks strap) :=
  h.boardSince s (h.startBoard (h.startArbiter (h.startDispatch (h.startKeys (h.startTickets
    (h.startStalls _ (h.startEdges strap hs)))))))

theorem retainedStart (strap : Fin 16) (hs : P s) : P (s.retainedStart strap) :=
  h.siteClockCheck (h.laneGrantCheck (h.bindVacant (h.attemptUnplaced
    (forEach_keeps P _ _ _ (fun k _ => h.handOn k) (h.startBlocks strap hs)))))

/-! ### Commands and steps -/

theorem restageTicket (t : Ticket) (k : Nat) (hs : P s) : P (s.restageTicket t k).1 := by
  unfold State.restageTicket
  split
  · split
    · exact hs
    · split
      exacts [h.beginRestage _ _ hs, hs]
  · exact hs

/-- Every operation that a command has a block make keeps the property. -/
theorem commandKeeps : CommandKeeps P where
  toEdgeKeeps := h.toEdgeKeeps
  arrives := h.takeArrive
  calls := h.requestCall
  schedules t time _ := h.scheduleTicket t time
  cancels t _ := h.cancelTicket t
  groups := h.linkGroup
  accepts := h.acceptTask
  lobbies b level t _ := h.lobbyStep b level t
  departs b t _ := h.departedStep b t
  parks b k slotFree t _ := h.parkedStep b k slotFree t
  closes t own _ := h.closeTicket t (by rw [own]; rfl)
  idles := h.liftIdle
  unloads := h.liftUnloaded
  obstructs := h.liftObstructed
  faults := h.liftFaulted
  delivers := h.laneOccupied
  clears := h.freeLane
  empties := h.sensedEmpty
  absences := h.handAbsence
  hands := h.handOn
  binds k _ := h.handHook k
  changes := h.paramChanged
  counts n fits _ := h.storePanelCount n fits
  releases := h.releaseEntry
  rebinds k t _ := h.rebind k t
  restages t k _ _ := h.restageTicket t k
  forces := h.forceCloseTicket
  starts := h.retainedStart
  colds := h.cold

/-- Every step keeps the property. -/
theorem step_next (hs : P s) {t : State} (run : step s = .next t) : P t := h.commandKeeps.step_next hs run

end StepKeeps
end Sys2Proof.Machine
end

section
/-! PROOFS of O5 and O6, and of the groups of O7. Each invariant is kept by every write that a command is made of, hence by
every step. -/

namespace Sys2Proof.Machine

open Sys2Proof

/-! ### Banks of records -/

/-- What holds of every record of a bank holds after one is stored, if it comes to hold of that one. -/
theorem all_setNth {α : Type} {n : Nat} {p : α → Bool} {v : Vector α n} (d : α) {i : Nat} {x : α}
    (hx : p (nth v i d) = true → p x = true) (h : v.toList.all p = true) : (setNth v i x).toList.all p = true := by
  by_cases inside : i < n
  · have old : p (nth v i d) = true := by
      have mem : v[i] ∈ v.toList := by simp
      simpa [nth, inside] using List.all_eq_true.mp h _ mem
    rw [setNth, Vector.toList_setIfInBounds, List.all_eq_true]
    intro y mem
    rcases List.mem_or_eq_of_mem_set mem with mem | rfl
    exacts [List.all_eq_true.mp h y mem, hx old]
  · rwa [setNth_outside _ _ _ (by omega)]

theorem all_setNth1 {α : Type} {n : Nat} {p : α → Bool} {v : Vector α n} (d : α) {i : Nat} {x : α}
    (hx : p (nth1 v i d) = true → p x = true) (h : v.toList.all p = true) : (setNth1 v i x).toList.all p = true := by
  cases i with
  | zero => exact h
  | succ i => exact all_setNth d hx h

theorem all_replicate {α : Type} {n : Nat} {p : α → Bool} {x : α} (h : p x = true) :
    (Vector.replicate n x).toList.all p = true := by
  rw [Vector.toList_replicate, List.all_eq_true]
  intro y mem
  rwa [List.eq_of_mem_replicate mem]

/-! ### Free counts (R9) -/

/-- How many elements of a list satisfy `p` after one is replaced; the replaced one was counted if it did. -/
theorem countP_set_add {α : Type} (p : α → Bool) (l : List α) (i : Nat) (x d : α) (h : i < l.length) :
    (l.set i x).countP p + (if p (l[i]?.getD d) then 1 else 0) = l.countP p + (if p x then 1 else 0) ∧
      (if p (l[i]?.getD d) then 1 else 0) ≤ l.countP p := by
  induction l generalizing i with
  | nil => simp at h
  | cons y l ih =>
    cases i with
    | zero =>
      simp only [List.set_cons_zero, List.countP_cons, List.getElem?_cons_zero, Option.getD_some]
      omega
    | succ i =>
      have := ih i (by simpa using h)
      simp only [List.set_cons_succ, List.countP_cons, List.getElem?_cons_succ] at this ⊢
      omega

/-- The FREE stalls of a class are those that stand in its free count. -/
theorem State.freeNumber_eq (s : State) (c : SizeClass) : s.freeNumber c = freeOf s.stalls.records.toList c := by
  unfold State.freeNumber freeOf
  refine congrArg (List.countP · _) (funext fun r => ?_)
  unfold Stall.freeClass
  by_cases free : r.state = .free <;> simp [free]

theorem State.freeCountsRight_iff (s : State) :
    s.FreeCountsRight ↔ ∀ c, s.stalls.free.get c = freeOf s.stalls.records.toList c := by
  simp only [State.FreeCountsRight, State.freeNumber_eq]
  constructor
  · rintro ⟨compact, standard, large, oversize⟩ c
    cases c <;> assumption
  · exact fun all => ⟨all .compact, all .standard, all .large, all .oversize⟩

theorem PerSize.get_freeCounts (l : List Stall) (c : SizeClass) : (freeCounts l).get c = freeOf l c := by cases c <;> rfl

/-- The free counts after a stall record is stored. -/
theorem State.putStall_free (s : State) (k : Nat) (r : Stall) (h : k < Config.stallCount) (c : SizeClass) :
    (s.putStall k r).stalls.free.get c =
      if (s.stall k).freeClass = r.freeClass then s.stalls.free.get c
      else s.stalls.free.get c - (if (s.stall k).freeClass = some c then 1 else 0) + (if r.freeClass = some c then 1 else 0) := by
  unfold State.putStall
  rw [if_pos h]
  dsimp only
  split
  · rfl
  next moved =>
    cases old : (s.stall k).freeClass <;> cases new : r.freeClass <;>
      simp_all [State.countFall_stalls, State.countRise, State.oweVacancy, State.mapStations, PerSize.get_set]
    · split <;> simp_all
    · split <;> simp_all
    · split <;> split <;> simp_all

theorem State.FreeCountsRight.putStall {s : State} (right : s.FreeCountsRight) (k : Nat) (r : Stall)
    (h : k < Config.stallCount) : (s.putStall k r).FreeCountsRight := by
  rw [State.freeCountsRight_iff] at right ⊢
  intro c
  have counted := countP_set_add (fun x : Stall => x.freeClass == some c) s.stalls.records.toList k r Stall.cold (by simpa using h)
  have old : s.stalls.records.toList[k]?.getD Stall.cold = s.stall k := by simp [State.stall, nth]
  rw [old] at counted
  rw [State.putStall_free s k r h c, State.putStall_records, right c]
  simp only [freeOf, setNth, Vector.toList_setIfInBounds]
  simp only [beq_iff_eq] at counted
  split
  next same =>
    rw [same] at counted
    omega
  · omega

/-- Outside the stall map there is no stall to store. -/
theorem State.putStall_outside (s : State) (k : Nat) (r : Stall) (h : ¬ k < Config.stallCount) : s.putStall k r = s := by
  unfold State.putStall
  rw [if_neg h]

theorem State.FreeCountsRight.store {s : State} (right : s.FreeCountsRight) (k : Nat) (r : Stall) :
    (s.putStall k r).FreeCountsRight := by
  by_cases h : k < Config.stallCount
  · exact right.putStall k r h
  · rw [State.putStall_outside s k r h]
    exact right

theorem freeCounts_stepKeeps : StepKeeps State.FreeCountsRight where
  hooks _ hs := hs
  dispatch _ hs := hs
  arbiter _ hs := hs
  liftMarks _ _ _ hs := hs
  schedule _ hs := hs
  board _ hs := hs
  waiting _ hs := hs
  stations _ _ hs := hs
  putStall k r _ hs := hs.store k r
  tickets _ _ hs := hs
  unplaced _ _ hs := hs
  made _ _ hs := hs
  dropped _ _ hs := hs
  leftGroup t _ hs := by
    unfold State.leaveGroup
    split <;> exact hs
  joined _ _ _ _ _ _ _ hs := hs
  listed _ _ hs := hs
  loadedStall k r _ _ _ _ hs := hs.store k r
  markedStalls f same _ hs := by
    rw [State.freeCountsRight_iff] at hs ⊢
    intro c
    rw [hs c]
    simp only [freeOf, toList_mapBank, List.countP_map]
    refine congrArg (List.countP · _) (funext fun r => ?_)
    simp only [Function.comp_apply, Stall.freeClass, (same r).1, (same r).2]
  countedStalls v _ _ := by
    rw [State.freeCountsRight_iff]
    exact PerSize.get_freeCounts v.toList
  setPanel _ _ _ hs := hs
  panels _ _ hs := hs
  scan _ hs := hs
  cabinet _ hs := hs
  setChannel _ _ _ hs := hs
  timers _ _ hs := hs
  fed _ _ hs := hs
  events _ _ hs := hs
  clock _ _ _ hs := hs
  setPort p _ _ hs := by cases p <;> exact hs
  passTable _ hs := hs
  strap _ hs := hs
  params _ _ hs := hs
  pending _ hs := hs
  power _ hs := hs
  cold _ := by
    rw [State.freeCountsRight_iff]
    intro c
    have none : freeOf (Vector.replicate Config.stallCount Stall.cold).toList c = 0 := by
      rw [freeOf, Vector.toList_replicate, List.countP_replicate]
      rfl
    rw [show (State.coldStart _ _).stalls.records = Vector.replicate Config.stallCount Stall.cold from rfl, none]
    cases c <;> rfl

/-- Settles O5: every write that a command is made of keeps each free count right. -/
theorem everyStepKeepsTheFreeCounts : Obligations.EveryStepKeepsTheFreeCounts :=
  fun _ _ right run => freeCounts_stepKeeps.step_next right run

/-! ### Sizes and ranges -/

theorem withinSizes_stepKeeps : StepKeeps State.WithinSizes where
  hooks _ hs := hs
  dispatch _ hs := hs
  arbiter _ hs := hs
  liftMarks _ _ _ hs := hs
  schedule _ hs := hs
  board _ hs := hs
  waiting _ hs := hs
  stations _ _ hs := hs
  putStall k r _ hs := by simpa only [State.WithinSizes, State.putStall_frame] using hs
  tickets _ _ hs := by simpa only [State.WithinSizes, List.length_map] using hs
  unplaced _ sub hs := ⟨hs.1, le_trans sub.length_le hs.2.1, hs.2.2⟩
  made _ room hs := ⟨by simpa using room, hs.2⟩
  dropped _ _ hs := ⟨le_trans (List.length_filter_le _ _) hs.1, hs.2⟩
  leftGroup t _ hs := by
    unfold State.leaveGroup
    split
    · exact hs
    · simpa only [State.WithinSizes, List.length_map] using hs
  joined _ _ _ _ _ _ _ hs := by simpa only [State.WithinSizes, State.modifyTicket, List.length_map] using hs
  listed _ room hs := ⟨hs.1, by simpa using room, hs.2.2⟩
  loadedStall k r _ _ _ _ hs := by simpa only [State.WithinSizes, State.putStall_frame] using hs
  markedStalls _ _ _ hs := hs
  countedStalls _ _ hs := hs
  setPanel _ _ _ hs := hs
  panels _ _ hs := hs
  scan _ hs := hs
  cabinet _ hs := hs
  setChannel _ _ _ hs := hs
  timers _ _ hs := hs
  fed _ _ hs := hs
  events _ _ hs := hs
  clock _ _ _ hs := hs
  setPort p r fits hs := by
    obtain ⟨tickets, unplaced, curb, deck⟩ := hs
    cases p
    · exact ⟨tickets, unplaced, fits curb, deck⟩
    · exact ⟨tickets, unplaced, curb, fits deck⟩
  passTable _ hs := hs
  strap _ hs := hs
  params _ _ hs := hs
  pending _ hs := hs
  power _ hs := hs
  cold _ := ⟨Nat.zero_le _, Nat.zero_le _, Nat.zero_le _, Nat.zero_le _⟩


theorem State.putStall_silentFits (s : State) (k : Nat) (r : Stall) :
    silentFits (s.putStall k r).links.stations ↔ silentFits s.links.stations := by
  unfold State.putStall
  split
  · dsimp only
    split
    · rfl
    · have owed (u : State) (same : u.links.stations = s.links.stations) :
          silentFits u.oweVacancy.links.stations ↔ silentFits s.links.stations := by
        simp only [State.oweVacancy, State.mapStations, silentFits, toList_mapBank, List.all_map, same]
        refine Eq.to_iff (congrArg (· = true) (congrArg (List.all _) (funext fun x => ?_)))
        simp only [Function.comp_apply]
        split <;> rfl
      refine owed _ ?_
      cases (s.stall k).freeClass <;> cases r.freeClass <;> simp [State.countFall_frame, State.countRise]
  · rfl

theorem fedEstimate_fits (old sample : Nat) : estimateFits (fedEstimate old sample) = true := by
  have bounds : 1 ≤ fedEstimate old sample ∧ fedEstimate old sample ≤ 900 := by
    unfold fedEstimate
    dsimp only
    omega
  simpa [estimateFits] using bounds

theorem liftCycle_fits {v : Vector Nat Config.liftCount} (h : v.toList.all estimateFits = true) (l n : Nat)
    (hn : estimateFits n = true) : (setNth1 v l n).toList.all estimateFits = true :=
  all_setNth1 60 (fun _ => hn) h

theorem nextNumber_range (n : Nat) : 1 ≤ nextNumber n ∧ nextNumber n ≤ Config.maxTicketNumber := by
  simp only [nextNumber, Config.maxTicketNumber]
  split <;> omega

theorem State.putStall_inRanges {s : State} (hs : s.InRanges) (k : Nat) (r : Stall) : (s.putStall k r).InRanges := by
  have silent := s.putStall_silentFits k r
  simp only [State.InRanges, State.now, State.putStall_frame] at hs ⊢
  exact ⟨hs.1, hs.2.1, hs.2.2.1, silent.mpr hs.2.2.2.1, hs.2.2.2.2⟩

theorem inRanges_stepKeeps : StepKeeps State.InRanges where
  hooks _ hs := hs
  dispatch _ hs := hs
  arbiter _ hs := hs
  liftMarks _ _ _ hs := hs
  schedule _ hs := hs
  board _ hs := hs
  waiting _ hs := hs
  stations _ fits hs := ⟨hs.1, hs.2.1, hs.2.2.1, fits hs.2.2.2.1, hs.2.2.2.2⟩
  putStall k r _ hs := State.putStall_inRanges hs k r
  tickets _ _ hs := hs
  unplaced _ _ hs := hs
  made _ _ hs := ⟨hs.1, nextNumber_range _, hs.2.2⟩
  dropped _ _ hs := hs
  leftGroup t _ hs := by
    unfold State.leaveGroup
    split <;> exact hs
  joined _ _ _ _ _ _ _ hs := hs
  listed _ _ hs := hs
  loadedStall k r _ _ _ _ hs := State.putStall_inRanges hs k r
  markedStalls _ _ _ hs := hs
  countedStalls _ _ hs := hs
  setPanel p r fits hs := by
    obtain ⟨clock, issue, estimates, silent, panels⟩ := hs
    refine ⟨clock, issue, estimates, silent, all_setNth1 Panel.cold (fun old => ?_) panels⟩
    simpa [Panel.countsFit] using fits (by simpa [Panel.countsFit, State.panel] using old)
  panels v fits hs := ⟨hs.1, hs.2.1, hs.2.2.1, hs.2.2.2.1, List.all_eq_true.mpr fun r mem => by simpa using fits r mem⟩
  scan _ hs := hs
  cabinet _ hs := hs
  setChannel _ _ _ hs := hs
  timers _ _ hs := hs
  fed target sample hs := by
    obtain ⟨clock, issue, ⟨cycles, task, drive⟩, rest⟩ := hs
    refine ⟨clock, issue, ?_, rest⟩
    cases target with
    | none => exact ⟨cycles, task, drive⟩
    | liftCycle1 => exact ⟨liftCycle_fits cycles _ _ (fedEstimate_fits _ _), task, drive⟩
    | liftCycle2 => exact ⟨liftCycle_fits cycles _ _ (fedEstimate_fits _ _), task, drive⟩
    | liftCycle3 => exact ⟨liftCycle_fits cycles _ _ (fedEstimate_fits _ _), task, drive⟩
    | liftCycle4 => exact ⟨liftCycle_fits cycles _ _ (fedEstimate_fits _ _), task, drive⟩
    | taskMean => exact ⟨cycles, fedEstimate_fits _ _, drive⟩
    | laneDrive => exact ⟨cycles, task, fedEstimate_fits _ _⟩
  events e same hs := by
    simpa only [State.InRanges, State.now, same] using hs
  clock t day tenth hs := ⟨⟨day, tenth⟩, hs.2⟩
  setPort p r _ hs := by cases p <;> exact hs
  passTable _ hs := hs
  strap _ hs := hs
  params _ _ hs := hs
  pending _ hs := hs
  power _ hs := hs
  cold _ := ⟨(by decide : SiteTime.zero.day < Config.dayCount ∧ SiteTime.zero.tenth < Config.dayTenths),
    (by decide : 1 ≤ 1 ∧ 1 ≤ Config.maxTicketNumber), ⟨all_replicate rfl, rfl, rfl⟩, all_replicate rfl, all_replicate rfl⟩

theorem channelsRight_stepKeeps : StepKeeps State.ChannelsRight where
  hooks _ hs := hs
  dispatch _ hs := hs
  arbiter _ hs := hs
  liftMarks _ _ _ hs := hs
  schedule _ hs := hs
  board _ hs := hs
  waiting _ hs := hs
  stations _ _ hs := hs
  putStall k r _ hs := by simpa only [State.ChannelsRight, State.putStall_frame] using hs
  tickets _ _ hs := hs
  unplaced _ _ hs := hs
  made _ _ hs := hs
  dropped _ _ hs := hs
  leftGroup t _ hs := by
    unfold State.leaveGroup
    split <;> exact hs
  joined _ _ _ _ _ _ _ hs := hs
  listed _ _ hs := hs
  loadedStall k r _ _ _ _ hs := by simpa only [State.ChannelsRight, State.putStall_frame] using hs
  markedStalls _ _ _ hs := hs
  countedStalls _ _ hs := hs
  setPanel _ _ _ hs := hs
  panels _ _ hs := hs
  scan _ hs := hs
  cabinet _ hs := hs
  setChannel k c rest hs := all_setNth Channel.cold rest hs
  timers f rest hs := by
    simp only [State.ChannelsRight, toList_mapBank, List.all_map, List.all_eq_true, Function.comp_apply] at hs ⊢
    exact fun c mem => rest c (hs c mem)
  fed _ _ hs := hs
  events _ _ hs := hs
  clock _ _ _ hs := hs
  setPort p _ _ hs := by cases p <;> exact hs
  passTable _ hs := hs
  strap _ hs := hs
  params _ _ hs := hs
  pending _ hs := hs
  power _ hs := hs
  cold _ := by simp [State.ChannelsRight, State.coldStart, State.cold, Channel.cold, Channel.atRest]

theorem Params.cold_right : Params.cold.Right where
  levelTime := by decide
  stayTarget i := by
    by_cases inside : i < 4
    · interval_cases i <;> decide
    · rw [nth_outside _ _ _ (by omega)]
      omega
  stayWeight i := by
    by_cases inside : i < 4
    · interval_cases i <;> decide
    · rw [nth_outside _ _ _ (by omega)]
      omega
  penalties := by decide
  reserve c := by cases c <;> decide
  parkSkip := by decide
  clearanceTime := by decide
  curbHold := by decide
  confirmWindow := by decide
  acceptWindow := by decide
  releaseWindow := by decide
  leadTime := by decide
  agingStep := by decide
  scanInterval := by decide
  panelCount := by decide

theorem State.LoadsRight.store {s : State} (hs : s.LoadsRight) (k : Nat) (r : Stall)
    (right : (s.stall k).site.all StallSite.right = true → r.site.all StallSite.right = true) :
    (s.putStall k r).LoadsRight := by
  obtain ⟨params, sites⟩ := hs
  refine ⟨by simpa only [State.putStall_frame] using params, ?_⟩
  rw [State.putStall_records]
  exact all_setNth Stall.cold right sites

theorem loadsRight_stepKeeps : StepKeeps State.LoadsRight where
  hooks _ hs := hs
  dispatch _ hs := hs
  arbiter _ hs := hs
  liftMarks _ _ _ hs := hs
  schedule _ hs := hs
  board _ hs := hs
  waiting _ hs := hs
  stations _ _ hs := hs
  putStall k r same hs := hs.store k r fun right => by rwa [same]
  tickets _ _ hs := hs
  unplaced _ _ hs := hs
  made _ _ hs := hs
  dropped _ _ hs := hs
  leftGroup t _ hs := by
    unfold State.leaveGroup
    split <;> exact hs
  joined _ _ _ _ _ _ _ hs := hs
  listed _ _ hs := hs
  loadedStall k r _ right _ _ hs := hs.store k r fun _ => by
    cases site : r.site with
    | none => rfl
    | some x => exact right x site
  markedStalls f same _ hs := by
    refine ⟨hs.1, ?_⟩
    have sites := hs.2
    simp only [toList_mapBank, List.all_map, List.all_eq_true, Function.comp_apply] at sites ⊢
    intro r mem
    rw [(same r).2]
    exact sites r mem
  countedStalls v sites hs := by
    refine ⟨hs.1, List.all_eq_true.mpr fun r mem => ?_⟩
    obtain ⟨r', mem', same⟩ := sites r mem
    rw [same]
    exact List.all_eq_true.mp hs.2 r' mem'
  setPanel _ _ _ hs := hs
  panels _ _ hs := hs
  scan _ hs := hs
  cabinet _ hs := hs
  setChannel _ _ _ hs := hs
  timers _ _ hs := hs
  fed _ _ hs := hs
  events _ _ hs := hs
  clock _ _ _ hs := hs
  setPort p _ _ hs := by cases p <;> exact hs
  passTable _ hs := hs
  strap _ hs := hs
  params p right hs := ⟨right hs.1, hs.2⟩
  pending _ hs := hs
  power _ hs := hs
  cold _ := ⟨Params.cold_right, all_replicate rfl⟩

/-- Settles O6: every write that a command is made of keeps each size and range. -/
theorem everyStepKeepsSizesAndRanges : Obligations.EveryStepKeepsSizesAndRanges :=
  ⟨fun _ _ right run => withinSizes_stepKeeps.step_next right run, fun _ _ right run => inRanges_stepKeeps.step_next right run,
    fun _ _ right run => channelsRight_stepKeeps.step_next right run, fun _ _ right run => loadsRight_stepKeeps.step_next right run⟩

end Sys2Proof.Machine
end

section
/-! SUPPORT. Ordered lists, and the rings of groups through every write: the first half of O7. -/

namespace Sys2Proof.Machine

open Sys2Proof

/-! ### Ordered lists -/

theorem insertBy_perm {α : Type} (before : α → α → Bool) (x : α) (l : List α) : (insertBy before x l).Perm (x :: l) := by
  induction l with
  | nil => exact .refl _
  | cons y l ih =>
    unfold insertBy
    split
    · exact .refl _
    · exact (ih.cons y).trans (.swap x y l)

theorem sortBy_perm {α : Type} (before : α → α → Bool) (l : List α) : (sortBy before l).Perm l := by
  have grows (acc : List α) : (l.foldl (fun acc x => insertBy before x acc) acc).Perm (l ++ acc) := by
    induction l generalizing acc with
    | nil => exact .refl _
    | cons x l ih =>
      refine (ih _).trans ?_
      exact ((insertBy_perm before x acc).append_left l).trans List.perm_middle
  simpa [sortBy] using grows []

/-! ### The tickets of a list -/

/-- The ticket of a number stands once in a list of distinct numbers. -/
theorem split_of_number {l : List Ticket} {n : Nat} {c : Ticket} (numbers : (l.map (·.number)).Nodup)
    (found : l.find? (·.number == n) = some c) :
    c.number = n ∧ ∃ a b, l = a ++ c :: b ∧ (∀ k ∈ a, k.number ≠ n) ∧ ∀ k ∈ b, k.number ≠ n := by
  obtain ⟨same, a, b, rfl, before⟩ := List.find?_eq_some_iff_append.mp found
  have same : c.number = n := by simpa using same
  refine ⟨same, a, b, rfl, fun k mem => by simpa using before k mem, fun k mem eq => ?_⟩
  rw [List.map_append, List.map_cons, List.nodup_append, List.nodup_cons] at numbers
  exact numbers.2.1.1 (by rw [same, ← eq]; exact List.mem_map_of_mem mem)

/-! ### Rings (R131) -/

/-- The place a ticket holds in the ring of a group. -/
def Ticket.placeIn (g : Nat) (t : Ticket) : Option Nat :=
  match t.group with
  | some (g', place) => if g' = g then some place else none
  | none => none

/-- The places of a ring are 1 to their number, at most four, each held once (R131). -/
abbrev ringOk (places : List Nat) : Prop :=
  places.Nodup ∧ places.length ≤ 4 ∧ ∀ place ∈ places, 1 ≤ place ∧ place ≤ places.length

/-- What holds of the groups of the open tickets, as a statement about the list of tickets alone. -/
abbrev GroupsOf (l : List Ticket) : Prop :=
  (l.map (·.number)).Nodup ∧ (∀ t ∈ l, ∀ g place, t.group = some (g, place) → 1 ≤ g ∧ g ≤ 63)
    ∧ ∀ g, ringOk (l.filterMap (Ticket.placeIn g))

theorem State.groupsRight_iff (s : State) : s.GroupsRight ↔ GroupsOf s.tickets := Iff.rfl

theorem Ticket.placeIn_of_none {t : Ticket} (h : t.group = none) (g : Nat) : t.placeIn g = none := by
  simp [Ticket.placeIn, h]

theorem Ticket.placeIn_of_some {t : Ticket} {g g' place : Nat} (h : t.group = some (g', place)) :
    t.placeIn g = if g' = g then some place else none := by
  simp [Ticket.placeIn, h]

theorem GroupsOf.map {l : List Ticket} (hl : GroupsOf l) {f : Ticket → Ticket} (same : KeepsIdentity f) :
    GroupsOf (l.map f) := by
  obtain ⟨numbers, groups, rings⟩ := hl
  refine ⟨?_, ?_, fun g => ?_⟩
  · rwa [List.map_map, show ((fun x : Ticket => x.number) ∘ f) = (·.number) from funext fun t => (same t).1]
  · intro t mem g place group
    obtain ⟨c, mem', rfl⟩ := List.mem_map.mp mem
    exact groups c mem' g place ((same c).2 ▸ group)
  · rw [List.filterMap_map, show Ticket.placeIn g ∘ f = Ticket.placeIn g from funext fun t => by
      simp only [Function.comp_apply, Ticket.placeIn, (same t).2]]
    exact rings g

theorem GroupsOf.append {l : List Ticket} (hl : GroupsOf l) {c : Ticket} (fresh : ∀ t ∈ l, t.number ≠ c.number)
    (alone : c.group = none) : GroupsOf (l ++ [c]) := by
  obtain ⟨numbers, groups, rings⟩ := hl
  refine ⟨?_, ?_, fun g => ?_⟩
  · rw [List.map_append, List.nodup_append]
    refine ⟨numbers, by simp, ?_⟩
    intro n mem m mem'
    obtain ⟨t, held, rfl⟩ := List.mem_map.mp mem
    rw [List.map_singleton, List.mem_singleton] at mem'
    rw [mem']
    exact fresh t held
  · intro t mem g place group
    rcases List.mem_append.mp mem with mem | mem
    · exact groups t mem g place group
    · rw [List.mem_singleton.mp mem, alone] at group
      cases group
  · rw [List.filterMap_append, List.filterMap_cons_none (Ticket.placeIn_of_none alone g), List.filterMap_nil, List.append_nil]
    exact rings g

theorem GroupsOf.drop {l : List Ticket} (hl : GroupsOf l) {n : Nat}
    (alone : (l.find? (·.number == n)).bind (·.group) = none) : GroupsOf (l.filter (·.number != n)) := by
  cases found : l.find? (·.number == n) with
  | none =>
    have absent : l.filter (·.number != n) = l := List.filter_eq_self.mpr fun t mem => by
      simpa using List.find?_eq_none.mp found t mem
    rwa [absent]
  | some c =>
    obtain ⟨numbers, groups, rings⟩ := hl
    obtain ⟨same, a, b, rfl, before, after⟩ := split_of_number numbers found
    have group : c.group = none := by simpa [found] using alone
    have rest : (a ++ c :: b).filter (·.number != n) = a ++ b := by
      rw [List.filter_append, List.filter_cons_of_neg (by simp [same]),
        List.filter_eq_self.mpr fun t mem => by simpa using before t mem,
        List.filter_eq_self.mpr fun t mem => by simpa using after t mem]
    have sub : (a ++ b).Sublist (a ++ c :: b) := (List.sublist_cons_self c b).append_left a
    rw [rest]
    refine ⟨numbers.sublist (sub.map _), fun t mem => groups t (sub.subset mem), fun g => ?_⟩
    have ring := rings g
    rwa [List.filterMap_append, List.filterMap_cons_none (Ticket.placeIn_of_none group g), ← List.filterMap_append] at ring

/-- The place after the one at `place` is given up: those behind move up one (R131). -/
def movedUp (place p : Nat) : Nat := if place < p then p - 1 else p

theorem ringOk_leave {xs ys : List Nat} {place : Nat} (h : ringOk (xs ++ place :: ys)) :
    ringOk ((xs ++ ys).map (movedUp place)) := by
  obtain ⟨nodup, few, range⟩ := h
  have perm : (xs ++ place :: ys).Perm (place :: (xs ++ ys)) := List.perm_middle
  have nodup' := perm.nodup_iff.mp nodup
  rw [List.nodup_cons] at nodup'
  have length : (xs ++ place :: ys).length = (xs ++ ys).length + 1 := perm.length_eq
  have own := range place (perm.mem_iff.mpr List.mem_cons_self)
  have others (p : Nat) (mem : p ∈ xs ++ ys) : p ≠ place ∧ 1 ≤ p ∧ p ≤ (xs ++ ys).length + 1 :=
    ⟨fun eq => nodup'.1 (eq ▸ mem), length ▸ range p (perm.mem_iff.mpr (List.mem_cons_of_mem _ mem))⟩
  refine ⟨List.Nodup.map_on (fun p hp q hq eq => ?_) nodup'.2, by rw [List.length_map]; omega, fun q mem => ?_⟩
  · have hp := others p hp
    have hq := others q hq
    unfold movedUp at eq
    split at eq <;> split at eq <;> omega
  · obtain ⟨p, hp, rfl⟩ := List.mem_map.mp mem
    have hp := others p hp
    rw [List.length_map]
    unfold movedUp
    split <;> omega

theorem ringOk_join {xs ys : List Nat} (h : ringOk (xs ++ ys)) (room : (xs ++ ys).length < 4) :
    ringOk (xs ++ ((xs ++ ys).length + 1) :: ys) := by
  obtain ⟨nodup, few, range⟩ := h
  have perm : (xs ++ ((xs ++ ys).length + 1) :: ys).Perm (((xs ++ ys).length + 1) :: (xs ++ ys)) := List.perm_middle
  refine ⟨perm.nodup_iff.mpr (List.nodup_cons.mpr ⟨fun mem => ?_, nodup⟩), ?_, fun p mem => ?_⟩
  · have := (range _ mem).2
    omega
  · rw [perm.length_eq, List.length_cons]
    omega
  · rw [perm.length_eq, List.length_cons]
    rcases List.mem_cons.mp (perm.mem_iff.mp mem) with rfl | mem
    · omega
    · have := range p mem
      omega

/-- The tickets once `t` has left its group `g` at `place` (R131). -/
def leftBy (n g place : Nat) (k : Ticket) : Ticket :=
  if k.number = n then { k with group := none }
  else
    match k.group with
    | some (g', p) => if g' = g ∧ place < p then { k with group := some (g, p - 1) } else k
    | none => k

theorem leftBy_number (n g place : Nat) (k : Ticket) : (leftBy n g place k).number = k.number := by
  unfold leftBy
  split
  · rfl
  · split
    · split <;> rfl
    · rfl

theorem placeIn_leftBy {n g place : Nat} {k : Ticket} (other : k.number ≠ n) (g' : Nat) :
    (leftBy n g place k).placeIn g' = if g' = g then (k.placeIn g).map (movedUp place) else k.placeIn g' := by
  unfold leftBy
  rw [if_neg other]
  split
  next g'' p group =>
    rw [Ticket.placeIn_of_some group, Ticket.placeIn_of_some group]
    by_cases own : g'' = g
    · subst own
      by_cases behind : place < p
      · rw [if_pos ⟨rfl, behind⟩, Ticket.placeIn_of_some rfl]
        rcases eq_or_ne g' g'' with rfl | same
        · simp [movedUp, behind]
        · simp [same, Ne.symm same]
      · rw [if_neg (fun both => behind both.2), Ticket.placeIn_of_some group]
        rcases eq_or_ne g' g'' with rfl | same
        · simp [movedUp, behind]
        · simp [same, Ne.symm same]
    · rw [if_neg (fun both => own both.1), Ticket.placeIn_of_some group]
      by_cases same : g' = g
      · subst same
        simp [own]
      · simp [same]
  next group =>
    rw [Ticket.placeIn_of_none group, Ticket.placeIn_of_none group]
    simp

theorem GroupsOf.leave {l : List Ticket} (hl : GroupsOf l) {n g place : Nat}
    (own : (l.find? (·.number == n)).map (·.group) = some (some (g, place))) : GroupsOf (l.map (leftBy n g place)) := by
  obtain ⟨numbers, groups, rings⟩ := hl
  obtain ⟨c, found, group⟩ := Option.map_eq_some_iff.mp own
  have moved : ((l.map (leftBy n g place)).map (·.number)) = l.map (·.number) := by
    rw [List.map_map]
    exact List.map_congr_left fun k _ => leftBy_number n g place k
  refine ⟨moved ▸ numbers, fun t mem g' place' group' => ?_, fun g' => ?_⟩
  · obtain ⟨k, held, rfl⟩ := List.mem_map.mp mem
    unfold leftBy at group'
    split at group'
    · cases group'
    · split at group'
      next g'' p old =>
        split at group'
        next both =>
          cases group'
          exact groups k held _ p (both.1 ▸ old)
        · exact groups k held _ _ group'
      · exact groups k held _ _ group'
  · obtain ⟨same, a, b, rfl, before, after⟩ := split_of_number numbers found
    have ring := rings g'
    have gone : (leftBy n g place c).placeIn g' = none := Ticket.placeIn_of_none (by rw [leftBy, if_pos same]) _
    have moves (k : List Ticket) (others : ∀ t ∈ k, t.number ≠ n) :
        (k.map (leftBy n g place)).filterMap (Ticket.placeIn g') =
          if g' = g then (k.filterMap (Ticket.placeIn g)).map (movedUp place) else k.filterMap (Ticket.placeIn g') := by
      rw [List.filterMap_map]
      by_cases eq : g' = g
      · rw [if_pos eq, List.map_filterMap]
        exact List.filterMap_congr fun t mem => by rw [Function.comp_apply, placeIn_leftBy (others t mem), if_pos eq]
      · rw [if_neg eq]
        exact List.filterMap_congr fun t mem => by rw [Function.comp_apply, placeIn_leftBy (others t mem), if_neg eq]
    rw [List.map_append, List.map_cons, List.filterMap_append, List.filterMap_cons_none gone, moves a before, moves b after]
    rw [List.filterMap_append] at ring
    by_cases eq : g' = g
    · subst eq
      rw [if_pos rfl, if_pos rfl, ← List.map_append]
      rw [List.filterMap_cons_some (by rw [Ticket.placeIn_of_some group, if_pos rfl])] at ring
      exact ringOk_leave ring
    · rw [if_neg eq, if_neg eq]
      rwa [List.filterMap_cons_none (by rw [Ticket.placeIn_of_some group, if_neg (Ne.symm eq)])] at ring

theorem GroupsOf.join {l : List Ticket} (hl : GroupsOf l) {n g : Nat} {c : Ticket}
    (found : l.find? (·.number == n) = some c) (alone : c.group = none) (low : 1 ≤ g) (high : g ≤ 63)
    (room : (l.filterMap (Ticket.placeIn g)).length < 4) :
    GroupsOf (l.map fun k => if k.number = n then
      { k with group := some (g, (l.filterMap (Ticket.placeIn g)).length + 1) } else k) := by
  obtain ⟨numbers, groups, rings⟩ := hl
  obtain ⟨same, a, b, split, before, after⟩ := split_of_number numbers found
  generalize count : (l.filterMap (Ticket.placeIn g)).length = held at room ⊢
  have joined : (l.map fun k => if k.number = n then { k with group := some (g, held + 1) } else k) =
      a ++ { c with group := some (g, held + 1) } :: b := by
    rw [split, List.map_append, List.map_cons, if_pos same]
    congr 1
    · exact (List.map_congr_left fun k mem => if_neg (before k mem)).trans (List.map_id a)
    · exact congrArg _ ((List.map_congr_left fun k mem => if_neg (after k mem)).trans (List.map_id b))
  rw [joined]
  subst split
  refine ⟨by simpa using numbers, fun t mem g' place group => ?_, fun g' => ?_⟩
  · rcases List.mem_append.mp mem with mem | mem
    · exact groups t (List.mem_append_left _ mem) g' place group
    · rcases List.mem_cons.mp mem with rfl | mem
      · cases group
        exact ⟨low, high⟩
      · exact groups t (List.mem_append_right _ (List.mem_cons_of_mem _ mem)) g' place group
  · have ring := rings g'
    rw [List.filterMap_append, List.filterMap_cons_none (Ticket.placeIn_of_none alone _)] at ring
    rw [List.filterMap_append, List.filterMap_cons_none (Ticket.placeIn_of_none alone _), ← List.filterMap_append] at count
    rw [List.filterMap_append]
    by_cases eq : g' = g
    · subst eq
      rw [List.filterMap_append] at count
      rw [List.filterMap_cons_some (b := held + 1) (by rw [Ticket.placeIn_of_some rfl, if_pos rfl]), ← count]
      exact ringOk_join ring (count ▸ room)
    · rwa [List.filterMap_cons_none (by rw [Ticket.placeIn_of_some rfl, if_neg (Ne.symm eq)])]

theorem State.groupRing_length (s : State) (g : Nat) :
    (s.groupRing g).length = (s.tickets.filterMap (Ticket.placeIn g)).length := by
  rw [State.groupRing, (sortBy_perm _ _).length_eq]
  generalize s.tickets = l
  induction l with
  | nil => rfl
  | cons t l ih =>
    cases group : t.group with
    | none => rw [List.filterMap_cons_none (by simp [group]), List.filterMap_cons_none (Ticket.placeIn_of_none group g), ih]
    | some x =>
      obtain ⟨g', place⟩ := x
      by_cases own : g' = g
      · rw [List.filterMap_cons_some (b := (place, t.number)) (by simp [group, own]),
          List.filterMap_cons_some (b := place) (by rw [Ticket.placeIn_of_some group, if_pos own]), List.length_cons,
          List.length_cons, ih]
      · rw [List.filterMap_cons_none (by simp [group, own]),
          List.filterMap_cons_none (by rw [Ticket.placeIn_of_some group, if_neg own]), ih]

theorem groupsRight_stepKeeps : StepKeeps State.GroupsRight where
  hooks _ hs := hs
  dispatch _ hs := hs
  arbiter _ hs := hs
  liftMarks _ _ _ hs := hs
  schedule _ hs := hs
  board _ hs := hs
  waiting _ hs := hs
  stations _ _ hs := hs
  putStall k r _ hs := by rwa [State.groupsRight_iff, (State.putStall_frame _ k r).2.2.1]
  tickets _ same hs := GroupsOf.map hs same
  unplaced _ _ hs := hs
  made q room hs := GroupsOf.append hs
    (fun t mem eq => absurd (State.ticket_issued _ room) (by
      intro none
      have := List.find?_eq_none.mp none t mem
      exact this (by simpa [newTicket] using eq))) rfl
  dropped n alone hs := GroupsOf.drop hs alone
  leftGroup t own hs := by
    rw [State.groupsRight_iff] at hs ⊢
    unfold State.leaveGroup
    split
    · exact hs
    next g place group =>
      rw [group] at own
      exact GroupsOf.leave hs own
  joined t g own alone low high room hs := by
    rw [State.groupRing_length] at room
    have joined := GroupsOf.join hs own alone low high room
    rw [← State.groupRing_length] at joined
    exact joined
  listed _ _ hs := hs
  loadedStall k r _ _ _ _ hs := by rwa [State.groupsRight_iff, (State.putStall_frame _ k r).2.2.1]
  markedStalls _ _ _ hs := hs
  countedStalls _ _ hs := hs
  setPanel _ _ _ hs := hs
  panels _ _ hs := hs
  scan _ hs := hs
  cabinet _ hs := hs
  setChannel _ _ _ hs := hs
  timers _ _ hs := hs
  fed _ _ hs := hs
  events _ _ hs := hs
  clock _ _ _ hs := hs
  setPort p _ _ hs := by cases p <;> exact hs
  passTable _ hs := hs
  strap _ hs := hs
  params _ _ hs := hs
  pending _ hs := hs
  power _ hs := hs
  cold _ := ⟨List.nodup_nil, fun _ mem => absurd mem List.not_mem_nil,
    fun _ => ⟨List.nodup_nil, Nat.zero_le _, fun _ mem => absurd mem List.not_mem_nil⟩⟩

/-- The numbers stay distinct and the groups rings, through every step (R38, R40, R131, R132). -/
theorem State.GroupsRight.step {s t : State} (right : s.GroupsRight) (run : step s = .next t) : t.GroupsRight :=
  groupsRight_stepKeeps.step_next right run

end Sys2Proof.Machine
end

section
/-! PROOFS of O1, O2, O3 and O8: the queue of commands, the cold values, and the loss of main power. -/

namespace Sys2Proof.Machine

open Sys2Proof

/-- Settles O1: the two clauses are the two branches of a step. -/
theorem stepTakesTheFrontCommand : Obligations.StepTakesTheFrontCommand := fun _ _ _ => ⟨rfl, rfl⟩

/-! ### The cold values -/

/-- A bank whose records are all the one outside it reads as that one everywhere. -/
theorem nth_replicate {α : Type} (n i : Nat) (x : α) : nth (Vector.replicate n x) i x = x := by
  by_cases inside : i < n
  · simp [nth, inside]
  · exact nth_outside _ _ _ (by omega)

theorem nth1_replicate {α : Type} (n i : Nat) (x : α) : nth1 (Vector.replicate n x) i x = x := by
  cases i with
  | zero => rfl
  | succ i => exact nth_replicate n i x

theorem nth_replicate_inside {α : Type} {n i : Nat} (x d : α) (h : i < n) : nth (Vector.replicate n x) i d = x := by
  simp [nth, h]

theorem nth1_replicate_inside {α : Type} {n i : Nat} (x d : α) (low : 1 ≤ i) (high : i ≤ n) :
    nth1 (Vector.replicate n x) i d = x := by
  cases i with
  | zero => omega
  | succ i => exact nth_replicate_inside x d (by omega)

/-- Settles O2: every bank of the cold state holds the cold record throughout. -/
theorem resetHoldsTheColdValues : Obligations.ResetHoldsTheColdValues := by
  refine ⟨rfl, rfl, fun k _ => nth_replicate _ k Stall.cold, rfl, rfl, rfl, rfl, fun h _ => nth_replicate _ h Hook.cold,
    fun p low high => ⟨nth1_replicate _ p Panel.cold, ?_, nth1_replicate_inside _ _ low high⟩, rfl,
    fun b _ _ => nth1_replicate _ b (Runner.atStart SiteTime.zero), rfl,
    fun l low high => ⟨nth1_replicate _ l Lift.cold, nth1_replicate _ l false, nth1_replicate_inside _ _ low high, rfl⟩,
    fun n low high => ⟨nth1_replicate _ n Lane.cold, nth1_replicate _ n false, nth1_replicate_inside _ _ low high⟩, rfl,
    fun a _ _ => nth1_replicate _ a Station.cold, fun n _ => nth_replicate _ n none, rfl, ?_,
    fun k _ => nth_replicate _ k Channel.cold, rfl, rfl,
    fun k _ => ⟨nth_replicate _ k false, nth_replicate _ k false⟩,
    fun n inside => nth_replicate_inside _ _ inside, fun n _ => nth_replicate _ n none, rfl⟩
  · simp only [State.panelConfigured, Bool.and_eq_true, decide_eq_true_eq]
    exact ⟨low, high⟩
  · intro p
    cases p <;> rfl

/-! ### Main power -/

theorem State.powered_off {s : State} (off : s.power.main = false) (k : State → State) : s.powered k = s := by
  simp [State.powered, off]

theorem State.powered_on {s : State} (on : s.power.main = true) (k : State → State) : s.powered k = k s := by
  simp [State.powered, on]

theorem State.onFrame_off {s : State} (off : s.power.main = false) (f : From) (k : State → State) : s.onFrame f k = s :=
  s.powered_off off _

theorem State.manage_off {α : Type} {s : State} (off : s.power.main = false) (f : From) (code : ManageCode) (r : Wire α)
    (record : α → ManageRecord) (k : α → State → State × Answer) : s.manage f code r record k = s := s.onFrame_off off f _

theorem State.runnerStatus_off {s : State} (off : s.power.main = false) (f : From) (b level : Nat)
    (k : State → State × Answer) : s.runnerStatus f b level k = s := s.onFrame_off off f _

/-- Two outcomes with the same next state are the same. -/
theorem next_congr {s t : State} (h : s = t) : (.next s : Host.Outcome State Fault Refusal) = .next t := congrArg _ h

/-- Settles O3: every other command runs under `State.powered`, which without main power does nothing. -/
theorem commandsNeedMainPower : Obligations.CommandsNeedMainPower := by
  refine ⟨fun c s off tick dropout power => ?_, fun s => ⟨rfl, fun off => ?_, fun on => ?_, fun off => ?_⟩⟩
  · cases c with
    | clockTick => exact absurd rfl tick
    | batteryDropout => exact absurd rfl dropout
    | powerOn strap => exact absurd rfl (power strap)
    | powerLoss => exact next_congr (by rw [← off])
    | strayFrame => rfl
    | routeFrame p fr zone =>
      refine next_congr ?_
      split
      · rfl
      · exact s.powered_off off _
    | destination61Or62 f d =>
      refine next_congr ?_
      split
      · exact s.onFrame_off off f _
      · rfl
    | runnerReady | runnerBreak | runnerOffDuty | runnerPosition => exact next_congr (State.runnerStatus_off off _ _ _ _)
    | poll | badAnswer | pollTimeout | transmitOpportunity | scanCycle | panelSample | confirmDeadline | releaseDeadline
    | offerDeadline | clearingDeadline | overdueDeadline | scheduleRelease | intervalExpiry | delayExpiry | windowExpiry
    | pulseEnd | eventTaken => exact next_congr (s.powered_off off _)
    | loadStation | loadStall | loadParams | loadPassRule | loadRoute | loadTimer | loadMasks | setStallService | setClock
    | startTimer | stopTimer | readTicket | readStall | readHook | readRunner | readCounts | readFlags | readEstimates
    | clearFlags | rebindHook | restage | forceClose | manageUnknownKind =>
      exact next_congr (State.manage_off off _ _ _ _ _)
    | _ => exact next_congr (s.onFrame_off off _ _)
  · exact next_congr (if_neg (by simp [off]))
  · exact next_congr (if_pos on)
  · exact next_congr (if_neg (by simp [off]))

/-! ### The invariants right after reset -/

theorem State.reset_stall (k : Nat) : State.reset.stall k = Stall.cold := nth_replicate _ k Stall.cold

theorem State.reset_hook (k : Nat) : State.reset.hook k = Hook.cold := nth_replicate _ k Hook.cold

/-- Right after reset no record names a ticket. -/
theorem State.reset_recordsRight : State.reset.RecordsRight where
  numbers := List.nodup_nil
  unplaced := ⟨List.nodup_nil, fun n => ⟨fun mem => absurd mem List.not_mem_nil, fun h => by cases h⟩⟩
  schedule := ⟨List.nodup_nil, fun n => ⟨fun mem => absurd mem List.not_mem_nil, fun h => by cases h⟩⟩
  hooks h := by
    rw [State.reset_hook]
    exact ⟨fun n => ⟨fun h => (by cases h), fun h => (by cases h)⟩, ⟨fun _ => .inl rfl, fun _ => rfl⟩⟩
  named k := by
    rw [State.reset_stall]
    simp [Stall.cold]
  held k n := by
    have none : State.reset.ticket n = none := rfl
    simp [State.heldFor, State.reset_stall, Stall.cold, none]
  occupied k n := by
    have none : State.reset.ticket n = none := rfl
    simp [State.occupiedBy, State.reset_stall, Stall.cold, none]
  bound c mem := absurd mem List.not_mem_nil
  tenures := by
    have none : State.reset.tenureTickets = [] := by decide +kernel
    rw [none]
    exact ⟨List.nodup_nil, fun n mem => absurd mem List.not_mem_nil⟩

/-- Settles O8: a cold start meets the invariants, and no record names a ticket. -/
theorem resetMeetsTheInvariants : Obligations.ResetMeetsTheInvariants :=
  ⟨freeCounts_stepKeeps.cold (s := State.reset) 0, withinSizes_stepKeeps.cold (s := State.reset) 0,
    inRanges_stepKeeps.cold (s := State.reset) 0, channelsRight_stepKeeps.cold (s := State.reset) 0,
    loadsRight_stepKeeps.cold (s := State.reset) 0, groupsRight_stepKeeps.cold (s := State.reset) 0,
    State.reset_recordsRight⟩

end Sys2Proof.Machine
end

section
/-! PROOFS of O9, O10, O11, O13 and O15: frames, polls and presence, and what crosses the switch. -/

namespace Sys2Proof.Machine

open Sys2Proof

/-! ### What no work of the blocks changes -/

/-- What no work of the blocks changes: the queue of commands, the parameters, the power, the timers, the estimates, the
issue counter, the event unit but for the events reported, the scanner, and the links but for the station records. -/
structure State.KeepsRest (s t : State) : Prop where
  pending : t.pending = s.pending
  params : t.params = s.params
  power : t.power = s.power
  timers : t.timers = s.timers
  estimates : t.calls.estimates = s.calls.estimates
  issue : t.issue = s.issue
  clock : t.events.clock = s.events.clock
  flags : t.events.flags = s.events.flags
  masks : t.events.masks = s.events.masks
  routes : t.events.routes = s.events.routes
  latches : t.events.latches = s.events.latches
  panels : t.keys.panels = s.keys.panels
  scan : t.keys.scan = s.keys.scan
  cabinet : t.keys.latches = s.keys.latches
  passTable : t.links.passTable = s.links.passTable
  strap : t.links.strap = s.links.strap
  curb : t.links.curb = s.links.curb
  deck : t.links.deck = s.links.deck

theorem State.KeepsRest.refl (s : State) : s.KeepsRest s := by constructor <;> rfl

theorem keepsRest_workKeeps (s : State) : WorkKeeps s.KeepsRest where
  hooks _ hs := { hs with }
  dispatch _ hs := { hs with }
  arbiter _ hs := { hs with }
  liftMarks _ _ _ hs := { hs with }
  schedule _ hs := { hs with }
  board _ hs := { hs with }
  waiting _ hs := { hs with }
  stations _ _ hs := { hs with }
  putStall k r _ hs := by
    obtain ⟨h1, h2, h3, h4, h5, h6, h7, h8, h9, h10, h11, h12, h13, h14, h15, h16, h17, h18⟩ := hs
    constructor <;> simpa only [State.putStall_frame]
  tickets _ _ hs := { hs with }
  unplaced _ _ hs := { hs with }

theorem State.KeepsRest.setup {s t : State} (h : s.KeepsRest t) : s.KeepsSetup t :=
  ⟨h.pending, h.params, h.power, h.timers, h.estimates, h.clock, h.flags, h.masks, h.routes, h.latches, h.passTable, h.strap,
    by rw [h.curb], by rw [h.deck]⟩

theorem State.KeepsRest.port {s t : State} (h : s.KeepsRest t) (p : Port) : t.port p = s.port p := by
  cases p
  · exact h.curb
  · exact h.deck

/-- Ending the poll exchange keeps the setup. -/
theorem State.endExchange_keepsSetup (s : State) (p : Port) : s.KeepsSetup (s.endExchange p) := by
  cases p <;> exact ⟨rfl, rfl, rfl, rfl, rfl, rfl, rfl, rfl, rfl, rfl, rfl, rfl, rfl, rfl⟩

/-! ### The check and the judging of frames -/

/-- Bytes that are malformed make no frame (R147). -/
theorem parseFrame_malformed {bs : List Byte}
    (h : ¬ ∃ n : Byte, bs[3]? = some n ∧ n.toNat ≤ 32 ∧ bs.length = 6 + n.toNat) : parseFrame bs = none := by
  unfold parseFrame
  split
  next d s k n rest =>
    refine if_neg fun fits => h ⟨n, rfl, fits.1, ?_⟩
    simp only [List.length_cons, fits.2]
    omega
  · rfl

theorem ownFrame_length (destination kind : Byte) (payload : List Byte) (h : payload.length ≤ 32) :
    (ownFrame destination kind payload).length.toNat = payload.length := by
  show (BitVec.ofNat 8 payload.length).toNat = payload.length
  rw [BitVec.toNat_ofNat]
  omega

theorem ownFrame_check (destination kind : Byte) (payload : List Byte) :
    (ownFrame destination kind payload).check = crc (coveredBytes (ownFrame destination kind payload)) := by
  simp only [ownFrame, coveredBytes]

theorem FrameKind.taker_of_fromField {k : FrameKind} (h : k.fromField = true) : k.taker ≠ none := by
  intro none
  simp [FrameKind.fromField, none] at h

/-- Settles O9: the check of the model is the manual's, and a frame is judged in the order of R147. -/
theorem checksAreTheLinksOwn : Obligations.ChecksAreTheLinksOwn := by
  refine ⟨by decide +kernel, fun bs malformed => ?_, fun f short payload => ⟨fun bad => ?_, fun good => ?_⟩, fun o => ?_, rfl, ?_⟩
  · simp only [judge, parseFrame_malformed malformed]
  · rw [judge_frameBytes f short payload, judgeFrame, if_pos]
    simpa [checkMatches, coveredBytes] using bad
  · have right : checkMatches f = true := by simpa [checkMatches, coveredBytes] using good
    rw [judge_frameBytes f short payload, judgeFrame, if_neg (by simp [right])]
    refine ⟨fun far => if_pos far, fun near unroutable => ?_, fun near other other' => ?_⟩
    · rw [if_neg (by simp only [Config.stationCount]; omega), if_pos unroutable]
    · rw [if_neg (by simp only [Config.stationCount]; omega), if_neg (by omega)]
  · obtain ⟨source, kind, few⟩ := o.frame_fields
    exact ⟨source, rfl, kind, few, ownFrame_length _ _ _ (by simp [Config.maxPayload]), ownFrame_check _ _ _⟩
  · intro c k fits kind
    refine ⟨mem_frameKinds k, ?_⟩
    cases c with
    | unhandledKind f u =>
      cases u with
      | badPayload k' =>
        obtain rfl : k' = k := Option.some.inj kind
        have fits : k'.fromField = true := by
          simp only [Instr.wellFormed, Bool.and_eq_true] at fits
          exact fits.2
        exact ⟨FrameKind.taker_of_fromField fits, nofun⟩
      | kind => cases kind
      | _ =>
        cases kind
        exact ⟨nofun, nofun⟩
    | _ => cases kind <;> exact ⟨nofun, nofun⟩

/-! ### Polls -/

theorem mem_addresses {a : Nat} : a ∈ addresses ↔ 1 ≤ a ∧ a ≤ 60 := by
  simp only [addresses, oneTo, List.mem_map, List.mem_range, Config.stationCount]
  constructor
  · rintro ⟨i, inside, rfl⟩
    omega
  · exact fun fits => ⟨a - 1, by omega, by omega⟩

theorem addresses_ascending : addresses.Pairwise (· < ·) := by decide

/-- The next address is the one that R153 names: the lowest above the position, else the lowest. -/
theorem nextAbove_eq {position a : Nat} {xs : List Nat} (order : xs.Pairwise (· < ·)) (mem : a ∈ xs)
    (next : (position < a ∧ ∀ b ∈ xs, position < b → a ≤ b) ∨ ((∀ b ∈ xs, b ≤ position) ∧ ∀ b ∈ xs, a ≤ b)) :
    nextAbove position xs = some a := by
  cases found : nextAbove position xs with
  | none =>
    unfold nextAbove at found
    split at found
    · cases found
    · rw [List.head?_eq_none_iff.mp found] at mem
      cases mem
  | some b =>
    obtain ⟨mem', spec⟩ := nextAbove_spec order found
    refine congrArg some ?_
    rcases next with ⟨above, least⟩ | ⟨below, least⟩
    · rcases spec with ⟨above', least'⟩ | all
      · exact le_antisymm (least' a mem above) (least b mem' above')
      · have := all a mem
        omega
    · rcases spec with ⟨above', -⟩ | all
      · have := below b mem'
        omega
      · exact le_antisymm (all a mem).2 (least b mem')

theorem State.hasManager_false (s : State) :
    s.hasManager = false ↔ ∀ b, 1 ≤ b → b ≤ 60 → (s.station b).permissions.manage = false := by
  simp only [State.hasManager, List.any_eq_false, List.mem_iff_getElem?]
  constructor
  · intro none b low high
    obtain ⟨i, rfl⟩ : ∃ i, b = i + 1 := ⟨b - 1, by omega⟩
    have inside : i < Config.stationCount := by simp only [Config.stationCount]; omega
    have at_ : (s.links.stations.toList)[i]? = some s.links.stations[i] := by simp [inside]
    simpa [State.station, nth1, nth, inside] using none _ ⟨i, at_⟩
  · rintro all r ⟨i, at_⟩
    have inside : i < Config.stationCount := by simpa using (List.getElem?_eq_some_iff.mp at_).1
    have one := all (i + 1) (by omega) (by simp only [Config.stationCount] at inside; omega)
    simp only [Vector.getElem?_toList, Vector.getElem?_eq_getElem inside, Option.some.injEq] at at_
    simpa [State.station, nth1, nth, inside, at_] using one

theorem State.commissioning_iff (s : State) (a : Nat) : s.commissioning a = true ↔
    (∀ b, 1 ≤ b → b ≤ 60 → (s.station b).permissions.manage = false) ∧ a ≠ 0 ∧ a = s.links.strap.val := by
  simp only [State.commissioning, Bool.and_eq_true, Bool.not_eq_true', bne_iff_ne, beq_iff_eq, s.hasManager_false, and_assoc]

/-- Settles O10: POLL takes the next address of the cyclic search among the stations the port polls. -/
theorem pollGoesToTheNextAddress : Obligations.PollGoesToTheNextAddress := by
  refine ⟨fun s a => ⟨?_, ?_, s.commissioning_iff a⟩, fun s p a on ready mem next => ?_⟩
  · simp only [State.polled, List.mem_filter, mem_addresses, State.onPort, State.segmentOf, beq_iff_eq, and_assoc]
    split <;> simp_all
  · simp only [State.polled, List.mem_filter, mem_addresses, State.onPort, State.segmentOf, beq_iff_eq, and_assoc]
    split <;> simp_all
  · refine next_congr ?_
    rw [State.powered_on on]
    unfold State.sendPoll
    rw [ready, nextAbove_eq (xs := s.polled p) (addresses_ascending.filter _) mem next]

/-! ### Presence -/

theorem State.exec_onFrame_heard {s : State} {f : From} (h : s.Hears f) (k : State → State) :
    (.next (s.onFrame f k) : Host.Outcome State Fault Refusal) = .next (k (s.heard f)) :=
  next_congr (s.onFrame_heard f k h)

theorem State.runnerFrame_heard {s : State} {f : From} (h : s.Hears f) (b : Nat) (kind : RunnerFrameKind) (n : Option Nat)
    (k : State → State × Answer) :
    (s.heard f).runnerFrame f.source b kind n k =
      if s.classOf f.source = .runnerBase ∧ 1 ≤ b ∧ b ≤ 32 then (k (s.heard f)).1.oweRunner b kind (k (s.heard f)).2 n
      else s.heard f := by
  unfold State.runnerFrame State.fromBase
  rw [h.classOf_heard]

/-- Outside a reply window no frame is an answer (R154). -/
theorem State.missOn_closed {s : State} {p : Port} (closed : ∀ a, (s.port p).phase ≠ .window a) : s.missOn p = s := by
  unfold State.missOn
  split
  next a window => exact absurd window (closed a)
  · rfl

theorem State.answerFrom_closed {s : State} {f : From} (closed : ∀ a, (s.port f.port).phase ≠ .window a) (k : State → State) :
    s.answerFrom f k = s := by
  unfold State.answerFrom
  split
  next a window => exact absurd window (closed a)
  · rfl

/-- Settles O11: these frames are taken in the state `heard` and leave it, or owe the reply RANGE. -/
theorem presenceAloneOrNothing : Obligations.PresenceAloneOrNothing := by
  refine ⟨fun s f hears => ?_, fun s p rx => ⟨rfl, fun on closed => ?_⟩⟩
  · have alone := State.exec_onFrame_heard hears id
    refine ⟨alone, fun d either => ?_, fun k => alone, alone, alone, fun k => alone, fun b => ⟨fun base low high => ?_, fun out => ?_⟩⟩
    · exact (next_congr (if_pos either)).trans alone
    · have fits : s.classOf f.source = .runnerBase ∧ 1 ≤ b ∧ b ≤ 32 := ⟨base, low, high⟩
      exact ⟨fun level => (State.exec_onFrame_heard hears _).trans (next_congr
          ((State.runnerFrame_heard hears b .runnerStatus none fun s => (s, .range)).trans (if_pos fits))),
        fun n => (State.exec_onFrame_heard hears _).trans (next_congr
          ((State.runnerFrame_heard hears b .taskStep (some n) fun s => (s, .range)).trans (if_pos fits)))⟩
    · have misfit : ¬ (s.classOf f.source = .runnerBase ∧ 1 ≤ b ∧ b ≤ 32) := by
        rintro ⟨base, low, high⟩
        rcases out with other | out
        exacts [other base, by omega]
      exact ⟨fun level => (State.exec_onFrame_heard hears _).trans (next_congr
          ((State.runnerFrame_heard hears b .runnerStatus none fun s => (s, .range)).trans (if_neg misfit))),
        fun n => (State.exec_onFrame_heard hears _).trans (next_congr
          ((State.runnerFrame_heard hears b .taskStep (some n) fun s => (s, .range)).trans (if_neg misfit)))⟩
  · refine ⟨next_congr ?_, fun a => next_congr ((s.powered_on on _).trans (State.answerFrom_closed (f := ⟨p, a⟩) closed _))⟩
    rw [State.powered_on on]
    unfold State.takeBadAnswer
    rw [State.missOn_closed closed]
    repeat' split
    all_goals rfl

/-! ### Presence before the block -/

theorem setNth1_self {α : Type} {n : Nat} (v : Vector α n) (i : Nat) (d : α) : setNth1 v i (nth1 v i d) = v := by
  cases i with
  | zero => rfl
  | succ i =>
    by_cases inside : i < n
    · ext j hj
      simp only [setNth1, setNth, nth1, nth, Vector.getElem_setIfInBounds, Vector.getElem?_eq_getElem inside, Option.getD_some]
      split
      next same => simp only [same]
      · rfl
    · exact setNth_outside _ _ _ (by omega)

theorem State.setStation_self (s : State) (a : Nat) : s.setStation a (s.station a) = s := by
  show { s with links.stations := setNth1 s.links.stations a (nth1 s.links.stations a Station.cold) } = s
  rw [setNth1_self]

/-- Only an address 1 to 60 has a station record. -/
theorem State.station_outside {s : State} {a : Nat} (out : ¬ (1 ≤ a ∧ a ≤ 60)) : s.station a = Station.cold :=
  nth1_outside _ _ _ out

theorem State.setStation_outside {s : State} {a : Nat} (out : ¬ (1 ≤ a ∧ a ≤ 60)) (r : Station) : s.setStation a r = s := by
  have same : setNth1 s.links.stations a r = s.links.stations := by
    cases a with
    | zero => rfl
    | succ i => exact setNth_outside _ _ _ (by simp only [Config.stationCount]; omega)
  show { s with links.stations := setNth1 s.links.stations a r } = s
  rw [same]

theorem State.commissioning_outside {s : State} {a : Nat} (out : ¬ (1 ≤ a ∧ a ≤ 60)) : s.commissioning a = false := by
  by_contra on
  obtain ⟨-, nonzero, strap⟩ := (s.commissioning_iff a).mp (by simpa using on)
  have := s.links.strap.isLt
  omega

/-- A good answer of no station changes nothing. -/
theorem State.goodAnswer_outside {s : State} {a : Nat} (out : ¬ (1 ≤ a ∧ a ≤ 60)) : s.goodAnswer a = s := by
  have cls : s.classOf a = .other := by
    rw [State.classOf, s.commissioning_outside out, s.station_outside out]
    rfl
  unfold State.goodAnswer
  dsimp only
  rw [s.setStation_outside out, cls]
  split <;> rfl

/-- After a good answer the station is PRESENT with silent count 0. -/
theorem State.goodAnswer_present {s : State} {a : Nat} (low : 1 ≤ a) (high : a ≤ 60) :
    ((s.goodAnswer a).station a).presence = .present ∧ ((s.goodAnswer a).station a).silent = 0 := by
  have answered := State.station_setStation_same s a { s.station a with presence := .present, silent := 0 } low high
  unfold State.goodAnswer
  dsimp only
  split
  · simp [answered]
  · unfold State.handPresence
    split
    · unfold State.liftStationPresent
      split
      exacts [⟨congrArg (·.presence) answered, congrArg (·.silent) answered⟩,
        ⟨congrArg (·.presence) answered, congrArg (·.silent) answered⟩]
    · simp only [State.station, State.pair_frame] at answered ⊢
      simp [answered]
    · simp [State.station_setStation_same _ a _ low high]
    · simp [answered]

/-- A good answer of a station already heard changes nothing more. -/
theorem State.goodAnswer_again (s : State) (a : Nat) : (s.goodAnswer a).goodAnswer a = s.goodAnswer a := by
  by_cases inside : 1 ≤ a ∧ a ≤ 60
  · obtain ⟨present, silent⟩ := s.goodAnswer_present inside.1 inside.2
    generalize s.goodAnswer a = t at present silent
    rw [State.goodAnswer, if_pos present]
    conv_lhs =>
      rw [← present, ← silent]
    exact t.setStation_self a
  · rw [State.goodAnswer_outside inside]

/-- A command that a station sends is a frame taken after its presence is handed on. -/
theorem exec_of_sender {c : Instr} {f : From} (fits : c.wellFormed = true) (sender : c.sender = some f) :
    ∃ k : State → State, ∀ s, exec c s = .next (s.onFrame f k) := by
  cases c with
  | destination61Or62 f' d =>
    obtain rfl : f' = f := Option.some.inj sender
    simp only [Instr.wellFormed, Bool.and_eq_true, Bool.or_eq_true, beq_iff_eq] at fits
    exact ⟨id, fun s => next_congr (if_pos fits.2)⟩
  | routeFrame | poll | badAnswer | pollTimeout | strayFrame | transmitOpportunity | scanCycle | panelSample | clockTick
  | confirmDeadline | releaseDeadline | offerDeadline | clearingDeadline | overdueDeadline | scheduleRelease
  | intervalExpiry | delayExpiry | windowExpiry | pulseEnd | eventTaken | powerOn | powerLoss | batteryDropout =>
    cases sender
  | _ =>
    obtain rfl := Option.some.inj sender
    exact ⟨_, fun s => rfl⟩

/-- In its own reply window a frame is taken in the state after its station's good answer. -/
theorem State.onFrame_window {s : State} {f : From} (on : s.power.main = true) (window : (s.port f.port).phase = .window f.source)
    (k : State → State) : s.onFrame f k = k ((s.endExchange f.port).goodAnswer f.source) := by
  rw [State.onFrame, State.powered_on on, State.answerFrom, window]
  exact if_pos rfl

theorem State.setPort_setPort (s : State) (p : Port) (x y : PortState) : (s.setPort p x).setPort p y = s.setPort p y := by
  cases p <;> rfl

theorem State.setPort_self (s : State) (p : Port) : s.setPort p (s.port p) = s := by cases p <;> rfl

/-- Settles O13: after the good answer the window is opened again, and the second good answer changes nothing. -/
theorem presenceComesBeforeTheBlock : Obligations.PresenceComesBeforeTheBlock := by
  intro s t c f fits sender on window idle
  obtain ⟨k, same⟩ := exec_of_sender fits sender
  have idle : s.onFrame f id = t := by cases idle; rfl
  rw [s.onFrame_window on window, id_eq] at idle
  have rest := (keepsRest_workKeeps (s.endExchange f.port)).goodAnswer f.source (State.KeepsRest.refl _)
  rw [idle] at rest
  have power : t.power.main = true := by
    rw [rest.power]
    exact (congrArg (·.main) (s.endExchange_keepsSetup f.port).2.2.1).trans on
  have phase : (t.port f.port).phase = .opportunity := by
    rw [rest.port]
    exact congrArg (·.phase) (State.port_setPort_same _ _ _)
  have again : t.goodAnswer f.source = t := by rw [← idle, State.goodAnswer_again]
  have reopened : ((t.setPort f.port { t.port f.port with phase := .window f.source }).port f.port).phase = .window f.source :=
    congrArg (·.phase) (State.port_setPort_same _ _ _)
  have closed : (t.setPort f.port { t.port f.port with phase := .window f.source }).endExchange f.port = t := by
    rw [State.endExchange, State.setPort_setPort, State.port_setPort_same, ← phase]
    exact t.setPort_self f.port
  rw [same, same, s.onFrame_window on window, idle,
    State.onFrame_window (by cases f.port <;> exact power) reopened, closed, again]

end Sys2Proof.Machine
end

section
/-! PROOFS of O15: the pass table and the routing of frames. -/

namespace Sys2Proof.Machine

open Sys2Proof

theorem destinationMatches_iff (d : PassDest) (a : Nat) : destinationMatches d a = true ↔
    d = .address a ∨ d = .any ∧ 1 ≤ a ∧ a ≤ 60 ∨ d = .broadcast ∧ a = 63 := by
  cases d <;> simp [destinationMatches, broadcast]

theorem directionMatches_iff (d : PassDirection) (p : Port) : directionMatches d p = true ↔
    d = .either ∨ d = .curbToDeck ∧ p = .curb ∨ d = .deckToCurb ∧ p = .deck := by
  cases d <;> cases p <;> simp [directionMatches]

theorem State.ruleMatches_iff (s : State) (p : Port) (fr : Frame) (r : PassRule) : s.ruleMatches p fr r = true ↔
    r.low.toNat ≤ fr.kind.toNat ∧ fr.kind.toNat ≤ r.high.toNat ∧
    (r.source = none ∨ r.source = some (s.classOf fr.source.toNat)) ∧
    (r.destination = .address fr.destination.toNat ∨
      r.destination = .any ∧ 1 ≤ fr.destination.toNat ∧ fr.destination.toNat ≤ 60 ∨
      r.destination = .broadcast ∧ fr.destination.toNat = 63) ∧
    (r.direction = .either ∨ r.direction = .curbToDeck ∧ p = .curb ∨ r.direction = .deckToCurb ∧ p = .deck) := by
  simp only [State.ruleMatches, Bool.and_eq_true, decide_eq_true_eq, Bool.or_eq_true, beq_iff_eq, destinationMatches_iff,
    directionMatches_iff, and_assoc]

/-- The verdict of one entry of the pass table. -/
def State.ruleVerdict (s : State) (p : Port) (fr : Frame) (entry : Option PassRule) : Option Verdict :=
  match entry with
  | none => none
  | some r => if s.ruleMatches p fr r then some r.verdict else none

theorem State.verdict_eq (s : State) (p : Port) (fr : Frame) :
    s.verdict p fr = (s.links.passTable.toList.findSome? (s.ruleVerdict p fr)).getD .drop := by
  show (match s.links.passTable.toList.findSome? (s.ruleVerdict p fr) with
    | none => Verdict.drop
    | some v => v) = _
  cases s.links.passTable.toList.findSome? (s.ruleVerdict p fr) <;> rfl

theorem State.ruleVerdict_none {s : State} {p : Port} {fr : Frame} {entry : Option PassRule}
    (h : ∀ r, entry = some r → s.ruleMatches p fr r = false) : s.ruleVerdict p fr entry = none := by
  cases entry with
  | none => rfl
  | some r => simp [State.ruleVerdict, h r rfl]

theorem toList_getElem?_nth {α : Type} {n : Nat} {v : Vector α n} {i : Nat} {x : α} (d : α) (h : v.toList[i]? = some x) :
    i < n ∧ nth v i d = x := by
  obtain ⟨inside, rfl⟩ := List.getElem?_eq_some_iff.mp h
  have inside : i < n := by simpa using inside
  exact ⟨inside, by simp [nth, inside]⟩

/-- The first rule that a frame matches gives the verdict (R158). -/
theorem State.verdict_first {s : State} {p : Port} {fr : Frame} {i : Nat} {r : PassRule} (inside : i < 32)
    (entry : nth s.links.passTable i none = some r) (hit : s.ruleMatches p fr r = true)
    (before : ∀ j r', j < i → nth s.links.passTable j none = some r' → s.ruleMatches p fr r' = false) :
    s.verdict p fr = r.verdict := by
  have length : s.links.passTable.toList.length = 32 := by simp [Config.passRuleCount]
  have at_ : s.links.passTable.toList[i]? = some (some r) := by
    rw [← entry]
    simp [nth, show i < Config.passRuleCount from inside]
  have found : s.links.passTable.toList.findSome? (s.ruleVerdict p fr) = some r.verdict := by
    refine List.findSome?_eq_some_iff.mpr ⟨s.links.passTable.toList.take i, some r,
      s.links.passTable.toList.drop (i + 1), ?_, if_pos hit, fun entry' mem => ?_⟩
    · obtain ⟨inside', eq⟩ := List.getElem?_eq_some_iff.mp at_
      rw [← eq, List.getElem_cons_drop, List.take_append_drop]
    · obtain ⟨j, taken⟩ := List.mem_iff_getElem?.mp mem
      rw [List.getElem?_take] at taken
      split at taken
      next less =>
        obtain ⟨-, eq⟩ := toList_getElem?_nth none taken
        exact State.ruleVerdict_none fun r' same => before j r' less (eq.trans same)
      · cases taken
  rw [State.verdict_eq, found]
  rfl

theorem State.verdict_unmatched {s : State} {p : Port} {fr : Frame}
    (h : ∀ j r', nth s.links.passTable j none = some r' → s.ruleMatches p fr r' = false) : s.verdict p fr = .drop := by
  rw [State.verdict_eq, List.findSome?_eq_none_iff.mpr fun entry mem => ?_]
  · rfl
  · obtain ⟨j, at_⟩ := List.mem_iff_getElem?.mp mem
    obtain ⟨-, eq⟩ := toList_getElem?_nth none at_
    exact State.ruleVerdict_none fun r' same => h j r' (eq.trans same)

/-! ### What `heard` leaves -/

theorem State.Hears.segmentOf_heard {s : State} {f : From} (h : s.Hears f) (a : Nat) :
    (s.heard f).segmentOf a = s.segmentOf a := by
  have segment : ((s.heard f).station a).segment = (s.station a).segment := by
    by_cases own : f.source = a
    · rw [← own, h.station_heard]
    · rw [State.heard, State.station_setStation_ne _ _ _ _ own, State.station_setPort]
  rw [State.segmentOf, h.commissioning_heard, segment, State.segmentOf]

theorem State.Hears.onPort_heard {s : State} {f : From} (h : s.Hears f) (p : Port) (a : Nat) :
    (s.heard f).onPort p a = s.onPort p a := by
  cases p <;> simp only [State.onPort, h.segmentOf_heard]

theorem State.Hears.verdict_heard {s : State} {p : Port} {fr : Frame} (h : s.Hears ⟨p, fr.source.toNat⟩) (q : Port) :
    (s.heard ⟨p, fr.source.toNat⟩).verdict q fr = s.verdict q fr := by
  have table : (s.heard ⟨p, fr.source.toNat⟩).links.passTable = s.links.passTable := by
    obtain ⟨_, _, _, _, _, _, _, _, _, _, table, _⟩ := s.heard_keepsSetup ⟨p, fr.source.toNat⟩
    exact table
  have rules : (s.heard ⟨p, fr.source.toNat⟩).ruleVerdict q fr = s.ruleVerdict q fr := by
    funext entry
    cases entry with
    | none => rfl
    | some r =>
      have same : (s.heard ⟨p, fr.source.toNat⟩).ruleMatches q fr r = s.ruleMatches q fr r := by
        unfold State.ruleMatches
        rw [h.classOf_heard]
      unfold State.ruleVerdict
      dsimp only
      rw [same]
  rw [State.verdict_eq, State.verdict_eq, table, rules]

theorem State.heard_otherPort (s : State) (p : Port) (a : Nat) : (s.heard ⟨p, a⟩).port (otherPort p) = s.port (otherPort p) := by
  cases p <;> rfl

/-- A frame heard from its station is routed in the state `heard`. -/
theorem exec_routeFrame_heard {s : State} {p : Port} {fr : Frame} (h : s.Hears ⟨p, fr.source.toNat⟩)
    (good : judge (.bytes (frameBytes fr)) = .good fr) (away : 1 ≤ fr.destination.toNat) (zone : Option ZoneReport) :
    exec (.routeFrame p fr zone) s = .next ((s.heard ⟨p, fr.source.toNat⟩).route p fr zone) := by
  refine next_congr ?_
  rw [if_neg (fun zero => by rw [zero] at away; exact absurd away (by decide))]
  rw [← s.onFrame_heard ⟨p, fr.source.toNat⟩ (fun u => u.route p fr zone) h]
  rw [State.onFrame, State.powered_on h.1, State.powered_on h.1, State.receive, good]

/-- Settles O15: the pass table's first matching rule decides, and the verdict acts in the state `heard`. -/
theorem routedFramesFollowTheFirstRule : Obligations.RoutedFramesFollowTheFirstRule := by
  refine ⟨State.ruleMatches_iff, fun s p fr => ⟨fun i r inside entry hit before => State.verdict_first inside entry hit before,
    State.verdict_unmatched⟩, fun s p fr zone hears good away => ?_⟩
  intro heard copied read
  rw [exec_routeFrame_heard hears good away]
  have copy : heard.enqueue (otherPort p) fr = copied := by
    show State.enqueue _ _ _ = _
    unfold State.enqueue
    rw [State.heard_otherPort]
    cases p <;> rfl
  have reads (u : State) : u.readFrame fr zone = read u := by
    cases zone <;> rfl
  have own : heard.onPort p fr.destination.toNat = s.onPort p fr.destination.toNat := hears.onPort_heard _ _
  have other : heard.onPort (otherPort p) fr.destination.toNat = s.onPort (otherPort p) fr.destination.toNat :=
    hears.onPort_heard _ _
  refine ⟨fun stays => next_congr ?_, fun crosses => ?_⟩
  · show heard.route p fr zone = heard
    unfold State.route
    dsimp only
    rw [own, other]
    rcases stays with ⟨station, stays⟩ | beyond
    · rw [if_neg (show ¬ _ = broadcast by simp only [broadcast]; omega), if_pos ⟨away, station⟩]
      split
      · rfl
      next off =>
        rw [if_neg (by rcases stays with on | off' <;> simp_all)]
    · rw [if_neg (show ¬ _ = broadcast by simp only [broadcast]; omega),
        if_neg (show ¬ (_ ∧ _ ≤ Config.stationCount) by simp only [Config.stationCount]; omega)]
  · have passed : heard.route p fr zone = heard.passFrame p fr zone := by
      unfold State.route
      dsimp only
      rw [own, other]
      rcases crosses with all | ⟨station, off, on⟩
      · exact if_pos all
      · rw [if_neg (show ¬ _ = broadcast by simp only [broadcast]; omega), if_pos ⟨away, station⟩, if_neg (by simp [off]), if_pos on]
    have verdict : heard.verdict p fr = s.verdict p fr := hears.verdict_heard p
    rw [passed]
    unfold State.passFrame
    rw [verdict, copy]
    refine ⟨fun v => next_congr ?_, fun v => next_congr ?_, fun v => next_congr ?_, fun v => next_congr ?_⟩
    · rw [v]
      rfl
    · rw [v]
      exact reads copied
    · rw [v]
      exact reads heard
    · rw [v]
      rfl

end Sys2Proof.Machine
end

section
/-! PROOFS of O16: what a transmit opportunity sends. -/

namespace Sys2Proof.Machine

open Sys2Proof

/-! ### Servable markers (R161, R163) -/

theorem mem_badges {b : Nat} : b ∈ badges ↔ 1 ≤ b ∧ b ≤ 32 := by
  simp only [badges, oneTo, List.mem_map, List.mem_range, Config.runnerCount]
  constructor
  · rintro ⟨i, inside, rfl⟩
    omega
  · exact fun fits => ⟨b - 1, by omega, by omega⟩

/-- The segment a port stands for. -/
def portSegment : Port → Segment
  | .curb => .curb
  | .deck => .deck

theorem State.onPort_iff (s : State) (p : Port) (a : Nat) : s.onPort p a = true ↔ s.segmentOf a = portSegment p := by
  cases p <;> simp [State.onPort, portSegment]

theorem State.reaches_iff (s : State) (p : Port) (a : Nat) : s.reaches p a = true ↔
    (s.station a).presence ≠ .absent ∧ s.segmentOf a = portSegment p := by
  simp only [State.reaches, Bool.and_eq_true, State.onPort_iff, bne_iff_ne]
  exact and_comm

theorem State.reachesReply_iff (s : State) (p : Port) (a : Nat) (x : Bool) : s.reachesReply p a x = true ↔
    (s.station a).presence ≠ .absent ∧ (s.segmentOf a = portSegment p ∨ p = .curb ∧ s.segmentOf a = .none ∧ x = true) := by
  simp only [State.reachesReply, Bool.and_eq_true, Bool.or_eq_true, State.onPort_iff, bne_iff_ne, beq_iff_eq, and_assoc]
  exact and_comm

theorem State.servable_replies (s : State) (p : Port) (a : Nat) :
    (s.servable p .serviceReplies a = true ↔ (s.station a).presence ≠ .absent ∧ ∃ x, (s.station a).serviceReply = some x ∧
      (s.segmentOf a = portSegment p ∨ p = .curb ∧ s.segmentOf a = .none ∧ x.commissioning = true)) ∧
    (s.servable p .manageReplies a = true ↔ (s.station a).presence ≠ .absent ∧ ∃ x, (s.station a).manageReply = some x ∧
      (s.segmentOf a = portSegment p ∨ p = .curb ∧ s.segmentOf a = .none ∧ x.commissioning = true)) := by
  constructor
  · cases slot : (s.station a).serviceReply <;> simp [State.servable, slot, State.reachesReply_iff]
  · cases slot : (s.station a).manageReply <;> simp [State.servable, slot, State.reachesReply_iff]

theorem State.owedVia_iff (s : State) (a b : Nat) : s.owedVia a b = true ↔
    (s.runner b).base = some a ∧ ((s.runner b).owed ≠ none ∨ (s.runner b).reply ≠ none) := by
  simp only [State.owedVia, Bool.and_eq_true, Bool.or_eq_true, beq_iff_eq, Option.isSome_iff_ne_none]

theorem State.servable_runnerFrames (s : State) (p : Port) (a : Nat) :
    s.servable p .runnerFrames a = true ↔ (s.station a).presence ≠ .absent ∧ s.segmentOf a = portSegment p ∧ ∃ b, 1 ≤ b ∧ b ≤ 32 ∧
      (s.runner b).base = some a ∧ ((s.runner b).owed ≠ none ∨ (s.runner b).reply ≠ none) := by
  simp only [State.servable, Bool.and_eq_true, List.any_eq_true, State.reaches_iff, mem_badges, State.owedVia_iff, and_assoc]

theorem State.servable_marks (s : State) (p : Port) (a : Nat) :
    (s.servable p .liftOrders a = true ↔ (s.station a).presence ≠ .absent ∧ s.segmentOf a = portSegment p ∧ s.classOf a = .lift ∧
      (s.station a).orderMark = true) ∧
    (s.servable p .notices a = true ↔ (s.station a).presence ≠ .absent ∧ s.segmentOf a = portSegment p ∧
      (s.station a).noticeMark = true) ∧
    (s.servable p .boards a = true ↔ (s.station a).presence ≠ .absent ∧ s.segmentOf a = portSegment p ∧ s.classOf a = .display ∧
      ((s.station a).boardMark = true ∨ (s.station a).vacancyMark = true)) := by
  simp only [State.servable, Bool.and_eq_true, Bool.or_eq_true, State.reaches_iff, beq_iff_eq, and_assoc, and_self]

/-! ### Which frame is served next (R162) -/

/-- The search finds the class and station that R162 serves next. -/
theorem State.nextOwn_of_servedNext {s : State} {p : Port} {c : OwnClass} {a : Nat} (h : s.ServedNext p c a) :
    s.nextOwn p = some (c, a) := by
  obtain ⟨⟨before, behind, classes, none⟩, low, high, servable, next⟩ := h
  have listed : ∀ c b, b ∈ addresses.filter (s.servable p c) ↔ s.servable p c b = true := fun c b =>
    ⟨fun h => (List.mem_filter.mp h).2, fun h => List.mem_filter.mpr ⟨State.servable_address h, h⟩⟩
  have own : s.candidate p c = some a := by
    refine nextAbove_eq (addresses_ascending.filter _) ((listed c a).mpr servable) ?_
    simp only [listed]
    rcases next with above | wrap
    · exact .inl above
    · exact .inr ⟨fun b hb => (wrap b hb).1, fun b hb => (wrap b hb).2⟩
  have others (d : OwnClass) (mem : d ∈ before) : s.candidate p d = .none := by
    have empty : addresses.filter (s.servable p d) = [] := List.filter_eq_nil_iff.mpr fun b _ => by simp [none d mem b]
    rw [State.candidate, empty]
    rfl
  rw [State.nextOwn, List.findSome?_eq_some_iff]
  exact ⟨before, c, behind, classes, by rw [own]; rfl, fun d mem => by rw [others d mem]; rfl⟩

/-- With no servable marker nothing is served. -/
theorem State.nextOwn_none {s : State} {p : Port} (h : ∀ c a, s.servable p c a = false) : s.nextOwn p = none := by
  cases found : s.nextOwn p with
  | none => rfl
  | some x =>
    obtain ⟨-, -, -, servable, -⟩ := State.nextOwn_servedNext found
    rw [h] at servable
    cases servable

theorem State.sendOwn_some {s next : State} {p : Port} {c : OwnClass} {a : Nat} {frame : OwnFrame} (fuel : Nat)
    (served : s.nextOwn p = some (c, a)) (taken : s.takeOwn c a = (next, some frame)) :
    s.sendOwn (fuel + 1) p = (next.servedAt p c a, some frame) := by
  rw [State.sendOwn, served]
  dsimp only
  rw [taken]

theorem State.sendOwn_skip {s next : State} {p : Port} {c : OwnClass} {a : Nat} (fuel : Nat)
    (served : s.nextOwn p = some (c, a)) (taken : s.takeOwn c a = (next, none)) :
    s.sendOwn (fuel + 1) p = next.sendOwn fuel p := by
  rw [State.sendOwn, served]
  dsimp only
  rw [taken]

/-! ### What sending leaves -/

/-- What the sending of own frames by a port leaves. -/
structure State.SendKeeps (s : State) (p : Port) (t : State) : Prop where
  tickets : t.tickets = s.tickets
  stalls : t.stalls = s.stalls
  keys : t.keys = s.keys
  calls : t.calls = s.calls
  timers : t.timers = s.timers
  events : t.events = s.events
  params : t.params = s.params
  pending : t.pending = s.pending
  other : t.port (otherPort p) = s.port (otherPort p)
  forwarded : (t.port p).forwarded = (s.port p).forwarded

theorem State.SendKeeps.refl (s : State) (p : Port) : s.SendKeeps p s := by constructor <;> rfl

theorem State.SendKeeps.setStation {s t : State} {p : Port} (h : s.SendKeeps p t) (a : Nat) (r : Station) :
    s.SendKeeps p (t.setStation a r) := by
  cases p <;> exact { h with }

theorem State.SendKeeps.setRunner {s t : State} {p : Port} (h : s.SendKeeps p t) (b : Nat) (r : Runner) :
    s.SendKeeps p (t.setRunner b r) := by
  cases p <;> exact { h with }

theorem State.SendKeeps.takeOwn {s t : State} {p : Port} (h : s.SendKeeps p t) (c : OwnClass) (a : Nat) :
    s.SendKeeps p (t.takeOwn c a).1 := by
  have cleared := h.setStation a { t.station a with orderMark := false }
  unfold State.takeOwn
  dsimp only
  split
  · exact h.setStation _ _
  · exact h.setStation _ _
  · split
    · exact h
    · unfold State.takeRunner
      dsimp only
      split
      exacts [h.setRunner _ _, h.setRunner _ _, h]
  · unfold State.takeOrder
    dsimp only
    split
    · exact cleared
    · split
      · cases p <;> exact { cleared with }
      · cases p <;> exact { cleared with }
  · exact h.setStation _ _
  · split
    exacts [h.setStation _ _, h.setStation _ _]

theorem State.SendKeeps.servedAt {s t : State} {p : Port} (h : s.SendKeeps p t) (c : OwnClass) (a : Nat) :
    s.SendKeeps p (t.servedAt p c a) := by
  cases p <;> exact { h with }

theorem State.SendKeeps.sendOwn {s t : State} {p : Port} (h : s.SendKeeps p t) (fuel : Nat) :
    s.SendKeeps p (t.sendOwn fuel p).1 := by
  induction fuel generalizing t with
  | zero => exact h
  | succ fuel ih =>
    unfold State.sendOwn
    split
    · exact h
    next c a _ =>
      have taken := h.takeOwn c a
      split
      next own => exact State.SendKeeps.servedAt (by rw [own] at taken; exact taken) c a
      next own => exact ih (by rw [own] at taken; exact taken)

/-- A transmit opportunity that a port may take, as its own frame and the front of its queue (R162). -/
theorem State.transmit_eq {s : State} {p : Port} (may : s.mayTransmit p = true) :
    s.transmit p = (s.sendOwn 61 p).1.setPort p { (s.sendOwn 61 p).1.port p with
      phase := .ready
      forwarded := (s.port p).forwarded.tail
      line := (s.sendOwn 61 p).2.toList.map OwnFrame.onLine ++ ((s.port p).forwarded.head?).toList.map .forwarded } := by
  have kept : ((s.sendOwn 61 p).1.port p).forwarded = (s.port p).forwarded := ((State.SendKeeps.refl s p).sendOwn 61).forwarded
  rw [State.transmit, if_pos may]
  show _ = _
  dsimp only [Config.stationCount]
  rw [← kept]
  generalize s.sendOwn (60 + 1) p = own
  unfold State.takeForwarded
  cases queue : (own.1.port p).forwarded with
  | nil =>
    cases p <;> simpa [State.port, State.setPort] using queue
  | cons f rest =>
    dsimp only
    rw [State.setPort_setPort, State.port_setPort_same]
    rfl

/-! ### The frames built -/

theorem State.buildTask_cases (s : State) (a b n : Nat) :
    (∀ (kind : TaskKind) (c : Ticket), (s.runner b).task = some (n, kind) → s.ticket n = some c →
      let target := if kind = .restage then c.target else none
      (∀ k site, c.stall = some k → (s.stall k).site = some site → s.buildTask a b (.offer n) =
        .taskOffer a b n kind (some k) target (some site.level) (some site.zone) c.hook (some c.size) c.plate c.verify
          c.keyAlert) ∧
      (c.stall = none → s.buildTask a b (.offer n) =
        .taskOffer a b n kind none target none none c.hook (some c.size) c.plate c.verify c.keyAlert)) ∧
    ((∀ kind, (s.runner b).task ≠ some (n, kind)) → s.buildTask a b (.offer n) = .taskWithdraw a b n) := by
  refine ⟨fun kind c task found => ?_, fun none => ?_⟩
  · have built : s.buildTask a b (.offer n) = s.buildOffer a b kind c := by
      simp [State.buildTask, task, found]
    refine ⟨fun k site stall loaded => ?_, fun stall => ?_⟩
    · simp [built, State.buildOffer, stall, loaded, State.ticket_number found]
    · simp [built, State.buildOffer, stall, State.ticket_number found]
  · unfold State.buildTask
    dsimp only
    cases task : (s.runner b).task with
    | none => rfl
    | some x =>
      obtain ⟨m, kind⟩ := x
      have other : m ≠ n := fun same => none kind (same ▸ task)
      cases s.ticket n with
      | none => rfl
      | some t => exact if_neg other

theorem State.buildRunnerReply_cases (s : State) (a b n : Nat) :
    (∀ r c, r.kind = .keyRequest → r.ticket = some n → s.ticket n = some c →
      s.buildRunnerReply a b r = .runnerReply a b r c.hook) ∧
    ∀ r, (r.kind ≠ .keyRequest ∨ r.ticket = none ∨ r.ticket = some n ∧ s.ticket n = none) →
      s.buildRunnerReply a b r = .runnerReply a b r none := by
  refine ⟨fun r c key ticket found => by simp [State.buildRunnerReply, key, ticket, found], fun r without => ?_⟩
  rcases without with other | none | ⟨ticket, closed⟩
  · simp [State.buildRunnerReply, other]
  · simp [State.buildRunnerReply, none]
  · simp [State.buildRunnerReply, ticket, closed]

theorem State.boardContent_entries {s : State} (listed : ∀ e ∈ s.calls.board, s.ticket e.ticket ≠ none) :
    s.boardContent.length = min 8 s.calls.board.length ∧
    ∀ (i : Nat) (e : BoardEntry) (c : Ticket), i < 8 → s.calls.board[i]? = some e → s.ticket e.ticket = some c →
      s.boardContent[i]? = some (c.number, c.state, c.lane, c.overdue) := by
  have content : s.boardContent = (s.calls.board.take 8).map fun e =>
      (s.ticket e.ticket).elim (0, TicketState.unplaced, none, false) fun t => (t.number, t.state, t.lane, t.overdue) := by
    rw [← List.filterMap_eq_map]
    refine List.filterMap_congr fun e mem => ?_
    cases found : s.ticket e.ticket with
    | none => exact absurd found (listed e (List.mem_of_mem_take mem))
    | some c => simp [found]
  refine ⟨by rw [content, List.length_map, List.length_take], fun i e c few entry found => ?_⟩
  rw [content, List.getElem?_map, List.getElem?_take, if_pos few, entry]
  simp [found]

/-! ### The orders of a lift without a GRANTED tenure -/

theorem Station.servesLift_iff (r : Station) (l : Nat) : r.servesLift l = true ↔ r.cls = .lift ∧ r.served = some (.lift l) := by
  simp only [Station.servesLift, Bool.and_eq_true, beq_iff_eq]

theorem State.station_mapStations (s : State) (f : Station → Station) (a : Nat) (low : 1 ≤ a) (high : a ≤ 60) :
    (s.mapStations f).station a = f (s.station a) := by
  obtain ⟨i, rfl⟩ : ∃ i, a = i + 1 := ⟨a - 1, by omega⟩
  have inside : i < Config.stationCount := by simp only [Config.stationCount]; omega
  exact nth_mapBank _ _ _ _ inside

/-- What the clearing of a lift's orders does to the markers: an order marker is set afterwards only where it was set and the
station does not serve the lift; every other marker stays. -/
theorem State.clearOrder_station (s : State) (l a : Nat) : (s.clearOrder l).station a =
    if (s.station a).servesLift l then { s.station a with orderMark := false } else s.station a := by
  by_cases inside : 1 ≤ a ∧ a ≤ 60
  · exact State.station_mapStations _ _ a inside.1 inside.2
  · rw [State.station_outside inside, State.station_outside inside]
    split <;> rfl

theorem State.clearOrder_lift {s : State} {l : Nat} (low : 1 ≤ l) (high : l ≤ 4) : ((s.clearOrder l).lift l).orderOwed = false :=
  congrArg Lift.orderOwed (nth1_setNth1_same s.arbiter.lifts l { s.lift l with orderOwed := false } Lift.cold low high)

/-- The judging of stations depends on what clearing markers leaves. -/
theorem State.classOf_congr {s t : State} {a : Nat} (manager : t.hasManager = s.hasManager) (strap : t.links.strap = s.links.strap)
    (cls : (t.station a).cls = (s.station a).cls) : t.classOf a = s.classOf a := by
  rw [State.classOf, State.commissioning, manager, strap, cls, State.classOf, State.commissioning]

theorem State.segmentOf_congr {s t : State} {a : Nat} (manager : t.hasManager = s.hasManager)
    (strap : t.links.strap = s.links.strap) (segment : (t.station a).segment = (s.station a).segment) :
    t.segmentOf a = s.segmentOf a := by
  rw [State.segmentOf, State.commissioning, manager, strap, segment, State.segmentOf, State.commissioning]

/-- Whether any station carries MANAGE is read from the stations' permissions. -/
theorem State.hasManager_congr {s t : State} (same : ∀ a, 1 ≤ a → a ≤ 60 → (t.station a).permissions = (s.station a).permissions) :
    t.hasManager = s.hasManager := by
  have one (u v : State) (same : ∀ a, 1 ≤ a → a ≤ 60 → (u.station a).permissions = (v.station a).permissions)
      (none : v.hasManager = false) : u.hasManager = false := by
    have none' : ∀ b, 1 ≤ b → b ≤ 60 → (v.station b).permissions.manage = false := v.hasManager_false.mp none
    exact u.hasManager_false.mpr fun b low high => by rw [same b low high]; exact none' b low high
  cases h : s.hasManager with
  | false => exact one t s same h
  | true =>
    cases h' : t.hasManager with
    | true => rfl
    | false => exact absurd (one s t (fun a low high => (same a low high).symm) h') (by simp [h])

/-- Nothing is served exactly when no marker is servable. -/
theorem State.servable_of_nextOwn_none {s : State} {p : Port} (h : s.nextOwn p = none) (c : OwnClass) (a : Nat) :
    s.servable p c a = false := by
  have all : c ∈ classesAfter (s.port p).classPosition := by
    cases (s.port p).classPosition <;> cases c <;> decide
  have none := Option.map_eq_none_iff.mp (List.findSome?_eq_none_iff.mp h c all)
  unfold State.candidate nextAbove at none
  split at none
  · cases none
  · rw [List.head?_eq_none_iff, List.filter_eq_nil_iff] at none
    exact Bool.eq_false_iff.mpr fun hit => none a (State.servable_address hit) hit

theorem State.takeOwn_keepsRest (s : State) (c : OwnClass) (a : Nat) : s.KeepsRest (s.takeOwn c a).1 :=
  (keepsRest_workKeeps s).takeOwn c a (State.KeepsRest.refl s)

/-- Station records and the roster after a transmit opportunity are those after its own frame. -/
theorem State.setPort_records (s : State) (p : Port) (r : PortState) :
    (s.setPort p r).links.stations = s.links.stations ∧ (s.setPort p r).dispatch = s.dispatch ∧
      (s.setPort p r).arbiter = s.arbiter := by
  cases p <;> exact ⟨rfl, rfl, rfl⟩

/-- After the orders of a lift are cleared in the course of an order frame, only what was servable is, and no order of that
lift. -/
theorem State.orderCleared_station (s : State) (a l b : Nat) :
    ∃ mark, ((s.setStation a { s.station a with orderMark := false }).clearOrder l).station b =
        { s.station b with orderMark := mark } ∧
      (mark = true → (s.station b).orderMark = true ∧ (s.station b).servesLift l = false) := by
  rw [State.clearOrder_station]
  by_cases own : a = b
  · subst own
    by_cases inside : 1 ≤ a ∧ a ≤ 60
    · rw [State.station_setStation_same _ _ _ inside.1 inside.2]
      exact ⟨false, by split <;> rfl, nofun⟩
    · rw [State.setStation_outside inside, State.station_outside inside]
      exact ⟨false, rfl, nofun⟩
  · rw [State.station_setStation_ne _ _ _ _ own]
    by_cases serves : (s.station b).servesLift l = true
    · exact ⟨false, by rw [if_pos serves], nofun⟩
    · exact ⟨(s.station b).orderMark, by rw [if_neg serves], fun set => ⟨set, by simpa using serves⟩⟩

theorem State.orderCleared_servable {s : State} {p : Port} {a l b : Nat} {c : OwnClass}
    (h : ((s.setStation a { s.station a with orderMark := false }).clearOrder l).servable p c b = true) :
    s.servable p c b = true ∧ (c = .liftOrders → (s.station b).served ≠ some (.lift l)) := by
  generalize cleared : (s.setStation a { s.station a with orderMark := false }).clearOrder l = v at h
  have station (d : Nat) := s.orderCleared_station a l d
  rw [cleared] at station
  have strap : v.links.strap = s.links.strap := by rw [← cleared]; rfl
  have runner (d : Nat) : v.runner d = s.runner d := by rw [← cleared]; rfl
  have manager : v.hasManager = s.hasManager := State.hasManager_congr fun d _ _ => by
    obtain ⟨mark, same, -⟩ := station d
    rw [same]
  obtain ⟨mark, same, set⟩ := station b
  have cls : v.classOf b = s.classOf b := State.classOf_congr manager strap (by rw [same])
  have segment : v.segmentOf b = s.segmentOf b := State.segmentOf_congr manager strap (by rw [same])
  have marks := v.servable_marks p b
  have marks' := s.servable_marks p b
  cases c with
  | serviceReplies =>
    rw [(v.servable_replies p b).1, same, segment] at h
    exact ⟨(s.servable_replies p b).1.mpr h, nofun⟩
  | manageReplies =>
    rw [(v.servable_replies p b).2, same, segment] at h
    exact ⟨(s.servable_replies p b).2.mpr h, nofun⟩
  | runnerFrames =>
    rw [v.servable_runnerFrames, same, segment] at h
    simp only [runner] at h
    exact ⟨(s.servable_runnerFrames p b).mpr h, nofun⟩
  | liftOrders =>
    rw [marks.1, same, segment, cls] at h
    obtain ⟨present, on, lift, marked⟩ := h
    obtain ⟨marked', other⟩ := set marked
    refine ⟨marks'.1.mpr ⟨present, on, lift, marked'⟩, fun _ served => ?_⟩
    have record : (s.station b).cls = .lift := by
      rw [State.classOf] at lift
      split at lift
      · cases lift
      · exact lift
    rw [(Station.servesLift_iff _ l).mpr ⟨record, served⟩] at other
    cases other
  | notices =>
    rw [marks.2.1, same, segment] at h
    exact ⟨marks'.2.1.mpr h, nofun⟩
  | boards =>
    rw [marks.2.2, same, segment, cls] at h
    exact ⟨marks'.2.2.mpr h, nofun⟩

/-- When only orders of a lift without a GRANTED tenure are servable, they are cleared and nothing is sent (R111, R161). -/
theorem State.sendOwn_ordersCleared {s : State} {p : Port} {l : Nat} (idle : ∀ w, (s.lift l).current = some w → w.state ≠ .granted)
    (some_ : ∃ a, s.servable p .liftOrders a = true)
    (only : ∀ c a, s.servable p c a = true → c = .liftOrders ∧ (s.station a).served = some (.lift l)) (fuel : Nat) :
    ∃ a, s.sendOwn (fuel + 1) p = ((s.setStation a { s.station a with orderMark := false }).clearOrder l, none) := by
  cases next : s.nextOwn p with
  | none =>
    obtain ⟨a, hit⟩ := some_
    rw [State.servable_of_nextOwn_none next] at hit
    cases hit
  | some x =>
    obtain ⟨c, a⟩ := x
    obtain ⟨-, -, -, servable, -⟩ := State.nextOwn_servedNext next
    obtain ⟨rfl, served⟩ := only c a servable
    have order : s.buildOrder a l = none := by
      unfold State.buildOrder
      split
      · rfl
      next w current => exact if_neg (idle w current)
    have taken : s.takeOwn .liftOrders a =
        ((s.setStation a { s.station a with orderMark := false }).clearOrder l, none) := by
      simp [State.takeOwn, State.takeOrder, Station.servedLift, served, order]
    refine ⟨a, ?_⟩
    rw [State.sendOwn_skip fuel next taken]
    refine State.sendOwn_idle (State.nextOwn_none fun c' a' => ?_) fuel
    by_contra hit
    obtain ⟨old, other⟩ := State.orderCleared_servable (by simpa using hit)
    obtain ⟨order', served'⟩ := only c' a' old
    exact other order' served'

/-- What is sent for the class served next, and what becomes of its marker (R161, R162): `frame` is sent from `s`, which is
`next` afterwards. -/
structure State.OwnSent (s : State) (c : OwnClass) (a : Nat) (frame : OwnFrame) (next : State) : Prop where
  service : ∀ x, c = .serviceReplies → (s.station a).serviceReply = some x →
    frame = .serviceReply a (s.buildService x) ∧ (next.station a).serviceReply = none
  manage : ∀ x, c = .manageReplies → (s.station a).manageReply = some x →
    frame = s.buildManage a x ∧ (next.station a).manageReply = none
  runner : ∀ b, c = .runnerFrames → 1 ≤ b → b ≤ 32 → s.owedVia a b = true → (∀ d, d < b → s.owedVia a d = false) →
    (∀ x, (s.runner b).owed = some x → frame = s.buildTask a b x ∧ next.runner b = { s.runner b with owed := none }) ∧
    (∀ x, (s.runner b).owed = none → (s.runner b).reply = some x → frame = s.buildRunnerReply a b x ∧
      next.runner b = { s.runner b with reply := none })
  order : ∀ l w, c = .liftOrders → (s.station a).served = some (.lift l) → (s.lift l).current = some w →
    frame = .liftOrder a l w.direction w.fromLevel w.toLevel w.ticket w.runner ∧ (next.station a).orderMark = false
  notice : c = .notices → frame = .notice a s.now s.events.flags s.latchMarks ∧ (next.station a).noticeMark = false
  board : c = .boards → (s.station a).boardMark = true → frame = .curbBoard a s.boardContent ∧
    (next.station a).boardMark = false ∧ (next.station a).vacancyMark = (s.station a).vacancyMark
  vacancy : c = .boards → (s.station a).boardMark = false → frame = .vacancy a s.stalls.free ∧
    (next.station a).vacancyMark = false

section

variable {s : State} {p : Port} {a : Nat}

/-- A servable marker's station record is one that can be written. -/
theorem State.station_written (servable : ∃ c, s.servable p c a = true) (u : State) (r : Station) :
    (u.setStation a r).station a = r := by
  obtain ⟨c, servable⟩ := servable
  obtain ⟨low, high⟩ := mem_addresses.mp (State.servable_address servable)
  exact State.station_setStation_same _ _ _ low high

theorem State.serviceReply_sent (servable : s.servable p .serviceReplies a = true) :
    ∃ next frame, s.takeOwn .serviceReplies a = (next, some frame) ∧ s.OwnSent .serviceReplies a frame next := by
  obtain ⟨-, x, slot, -⟩ := (s.servable_replies p a).1.mp servable
  refine ⟨s.setStation a { s.station a with serviceReply := none }, .serviceReply a (s.buildService x),
    by simp only [State.takeOwn, slot, Option.map_some], ⟨fun y _ same => ?_, (fun _ h => nomatch h), (fun _ h => nomatch h), (fun _ _ h => nomatch h), (fun h => nomatch h), (fun h => nomatch h), (fun h => nomatch h)⟩⟩
  rw [slot] at same
  cases same
  exact ⟨rfl, congrArg Station.serviceReply (State.station_written ⟨_, servable⟩ _ _)⟩

theorem State.manageReply_sent (servable : s.servable p .manageReplies a = true) :
    ∃ next frame, s.takeOwn .manageReplies a = (next, some frame) ∧ s.OwnSent .manageReplies a frame next := by
  obtain ⟨-, x, slot, -⟩ := (s.servable_replies p a).2.mp servable
  refine ⟨s.setStation a { s.station a with manageReply := none }, s.buildManage a x,
    by simp only [State.takeOwn, slot, Option.map_some], ⟨(fun _ h => nomatch h), fun y _ same => ?_, (fun _ h => nomatch h), (fun _ _ h => nomatch h), (fun h => nomatch h), (fun h => nomatch h), (fun h => nomatch h)⟩⟩
  obtain rfl := Option.some.inj (slot.symm.trans same)
  exact ⟨rfl, congrArg Station.manageReply (State.station_written ⟨_, servable⟩ _ _)⟩

/-- The runner served is the lowest badge with a frame owed. -/
theorem State.lowest_owedVia {b d : Nat} (found : badges.find? (s.owedVia a) = some d) (low : 1 ≤ b) (high : b ≤ 32)
    (owes : s.owedVia a b = true) (before : ∀ d, d < b → s.owedVia a d = false) : b = d := by
  obtain ⟨hit, xs, ys, split, none⟩ := List.find?_eq_some_iff_append.mp found
  have ordered : badges.Pairwise (· < ·) := by decide
  have mem : b ∈ xs ++ d :: ys := split ▸ mem_badges.mpr ⟨low, high⟩
  rw [split, List.pairwise_append, List.pairwise_cons] at ordered
  rcases List.mem_append.mp mem with mem | mem
  · exact absurd owes (by simpa using none b mem)
  · rcases List.mem_cons.mp mem with same | mem
    · exact same
    · exact absurd hit (by simp [before d (ordered.2.1.1 b mem)])

theorem State.runnerFrame_sent (servable : s.servable p .runnerFrames a = true) :
    ∃ next frame, s.takeOwn .runnerFrames a = (next, some frame) ∧ s.OwnSent .runnerFrames a frame next := by
  obtain ⟨-, -, b, low, high, base, owes⟩ := (s.servable_runnerFrames p a).mp servable
  have via : s.owedVia a b = true := (s.owedVia_iff a b).mpr ⟨base, owes⟩
  cases found : badges.find? (s.owedVia a) with
  | none => exact absurd via (by simpa using List.find?_eq_none.mp found b (mem_badges.mpr ⟨low, high⟩))
  | some d =>
    obtain ⟨lowD, highD⟩ := mem_badges.mp (List.mem_of_find?_eq_some found)
    have taken : s.takeOwn .runnerFrames a = s.takeRunner a d := by simp only [State.takeOwn, found]
    have runner (r : Runner) : (s.setRunner d r).runner d = r := State.runner_setRunner_same _ _ _ lowD highD
    rw [taken]
    cases owed : (s.runner d).owed with
    | some x =>
      refine ⟨s.setRunner d { s.runner d with owed := none }, s.buildTask a d x, by simp only [State.takeRunner, owed],
        ⟨(fun _ h => nomatch h), (fun _ h => nomatch h), fun b' _ low' high' via' before => ?_, (fun _ _ h => nomatch h), (fun h => nomatch h), (fun h => nomatch h), (fun h => nomatch h)⟩⟩
      obtain rfl := State.lowest_owedVia found low' high' via' before
      refine ⟨fun y same => ?_, fun y none => ?_⟩
      · obtain rfl := Option.some.inj (owed.symm.trans same)
        exact ⟨rfl, runner _⟩
      · cases owed.symm.trans none
    | none =>
      obtain ⟨-, owes⟩ := (s.owedVia_iff a d).mp (List.find?_some found)
      obtain ⟨x, reply⟩ := Option.ne_none_iff_exists'.mp (owes.resolve_left fun h => h owed)
      refine ⟨s.setRunner d { s.runner d with reply := none }, s.buildRunnerReply a d x,
        by simp only [State.takeRunner, owed, reply],
        ⟨(fun _ h => nomatch h), (fun _ h => nomatch h), fun b' _ low' high' via' before => ?_, (fun _ _ h => nomatch h), (fun h => nomatch h), (fun h => nomatch h), (fun h => nomatch h)⟩⟩
      obtain rfl := State.lowest_owedVia found low' high' via' before
      refine ⟨fun y same => ?_, fun y _ same => ?_⟩
      · cases owed.symm.trans same
      · obtain rfl := Option.some.inj (reply.symm.trans same)
        exact ⟨rfl, runner _⟩

theorem State.liftOrder_sent (servable : s.servable p .liftOrders a = true) {l : Nat} {w : Tenure}
    (served : (s.station a).served = some (.lift l)) (current : (s.lift l).current = some w) (state : w.state = .granted) :
    ∃ next frame, s.takeOwn .liftOrders a = (next, some frame) ∧ s.OwnSent .liftOrders a frame next := by
  have order : s.buildOrder a l = some (.liftOrder a l w.direction w.fromLevel w.toLevel w.ticket w.runner) := by
    simp [State.buildOrder, current, state]
  refine ⟨(s.setStation a { s.station a with orderMark := false }).settleOrder l,
    .liftOrder a l w.direction w.fromLevel w.toLevel w.ticket w.runner,
    by simp only [State.takeOwn, State.takeOrder, Station.servedLift, served, order],
    ⟨(fun _ h => nomatch h), (fun _ h => nomatch h), (fun _ h => nomatch h), fun l' w' _ served' current' => ?_, (fun h => nomatch h), (fun h => nomatch h), (fun h => nomatch h)⟩⟩
  cases served.symm.trans served'
  obtain rfl := Option.some.inj (current.symm.trans current')
  exact ⟨rfl, congrArg Station.orderMark (State.station_written ⟨_, servable⟩ s _)⟩

theorem State.notice_sent (servable : s.servable p .notices a = true) :
    ∃ next frame, s.takeOwn .notices a = (next, some frame) ∧ s.OwnSent .notices a frame next :=
  ⟨s.setStation a { s.station a with noticeMark := false }, s.buildNotice a, rfl, ⟨(fun _ h => nomatch h), (fun _ h => nomatch h), (fun _ h => nomatch h), (fun _ _ h => nomatch h),
    fun _ => ⟨rfl, congrArg Station.noticeMark (State.station_written ⟨_, servable⟩ s _)⟩, (fun h => nomatch h), (fun h => nomatch h)⟩⟩

theorem State.board_sent (servable : s.servable p .boards a = true) :
    ∃ next frame, s.takeOwn .boards a = (next, some frame) ∧ s.OwnSent .boards a frame next := by
  have written := State.station_written ⟨_, servable⟩ s
  by_cases board : (s.station a).boardMark = true
  · refine ⟨s.setStation a { s.station a with boardMark := false }, .curbBoard a s.boardContent,
      by simp only [State.takeOwn, if_pos board],
      ⟨(fun _ h => nomatch h), (fun _ h => nomatch h), (fun _ h => nomatch h), (fun _ _ h => nomatch h), (fun h => nomatch h), fun _ _ => ?_, fun _ off => ?_⟩⟩
    · exact ⟨rfl, congrArg Station.boardMark (written _), by rw [written]⟩
    · cases board.symm.trans off
  · refine ⟨s.setStation a { s.station a with vacancyMark := false }, .vacancy a s.stalls.free,
      by simp only [State.takeOwn, if_neg board],
      ⟨(fun _ h => nomatch h), (fun _ h => nomatch h), (fun _ h => nomatch h), (fun _ _ h => nomatch h), (fun h => nomatch h), fun _ on => absurd on board, fun _ _ => ?_⟩⟩
    exact ⟨rfl, congrArg Station.vacancyMark (written _)⟩

/-- A servable marker of any class gives a frame, but for an order of a lift without a GRANTED tenure. -/
theorem State.own_sent {c : OwnClass} (servable : s.servable p c a = true)
    (granted : c = .liftOrders → ∃ l w, (s.station a).served = some (.lift l) ∧ (s.lift l).current = some w ∧ w.state = .granted) :
    ∃ next frame, s.takeOwn c a = (next, some frame) ∧ s.OwnSent c a frame next := by
  cases c with
  | serviceReplies => exact State.serviceReply_sent servable
  | manageReplies => exact State.manageReply_sent servable
  | runnerFrames => exact State.runnerFrame_sent servable
  | liftOrders =>
    obtain ⟨l, w, served, current, state⟩ := granted rfl
    exact State.liftOrder_sent servable served current state
  | notices => exact State.notice_sent servable
  | boards => exact State.board_sent servable

end

/-- Settles O16: the search of R162 finds what is served, and what is built and cleared follows its class. -/
theorem opportunitySendsAtMostTwoFrames : Obligations.OpportunitySendsAtMostTwoFrames := by
  refine ⟨fun s p a => ?_, fun s a b n => ?_, fun s => State.boardContent_entries, fun s p on phase => ?_⟩
  · intro judged own present
    have segment : judged = s.segmentOf a := rfl
    have port : own = portSegment p := by cases p <;> rfl
    rw [segment, port]
    obtain ⟨service, manage⟩ := s.servable_replies p a
    obtain ⟨orders, notices, boards⟩ := s.servable_marks p a
    exact ⟨service, manage, s.servable_runnerFrames p a, orders, notices, boards⟩
  · obtain ⟨offered, lost⟩ := s.buildTask_cases a b n
    obtain ⟨key, other⟩ := s.buildRunnerReply_cases a b n
    exact ⟨offered, lost, rfl, key, other⟩
  · have may : s.mayTransmit p = true := by
      unfold State.mayTransmit
      rcases phase with open_ | ⟨ready, empty⟩
      · rw [open_]
      · rw [ready, empty]
        rfl
    obtain ⟨tickets, stalls, keys, calls, timers, events, params, pending, other, forwarded⟩ :=
      (State.SendKeeps.refl s p).sendOwn 61
    have sent := State.transmit_eq may
    generalize result : s.sendOwn 61 p = u at *
    obtain ⟨stations, dispatch, arbiter⟩ := u.1.setPort_records p { u.1.port p with
      phase := .ready
      forwarded := (s.port p).forwarded.tail
      line := u.2.toList.map OwnFrame.onLine ++ ((s.port p).forwarded.head?).toList.map .forwarded }
    refine ⟨_, u.2, next_congr ((State.powered_on on _).trans sent), ?_⟩
    rw [State.port_setPort_same]
    refine ⟨rfl, rfl, rfl, ?_, ?_⟩
    · rw [State.port_setPort_ne _ _ _ _ (by cases p <;> nofun), other]
    have frame (r : PortState) : (u.1.setPort p r).tickets = s.tickets ∧ (u.1.setPort p r).stalls = s.stalls ∧
        (u.1.setPort p r).keys = s.keys ∧ (u.1.setPort p r).calls = s.calls ∧ (u.1.setPort p r).timers = s.timers ∧
        (u.1.setPort p r).events = s.events ∧ (u.1.setPort p r).params = s.params ∧ (u.1.setPort p r).pending = s.pending := by
      cases p <;> exact ⟨tickets, stalls, keys, calls, timers, events, params, pending⟩
    obtain ⟨f1, f2, f3, f4, f5, f6, f7, f8⟩ := frame { u.1.port p with
      phase := .ready
      forwarded := (s.port p).forwarded.tail
      line := u.2.toList.map OwnFrame.onLine ++ ((s.port p).forwarded.head?).toList.map .forwarded }
    refine ⟨f1, f2, f3, f4, f5, f6, f7, f8, fun none => ?_, fun c a next granted => ?_, fun l low high idle some_ only => ?_⟩
    · rw [State.sendOwn_idle (State.nextOwn_none none)] at result
      subst result
      exact ⟨rfl, stations, dispatch, arbiter⟩
    · obtain ⟨after, built, taken, parts⟩ := State.own_sent next.2.2.2.1 granted
      rw [State.sendOwn_some 60 (State.nextOwn_of_servedNext next) taken] at result
      subst result
      have kept := s.takeOwn_keepsRest c a
      rw [taken] at kept
      have ports : after.port p = s.port p := kept.port p
      have station (r r' : PortState) : ((after.setPort p r).setPort p r').station a = after.station a := by cases p <;> rfl
      have runner (r r' : PortState) (b : Nat) : ((after.setPort p r).setPort p r').runner b = after.runner b := by
        cases p <;> rfl
      simp only [State.servedAt, State.port_setPort_same, station, runner, Option.some.injEq]
      obtain ⟨service, manage, runner, order, notice, board, vacancy⟩ := parts
      exact ⟨trivial, by rw [ports], service, manage, runner, order, notice, board, vacancy⟩
    · obtain ⟨a, cleared⟩ := State.sendOwn_ordersCleared idle some_ only 60
      rw [cleared] at result
      subst result
      refine ⟨rfl, ?_, ?_, fun b cls served => ?_⟩
      · have owed := State.clearOrder_lift (s := s.setStation a { s.station a with orderMark := false }) low high
        simpa only [State.lift, arbiter] using owed
      · cases p <;> rfl
      · obtain ⟨mark, same, set⟩ := s.orderCleared_station a l b
        have gone : mark = false := by
          by_contra on
          have other := (set (by simpa using on)).2
          rw [(Station.servesLift_iff _ l).mpr ⟨cls, served⟩] at other
          cases other
        rw [gone] at same
        exact (congrArg (fun v => (nth1 v b Station.cold).orderMark) stations).trans (congrArg Station.orderMark same)

end Sys2Proof.Machine
end

section
/-! PROOFS of O17: the admission of service requests. -/

namespace Sys2Proof.Machine

open Sys2Proof

/-! ### Who may ask (R43) -/

section

variable {α : Type} {s : State} {f : From} (kind : ServiceKind) (named : α → Option Nat) (k : α → State → RequestResult)

/-- A service request of another class than PODIUM and DESK is ignored. -/
theorem State.Hears.service_ignored (h : s.Hears f) (podium : s.classOf f.source ≠ .podium)
    (desk : s.classOf f.source ≠ .desk) (r : Wire α) :
    (.next (s.onFrame f fun s => s.admitService f.source kind r named k) : Host.Outcome State Fault Refusal) =
      .next (s.heard f) := by
  refine next_congr ((s.onFrame_heard f _ h).trans ?_)
  exact if_pos ⟨by rw [h.classOf_heard]; exact podium, by rw [h.classOf_heard]; exact desk⟩

theorem State.Hears.not_ignored (h : s.Hears f) (asks : s.classOf f.source = .podium ∨ s.classOf f.source = .desk) :
    ¬ ((s.heard f).classOf f.source ≠ .podium ∧ (s.heard f).classOf f.source ≠ .desk) := by
  rw [h.classOf_heard]
  tauto

/-- Without the SERVICE permission a request is refused, with the number it names. -/
theorem State.Hears.service_refused (h : s.Hears f) (asks : s.classOf f.source = .podium ∨ s.classOf f.source = .desk)
    (off : (s.permissionsOf f.source).service = false) (r : Wire α) :
    (.next (s.onFrame f fun s => s.admitService f.source kind r named k) : Host.Outcome State Fault Refusal) =
      .next ((s.heard f).oweService f.source kind .permission (match r with | .tooShort => none | .fields x => named x)) := by
  refine next_congr ((s.onFrame_heard f _ h).trans ?_)
  unfold State.admitService
  rw [if_neg (h.not_ignored asks)]
  cases r <;> simp [h.permissionsOf_heard, off]

theorem State.Serves.service_tooShort (h : s.Serves f) :
    (.next (s.onFrame f fun s => s.admitService f.source kind .tooShort named k) : Host.Outcome State Fault Refusal) =
      .next ((s.heard f).oweService f.source kind .range none) := by
  obtain ⟨hears, asks, on⟩ := h
  refine next_congr ((s.onFrame_heard f _ hears).trans ?_)
  rw [State.admitService, if_neg (hears.not_ignored asks)]
  simp [hears.permissionsOf_heard, on]

/-- A request with its fields is served, and its reply owed. -/
theorem State.Serves.service (h : s.Serves f) (x : α) :
    (.next (s.onFrame f fun s => s.admitService f.source kind (.fields x) named k) : Host.Outcome State Fault Refusal) =
      .next ((k x (s.heard f)).state.oweService f.source kind (k x (s.heard f)).outcome (k x (s.heard f)).ticket
        (k x (s.heard f)).members) :=
  next_congr ((s.onFrame_heard f _ h.1).trans (h.admitService kind x named k))

end

/-! ### Tickets named by a request -/

theorem State.heard_tickets (s : State) (f : From) : (s.heard f).tickets = s.tickets := by simp [State.heard]

theorem State.ticket_heard (s : State) (f : From) (n : Nat) : (s.heard f).ticket n = s.ticket n := by
  simp only [State.ticket, s.heard_tickets]

theorem State.named_none {s : State} {n : Nat} (h : n = 0 ∨ 9999 < n ∨ s.ticket n = none) : s.named n = none := by
  unfold State.named
  split
  next fits =>
    simp only [Config.maxTicketNumber] at fits
    rcases h with zero | high | none
    · omega
    · omega
    · exact none
  · rfl

theorem State.named_some {s : State} {n : Nat} {c : Ticket} (low : 1 ≤ n) (high : n ≤ 9999) (found : s.ticket n = some c) :
    s.named n = some c := by
  rw [State.named, if_pos ⟨low, high⟩, found]

theorem State.serveTicket_none {s : State} {n : Nat} (none : s.named n = none) (k : Ticket → State × Answer) :
    s.serveTicket n k = { state := s, outcome := .range, ticket := some n, members := .none } := by
  rw [State.serveTicket, none]

theorem State.serveTicket_some {s : State} {n : Nat} {c : Ticket} (found : s.named n = some c) (k : Ticket → State × Answer) :
    s.serveTicket n k = { state := (k c).1, outcome := (k c).2, ticket := some n, members := none } := by
  rw [State.serveTicket, found]

/-! ### ARRIVE -/

/-- An ARRIVE with a field outside its set, or a plate tag of none or more than eight characters, gives no request. -/
theorem readArrive_none {x : ArriveFields} (h : x.size = .outside ∨ x.charger = .outside ∨ x.stay = .outside ∨
    x.tier = .outside ∨ ∃ tag, x.plate = some tag ∧ (tag.length = 0 ∨ 8 < tag.length)) : readArrive x = none := by
  have get {β : Type} {y : Sent β} (outside : y = .outside) : y.get? = none := by rw [outside]; rfl
  unfold readArrive
  rcases h with size | charger | stay | tier | ⟨tag, plate, misfit⟩
  · simp [get size]
  · cases x.size.get? <;> simp [get charger]
  · cases x.size.get? <;> cases x.charger.get? <;> simp [get stay]
  · cases x.size.get? <;> cases x.charger.get? <;> cases x.stay.get? <;> simp [get tier]
  · have misfit : plateFits x.plate = false := by
      rw [plate]
      simp only [plateFits, Bool.and_eq_false_iff, decide_eq_false_iff_not]
      omega
    cases x.size.get? <;> cases x.charger.get? <;> cases x.stay.get? <;> cases x.tier.get? <;> simp [misfit]

/-- Settles O17: the sender, the length, the fields and the number are judged before anything is done. -/
theorem serviceNeedsPermission : Obligations.ServiceNeedsPermission := by
  refine fun s f => ⟨fun hears => ⟨fun asks off => ?_, fun podium desk => ?_⟩, fun serves => ⟨?_, fun x misfit => ?_, fun n => ?_,
    fun g n beyond => ?_, fun n closed => ?_⟩⟩
  · have refused {α : Type} (kind : ServiceKind) (r : Wire α) (named : α → Option Nat) (k : α → State → RequestResult) :=
      hears.service_refused kind named k asks off r
    refine ⟨fun r => ?_, fun x => refused _ (.fields x) _ _, fun x => refused _ (.fields x) _ _,
      fun n => refused _ (.fields n) _ _, fun x => refused _ (.fields x) _ _, fun n => refused _ (.fields n) _ _,
      refused _ .tooShort _ _, refused _ .tooShort _ _, refused _ .tooShort _ _, refused _ .tooShort _ _,
      refused _ .tooShort _ _⟩
    cases r
    exacts [refused _ .tooShort _ _, refused _ (.fields _) _ _]
  · have ignored {α : Type} (kind : ServiceKind) (r : Wire α) (named : α → Option Nat) (k : α → State → RequestResult) :=
      hears.service_ignored kind named k podium desk r
    exact ⟨fun r => ignored _ r _ _, fun r => ignored _ r _ _, fun r => ignored _ r _ _, fun r => ignored _ r _ _,
      fun r => ignored _ r _ _, fun r => ignored _ r _ _⟩
  · have short {α : Type} (kind : ServiceKind) (named : α → Option Nat) (k : α → State → RequestResult) :=
      serves.service_tooShort kind named k
    exact ⟨short _ _ _, short _ _ _, short _ _ _, short _ _ _, short _ _ _, short _ _ _⟩
  · refine (serves.service _ _ _ x).trans ?_
    simp only [State.takeArrive, readArrive_none misfit]
  · refine (serves.service _ _ _ (⟨n, .outside⟩ : CallFields)).trans (next_congr ?_)
    unfold State.requestCall
    cases (s.heard f).named n <;> rfl
  · refine (serves.service _ _ _ (⟨g, n⟩ : GroupFields)).trans (next_congr ?_)
    unfold State.serveTicket
    cases (s.heard f).named n with
    | none => rfl
    | some t =>
      dsimp only
      rw [if_neg (by omega)]
  · have none : (s.heard f).named n = none := State.named_none (by rwa [s.ticket_heard])
    refine ⟨fun whole => ?_, fun day tenth => ?_, ?_, fun g => ?_, ?_⟩
    · refine (serves.service _ _ _ (⟨n, whole⟩ : CallFields)).trans (next_congr ?_)
      rw [State.requestCall, none]
    · exact (serves.service _ _ _ (⟨n, day, tenth⟩ : ScheduleFields)).trans
        (next_congr (by rw [State.serveTicket_none none]))
    · exact (serves.service _ _ _ n).trans (next_congr (by rw [State.serveTicket_none none]))
    · exact (serves.service _ _ _ (⟨g, n⟩ : GroupFields)).trans (next_congr (by rw [State.serveTicket_none none]))
    · exact (serves.service _ _ _ n).trans (next_congr (by rw [State.serveTicket_none none]))

end Sys2Proof.Machine
end

section
/-! PROOFS of O24, O25 and O26: cancels, groups and the service replies. -/

namespace Sys2Proof.Machine

open Sys2Proof

/-! ### What a heard frame and an owed reply leave unchanged -/

/-- Being heard changes the links alone. -/
theorem State.heard_eq (s : State) (f : From) : s.heard f = { s with links := (s.heard f).links } := by
  cases h : f.port <;> simp [State.heard, State.setPort, State.setStation, h]

@[simp] theorem State.heard_pending (s : State) (f : From) : (s.heard f).pending = s.pending := by rw [s.heard_eq f]
@[simp] theorem State.heard_stalls (s : State) (f : From) : (s.heard f).stalls = s.stalls := by rw [s.heard_eq f]
@[simp] theorem State.heard_unplaced (s : State) (f : From) : (s.heard f).unplaced = s.unplaced := by rw [s.heard_eq f]
@[simp] theorem State.heard_issue (s : State) (f : From) : (s.heard f).issue = s.issue := by rw [s.heard_eq f]
@[simp] theorem State.heard_keys (s : State) (f : From) : (s.heard f).keys = s.keys := by rw [s.heard_eq f]
@[simp] theorem State.heard_dispatch (s : State) (f : From) : (s.heard f).dispatch = s.dispatch := by rw [s.heard_eq f]
@[simp] theorem State.heard_arbiter (s : State) (f : From) : (s.heard f).arbiter = s.arbiter := by rw [s.heard_eq f]
@[simp] theorem State.heard_calls (s : State) (f : From) : (s.heard f).calls = s.calls := by rw [s.heard_eq f]
@[simp] theorem State.heard_timers (s : State) (f : From) : (s.heard f).timers = s.timers := by rw [s.heard_eq f]
@[simp] theorem State.heard_events (s : State) (f : From) : (s.heard f).events = s.events := by rw [s.heard_eq f]
@[simp] theorem State.heard_params (s : State) (f : From) : (s.heard f).params = s.params := by rw [s.heard_eq f]
@[simp] theorem State.heard_power (s : State) (f : From) : (s.heard f).power = s.power := by rw [s.heard_eq f]

@[simp] theorem State.stall_heard (s : State) (f : From) (k : Nat) : (s.heard f).stall k = s.stall k := by
  rw [s.heard_eq f]; rfl
@[simp] theorem State.hook_heard (s : State) (f : From) (k : Nat) : (s.heard f).hook k = s.hook k := by
  rw [s.heard_eq f]; rfl
@[simp] theorem State.panel_heard (s : State) (f : From) (p : Nat) : (s.heard f).panel p = s.panel p := by
  rw [s.heard_eq f]; rfl
@[simp] theorem State.runner_heard (s : State) (f : From) (b : Nat) : (s.heard f).runner b = s.runner b := by
  rw [s.heard_eq f]; rfl
@[simp] theorem State.lift_heard (s : State) (f : From) (l : Nat) : (s.heard f).lift l = s.lift l := by
  rw [s.heard_eq f]; rfl
@[simp] theorem State.lane_heard (s : State) (f : From) (n : Nat) : (s.heard f).lane n = s.lane n := by
  rw [s.heard_eq f]; rfl
@[simp] theorem State.channel_heard (s : State) (f : From) (k : Nat) : (s.heard f).channel k = s.channel k := by
  rw [s.heard_eq f]; rfl
@[simp] theorem State.task_heard (s : State) (f : From) (n : Nat) : (s.heard f).task n = s.task n := by
  rw [s.heard_eq f]; rfl

@[simp] theorem State.now_heard (s : State) (f : From) : (s.heard f).now = s.now := by rw [s.heard_eq f]; rfl

/-- A ticket record that enters a state other than AT_CURB. -/
theorem Ticket.enter_of_ne {x : TicketState} (h : x ≠ .atCurb) (t : Ticket) (now : SiteTime) :
    t.enter x now = { t with state := x, verify := false } := if_neg h

/-- A block's work between the hearing and the reply keeps the setup. -/
theorem State.KeepsRest.served {s u : State} {f : From} (h : (s.heard f).KeepsRest u) (a : Nat) (kind : ServiceKind)
    (outcome : Answer) (ticket members : Option Nat) : s.KeepsSetup (u.oweService a kind outcome ticket members) :=
  (s.heard_keepsSetup f).trans (h.setup.trans (u.oweService_keepsSetup a kind outcome ticket members))

/-! ### The tasks that a pairing or a promotion finds (R88, R89) -/

/-- The tickets that have a task record, in the order of the records. -/
def State.taskTickets (s : State) : List Nat := s.dispatch.tasks.map (·.ticket)

theorem State.task_none_iff (s : State) (n : Nat) : s.task n = none ↔ n ∉ s.taskTickets := by
  simp [State.task, State.taskTickets]

theorem State.modifyTask_taskTickets (s : State) (n : Nat) {f : Task → Task} (same : ∀ t, (f t).ticket = t.ticket) :
    (s.modifyTask n f).taskTickets = s.taskTickets := by
  simp only [State.taskTickets, State.modifyTask, List.map_map]
  refine List.map_congr_left fun t _ => ?_
  simp only [Function.comp_apply]
  split
  · exact same t
  · rfl

theorem State.dropTask_taskTickets (s : State) (n : Nat) : (s.dropTask n).taskTickets = s.taskTickets.filter (· != n) := by
  simp only [State.taskTickets, State.dropTask, List.filter_map]
  rfl

theorem State.offer_taskTickets (s : State) (t : Task) (b : Nat) : (s.offer t b).taskTickets = s.taskTickets :=
  s.modifyTask_taskTickets t.ticket fun _ => rfl

theorem State.pairTask_taskTickets (s : State) (n : Nat) : (s.pairTask n).taskTickets = s.taskTickets := by
  have emptied (p : Prop) [Decidable p] :
      (if p then s.modifyTask n fun t => { t with declined := [] } else s).taskTickets = s.taskTickets := by
    split
    · exact s.modifyTask_taskTickets n fun _ => rfl
    · rfl
  unfold State.pairTask
  split
  · split
    · rfl
    · dsimp only
      split
      · exact emptied _
      · exact (State.offer_taskTickets _ _ _).trans (emptied _)
  · rfl

theorem State.pair_taskTickets (s : State) : s.pair.taskTickets = s.taskTickets :=
  forEach_keeps (fun t => t.taskTickets = s.taskTickets) _ _ s (fun n t h => (t.pairTask_taskTickets n).trans h) rfl

theorem State.promote_taskTickets (s : State) : s.promote.taskTickets = s.taskTickets := by
  unfold State.promote
  split
  · split
    · rfl
    · exact (State.pair_taskTickets _).trans (s.modifyTask_taskTickets _ fun _ => rfl)
  · rfl

/-- A withdrawn task leaves no record, and the others stay. -/
theorem State.withdrawTask_taskTickets (s : State) (n : Nat) :
    (s.withdrawTask n).taskTickets = s.taskTickets.filter (· != n) := by
  unfold State.withdrawTask
  split
  next none =>
    refine (List.filter_eq_self.mpr fun m mem => ?_).symm
    rw [s.task_none_iff] at none
    simpa using fun same : m = n => none (same ▸ mem)
  · dsimp only
    split
    · exact (State.promote_taskTickets _).trans (s.dropTask_taskTickets n)
    · exact s.dropTask_taskTickets n
    · exact (State.pair_taskTickets _).trans ((State.promote_taskTickets _).trans (s.dropTask_taskTickets n))
    · exact (State.pair_taskTickets _).trans (s.dropTask_taskTickets n)

theorem State.withdrawTask_task (s : State) (n : Nat) : (s.withdrawTask n).task n = none := by
  rw [State.task_none_iff, s.withdrawTask_taskTickets]
  simp

/-! ### What the dispatch unit changes of a ticket -/

/-- From `c` to `d` at most the backlog flag and the runner of a ticket change: the fields the dispatch unit writes. -/
def Ticket.DispatchedTo (c d : Ticket) : Prop := d = { c with backlog := d.backlog, runner := d.runner }

theorem State.pairTask_tickets (s : State) (n : Nat) : (s.pairTask n).tickets = s.tickets := by
  unfold State.pairTask
  split
  · split
    · rfl
    · dsimp only
      split <;> split <;> rfl
  · rfl

theorem State.pair_tickets (s : State) : s.pair.tickets = s.tickets :=
  forEach_keeps (fun t => t.tickets = s.tickets) _ _ s (fun n t h => (t.pairTask_tickets n).trans h) rfl

theorem State.ticket_congr {s t : State} (same : t.tickets = s.tickets) (n : Nat) : t.ticket n = s.ticket n := by
  rw [State.ticket, State.ticket, same]

theorem State.task_congr {s t : State} (same : t.dispatch = s.dispatch) (n : Nat) : t.task n = s.task n := by
  rw [State.task, State.task, same]

theorem State.runner_congr {s t : State} (same : t.dispatch = s.dispatch) (b : Nat) : t.runner b = s.runner b := by
  rw [State.runner, State.runner, same]

theorem State.stall_congr {s t : State} (same : t.stalls = s.stalls) (k : Nat) : t.stall k = s.stall k := by
  rw [State.stall, State.stall, same]

theorem State.hook_congr {s t : State} (same : t.keys = s.keys) (k : Nat) : t.hook k = s.hook k := by
  rw [State.hook, State.hook, same]

theorem State.lift_congr {s t : State} (same : t.arbiter = s.arbiter) (l : Nat) : t.lift l = s.lift l := by
  rw [State.lift, State.lift, same]

theorem State.lane_congr {s t : State} (same : t.arbiter = s.arbiter) (n : Nat) : t.lane n = s.lane n := by
  rw [State.lane, State.lane, same]

/-- A change of one ticket's fields is found under each number. -/
theorem State.ticket_edit (s : State) (n m : Nat) (f : Ticket → Ticket)
    (keeps : ∀ t, (f t).number = t.number := by exact fun _ => rfl) :
    (s.modifyTicket n f).ticket m = (s.ticket m).map fun t => if m = n then f t else t := by
  by_cases same : m = n
  · rw [same, s.ticket_modifyTicket_same n f keeps]
    simp
  · rw [s.ticket_modifyTicket_ne n m f same keeps]
    simp [same]

theorem State.ticket_edit_same {s : State} {n : Nat} {c : Ticket} (found : s.ticket n = some c) (f : Ticket → Ticket)
    (keeps : ∀ t, (f t).number = t.number := by exact fun _ => rfl) : (s.modifyTicket n f).ticket n = some (f c) := by
  rw [s.ticket_edit n n f keeps, found, Option.map_some, if_pos rfl]

/-- The record of a ticket that has entered a state other than AT_CURB. -/
theorem State.ticket_entered {s : State} {n : Nat} {c : Ticket} (found : s.ticket n = some c) {x : TicketState}
    (x_ne : x ≠ .atCurb) : (s.moveTicket n x).ticket n = some { c with state := x, verify := false } := by
  rw [s.ticket_moveTicket_same, found, Option.map_some, Ticket.enter_of_ne x_ne]

/-- A promotion changes at most the backlog flag of a ticket. -/
theorem State.ticket_promote (s : State) (n : Nat) :
    s.promote.ticket n = s.ticket n ∨ s.promote.ticket n = (s.ticket n).map fun k => { k with backlog := false } := by
  unfold State.promote
  split
  · split
    · exact .inl rfl
    next t _ =>
      rw [State.ticket_congr (State.pair_tickets _), State.ticket_edit _ _ _ fun k => { k with backlog := false }]
      by_cases same : n = t.ticket
      · exact .inr (by simp only [same, if_true]; rfl)
      · exact .inl (by simp only [same, if_false, Option.map_id']; rfl)
  · exact .inl rfl

/-- A withdrawal changes at most the backlog flag and the runner of a ticket. -/
theorem State.ticket_withdrawTask {s : State} {m : Nat} {c : Ticket} (found : s.ticket m = some c) (n : Nat) :
    ∃ d, (s.withdrawTask n).ticket m = some d ∧ c.DispatchedTo d := by
  have promoted (u : State) (same : u.tickets = s.tickets) : ∃ d, u.promote.ticket m = some d ∧ c.DispatchedTo d := by
    have found : u.ticket m = some c := (State.ticket_congr same m).trans found
    rcases u.ticket_promote m with kept | cleared
    · exact ⟨c, kept.trans found, rfl⟩
    · exact ⟨{ c with backlog := false }, cleared.trans (by rw [found]; rfl), rfl⟩
  unfold State.withdrawTask
  split
  · exact ⟨c, found, rfl⟩
  · dsimp only
    split
    · exact promoted _ rfl
    · refine ⟨_, (State.ticket_edit _ _ _ _).trans (congrArg _ ((State.ticket_congr (s := s) rfl m).trans found)), ?_⟩
      dsimp only
      split <;> rfl
    · rw [State.ticket_congr (State.pair_tickets _)]
      exact promoted _ rfl
    · rw [State.ticket_congr (State.pair_tickets _)]
      refine ⟨_, (State.ticket_edit _ _ _ _).trans (congrArg _ ((State.ticket_congr (s := s) rfl m).trans found)), ?_⟩
      dsimp only
      split <;> rfl

/-! ### Cancels (R54) -/

/-- A CANCEL of an open ticket is judged by `cancelTicket`. -/
theorem State.Serves.cancel {s : State} {f : From} {c : Ticket} (h : s.Serves f) (low : 1 ≤ c.number) (high : c.number ≤ 9999)
    (found : s.ticket c.number = some c) {u : State} {o : Answer}
    (judged : (s.heard f).cancelTicket c = (u, o)) :
    exec (.cancel f (.fields c.number)) s = .next (u.oweService f.source .cancel o (some c.number)) := by
  have named : (s.heard f).named c.number = some c := State.named_some low high ((s.ticket_heard f _).trans found)
  exact (h.service _ _ _ c.number).trans (next_congr (by rw [State.serveTicket_some named, judged]))

/-- Settles O24: each state's branch of `cancelTicket`, and the records it leaves. -/
theorem cancelIsJudgedByState : Obligations.CancelIsJudgedByState := by
  intro s f c serves low high found
  have heard : (s.heard f).ticket c.number = some c := (s.ticket_heard f _).trans found
  have rest := (keepsRest_workKeeps (s.heard f)).cancelTicket c (State.KeepsRest.refl _)
  have cancel {u o} := serves.cancel low high found (u := u) (o := o)
  refine ⟨fun state => ?_, fun state => ?_, fun states pending => ?_, fun states => ?_, fun states => ?_⟩
  · have judged : (s.heard f).cancelTicket c = (((s.heard f).unschedule c.number).moveTicket c.number .parked, .done) := by
      simp only [State.cancelTicket, state]
    rw [judged] at rest
    have same (m) : ((s.heard f).unschedule c.number).ticket m = s.ticket m := s.ticket_heard f m
    obtain ⟨-, stalls, unplaced, issue, keys, dispatch, arbiter, schedule, -, -, events, -⟩ :=
      ((s.heard f).unschedule c.number).moveTicket_frame c.number .parked
    refine ⟨_, cancel judged, rest.served _ _ _ _ _, (State.ticket_moveTicket_same _ _ _).trans ?_, ?_, stalls.trans ?_,
      dispatch.trans ?_, events.trans ?_, keys.trans ?_, arbiter.trans ?_,
      fun m other => (State.ticket_moveTicket_ne _ _ m _ other).trans (same m), unplaced.trans ?_, issue.trans ?_⟩
    · rw [same, found, Option.map_some, Ticket.enter_of_ne (x := .parked) (by decide)]
    · exact schedule.trans (by simp [State.unschedule])
    all_goals simp [State.unschedule]
  · let u := (s.heard f).withdrawTask c.number
    have judged : (s.heard f).cancelTicket c = ((u.moveTicket c.number .parked).uncall c.number, .done) := by
      simp only [State.cancelTicket, state, u]
    rw [judged] at rest
    obtain ⟨d, dispatched, same⟩ := State.ticket_withdrawTask heard c.number
    obtain ⟨-, stalls, -, -, -, dispatch, -, schedule, -, -, events, -⟩ := u.moveTicket_frame c.number .parked
    obtain ⟨-, stalls', -, -, -, -, calls', -, events', -⟩ := (s.heard f).withdrawTask_frame c.number
    have entered : (u.moveTicket c.number .parked).ticket c.number = some { d with state := .parked, verify := false } := by
      rw [State.ticket_moveTicket_same, dispatched, Option.map_some, Ticket.enter_of_ne (x := .parked) (by decide)]
    have stall : d.stall = c.stall := by rw [same]
    have task : (u.moveTicket c.number .parked).task c.number = u.task c.number := State.task_congr dispatch _
    refine ⟨_, _, cancel judged, rest.served _ _ _ _ _, (State.ticket_edit _ _ _ _).trans (by rw [entered]; rfl), ?_, ?_, ?_, ?_,
      task.trans ((s.heard f).withdrawTask_task c.number), stalls.trans (stalls'.trans (by simp)),
      schedule.trans ((congrArg Calls.schedule calls').trans (by simp)), events.trans (events'.trans (by simp))⟩
    all_goals simp [stall]
  · let u := (s.heard f).modifyTicket c.number fun t => { t with callPending := false }
    have judged : (s.heard f).cancelTicket c = (u.uncall c.number, .done) := by
      rcases states with state | state | state <;> simp only [State.cancelTicket, state, pending, if_true, u]
    rw [judged] at rest
    have edited (m) : (u.uncall c.number).ticket m = (s.ticket m).map fun t =>
        if m = c.number then { t with callPending := false, calledAt := none, promise := none } else t := by
      refine (State.ticket_edit _ _ _ fun t => { t with calledAt := none, promise := none }).trans ?_
      rw [State.ticket_edit _ _ _ fun t => { t with callPending := false }, s.ticket_heard, Option.map_map]
      congr 1
      funext t
      by_cases same : m = c.number <;> simp [same]
    refine ⟨_, cancel judged, rest.served _ _ _ _ _, (edited _).trans ?_, s.heard_stalls f, s.heard_dispatch f, s.heard_calls f,
      s.heard_events f, s.heard_keys f, s.heard_arbiter f, fun m other => (edited m).trans ?_, s.heard_unplaced f, s.heard_issue f⟩
    · rw [found]
      simp
    · simp [other]
  · have judged : (s.heard f).cancelTicket c = (s.heard f, .tooLate) := by
      rcases states with state | state | state | state | state <;> simp only [State.cancelTicket, state]
    exact cancel judged
  · have judged : (s.heard f).cancelTicket c = (s.heard f, .state) := by
      rcases states with state | state | ⟨state | state | state, pending⟩ <;> simp [State.cancelTicket, *]
    exact cancel judged

/-! ### Groups (R131, R132) -/

theorem State.groupRing_heard (s : State) (f : From) (g : Nat) : (s.heard f).groupRing g = s.groupRing g := by
  rw [s.heard_eq f]; rfl

/-- A GROUP_LINK of an open ticket and a group number 0 to 63 is judged by `linkGroup`. -/
theorem State.Serves.groupLink {s : State} {f : From} {c : Ticket} {g : Nat} (h : s.Serves f) (low : 1 ≤ c.number)
    (high : c.number ≤ 9999) (found : s.ticket c.number = some c) (few : g ≤ 63) {u : State} {o : Answer}
    (judged : (s.heard f).linkGroup c g = (u, o)) :
    exec (.groupLink f (.fields ⟨g, c.number⟩)) s = .next (u.oweService f.source .groupLink o (some c.number)) := by
  have named : (s.heard f).named c.number = some c := State.named_some low high ((s.ticket_heard f _).trans found)
  refine (h.service _ _ _ (⟨g, c.number⟩ : GroupFields)).trans (next_congr ?_)
  rw [State.serveTicket_some named]
  simp only [few, if_true, judged]

/-- The records once a ticket has left its group. -/
theorem State.leaveGroup_eq (s : State) {t : Ticket} {g place : Nat} (group : t.group = some (g, place)) :
    s.leaveGroup t = { s with tickets := s.tickets.map (leftBy t.number g place) } := by
  simp only [State.leaveGroup, group]
  rfl

theorem State.ticket_map (s : State) {f : Ticket → Ticket} (keeps : ∀ t, (f t).number = t.number) (n : Nat) :
    ({ s with tickets := s.tickets.map f } : State).ticket n = (s.ticket n).map f := by
  simp only [State.ticket, List.find?_map]
  congr 2
  funext t
  simp [keeps t]

/-- Settles O25: each case of `linkGroup`, and the places of a ring that a ticket leaves. -/
theorem groupsHoldFourInARing : Obligations.GroupsHoldFourInARing := by
  intro s f c g serves low high found few
  have heard (m) : (s.heard f).ticket m = s.ticket m := s.ticket_heard f m
  have link {u o} := serves.groupLink low high found few (u := u) (o := o)
  have ring := s.groupRing_heard f g
  refine ⟨fun some alone room => link ?_, fun some alone full => link ?_, fun states => link ?_, fun h place zero group => ?_⟩
  · obtain ⟨g, rfl⟩ := Nat.exists_eq_add_of_le' some
    simp only [State.linkGroup, alone, ring, Config.maxGroup]
    rw [if_neg (by omega)]
  · obtain ⟨g, rfl⟩ := Nat.exists_eq_add_of_le' some
    simp only [State.linkGroup, alone, ring, Config.maxGroup]
    rw [if_pos full]
  · rcases states with ⟨some, grouped⟩ | ⟨rfl, alone⟩
    · obtain ⟨g, rfl⟩ := Nat.exists_eq_add_of_le' some
      obtain ⟨ring, grouped⟩ := Option.ne_none_iff_exists'.mp grouped
      simp only [State.linkGroup, grouped]
    · simp only [State.linkGroup, alone]
  · subst zero
    have judged : (s.heard f).linkGroup c 0 = ((s.heard f).leaveGroup c, .done) := by simp only [State.linkGroup, group]
    rw [(s.heard f).leaveGroup_eq group] at judged
    have left (n) := (State.ticket_map (s.heard f) (leftBy_number c.number h place) n).trans (congrArg _ (heard n))
    refine ⟨_, link judged, ?_, (left _).trans ?_, fun n k p other found' group' => (left n).trans ?_, s.heard_stalls f,
      s.heard_dispatch f, s.heard_calls f, s.heard_events f⟩
    · exact (s.heard_keepsSetup f).trans (State.oweService_keepsSetup { s.heard f with tickets := _ } _ _ _ _ _)
    · rw [found, Option.map_some, leftBy, if_pos rfl]
    · have number := State.ticket_number found'
      rw [found', Option.map_some, leftBy, if_neg (by omega)]
      simp only [group', true_and]
      split <;> simp [← group']

/-- In a list with each key once, an element is found by its key. -/
theorem find?_key {α : Type} (key : α → Nat) {l : List α} (once : (l.map key).Nodup) {a : α} (mem : a ∈ l) :
    l.find? (fun x => key x == key a) = some a := by
  induction l with
  | nil => cases mem
  | cons x xs ih =>
    obtain ⟨fresh, once⟩ := List.nodup_cons.mp once
    rcases List.mem_cons.mp mem with rfl | mem
    · simp
    · have other : key x ≠ key a := fun same => fresh (same ▸ List.mem_map_of_mem mem)
      rw [List.find?_cons_of_neg (by simpa using other), ih once mem]

/-! ### Service replies (R43, R45, R49, R129, R132, R139) -/

/-- Settles O26: QUOTE_ASK does no work, and `replyFields` builds each kind and outcome. -/
theorem quoteAskChangesOnlyTheReply : Obligations.QuoteAskChangesOnlyTheReply := by
  have built {s : State} {slot : ServiceSlot} {n : Nat} {c : Ticket} (slotted : slot.ticket = some n)
      (found : s.ticket n = some c) : s.buildService slot = s.replyFields (slotReply slot) c := by
    simp only [State.buildService, slotted, Option.bind_some, found]
  have closed {s : State} {slot : ServiceSlot} (gone : ∀ n, slot.ticket = some n → s.ticket n = none) :
      s.buildService slot = slotReply slot := by
    have unbound : slot.ticket.bind s.ticket = none := Option.bind_eq_none_iff.mpr gone
    simp only [State.buildService, unbound]
  refine ⟨fun s f n serves => ?_, fun s n slot c kind done slotted found => ?_, fun s n slot kind done slotted gone => ?_,
    fun s slot => ⟨closed, fun n c slotted found => ?_, fun plain => ?_⟩⟩
  · refine (serves.service _ _ _ n).trans (next_congr ?_)
    unfold State.serveTicket State.named
    rw [s.ticket_heard f n]
    by_cases fits : 1 ≤ n ∧ n ≤ 9999
    · cases found : s.ticket n <;> simp [fits, Config.maxTicketNumber]
    · rw [if_neg fits, if_neg fun all => fits ⟨all.1, all.2.1⟩]
  · rw [built slotted found]
    simp only [State.replyFields, slotReply, kind, done, slotted, true_and]
    intro unplaced
    simp only [State.quote, State.quoteAt, unplaced]
  · rw [closed fun m same => by rw [← Option.some.inj (slotted.symm.trans same), gone]]
    exact ⟨done, slotted, rfl, rfl, rfl⟩
  · rw [built slotted found]
    refine ⟨fun kind done => ?_, fun kind later => ?_, fun kind done => ?_, fun kind already => ?_,
      fun e kind done scheduled once mem own => ?_, fun kind done other => ?_, fun kind already => ?_, fun kind => ?_,
      fun kind done => ?_⟩
    · simp only [State.replyFields, slotReply, kind, done]
      rfl
    · simp only [State.replyFields, slotReply, kind, later]
    · simp only [State.replyFields, slotReply, kind, done]
    · simp only [State.replyFields, slotReply, kind, already]
    · have entry : s.entryOf c.number = some e := by
        have number := State.ticket_number found
        rw [State.entryOf, number, ← own]
        exact find?_key (·.ticket) once mem
      simp only [State.replyFields, slotReply, kind, done, scheduled, if_true, entry, Option.map_some]
    · simp only [State.replyFields, slotReply, kind, done, other, if_false]
    · simp only [State.replyFields, slotReply, kind, already]
    · simp only [State.replyFields, slotReply, kind]
    · simp only [State.replyFields, slotReply, kind, done]
  · cases found : slot.ticket.bind s.ticket with
    | none => exact closed (Option.bind_eq_none_iff.mp found)
    | some c =>
      obtain ⟨n, slotted, found⟩ := Option.bind_eq_some_iff.mp found
      rw [built slotted found]
      rcases plain with kind | ⟨kind, done, later, already⟩
      · simp only [State.replyFields, slotReply, kind]
      · unfold State.replyFields
        split
        all_goals simp_all [slotReply]

end Sys2Proof.Machine
end

section
/-! PROOFS of O27: quotes and estimates. -/

namespace Sys2Proof.Machine

open Sys2Proof

/-! ### Arithmetic (R137, R141) -/

/-- A quotient rounded up is the least number of whole parts that cover the amount. -/
theorem divUp_eq {a b q : Nat} (covers : a ≤ b * q) (least : b * q < a + b) : divUp a b = q := by
  have positive : 0 < b := by
    rcases Nat.eq_zero_or_pos b with rfl | h
    · omega
    · exact h
  exact Nat.div_eq_of_lt_le (by rw [Nat.mul_comm]; omega) (by rw [Nat.mul_comm, Nat.mul_add]; omega)

theorem minutesOf_eq {seconds minutes : Nat} (covers : seconds ≤ 60 * minutes) (least : 60 * minutes < seconds + 60) :
    minutesOf seconds = max 1 (min 99 minutes) := by
  rw [minutesOf, divUp_eq covers least]

theorem minutesOf_fits (seconds : Nat) : 1 ≤ minutesOf seconds ∧ minutesOf seconds ≤ 99 := by
  unfold minutesOf
  omega

theorem fedEstimate_eq {old sample : Nat} (high : old ≤ 900) :
    (fedEstimate old sample : Int) = max 1 (min 900 ((old : Int) + Int.tdiv ((sample : Int) - old) 8)) := by
  have quotient : Int.tdiv ((sample : Int) - old) 8 =
      if old ≤ sample then (((sample - old) / 8 : Nat) : Int) else -(((old - sample) / 8 : Nat) : Int) := by
    split
    next above =>
      rw [← Int.natCast_sub above]
      rfl
    next below =>
      rw [← neg_sub, ← Int.natCast_sub (by omega : sample ≤ old), Int.neg_tdiv]
      rfl
  rw [quotient, fedEstimate]
  split <;> omega

theorem fedEstimate_near {old sample : Nat} (low : 1 ≤ old) (high : old ≤ 900) (above : sample ≤ old + 7) (below : old ≤ sample + 7) :
    fedEstimate old sample = old := by
  unfold fedEstimate
  dsimp only
  split <;> omega

/-! ### The quote by the ticket's state (R135) -/

theorem State.quoteAt_bounds (s : State) (t : Ticket) (age : SiteTime) :
    (s.quoteAt t age = none ↔ t.state = .unplaced) ∧ ∀ m, s.quoteAt t age = some m → 1 ≤ m ∧ m ≤ 99 := by
  have seconds {n m : Nat} (h : some (minutesOf n) = some m) : 1 ≤ m ∧ m ≤ 99 := Option.some.inj h ▸ minutesOf_fits n
  unfold State.quoteAt
  cases t.state
  case unplaced => exact ⟨by simp, nofun⟩
  case atCurb => exact ⟨by simp, fun m h => by have := Option.some.inj h; omega⟩
  all_goals exact ⟨by simp, fun m h => seconds h⟩

/-! ### The tasks ahead (R136) -/

theorem State.othersInQueue_eq (s : State) (n : Nat) :
    s.othersInQueue n = s.dispatch.tasks.filter fun v => v.ticket != n && v.inQueue := by
  simp only [State.othersInQueue, Bool.and_comm]

/-- The BACKLOG tasks ahead are those of the tickets called earlier, the lower number first at one time. -/
theorem State.backlogAhead_eq (s : State) (n : Nat) (time : SiteTime) :
    s.backlogAhead n time = (s.dispatch.tasks.filter fun v => v.place == .backlog && v.kind == .fetch && v.ticket != n &&
      ((s.ticket v.ticket).bind (·.calledAt)).any fun x => x.before time || (x == time && v.ticket < n)).length := by
  rw [State.backlogAhead, List.countP_eq_length_filter]
  congr 2
  funext v
  cases (s.ticket v.ticket).bind (·.calledAt) <;> rfl

/-! ### The quote stall (R135) -/

theorem Ticket.quoteStall_some {c : Ticket} {k : Nat}
    (h : c.stall = some k ∨ c.stall = none ∧ c.state = .restaging ∧ c.target = some k) : c.quoteStall = some k := by
  unfold Ticket.quoteStall
  rcases h with stall | ⟨stall, state, target⟩
  · rw [stall]
  · simp only [stall, state, target, if_true]

theorem Ticket.quoteStall_none {c : Ticket} (stall : c.stall = none) (h : c.state ≠ .restaging ∨ c.target = none) :
    c.quoteStall = none := by
  simp only [Ticket.quoteStall, stall]
  split
  next state => exact h.resolve_left fun other => other state
  · rfl

/-- Settles O27: each clause by the definition of the quote that it restates, and the arithmetic of rounding. -/
theorem quotesAndEstimatesStayInBounds : Obligations.QuotesAndEstimatesStayInBounds := by
  refine ⟨State.quoteAt_bounds, fun s c age wait seconds minutes states sum covers least => ?_, fun s c age => ⟨fun state => ?_,
    fun minutes states covers least => ?_⟩, fun s c age ready active rounds readyEq activeEq => ?_, fun s c age => ?_,
    fun s w c found => ?_, fun s c => ?_, fun old sample low high => ⟨fedEstimate_eq high, fedEstimate_near low high⟩⟩
  · have full : s.fullSeconds c wait = seconds := sum.symm
    rw [← minutesOf_eq covers least, ← full]
    rcases states with ⟨state | state | state | state | state | state, rfl⟩ | ⟨state, rfl⟩ <;>
      simp only [State.quoteAt, state]
  · simp only [State.quoteAt, state]
  · rw [← minutesOf_eq covers least]
    rcases states with state | state | state <;> simp only [State.quoteAt, state]
  · have readyEq : s.readyRunners = ready := by rw [readyEq, State.readyRunners, List.countP_eq_length_filter]; rfl
    have activeEq : s.activeRunners = active := by rw [activeEq, State.activeRunners, List.countP_eq_length_filter]; rfl
    simp only [State.runnerWait, readyEq, activeEq]
    refine ⟨fun few => if_pos few, fun many covers least => ?_⟩
    rw [if_neg (by omega), divUp_eq (q := rounds) (by omega) (by omega)]
  · intro others called backlog
    have othersEq : s.othersInQueue c.number = others := s.othersInQueue_eq c.number
    have backlogEq : s.backlogAhead c.number called = backlog := s.backlogAhead_eq c.number called
    have behind (priority : Nat) (age : SiteTime) (n : Nat) : others.countP (fun k => rankBefore (s.rank k) (priority, age, n)) =
        (others.filter fun v => s.standsBefore v priority age n).length := List.countP_eq_length_filter
    refine ⟨fun w own kind place => ?_, fun w own kind place => ?_, fun none => ?_⟩
    · have number : w.ticket = c.number := by simpa using List.find?_some own
      rw [State.tasksAhead, othersEq, backlogEq]
      rcases place with place | ⟨b, place⟩ <;> simp only [own, kind, place, State.rank, number] <;>
        exact congrArg (· + backlog) (behind _ _ _)
    · rw [State.tasksAhead, othersEq, backlogEq]
      simp only [own, kind, place]
    · rw [State.tasksAhead, othersEq, backlogEq]
      refine Eq.trans ?_ (congrArg (· + backlog) (behind (min 7 (3 + c.tier.num)) age c.number))
      cases own : s.task c.number with
      | none => rfl
      | some w =>
        have other := none w own
        cases kind : w.kind
        case fetch => exact absurd kind other
        all_goals
          simp only [kind]
          rfl
  · have number : s.tierOf w.ticket = c.tier.num := by simp only [State.tierOf, found]
    rw [State.priority, number, State.agingSteps, secondsSince]
    cases w.kind <;> cases c.tier <;> rfl
  · intro tenures rides
    have lift {l : Nat} (quoted : s.quoteLift c = l) : s.liftPart c = if l = 0 then 0 else rides l := by
      cases l with
      | zero => simp only [State.liftPart, quoted, if_true]
      | succ l =>
        simp only [State.liftPart, quoted, Nat.succ_ne_zero, if_false, List.countP_eq_length_filter]
        rfl
    refine ⟨fun k site named loaded => ?_, fun stall other => ?_⟩
    · have quoted : s.quoteSite c = some site := by
        rw [State.quoteSite, Ticket.quoteStall_some named, Option.bind_some, loaded]
      exact ⟨by rw [State.quoteWalk, quoted]; rfl, lift (by rw [State.quoteLift, quoted])⟩
    · have unquoted : s.quoteSite c = none := by rw [State.quoteSite, Ticket.quoteStall_none stall other, Option.bind_none]
      exact ⟨by rw [State.quoteWalk, unquoted]; rfl, lift (by rw [State.quoteLift, unquoted])⟩

end Sys2Proof.Machine
end

section
/-! SUPPORT for the obligations about runners: runner frames, and what a pairing does (R91 to R93). -/

namespace Sys2Proof.Machine

open Sys2Proof

/-! ### Runner frames (R85, R86, R99) -/

section

variable {s : State} {f : From} {b : Nat}

/-- A frame for a badge of a runner base that is heard is taken, and its outcome owed to the badge. -/
theorem State.Carries.frame (h : s.Carries f b) (kind : RunnerFrameKind) (n : Option Nat) {k : State → State × Answer}
    {u : State} {o : Answer} (taken : k (s.heard f) = (u, o)) :
    (.next (s.onFrame f fun s => s.runnerFrame f.source b kind n k) : Host.Outcome State Fault Refusal) =
      .next (u.oweRunner b kind o n) := by
  obtain ⟨hears, base, low, high⟩ := h
  refine (State.exec_onFrame_heard hears _).trans (next_congr ?_)
  rw [State.runnerFrame_heard hears, if_pos ⟨base, low, high⟩, taken]

/-- A RUNNER_STATUS with a level 0 to 7 is judged by the runner's state. -/
theorem State.Carries.status (h : s.Carries f b) {level : Nat} (fits : level < 8) {k : State → State × Answer} {u : State}
    {o : Answer} (taken : k (s.heard f) = (u, o)) :
    (.next (s.runnerStatus f b level k) : Host.Outcome State Fault Refusal) = .next (u.oweRunner b .runnerStatus o none) :=
  h.frame _ _ (by rw [if_pos fits, taken])

theorem State.Carries.status_range (h : s.Carries f b) {level : Nat} (misfit : 8 ≤ level) {k : State → State × Answer} :
    (.next (s.runnerStatus f b level k) : Host.Outcome State Fault Refusal) =
      .next ((s.heard f).oweRunner b .runnerStatus .range none) :=
  h.frame _ _ (by rw [if_neg (by omega)])

end

/-! ### Runner records written twice -/

theorem setNth1_setNth1 {α : Type} {n : Nat} (v : Vector α n) (i : Nat) (x y : α) :
    setNth1 (setNth1 v i x) i y = setNth1 v i y := by
  cases i with
  | zero => rfl
  | succ i =>
    refine Vector.ext fun j fits => ?_
    simp only [setNth1, setNth, Vector.getElem_setIfInBounds]
    split <;> rfl

@[simp] theorem State.setRunner_setRunner (s : State) (b : Nat) (x y : Runner) :
    (s.setRunner b x).setRunner b y = s.setRunner b y := by
  simp only [State.setRunner, setNth1_setNth1]

/-! ### Orders (R28, R33, R90, R92, R180) -/

/-- A site time as a point of the lexicographic order of days and tenths. -/
def SiteTime.key (t : SiteTime) : ℕ ×ₗ ℕ := toLex (t.day, t.tenth)

theorem SiteTime.key_injective : Function.Injective SiteTime.key := fun a b h => by
  cases a; cases b
  simpa [SiteTime.key] using h

theorem SiteTime.before_iff (a b : SiteTime) : a.before b = true ↔ a.key < b.key := by
  simp [SiteTime.before, SiteTime.key, Prod.Lex.toLex_lt_toLex]

/-- What `earlier` compares: the time, then the number. -/
def earlierKey (a : SiteTime × Nat) : (ℕ ×ₗ ℕ) ×ₗ ℕ := toLex (a.1.key, a.2)

theorem earlier_iff (a b : SiteTime × Nat) : earlier a b = true ↔ earlierKey a < earlierKey b := by
  simp [earlier, earlierKey, Prod.Lex.toLex_lt_toLex, SiteTime.before_iff, SiteTime.key_injective.eq_iff]

theorem firstBy_mem {α : Type} {before : α → α → Bool} {xs : List α} {m : α} (found : firstBy before xs = some m) : m ∈ xs := by
  induction xs generalizing m with
  | nil => cases found
  | cons x xs ih =>
    unfold firstBy at found
    split at found
    · exact Option.some.inj found ▸ List.mem_cons_self
    next y later =>
      split at found
      · exact Option.some.inj found ▸ List.mem_cons_of_mem _ (ih later)
      · exact Option.some.inj found ▸ List.mem_cons_self

section

variable {α β : Type} [LinearOrder β] {before : α → α → Bool} {key : α → β} (hkey : ∀ a b, before a b = true ↔ key a < key b)
include hkey

/-- The one element of the least key is the first. -/
theorem firstBy_eq {xs : List α} {b : α} (mem : b ∈ xs) (least : ∀ d ∈ xs, d ≠ b → key b < key d) :
    firstBy before xs = some b := by
  cases found : firstBy before xs with
  | none => exact absurd mem (by simp [firstBy_eq_none_iff.mp found])
  | some m =>
    obtain ⟨mem', least'⟩ := firstBy_least hkey found
    by_contra other
    exact absurd (least' b mem) (not_le.mpr (least m mem' fun same => other (congrArg some same)))

theorem insertBy_sorted {x : α} {l : List α} (sorted : l.Pairwise (key · ≤ key ·)) :
    (insertBy before x l).Pairwise (key · ≤ key ·) := by
  induction l with
  | nil => simp [insertBy]
  | cons y ys ih =>
    obtain ⟨first, sorted⟩ := List.pairwise_cons.mp sorted
    unfold insertBy
    split
    next less =>
      have below := ((hkey _ _).mp less).le
      exact List.pairwise_cons.mpr ⟨List.forall_mem_cons.mpr ⟨below, fun z mem => below.trans (first z mem)⟩,
        List.pairwise_cons.mpr ⟨first, sorted⟩⟩
    next notLess =>
      have below := not_lt.mp fun less => notLess ((hkey _ _).mpr less)
      refine List.pairwise_cons.mpr ⟨fun z mem => ?_, ih sorted⟩
      rcases List.mem_cons.mp ((insertBy_perm before x ys).mem_iff.mp mem) with rfl | mem
      · exact below
      · exact first z mem

theorem sortBy_sorted (l : List α) : (sortBy before l).Pairwise (key · ≤ key ·) := by
  unfold sortBy
  have from_ (l acc : List α) (sorted : acc.Pairwise (key · ≤ key ·)) :
      (l.foldl (fun acc x => insertBy before x acc) acc).Pairwise (key · ≤ key ·) := by
    induction l generalizing acc with
    | nil => exact sorted
    | cons x xs ih => exact ih _ (insertBy_sorted hkey sorted)
  exact from_ l [] List.Pairwise.nil

/-- The one element of the least key comes first in the sorted list. -/
theorem sortBy_eq_cons {l : List α} {w : α} (mem : w ∈ l) (least : ∀ v ∈ l, v = w ∨ key w < key v) :
    ∃ rest, sortBy before l = w :: rest := by
  have sorted := sortBy_sorted hkey l
  have perm := sortBy_perm before l
  cases found : sortBy before l with
  | nil => exact absurd (perm.mem_iff.mpr mem) (by simp [found])
  | cons v rest =>
    rw [found] at sorted perm
    rcases least v (perm.mem_iff.mp List.mem_cons_self) with rfl | less
    · exact ⟨rest, rfl⟩
    · rcases List.mem_cons.mp (perm.mem_iff.mpr mem) with rfl | mem
      · exact ⟨rest, rfl⟩
      · exact absurd ((List.pairwise_cons.mp sorted).1 w mem) (not_le.mpr less)

end

/-- What R90 compares of a rank: the higher priority first, then the age and the number. -/
def rankKey (a : Nat × SiteTime × Nat) : ℕᵒᵈ ×ₗ (ℕ ×ₗ ℕ) ×ₗ ℕ := toLex (OrderDual.toDual a.1, earlierKey a.2)

theorem rankBefore_iff (a b : Nat × SiteTime × Nat) : rankBefore a b = true ↔ rankKey a < rankKey b := by
  simp [rankBefore, rankKey, Prod.Lex.toLex_lt_toLex, earlier_iff]

/-- What R92 compares of a runner: the distance, then the time since which he is READY and the badge. -/
def State.runnerKey (s : State) (level b : Nat) : ℕ ×ₗ (ℕ ×ₗ ℕ) ×ₗ ℕ :=
  toLex (distance (s.runner b).level level, earlierKey ((s.runner b).readySince, b))

theorem State.runnerBefore_iff (s : State) (level a b : Nat) :
    s.runnerBefore level a b = true ↔ s.runnerKey level a < s.runnerKey level b := by
  simp [State.runnerBefore, State.runnerKey, Prod.Lex.toLex_lt_toLex, earlier_iff]

/-! ### A pairing (R91 to R93) -/

/-- A task queue of which no task is QUEUED gives a pairing nothing to do. -/
theorem State.pair_of_noneQueued {s : State} (none : s.NoneQueued) : s.pair = s := by
  have empty : s.dispatch.tasks.filter (·.place == .queued) = [] := by
    simpa [State.NoneQueued] using none
  rw [State.pair, State.queueOrder, empty]
  rfl

theorem State.offerable_iff (s : State) (b : Nat) : s.offerable b = true ↔
    (s.runner b).state = .ready ∧ ∀ a, (s.runner b).base = some a → (s.station a).presence ≠ .absent := by
  unfold State.offerable State.baseAbsent
  cases (s.runner b).base <;> simp

theorem State.mayBeOffered_iff (s : State) (declined : List Nat) (b : Nat) :
    s.mayBeOffered declined b ↔ b ∈ badges.filter fun b => s.offerable b && !declined.contains b := by
  simp only [State.mayBeOffered, List.mem_filter, mem_badges, Bool.and_eq_true, s.offerable_iff, Config.runnerCount,
    Bool.not_eq_true', List.contains_eq_mem, decide_eq_false_iff_not]
  tauto

theorem State.any_offerable (s : State) : badges.any s.offerable = true ↔ ∃ b, s.mayBeOffered [] b := by
  simp only [List.any_eq_true, s.mayBeOffered_iff, List.mem_filter]
  simp

/-- Without a runner that may be offered a task, a pairing does nothing. -/
theorem State.pairTask_of_noRunner {s : State} (none : ∀ b, ¬ s.mayBeOffered [] b) (n : Nat) : s.pairTask n = s := by
  have closed : ¬ badges.any s.offerable = true := fun h => (s.any_offerable.mp h).elim none
  rw [State.pairTask, if_neg closed]

theorem State.pairTasks_of_noRunner {s : State} (none : ∀ b, ¬ s.mayBeOffered [] b) (ns : List Nat) :
    forEach ns (fun n s => s.pairTask n) s = s :=
  forEach_keeps (· = s) _ _ s (fun n _ same => by rw [same, State.pairTask_of_noRunner none]) rfl

theorem State.pair_of_noRunner {s : State} (none : ∀ b, ¬ s.mayBeOffered [] b) : s.pair = s :=
  State.pairTasks_of_noRunner none _

/-- No runner READY, none to offer to. -/
theorem State.pair_of_noneReady {s : State} (none : ∀ b, (s.runner b).state ≠ .ready) : s.pair = s :=
  State.pair_of_noRunner fun b ⟨_, _, ready, _⟩ => none b ready

/-- A pairing of one QUEUED task is that task's turn. -/
theorem State.pair_of_one {s : State} {w : Task} (one : s.dispatch.tasks.filter (·.place == .queued) = [w]) :
    s.pair = s.pairTask w.ticket := by
  rw [State.pair, State.queueOrder, one]
  rfl

theorem State.startLevel_of {s : State} {w : Task} {level : Nat} (starts : s.StartsAt w level) : s.startLevel w = level := by
  rcases starts with ⟨kind, rfl⟩ | ⟨kind, c, found, ⟨k, site, stall, loaded, rfl⟩ | ⟨fetch, stall, rfl⟩ |
    ⟨restage, stall, k, site, target, loaded, rfl⟩⟩
  · simp only [State.startLevel, kind]
  · cases h : w.kind
    · exact absurd h kind
    all_goals simp [State.startLevel, h, found, stall, loaded]
  · simp [State.startLevel, fetch, found, stall]
  · simp [State.startLevel, restage, found, stall, target, loaded]

theorem State.modifyTask_congr {s : State} {n : Nat} {f g : Task → Task} (same : ∀ v ∈ s.dispatch.tasks, v.ticket = n → f v = g v) :
    s.modifyTask n f = s.modifyTask n g := by
  simp only [State.modifyTask]
  congr 2
  refine List.map_congr_left fun v mem => ?_
  split
  next own => exact same v mem own
  · rfl

theorem State.modifyTask_same {s : State} {n : Nat} {f : Task → Task} (same : ∀ v ∈ s.dispatch.tasks, v.ticket = n → f v = v) :
    s.modifyTask n f = s := by
  rw [State.modifyTask_congr (g := id) same]
  simp [State.modifyTask]

theorem State.modifyTask_modifyTask (s : State) (n : Nat) (f g : Task → Task)
    (keeps : ∀ v, (f v).ticket = v.ticket := by exact fun _ => rfl) :
    (s.modifyTask n f).modifyTask n g = s.modifyTask n fun v => g (f v) := by
  simp only [State.modifyTask, List.map_map]
  congr 2
  refine List.map_congr_left fun v _ => ?_
  by_cases own : v.ticket = n <;> simp [own, keeps]

theorem eq_of_key {α : Type} {key : α → Nat} {l : List α} (once : (l.map key).Nodup) {a b : α} (memA : a ∈ l) (memB : b ∈ l)
    (same : key a = key b) : a = b := by
  have found := find?_key key once memA
  rw [same, find?_key key once memB] at found
  exact (Option.some.inj found).symm

theorem State.task_of_mem {s : State} {w : Task} (once : s.taskTickets.Nodup) (mem : w ∈ s.dispatch.tasks) :
    s.task w.ticket = some w := find?_key Task.ticket once mem

/-- A task's turn in a pairing with a runner that may be offered one: its declined set is read, and the task is offered to
the runner chosen. -/
theorem State.pairTask_eq {s : State} {w : Task} (once : s.taskTickets.Nodup) (mem : w ∈ s.dispatch.tasks)
    (some_ : ∃ b, s.mayBeOffered [] b) :
    s.pairTask w.ticket = match s.chooseRunner { w with declined := s.declinedNow w } with
      | none => s.modifyTask w.ticket fun v => { v with declined := s.declinedNow w }
      | some b => s.withOffer w b := by
  have alone {v} (h : v ∈ s.dispatch.tasks) (same : v.ticket = w.ticket) : v = w := eq_of_key once h mem same
  rw [State.pairTask, if_pos (s.any_offerable.mpr some_), State.task_of_mem once mem]
  dsimp only
  by_cases declined : s.allDeclined w = true
  · have now : s.declinedNow w = [] := if_pos declined
    have choice : (s.modifyTask w.ticket fun v => { v with declined := [] }).chooseRunner { w with declined := [] } =
      s.chooseRunner { w with declined := [] } := rfl
    rw [if_pos declined, if_pos declined, choice, now]
    cases s.chooseRunner { w with declined := [] } with
    | none => rfl
    | some b =>
      show State.offer _ _ b = s.withOffer w b
      rw [State.withOffer, State.offer, State.modifyTask_modifyTask _ _ fun v => { v with declined := [] }, now]
      rfl
  · have now : s.declinedNow w = w.declined := if_neg declined
    rw [if_neg declined, if_neg declined, now]
    cases s.chooseRunner w with
    | none => exact (State.modifyTask_same fun v h same => by rw [alone h same]).symm
    | some b =>
      show s.offer w b = s.withOffer w b
      rw [State.withOffer, State.offer, now,
        State.modifyTask_congr (f := fun v => { v with place := .offered b })
          (g := fun v => { v with place := .offered b, declined := w.declined }) fun v h same => by rw [alone h same]]
      rfl

/-- The task goes to the nearest of the runners that may be offered it. -/
theorem State.chooseRunner_nearest {s : State} {w : Task} {declined : List Nat} {level b : Nat} (starts : s.startLevel w = level)
    (nearest : s.NearestRunner declined level b) : s.chooseRunner { w with declined := declined } = some b := by
  obtain ⟨may, least⟩ := nearest
  have start : s.startLevel { w with declined := declined } = level := starts
  rw [State.chooseRunner, start]
  refine firstBy_eq (s.runnerBefore_iff level) ((s.mayBeOffered_iff declined b).mp may) fun d mem other => ?_
  have nearer := least d ((s.mayBeOffered_iff declined d).mpr mem)
  simp only [State.runnerKey, earlierKey, Prod.Lex.toLex_lt_toLex, ← SiteTime.before_iff, SiteTime.key_injective.eq_iff]
  have strict : b ≤ d → b < d := fun le => lt_of_le_of_ne le (Ne.symm other)
  tauto

theorem State.chooseRunner_none {s : State} {w : Task} {declined : List Nat} (none : ∀ b, ¬ s.mayBeOffered declined b) :
    s.chooseRunner { w with declined := declined } = Option.none := by
  rw [State.chooseRunner, firstBy_eq_none_iff, List.eq_nil_iff_forall_not_mem]
  exact fun b mem => none b ((s.mayBeOffered_iff declined b).mpr mem)

/-- What `mayBeOffered` reads of a declined set. -/
theorem State.mayBeOffered_nil {s : State} {declined : List Nat} {b : Nat} :
    s.mayBeOffered declined b ↔ s.mayBeOffered [] b ∧ b ∉ declined := by
  simp only [State.mayBeOffered, List.not_mem_nil, not_false_eq_true, true_and]
  tauto

/-- A pairing of one QUEUED task with a nearest runner offers it to him (R92, R93). -/
theorem State.pair_offers {s : State} {w : Task} {level b : Nat} (once : s.taskTickets.Nodup)
    (one : s.dispatch.tasks.filter (·.place == .queued) = [w]) (starts : s.StartsAt w level)
    (nearest : s.NearestRunner (s.declinedNow w) level b) : s.pair = s.withOffer w b := by
  have mem : w ∈ s.dispatch.tasks := List.mem_of_mem_filter (one ▸ List.mem_singleton_self w)
  rw [State.pair_of_one one, State.pairTask_eq once mem ⟨b, (State.mayBeOffered_nil.mp nearest.1).1⟩,
    State.chooseRunner_nearest (State.startLevel_of starts) nearest]

/-- A pairing of one QUEUED task that no runner may be offered at most stores the emptied declined set (R91). -/
theorem State.pair_of_refused {s : State} {w : Task} (once : s.taskTickets.Nodup)
    (one : s.dispatch.tasks.filter (·.place == .queued) = [w]) (none : ∀ b, ¬ s.mayBeOffered (s.declinedNow w) b) :
    s.pair = s ∨ s.pair = s.modifyTask w.ticket fun v => { v with declined := s.declinedNow w } := by
  have mem : w ∈ s.dispatch.tasks := List.mem_of_mem_filter (one ▸ List.mem_singleton_self w)
  rw [State.pair_of_one one]
  by_cases some_ : ∃ b, s.mayBeOffered [] b
  · rw [State.pairTask_eq once mem some_, State.chooseRunner_none none]
    exact .inr rfl
  · exact .inl (State.pairTask_of_noRunner (not_exists.mp some_) _)

/-- With one runner that may be offered a task, a pairing offers him the task first in the queue and no other (R90, R91). -/
theorem State.pair_offers_first {s : State} {w : Task} {b : Nat} (once : s.taskTickets.Nodup) (mem : w ∈ s.dispatch.tasks)
    (queued : w.place = .queued) (may : s.mayBeOffered [] b) (only : ∀ d, s.mayBeOffered [] d → d = b) (open_ : b ∉ w.declined)
    (first : ∀ v ∈ s.dispatch.tasks, v.place = .queued → v = w ∨ s.standsBefore w (s.priority v) v.age v.ticket = true) :
    s.pair = s.withOffer w b := by
  obtain ⟨low, high, ready, -⟩ := id may
  obtain ⟨rest, order⟩ : ∃ rest, s.queueOrder = w :: rest :=
    sortBy_eq_cons (fun a b => rankBefore_iff (s.rank a) (s.rank b)) (List.mem_filter.mpr ⟨mem, by simp [queued]⟩) fun v h => by
      obtain ⟨mem, queued⟩ := List.mem_filter.mp h
      exact (first v mem (by simpa using queued)).imp_right (rankBefore_iff _ _).mp
  have declined : s.declinedNow w = w.declined := by
    refine if_neg fun all => ?_
    have judged := List.all_eq_true.mp all b (mem_badges.mpr ⟨low, high⟩)
    simp [Runner.onDuty, ready, open_] at judged
  have nearest : s.NearestRunner (s.declinedNow w) (s.startLevel w) b := by
    rw [declined]
    refine ⟨State.mayBeOffered_nil.mpr ⟨may, open_⟩, fun d h => ?_⟩
    rw [only d (State.mayBeOffered_nil.mp h).1]
    exact .inr ⟨rfl, .inr ⟨rfl, le_rfl⟩⟩
  have offered : s.pairTask w.ticket = s.withOffer w b := by
    rw [State.pairTask_eq once mem ⟨b, may⟩, State.chooseRunner_nearest rfl nearest]
  have taken (d : Nat) : ¬ (s.withOffer w b).mayBeOffered [] d := by
    rintro ⟨low', high', ready', -, base⟩
    by_cases same : d = b
    · subst same
      rw [State.withOffer, State.runner_setRunner_same _ _ _ low high] at ready'
      cases ready'
    · rw [State.withOffer, State.runner_setRunner_ne _ _ _ _ (Ne.symm same)] at ready' base
      exact same (only d ⟨low', high', ready', List.not_mem_nil, base⟩)
  rw [State.pair, order, List.map_cons]
  exact (congrArg (forEach _ _) offered).trans (State.pairTasks_of_noRunner taken _)

/-- Of the records, of which none met the condition, the changed one alone does. -/
theorem filter_changed {α : Type} {key : α → Nat} {l : List α} (once : (l.map key).Nodup) {w : α} (mem : w ∈ l) {f : α → α}
    {p : α → Bool} (none : ∀ v ∈ l, p v = false) (holds : p (f w) = true) :
    (l.map fun v => if key v = key w then f v else v).filter p = [f w] := by
  induction l with
  | nil => cases mem
  | cons x xs ih =>
    obtain ⟨fresh, once⟩ := List.nodup_cons.mp once
    have later := fun v h => none v (List.mem_cons_of_mem _ h)
    rw [List.map_cons]
    rcases List.mem_cons.mp mem with rfl | mem
    · have same : xs.map (fun v => if key v = key w then f v else v) = xs := by
        conv => rhs; rw [← List.map_id xs]
        exact List.map_congr_left fun v h => if_neg fun (same : key v = key w) => fresh (same ▸ List.mem_map_of_mem h)
      rw [if_pos rfl, same, List.filter_cons_of_pos holds, List.filter_eq_nil_iff.mpr (by simpa using later)]
    · have other : key x ≠ key w := fun same => fresh (same ▸ List.mem_map_of_mem mem)
      rw [if_neg other, List.filter_cons_of_neg (by simp [none x List.mem_cons_self]), ih once mem later]

/-- Of the tasks, of which none was QUEUED, the one that becomes QUEUED alone is. -/
theorem State.queued_edit {s : State} {w : Task} (once : s.taskTickets.Nodup) (own : s.task w.ticket = some w) (none : s.NoneQueued)
    {f : Task → Task} (queued : (f w).place = .queued) :
    (s.modifyTask w.ticket f).dispatch.tasks.filter (·.place == .queued) = [f w] :=
  filter_changed (key := Task.ticket) once (List.mem_of_find?_eq_some own)
    (fun v mem => by simpa using List.all_eq_true.mp none v mem) (by simpa using queued)

/-! ### What a pairing leaves unchanged -/

theorem State.task_edit (s : State) (n m : Nat) (f : Task → Task)
    (keeps : ∀ v, (f v).ticket = v.ticket := by exact fun _ => rfl) :
    (s.modifyTask n f).task m = (s.task m).map fun v => if m = n then f v else v := by
  simp only [State.task, State.modifyTask]
  induction s.dispatch.tasks with
  | nil => rfl
  | cons v vs ih =>
    by_cases own : v.ticket = m
    · by_cases same : m = n
      · simp [own, same, keeps]
      · simp [own, same]
    · have other : (if v.ticket = n then f v else v).ticket ≠ m := by
        split
        · rwa [keeps]
        · exact own
      simp [own, other, ih]

theorem State.task_edit_ne (s : State) {n m : Nat} (other : m ≠ n) (f : Task → Task)
    (keeps : ∀ v, (f v).ticket = v.ticket := by exact fun _ => rfl) : (s.modifyTask n f).task m = s.task m := by
  rw [s.task_edit n m f keeps]
  simp [other]

/-- The runner and the task that a pairing changes in one task's turn: a READY runner, and that task. -/
theorem State.runner_pairTask {s : State} {b : Nat} (busy : (s.runner b).state ≠ .ready) (n : Nat) :
    (s.pairTask n).runner b = s.runner b := by
  unfold State.pairTask
  split
  · split
    · rfl
    · dsimp only
      split
      · split <;> rfl
      next b' chosen =>
        have mem := (List.mem_filter.mp (firstBy_mem chosen)).2
        have ready : (s.runner b').state = .ready := by
          refine ((State.offerable_iff s b').mp ?_).1
          have offerable := ((Bool.and_eq_true _ _).mp mem).1
          revert offerable
          split <;> exact id
        have other : b' ≠ b := fun same => busy (same ▸ ready)
        refine (State.runner_setRunner_ne _ _ _ _ other).trans ?_
        split <;> rfl
  · rfl

theorem State.runner_pairTasks {s : State} {b : Nat} (busy : (s.runner b).state ≠ .ready) (ns : List Nat) :
    (forEach ns (fun n s => s.pairTask n) s).runner b = s.runner b :=
  forEach_keeps (fun t => t.runner b = s.runner b) ns _ s
    (fun n t same => (State.runner_pairTask (by rwa [same]) n).trans same) rfl

/-- A pairing leaves a runner who is not READY as he is. -/
theorem State.runner_pair {s : State} {b : Nat} (busy : (s.runner b).state ≠ .ready) : s.pair.runner b = s.runner b :=
  State.runner_pairTasks busy _

theorem State.task_pairTask_ne (s : State) {n m : Nat} (other : m ≠ n) : (s.pairTask n).task m = s.task m := by
  have emptied (p : Prop) [Decidable p] :
      (if p then s.modifyTask n fun t => { t with declined := [] } else s).task m = s.task m := by
    split
    · exact s.task_edit_ne other _
    · rfl
  unfold State.pairTask
  split
  · split
    · rfl
    next t found =>
      have number : t.ticket = n := by simpa using List.find?_some found
      dsimp only
      split
      · exact emptied _
      · refine (State.task_edit_ne _ ?_ _).trans (emptied _)
        split <;> rwa [number]
  · rfl

/-- A pairing leaves a task that is not QUEUED as it is. -/
theorem State.task_pair {s : State} {m : Nat} (busy : ∀ v ∈ s.dispatch.tasks, v.ticket = m → v.place ≠ .queued) :
    s.pair.task m = s.task m := by
  have keeps (ns : List Nat) (absent : m ∉ ns) (u : State) : (forEach ns (fun n s => s.pairTask n) u).task m = u.task m := by
    induction ns generalizing u with
    | nil => rfl
    | cons n ns ih =>
      obtain ⟨other, absent⟩ := not_or.mp (List.mem_cons.not.mp absent)
      exact (ih absent _).trans (u.task_pairTask_ne other)
  refine keeps _ (fun mem => ?_) s
  obtain ⟨v, mem, number⟩ := List.mem_map.mp mem
  obtain ⟨mem, queued⟩ := List.mem_filter.mp ((sortBy_perm _ _).mem_iff.mp mem)
  exact busy v mem number (by simpa using queued)

/-! ### What a promotion leaves unchanged (R89) -/

theorem State.runner_promote {s : State} {b : Nat} (busy : (s.runner b).state ≠ .ready) : s.promote.runner b = s.runner b := by
  unfold State.promote
  split
  · split
    · rfl
    · exact State.runner_pair busy
  · rfl

section

variable {s : State} {m : Nat} (placed : ∀ v ∈ s.dispatch.tasks, v.ticket = m → v.place ≠ .backlog)
include placed

/-- A promotion leaves the ticket of a task that is not BACKLOG as it is. -/
theorem State.ticket_promote_of : s.promote.ticket m = s.ticket m := by
  unfold State.promote
  split
  · split
    · rfl
    next t found =>
      obtain ⟨mem, backlog⟩ := List.mem_filter.mp (firstBy_mem found)
      have other : m ≠ t.ticket := fun same => placed t mem same.symm (by simpa using backlog)
      rw [State.ticket_congr (State.pair_tickets _)]
      exact State.ticket_modifyTicket_ne _ _ _ _ other fun _ => rfl
  · rfl

/-- A promotion leaves a task that is neither QUEUED nor BACKLOG as it is. -/
theorem State.task_promote_of (busy : ∀ v ∈ s.dispatch.tasks, v.ticket = m → v.place ≠ .queued) :
    s.promote.task m = s.task m := by
  unfold State.promote
  split
  · split
    · rfl
    next t found =>
      obtain ⟨mem, backlog⟩ := List.mem_filter.mp (firstBy_mem found)
      have other : m ≠ t.ticket := fun same => placed t mem same.symm (by simpa using backlog)
      refine (State.task_pair fun v mem own => ?_).trans (s.task_edit_ne other _)
      obtain ⟨v', mem', rfl⟩ := List.mem_map.mp mem
      by_cases same : v'.ticket = t.ticket
      · rw [if_pos same] at own
        exact absurd (same.symm.trans own).symm other
      · rw [if_neg same] at own ⊢
        exact busy v' mem' own
  · rfl

end

end Sys2Proof.Machine
end

section
/-! PROOFS of O28, O29, O30 and O31: status reports, answers to offers, and steps of runners who do not hold the task. -/

namespace Sys2Proof.Machine

open Sys2Proof

/-! ### Status reports (R85) -/

section

variable {s : State} {b : Nat} (low : 1 ≤ b) (high : b ≤ Config.runnerCount) (level base : Nat)

theorem State.placeRunner_setRunner (s : State) (r : Runner) : (s.placeRunner b level base).setRunner b r = s.setRunner b r :=
  State.setRunner_setRunner _ _ _ _

include low high

theorem State.runner_placeRunner : (s.placeRunner b level base).runner b = { s.runner b with level := level, base := some base } :=
  s.runner_setRunner_same b _ low high

/-- A free runner who asks READY enters READY now, which starts a pairing. -/
theorem State.askReady_free (free : (s.runner b).state = .offDuty ∨ (s.runner b).state = .onBreak ∨ (s.runner b).state = .silent) :
    s.askReady b level base = ((s.setRunner b { s.runner b with
      state := .ready, readySince := s.now, task := none, offerBy := none, level := level, base := some base }).pair, .done) := by
  rcases free with state | state | state <;>
    simp only [State.askReady, state, State.placeRunner_setRunner, State.runner_placeRunner low high, Runner.enterReady]

/-- An OFFERED runner who asks READY is owed the TASK_OFFER again. -/
theorem State.askReady_offered {n : Nat} {kind : TaskKind} (state : (s.runner b).state = .offered)
    (task : (s.runner b).task = some (n, kind)) : s.askReady b level base = (s.setRunner b { s.runner b with
      owed := some (.offer n), level := level, base := some base }, .done) := by
  simp only [State.askReady, state, task, State.placeRunner_setRunner, State.runner_placeRunner low high, Option.map_some]

/-- An OFFERED runner who leaves has his offer withdrawn, which starts a pairing. -/
theorem State.askLeave_offered {n : Nat} {kind : TaskKind} (state : (s.runner b).state = .offered)
    (task : (s.runner b).task = some (n, kind)) (x : RunnerState) : s.askLeave b level base x =
      (((s.modifyTask n fun v => { v with place := .queued }).setRunner b { s.runner b with
        state := x, task := none, offerBy := none, owed := some (.withdraw n), level := level, base := some base }).pair,
        .done) := by
  have placed := State.runner_placeRunner (s := s) low high level base
  simp only [State.askLeave, state, State.endOffer, State.returnOffer, placed, task]
  congr 2
  exact State.setRunner_setRunner (s.modifyTask n _) _ _ _

/-- A runner neither OFFERED nor TASKED leaves at once. -/
theorem State.askLeave_free (offered : (s.runner b).state ≠ .offered) (tasked : (s.runner b).state ≠ .tasked) (x : RunnerState) :
    s.askLeave b level base x =
      (s.setRunner b { s.runner b with state := x, level := level, base := some base }, .done) := by
  have placed := State.runner_placeRunner (s := s) low high level base
  cases state : (s.runner b).state
  case offered => exact absurd state offered
  case tasked => exact absurd state tasked
  all_goals simp only [State.askLeave, state, State.placeRunner_setRunner, placed]

end

theorem State.StartsAt.congr {s t : State} {w : Task} {level : Nat} (h : s.StartsAt w level) (tickets : t.tickets = s.tickets)
    (stalls : t.stalls = s.stalls) : t.StartsAt w level := by
  have ticket (n) : t.ticket n = s.ticket n := State.ticket_congr tickets n
  have stall (k) : t.stall k = s.stall k := by rw [State.stall, State.stall, stalls]
  simpa only [State.StartsAt, ticket, stall] using h

/-- Settles O28: each runner state's branch of `askReady` and `askLeave`, and the pairing that READY starts. -/
theorem statusMovesOnlyAFreeRunner : Obligations.StatusMovesOnlyAFreeRunner := by
  refine ⟨fun s f b level carries fits => ?_, fun s f b level carries => ⟨fun fits tasked => ?_, fun misfit => ?_⟩⟩
  · obtain ⟨hears, base, low, high⟩ := id carries
    have same : (s.heard f).runner b = s.runner b := s.runner_heard f b
    refine ⟨fun free none => ?_, fun free w start chosen one once starts => ?_, fun ready => ?_,
      fun n kind offered task => ⟨?_, fun alone => ?_⟩, fun offered tasked => ?_, ?_⟩
    · refine carries.status fits ((State.askReady_free low high level f.source (by rwa [same])).trans ?_)
      rw [same, s.now_heard f, State.pair_of_noneQueued (by simpa [State.NoneQueued, State.setRunner] using none)]
    · intro entered nearest
      have tasks : entered.dispatch.tasks = s.dispatch.tasks := by
        rw [← s.heard_dispatch f]
        rfl
      refine carries.status fits ((State.askReady_free low high level f.source (by rwa [same])).trans ?_)
      rw [same, s.now_heard f]
      refine congrArg (·, _) (State.pair_offers (s := entered) ?_ ?_ (starts.congr (s.heard_tickets f) (s.heard_stalls f)) nearest)
      · rwa [State.taskTickets, tasks]
      · rwa [tasks]
    · exact carries.status fits (by simp only [State.askReady, same, ready, State.placeRunner])
    · exact carries.status fits ((State.askReady_offered low high level f.source (by rwa [same]) (by rwa [same])).trans (by rw [same]))
    · intro withdrawn
      have leave (x : RunnerState) (notReady : x ≠ .ready) : (s.heard f).askLeave b level f.source x = (withdrawn x, .done) := by
        refine (State.askLeave_offered low high level f.source (by rwa [same]) (by rwa [same]) x).trans ?_
        rw [same]
        refine congrArg (·, _) (State.pair_of_noneReady (s := withdrawn x) fun d => ?_)
        by_cases own : d = b
        · rw [own, State.runner_setRunner_same _ _ _ low high]
          exact notReady
        · rw [State.runner_setRunner_ne _ _ _ _ (Ne.symm own)]
          exact (congrArg Runner.state (s.runner_heard f d)).trans_ne (alone d own)
      exact ⟨carries.status fits (leave _ (by decide)), carries.status fits (leave _ (by decide))⟩
    · have leave (x : RunnerState) := (State.askLeave_free low high level f.source (by rwa [same]) (by rwa [same]) x)
      rw [same] at leave
      exact ⟨carries.status fits (leave _), carries.status fits (leave _)⟩
    · exact carries.status fits (by rw [State.placeRunner, same])
  · have state : ((s.heard f).runner b).state = .tasked := by rwa [s.runner_heard]
    exact ⟨carries.status fits (by simp only [State.askReady, state]),
      carries.status fits (by simp only [State.askLeave, state]), carries.status fits (by simp only [State.askLeave, state])⟩
  · exact ⟨carries.status_range misfit, carries.status_range misfit, carries.status_range misfit, carries.status_range misfit⟩

/-! ### Answers to offers (R94, R95) -/

/-- A ticket that enters no board state from no board state leaves the board list as it is (R142). -/
theorem State.moveTicket_calls {s : State} {n : Nat} {c : Ticket} {x : TicketState} (found : s.ticket n = some c)
    (off : c.state.onBoard = false) (stays : x.onBoard = false) : (s.moveTicket n x).calls = s.calls := by
  simp only [State.moveTicket, found, off, stays, Bool.false_eq_true, if_false]
  exact (State.boardSince_frame _ _).2.2.2.2.2.2.2.2.1

/-- The dispatch unit's part of an acceptance: the task HELD, the runner TASKED, the freed place refilled, TASK_START. -/
def State.accepted (s : State) (b n : Nat) : State :=
  (((s.modifyTask n fun t => { t with place := .held b }).setRunner b { s.runner b with
    state := .tasked, offerBy := none }).promote).raise .taskStart b

/-- Nothing of what follows an acceptance touches the accepted task, its runner or its ticket. -/
theorem State.accepted_result {s : State} {b n : Nat} {w : Task} (low : 1 ≤ b) (high : b ≤ Config.runnerCount)
    (once : s.taskTickets.Nodup) (own : s.task n = some w) :
    (s.accepted b n).task n = some { w with place := .held b } ∧
      (s.accepted b n).runner b = { s.runner b with state := .tasked, offerBy := none } ∧
      (s.accepted b n).ticket n = s.ticket n ∧ (s.accepted b n).events.waiting = s.events.waiting ++ [⟨.taskStart, b⟩] := by
  have alone {v} (mem : v ∈ s.dispatch.tasks) (same : v.ticket = n) : v = w :=
    eq_of_key once mem (List.mem_of_find?_eq_some own) (same.trans (Eq.symm (by simpa using List.find?_some own)))
  let u := (s.modifyTask n fun t => { t with place := .held b }).setRunner b { s.runner b with state := .tasked, offerBy := none }
  have held : ∀ v ∈ u.dispatch.tasks, v.ticket = n → v.place = .held b := by
    intro v mem number
    obtain ⟨v', mem, rfl⟩ := List.mem_map.mp mem
    by_cases same : v'.ticket = n
    · rw [if_pos same]
    · rw [if_neg same] at number
      exact absurd number same
  have runner : u.runner b = { s.runner b with state := .tasked, offerBy := none } := s.runner_setRunner_same b _ low high
  refine ⟨(State.task_promote_of (s := u) (fun v mem number => ?_) fun v mem number => ?_).trans ?_,
    (State.runner_promote (s := u) ?_).trans runner, State.ticket_promote_of (s := u) fun v mem number => ?_, ?_⟩
  · exact (held v mem number).trans_ne nofun
  · exact (held v mem number).trans_ne nofun
  · exact (s.task_edit n n fun t => { t with place := .held b }).trans (by rw [own]; simp)
  · rw [runner]
    nofun
  · exact (held v mem number).trans_ne nofun
  · exact congrArg (fun e : EventUnit => e.waiting ++ [⟨.taskStart, b⟩]) u.promote_frame.2.2.2.2.2.2.2.2.1

theorem State.tellAccept_assigned {s : State} {n : Nat} {c : Ticket} (found : s.ticket n = some c) (state : c.state = .assigned)
    (b : Nat) : s.tellAccept b n = (s.modifyTicket n fun t => { t with runner := some b }).moveTicket n .parking := by
  simp only [State.tellAccept, found, Option.map_some, state]

theorem State.tellAccept_called {s : State} {n : Nat} {c : Ticket} (found : s.ticket n = some c) (state : c.state = .called)
    (b : Nat) : s.tellAccept b n = ((s.modifyTicket n fun t => { t with runner := some b }).modifyTicket n
      fun t => { t with backlog := false }).moveTicket n .fetching := by
  simp only [State.tellAccept, found, Option.map_some, state]

theorem State.tellAccept_restaging {s : State} {n : Nat} {c : Ticket} (found : s.ticket n = some c) (state : c.state = .restaging)
    (b : Nat) : s.tellAccept b n = s.modifyTicket n fun t => { t with runner := some b } := by
  simp only [State.tellAccept, found, Option.map_some, state]

theorem State.tellAccept_other {s : State} {n : Nat} {c : Ticket} (found : s.ticket n = some c) (assigned : c.state ≠ .assigned)
    (called : c.state ≠ .called) (restaging : c.state ≠ .restaging) (b : Nat) : s.tellAccept b n = s := by
  simp only [State.tellAccept, found, Option.map_some]
  cases state : c.state
  case assigned => exact absurd state assigned
  case called => exact absurd state called
  case restaging => exact absurd state restaging
  all_goals rfl

/-- The ticket table's part of an acceptance changes tickets and board marks alone. -/
theorem State.tellAccept_frame {s : State} {n : Nat} {c : Ticket} (found : s.ticket n = some c) (b : Nat) :
    (s.tellAccept b n).dispatch = s.dispatch ∧ (s.tellAccept b n).stalls = s.stalls ∧ (s.tellAccept b n).keys = s.keys ∧
      (s.tellAccept b n).arbiter = s.arbiter ∧ (s.tellAccept b n).unplaced = s.unplaced ∧
      (s.tellAccept b n).events = s.events ∧ (s.tellAccept b n).calls = s.calls := by
  have named : (s.modifyTicket n fun t => { t with runner := some b }).ticket n = some { c with runner := some b } := by
    exact State.ticket_edit_same found _
  by_cases assigned : c.state = .assigned
  · rw [State.tellAccept_assigned found assigned]
    refine ⟨?_, ?_, ?_, ?_, ?_, ?_, State.moveTicket_calls named (by simp [assigned, TicketState.onBoard]) rfl⟩ <;>
      simp [State.moveTicket_frame]
  by_cases called : c.state = .called
  · rw [State.tellAccept_called found called]
    refine ⟨?_, ?_, ?_, ?_, ?_, ?_, State.moveTicket_calls (c := { c with runner := some b, backlog := false }) ?_
      (by simp [called, TicketState.onBoard]) rfl⟩
    · simp [State.moveTicket_frame]
    · simp [State.moveTicket_frame]
    · simp [State.moveTicket_frame]
    · simp [State.moveTicket_frame]
    · simp [State.moveTicket_frame]
    · simp [State.moveTicket_frame]
    · exact State.ticket_edit_same named fun t => { t with backlog := false }
  by_cases restaging : c.state = .restaging
  · rw [State.tellAccept_restaging found restaging]
    simp
  · rw [State.tellAccept_other found assigned called restaging]
    simp

/-- The dispatch unit's part of an acceptance leaves the other blocks as they are. -/
theorem State.accepted_frame (s : State) (b n : Nat) :
    (s.accepted b n).stalls = s.stalls ∧ (s.accepted b n).keys = s.keys ∧ (s.accepted b n).arbiter = s.arbiter ∧
      (s.accepted b n).calls = s.calls ∧ (s.accepted b n).unplaced = s.unplaced := by
  obtain ⟨-, stalls, unplaced, -, keys, arbiter, calls, -⟩ := State.promote_frame
    ((s.modifyTask n fun t => { t with place := .held b }).setRunner b { s.runner b with state := .tasked, offerBy := none })
  exact ⟨stalls, keys, arbiter, calls, unplaced⟩

/-- The runner's record with an owed reply. -/
theorem State.runner_oweRunner {s : State} {b : Nat} (low : 1 ≤ b) (high : b ≤ Config.runnerCount) (kind : RunnerFrameKind)
    (outcome : Answer) (n : Option Nat) : (s.oweRunner b kind outcome n).runner b =
      { s.runner b with reply := some { kind, ticket := n, outcome, overrun := (s.runner b).reply.isSome } } :=
  s.runner_setRunner_same b _ low high

/-- Settles O29: the dispatch unit's part of an acceptance, and the ticket that it is told to. -/
theorem acceptanceStartsTheTask : Obligations.AcceptanceStartsTheTask := by
  intro s f b c w carries found once own offered state task
  obtain ⟨hears, base, low, high⟩ := id carries
  let u := (s.heard f).accepted b c.number
  have taken : (s.heard f).takeAccept b c.number = (u.tellAccept b c.number, .done) :=
    if_pos (by simp [State.offeredTask, state, task])
  have rest := (keepsRest_workKeeps (s.heard f)).oweRunner b .taskAccept .done (some c.number)
    ((keepsRest_workKeeps (s.heard f)).takeAccept b c.number (State.KeepsRest.refl _))
  rw [taken] at rest
  obtain ⟨theTask, runner, ticket, waiting⟩ := State.accepted_result (s := s.heard f) (w := w) low high
    (by rwa [State.taskTickets, s.heard_dispatch]) (by rwa [s.task_heard])
  rw [s.runner_heard] at runner
  rw [s.ticket_heard, found] at ticket
  rw [s.heard_events] at waiting
  obtain ⟨dispatch, stalls, keys, arbiter, unplaced, events, calls⟩ := State.tellAccept_frame ticket b
  obtain ⟨stalls', keys', arbiter', calls', unplaced'⟩ := (s.heard f).accepted_frame b c.number
  have replied := State.runner_oweRunner (s := u.tellAccept b c.number) low high .taskAccept .done (some c.number)
  rw [(State.runner_congr dispatch b).trans runner] at replied
  refine ⟨_, carries.frame _ _ taken, (s.heard_keepsSetup f).trans rest.setup, (State.task_congr dispatch _).trans theTask,
    congrArg Runner.state replied, (congrArg Runner.task replied).trans task, congrArg Runner.offerBy replied,
    (congrArg EventUnit.waiting events).trans waiting, stalls.trans (stalls'.trans (s.heard_stalls f)),
    keys.trans (keys'.trans (s.heard_keys f)), arbiter.trans (arbiter'.trans (s.heard_arbiter f)),
    calls.trans (calls'.trans (s.heard_calls f)), unplaced.trans (unplaced'.trans (s.heard_unplaced f)),
    fun assigned => ?_, fun called => ?_, fun restaging => ?_⟩
  all_goals refine (?_ : (u.tellAccept b c.number).ticket c.number = _)
  · rw [State.tellAccept_assigned ticket assigned]
    exact State.ticket_entered (State.ticket_edit_same ticket fun t => { t with runner := some b }) (by decide)
  · rw [State.tellAccept_called ticket called]
    exact State.ticket_entered (State.ticket_edit_same (State.ticket_edit_same ticket fun t => { t with runner := some b })
      fun t => { t with backlog := false }) (by decide)
  · rw [State.tellAccept_restaging ticket restaging]
    exact State.ticket_edit_same ticket fun t => { t with runner := some b }

/-! ### Declines (R95) -/

/-- Settles O30: the returned task is the one QUEUED task, and the one READY runner has declined it. -/
theorem declineKeepsTheTaskInItsPlace : Obligations.DeclineKeepsTheTaskInItsPlace := by
  intro s f b b' w carries once own offered state task none other low' high' onDuty notDeclined alone
  obtain ⟨hears, base, low, high⟩ := id carries
  let returned : State := ((s.heard f).modifyTask w.ticket fun k =>
    { k with place := .queued, declined := k.declined ++ [b] }).setRunner b { s.runner b with
      state := .ready, readySince := s.now, task := Option.none, offerBy := Option.none }
  have taken : (s.heard f).takeDecline b w.ticket = (returned.pair, .done) := by
    simp [State.takeDecline, State.offeredTask, state, task, Runner.enterReady, returned]
  let w' : Task := { w with place := .queued, declined := w.declined ++ [b] }
  have once' : (s.heard f).taskTickets.Nodup := by rwa [State.taskTickets, s.heard_dispatch]
  have own' : (s.heard f).task w.ticket = some w := by rwa [s.task_heard]
  have once'' : returned.taskTickets.Nodup := by
    rw [← (s.heard f).modifyTask_taskTickets w.ticket (f := fun k => { k with place := .queued, declined := k.declined ++ [b] })
      fun _ => rfl] at once'
    exact once'
  have one : returned.dispatch.tasks.filter (·.place == .queued) = [w'] :=
    State.queued_edit once' own' (by rwa [State.NoneQueued, s.heard_dispatch])
      (f := fun k => { k with place := .queued, declined := k.declined ++ [b] }) rfl
  have runners (d) (ne : d ≠ b) : returned.runner d = s.runner d :=
    (State.runner_setRunner_ne _ _ _ _ (Ne.symm ne)).trans (s.runner_heard f d)
  have now : returned.declinedNow w' = w'.declined := by
    refine if_neg fun all => ?_
    have judged := List.all_eq_true.mp all b' (mem_badges.mpr ⟨low', high'⟩)
    rw [runners b' other, onDuty] at judged
    simp [w', other, notDeclined] at judged
  have refused (d) : ¬ returned.mayBeOffered (returned.declinedNow w') d := by
    rw [now]
    rintro ⟨-, -, ready, open_, -⟩
    by_cases same : d = b
    · exact open_ (by simp [w', same])
    · exact alone d same ((congrArg Runner.state (runners d same)).symm.trans ready)
  have unpaired : returned.pair = returned := by
    rcases State.pair_of_refused once'' one refused with same | stored
    · exact same
    · refine stored.trans (State.modifyTask_same fun v mem number => ?_)
      have same : v = w' := eq_of_key once'' mem (List.mem_of_mem_filter (one ▸ List.mem_singleton_self w')) number
      rw [same, now]
  exact carries.frame _ _ (taken.trans (congrArg (·, _) unpaired))

/-- Settles O31: the branches of the commands for a runner who is not offered, or does not hold, the task. -/
theorem onlyTheHolderActsOnATask : Obligations.OnlyTheHolderActsOnATask := by
  refine ⟨fun s f b n carries other => ?_, fun s f b n carries holds => ?_, fun s f b n carries free => ?_⟩
  · have offered : (s.heard f).offeredTask b n = false := by
      simp [State.offeredTask, other]
    have held : (s.heard f).holdsTask b n = false := by
      simp [State.holdsTask, other]
    exact ⟨carries.frame _ _ (by simp [State.takeAccept, offered, held]), carries.frame _ _ (by simp [State.takeDecline, offered])⟩
  · have held : (s.heard f).holdsTask b n = true := by simpa [State.holdsTask] using holds
    have offered : (s.heard f).offeredTask b n = false := by
      have tasked : (s.runner b).state = .tasked := by simpa [State.holdsTask] using And.left ((Bool.and_eq_true _ _).mp holds)
      simp [State.offeredTask, tasked]
    exact ⟨carries.frame _ _ (by simp [State.takeAccept, offered, held]), carries.frame _ _ (by simp [State.takeDecline, offered])⟩
  · have free : (s.heard f).holdsTask b n = false := by simpa [State.holdsTask] using free
    have held (k : Ticket → State × Answer) : (s.heard f).heldStep b n k = (s.heard f, .notHolder) := by
      simp [State.heldStep, free]
    refine ⟨fun level fits => carries.frame _ _ ?_, carries.frame _ _ (held _), fun k slot => carries.frame _ _ (held _),
      carries.frame _ _ (held _), fun why slot => carries.frame _ _ ?_⟩
    · simp [State.takeLobby, fits, held, levelled]
    · simp only [State.takeHandover, free, Bool.false_eq_true, if_false, State.handoverFree, s.ticket_heard, State.task_heard,
        State.runner_heard]
      split
      · rfl
      next t found =>
        rw [if_neg]
        rintro ⟨atCurb, none, onDuty⟩
        simp [found, atCurb, none, onDuty] at why

end Sys2Proof.Machine
end

section
/-! PROOFS of O12: presence handed on. -/

namespace Sys2Proof.Machine

open Sys2Proof

/-! ### The state in which a first good answer is handed on (R155) -/

/-- The poll exchange ended and the station PRESENT. -/
def State.answered (s : State) (f : From) : State :=
  (s.setPort f.port { s.port f.port with phase := .opportunity }).setStation f.source
    { s.station f.source with presence := .present, silent := 0 }

theorem State.answered_eq (s : State) (f : From) : s.answered f = { s with links := (s.answered f).links } := by
  cases h : f.port <;> simp [State.answered, State.setPort, State.setStation, h]

/-- A first good answer is handed on by the station's class. -/
theorem State.idle_first {s : State} {f : From} (on : s.power.main = true) (window : (s.port f.port).phase = .window f.source)
    (absent : (s.station f.source).presence ≠ .present) : s.onFrame f id =
      (s.answered f).handPresence f.source (s.classOf f.source) (s.station f.source).served := by
  rw [s.onFrame_window on window, id_eq]
  cases h : f.port <;>
    simp only [State.goodAnswer, State.endExchange, State.answered, State.setPort, h] <;> exact if_neg absent

theorem State.handPresence_frame (s : State) (a : Nat) (cls : StationClass) (served : Option Served) :
    (s.handPresence a cls served).tickets = s.tickets ∧ (s.handPresence a cls served).stalls = s.stalls ∧
      (s.handPresence a cls served).keys = s.keys ∧ (s.handPresence a cls served).events = s.events := by
  unfold State.handPresence
  split
  · unfold State.liftStationPresent
    split <;> simp [State.setLift]
  · simp [State.pair_frame]
  · simp [State.setStation]
  · simp

theorem State.declinedNow_congr {s t : State} (same : t.dispatch = s.dispatch) (w : Task) : t.declinedNow w = s.declinedNow w := by
  simp only [State.declinedNow, State.runner_congr same]

/-- Settles O12: what `handPresence` does for a display, a lift and a runner base. -/
theorem firstGoodAnswerHandsPresenceOn : Obligations.FirstGoodAnswerHandsPresenceOn := by
  intro s f on window low high absent
  have first := State.idle_first on window absent
  have rest := (keepsRest_workKeeps (s.endExchange f.port)).goodAnswer f.source (State.KeepsRest.refl _)
  obtain ⟨present, silent⟩ := State.goodAnswer_present (s := s.endExchange f.port) low high
  have good : s.onFrame f id = (s.endExchange f.port).goodAnswer f.source := s.onFrame_window on window id
  rw [← good, first] at rest present silent
  obtain ⟨tickets, stalls, keys, events⟩ :=
    (s.answered f).handPresence_frame f.source (s.classOf f.source) (s.station f.source).served
  have same := s.answered_eq f
  have station : (s.answered f).station f.source = { s.station f.source with presence := .present, silent := 0 } :=
    State.station_setStation_same _ _ _ low high
  refine ⟨_, next_congr first, (s.endExchange_keepsSetup f.port).trans rest.setup, ?_, present, silent, fun display => ?_,
    fun l low high cls serves away => ?_, fun base => ?_, tickets.trans (by rw [same]), stalls.trans (by rw [same]),
    keys.trans (by rw [same]), events.trans (by rw [same])⟩
  · rw [rest.port]
    exact congrArg PortState.phase (State.port_setPort_same _ _ _)
  · simp [display, State.handPresence, State.station_setStation_same _ _ _ low high]
  · have away : ((s.answered f).lift l).state = .absent := by rw [same]; exact away
    simp [cls, serves, State.handPresence, State.liftStationPresent, away, State.lift_setLift_same _ _ _ low high]
  · intro answered
    have dispatch : answered.dispatch = s.dispatch := by
      show (s.answered f).dispatch = s.dispatch
      rw [same]
    have declined (w : Task) : answered.declinedNow w = s.declinedNow w := State.declinedNow_congr dispatch w
    have t_eq : (s.answered f).handPresence f.source (s.classOf f.source) (s.station f.source).served = answered.pair := by
      rw [base]
      rfl
    rw [t_eq]
    refine ⟨fun none => State.pair_of_noneQueued (by rwa [State.NoneQueued, dispatch]), fun once => ?_⟩
    have once : answered.taskTickets.Nodup := by rwa [State.taskTickets, dispatch]
    refine ⟨fun w level b one starts nearest => ?_, fun w one none => ?_, fun w b mem queued may only first => ?_⟩
    · exact State.pair_offers once (by rwa [dispatch])
        (starts.congr (by show (s.answered f).tickets = _; rw [same]) (by show (s.answered f).stalls = _; rw [same]))
        (by rwa [declined])
    · have one : answered.dispatch.tasks.filter (·.place == .queued) = [w] := by rwa [dispatch]
      obtain ⟨mem, queued⟩ := List.mem_filter.mp (one ▸ List.mem_singleton_self w)
      have found : answered.task w.ticket = some w := State.task_of_mem once mem
      have queued : w.place = .queued := by simpa using queued
      rcases State.pair_of_refused once one (by rwa [declined]) with kept | stored
      · rw [kept, dispatch, found]
        simp [queued]
      · rw [stored, answered.task_edit w.ticket w.ticket fun v => { v with declined := _ }, found]
        exact ⟨by rw [← dispatch]; rfl, by simp [queued]⟩
    · refine State.pair_offers_first once (by rwa [dispatch]) queued may only (first w mem queued).1 fun v mem queued => ?_
      rw [dispatch] at mem
      have before := (first v mem queued).2
      have eq (p : Nat) : answered.standsBefore w p = s.standsBefore w p := by
        show (s.answered f).standsBefore w p = _
        rw [same]; rfl
      have prio : answered.priority v = s.priority v := by
        show (s.answered f).priority v = _
        rw [same]; rfl
      rwa [eq, prio]

end Sys2Proof.Machine
end

section
/-! SUPPORT for the obligations about lifts and lanes: what lane grants, lift grants and turnbacks change (R109 to R113, R119). -/

namespace Sys2Proof.Machine

open Sys2Proof

/-! ### The records of one ticket number -/

/-- The ticket records of a number: at most one where no two open tickets have one number (R38). -/
def State.recordsOf (s : State) (n : Nat) : List Ticket := s.tickets.filter (·.number == n)

theorem State.ticket_eq_head (s : State) (n : Nat) : s.ticket n = (s.recordsOf n).head? := by
  rw [State.ticket, State.recordsOf, List.head?_filter]

theorem State.ticket_of_records {s t : State} {n : Nat} (same : t.recordsOf n = s.recordsOf n) : t.ticket n = s.ticket n := by
  rw [State.ticket_eq_head, State.ticket_eq_head, same]

theorem State.recordsOf_congr {s t : State} (same : t.tickets = s.tickets) (n : Nat) : t.recordsOf n = s.recordsOf n := by
  rw [State.recordsOf, State.recordsOf, same]

theorem State.mem_recordsOf {s : State} {n : Nat} {c : Ticket} : c ∈ s.recordsOf n ↔ c ∈ s.tickets ∧ c.number = n := by
  simp [State.recordsOf]

theorem State.recordsOf_edit (s : State) (n m : Nat) (f : Ticket → Ticket)
    (keeps : ∀ t, (f t).number = t.number := by exact fun _ => rfl) :
    (s.modifyTicket n f).recordsOf m = if m = n then (s.recordsOf m).map f else s.recordsOf m := by
  simp only [State.recordsOf, State.modifyTicket]
  induction s.tickets with
  | nil => simp
  | cons t ts ih =>
    by_cases own : t.number = n
    · by_cases same : m = n
      · simp_all
      · have other : ¬ n = m := fun h => same h.symm
        simp_all
    · by_cases same : m = n
      · have other : ¬ t.number = m := fun h => own (h.trans same)
        simp_all
      · by_cases other : t.number = m <;> simp_all

theorem State.recordsOf_edit_ne (s : State) {n m : Nat} (other : m ≠ n) (f : Ticket → Ticket)
    (keeps : ∀ t, (f t).number = t.number := by exact fun _ => rfl) : (s.modifyTicket n f).recordsOf m = s.recordsOf m := by
  rw [s.recordsOf_edit n m f keeps, if_neg other]

theorem State.recordsOf_move (s : State) (n m : Nat) (x : TicketState) :
    (s.moveTicket n x).recordsOf m = if m = n then (s.recordsOf m).map (·.enter x s.now) else s.recordsOf m :=
  (State.recordsOf_congr (s.moveTicket_tickets n x) m).trans (s.recordsOf_edit n m _ fun t => t.enter_number x s.now)

theorem State.recordsOf_move_ne (s : State) {n m : Nat} (other : m ≠ n) (x : TicketState) :
    (s.moveTicket n x).recordsOf m = s.recordsOf m := by rw [s.recordsOf_move, if_neg other]

/-! ### Lane grants (R119) -/

theorem mem_laneNumbers {n : Nat} : n ∈ laneNumbers ↔ 1 ≤ n ∧ n ≤ 6 := by
  simp only [laneNumbers, oneTo, List.mem_map, List.mem_range, Config.laneCount]
  constructor
  · rintro ⟨i, inside, rfl⟩
    omega
  · exact fun fits => ⟨n - 1, by omega, by omega⟩

theorem State.mem_freeLanes {s : State} {n : Nat} :
    n ∈ s.freeLanes ↔ (1 ≤ n ∧ n ≤ 6) ∧ s.laneConfigured n = true ∧ (s.lane n).state = .free := by
  simp [State.freeLanes, mem_laneNumbers]

theorem State.laneFor_mem {s : State} {t : Ticket} {n : Nat} (found : s.laneFor t = some n) : n ∈ s.freeLanes := by
  unfold State.laneFor at found
  split at found
  next preferred => exact Option.some.inj found ▸ List.mem_of_find?_eq_some preferred
  · exact List.mem_of_head? found

theorem State.oldestRequest_mem {s : State} {t : Ticket} (found : s.oldestRequest = some t) : t ∈ s.tickets ∧ t.wantsLane = true :=
  List.mem_filter.mp (firstBy_mem found)

/-- A reservation is written to its lane, and no other lane or lift changes. -/
theorem State.reserveLane_arbiter (s : State) (n : Nat) (t : Ticket) :
    (s.reserveLane n t).arbiter = (s.setLane n { s.lane n with state := .reserved, ticket := some t.number }).arbiter := by
  unfold State.reserveLane
  dsimp only
  split
  · exact (State.moveTicket_frame _ _ _).2.2.2.2.2.2.1
  · rfl

theorem State.reserveLane_recordsOf_ne (s : State) (n : Nat) {t : Ticket} {m : Nat} (other : m ≠ t.number) :
    (s.reserveLane n t).recordsOf m = s.recordsOf m := by
  have edited : ((s.setLane n { s.lane n with state := .reserved, ticket := some t.number }).modifyTicket t.number
      fun t => { t with lane := some n }).recordsOf m = s.recordsOf m :=
    State.recordsOf_edit_ne _ other fun t => { t with lane := some n }
  unfold State.reserveLane
  dsimp only
  split
  · exact (State.recordsOf_move_ne _ other _).trans edited
  · exact edited

/-- From `s` to `t` lane `m` is as it was, or FREE before and RESERVED now for another ticket than `n`. -/
def State.LaneKept (s t : State) (n m : Nat) : Prop :=
  t.lane m = s.lane m ∨ (s.lane m).state = .free ∧ ∃ k, k ≠ n ∧ t.lane m = { s.lane m with state := .reserved, ticket := some k }

/-- Lane grants leave the records of a number that asks for no lane as they are, and reserve no lane for it. -/
theorem State.serveLanes_spares (fuel : Nat) {s : State} {n : Nat} (asks : ∀ t ∈ s.recordsOf n, t.wantsLane = false) :
    (s.serveLanes fuel).recordsOf n = s.recordsOf n ∧ ∀ m, s.LaneKept (s.serveLanes fuel) n m := by
  induction fuel generalizing s with
  | zero => exact ⟨rfl, fun m => .inl rfl⟩
  | succ fuel ih =>
    unfold State.serveLanes
    split
    · exact ⟨rfl, fun m => .inl rfl⟩
    next t oldest =>
      split
      · exact ⟨rfl, fun m => .inl rfl⟩
      next lane found =>
        obtain ⟨mem, wants⟩ := State.oldestRequest_mem oldest
        obtain ⟨⟨low, high⟩, -, free⟩ := State.mem_freeLanes.mp (State.laneFor_mem found)
        have other : n ≠ t.number := fun same => by simp [asks t (State.mem_recordsOf.mpr ⟨mem, same.symm⟩)] at wants
        have records := s.reserveLane_recordsOf_ne lane other
        obtain ⟨records', lanes⟩ := ih (s := s.reserveLane lane t) (by rwa [records])
        refine ⟨records'.trans records, fun m => ?_⟩
        by_cases same : lane = m
        · subst same
          have reserved : (s.reserveLane lane t).lane lane = { s.lane lane with state := .reserved, ticket := some t.number } :=
            (State.lane_congr (s.reserveLane_arbiter lane t) _).trans (State.lane_setLane_same _ _ _ low high)
          rcases lanes lane with kept | ⟨free', -⟩
          · exact .inr ⟨free, t.number, Ne.symm other, kept.trans reserved⟩
          · rw [reserved] at free'
            cases free'
        · have before : (s.reserveLane lane t).lane m = s.lane m :=
            (State.lane_congr (s.reserveLane_arbiter lane t) _).trans (State.lane_setLane_ne _ _ _ _ same)
          have kept := lanes m
          rwa [State.LaneKept, before] at kept

theorem State.serveLanes_lifts (fuel : Nat) (s : State) : (s.serveLanes fuel).arbiter.lifts = s.arbiter.lifts := by
  induction fuel generalizing s with
  | zero => rfl
  | succ fuel ih =>
    unfold State.serveLanes
    split
    · rfl
    · split
      · rfl
      · exact (ih _).trans ((congrArg Arbiter.lifts (State.reserveLane_arbiter _ _ _)).trans rfl)

theorem State.laneGrantCheck_lifts (s : State) : s.laneGrantCheck.arbiter.lifts = s.arbiter.lifts := s.serveLanes_lifts _

theorem State.lift_of_lifts {s t : State} (same : t.arbiter.lifts = s.arbiter.lifts) (l : Nat) : t.lift l = s.lift l := by
  rw [State.lift, State.lift, same]

/-- Without a FREE lane, or without a request, a lane grant check does nothing. -/
theorem State.laneGrantCheck_idle {s : State} (idle : s.freeLanes = [] ∨ s.NoLaneRequest) : s.laneGrantCheck = s := by
  unfold State.laneGrantCheck Config.laneCount State.serveLanes
  split
  · rfl
  next t oldest =>
    split
    · rfl
    next lane found =>
      rcases idle with none | none
      · exact absurd (State.laneFor_mem found) (by simp [none])
      · obtain ⟨mem, wants⟩ := State.oldestRequest_mem oldest
        simp [State.NoLaneRequest] at none
        simp [none t mem] at wants

/-! ### Cancelled reservations (R123) -/

/-- One lane's turn when a ticket's reservations are cancelled. -/
def cancelOn (n lane : Nat) (s : State) : State :=
  if s.reservedFor lane n then
    (s.setLane lane { s.lane lane with state := .free, ticket := none }).modifyTicket n fun t => { t with lane := none }
  else s

theorem State.cancelLane_eq (s : State) (n : Nat) : s.cancelLane n = forEach laneNumbers (cancelOn n) s := rfl

theorem State.lane_outside {s : State} {m : Nat} (out : ¬ (1 ≤ m ∧ m ≤ 6)) : s.lane m = Lane.cold := nth1_outside _ _ _ out

theorem State.reservedFor_congr {s t : State} {m : Nat} (same : t.lane m = s.lane m) (n : Nat) :
    t.reservedFor m n = s.reservedFor m n := by rw [State.reservedFor, State.reservedFor, same]

/-- A cancelled reservation leaves its lane FREE. -/
theorem lane_cancelOn (n lane : Nat) (s : State) (m : Nat) : (cancelOn n lane s).lane m =
    if m = lane ∧ s.reservedFor m n = true then { s.lane m with state := .free, ticket := none } else s.lane m := by
  unfold cancelOn
  by_cases same : m = lane
  · subst same
    by_cases reserved : s.reservedFor m n = true
    · have inside : 1 ≤ m ∧ m ≤ 6 := by
        by_contra out
        simp [State.reservedFor, State.lane_outside out, Lane.cold] at reserved
      rw [if_pos reserved, if_pos ⟨rfl, reserved⟩]
      exact State.lane_setLane_same _ _ _ inside.1 inside.2
    · rw [if_neg reserved, if_neg fun both => reserved both.2]
  · rw [if_neg fun (both : m = lane ∧ _) => same both.1]
    split
    · exact State.lane_setLane_ne s lane m _ (Ne.symm same)
    · rfl

theorem cancelLanes_lane (n : Nat) (lanes : List Nat) (s : State) (m : Nat) : (forEach lanes (cancelOn n) s).lane m =
    if m ∈ lanes ∧ s.reservedFor m n = true then { s.lane m with state := .free, ticket := none } else s.lane m := by
  induction lanes generalizing s with
  | nil => simp [forEach]
  | cons lane lanes ih =>
    have now := lane_cancelOn n lane s m
    refine (ih (cancelOn n lane s)).trans ?_
    by_cases here : m = lane ∧ s.reservedFor m n = true
    · rw [if_pos here] at now
      have free : (cancelOn n lane s).reservedFor m n = false := by
        rw [State.reservedFor, now]
        rfl
      rw [if_neg (by simp [free]), if_pos ⟨by simp [here.1], here.2⟩, now]
    · rw [if_neg here] at now
      rw [State.reservedFor_congr now, now]
      by_cases reserved : s.reservedFor m n = true
      · have other : m ≠ lane := fun same => here ⟨same, reserved⟩
        simp [reserved, other]
      · simp [reserved]

/-- Cancelling a ticket's reservations: the lanes FREE that were reserved for it, and the lane field of its record. -/
theorem State.cancelLane_lane (s : State) (n m : Nat) : (s.cancelLane n).lane m =
    if s.reservedFor m n = true then { s.lane m with state := .free, ticket := none } else s.lane m := by
  rw [s.cancelLane_eq, cancelLanes_lane]
  by_cases inside : 1 ≤ m ∧ m ≤ 6
  · simp [mem_laneNumbers, inside]
  · simp [mem_laneNumbers, inside, State.reservedFor, State.lane_outside inside, Lane.cold]

theorem State.cancelLane_unreserved (s : State) (n m : Nat) : (s.cancelLane n).reservedFor m n = false := by
  have lane := s.cancelLane_lane n m
  by_cases reserved : s.reservedFor m n = true
  · rw [if_pos reserved] at lane
    rw [State.reservedFor, lane]
    rfl
  · rw [if_neg reserved] at lane
    rw [State.reservedFor_congr lane]
    simpa using reserved

theorem State.cancelLane_lifts (s : State) (n : Nat) : (s.cancelLane n).arbiter.lifts = s.arbiter.lifts := by
  rw [s.cancelLane_eq]
  refine forEach_keeps (fun t => t.arbiter.lifts = s.arbiter.lifts) laneNumbers (cancelOn n) s (fun lane t same => ?_) rfl
  unfold cancelOn
  split <;> exact same

theorem State.cancelLane_recordsOf (s : State) (n : Nat) : (s.cancelLane n).recordsOf n = s.recordsOf n ∨
    (s.cancelLane n).recordsOf n = (s.recordsOf n).map fun t => { t with lane := none } := by
  rw [s.cancelLane_eq]
  refine forEach_keeps (fun t => t.recordsOf n = s.recordsOf n ∨ t.recordsOf n = (s.recordsOf n).map fun t => { t with lane := none })
    laneNumbers (cancelOn n) s (fun lane t same => ?_) (.inl rfl)
  unfold cancelOn
  split
  · right
    refine (State.recordsOf_edit _ n n fun t => { t with lane := none }).trans ?_
    rw [if_pos rfl]
    rcases same with same | same
    · exact congrArg _ same
    · refine (congrArg (List.map _) same).trans ?_
      rw [List.map_map]
      rfl
  · exact same

/-! ### Lift grants (R109 to R111) -/

theorem State.setOrder_lift {s : State} {l : Nat} (low : 1 ≤ l) (high : l ≤ 4) :
    (s.setOrder l).lift l = { s.lift l with orderOwed := true } := s.lift_setLift_same l _ low high

theorem State.tellGrant_lifts (s : State) (t : Tenure) : (s.tellGrant t).arbiter.lifts = s.arbiter.lifts := by
  unfold State.tellGrant
  split
  · rfl
  · split
    · exact (State.laneGrantCheck_lifts _).trans (congrArg Arbiter.lifts (State.moveTicket_frame _ _ _).2.2.2.2.2.2.1)
    · rfl

/-- The queue of a lift after the grant of one of its tenures (R110). -/
def queueAfter (queue : List Tenure) (v : Tenure) (passed : List Tenure) : List Tenure :=
  (queue.erase v).map fun u => if passed.contains u then { u with passes := u.passes + 1 } else u

/-- LIFT_GRANT is the one event of a grant. -/
theorem State.grant_waiting (s : State) (l : Nat) (v : Tenure) (passed : List Tenure) :
    (s.grant l v passed).events.waiting = s.events.waiting ++ [⟨.liftGrant, l⟩] :=
  congrArg EventUnit.waiting (State.tellGrant_frame _ _).2.2.2.2.2.2.2.1

/-- A grant: the lift BUSY with the tenure and its order owed. -/
theorem State.grant_result {s : State} {l : Nat} (low : 1 ≤ l) (high : l ≤ 4) (v : Tenure) (passed : List Tenure) :
    (s.grant l v passed).lift l = { s.lift l with
      state := .busy, current := some { v with state := .granted }, orderOwed := true,
      queue := queueAfter (s.lift l).queue v passed } ∧
    ∀ m, m ≠ l → (s.grant l v passed).lift m = s.lift m := by
  let u := s.setLift l { s.lift l with
    queue := queueAfter (s.lift l).queue v passed, current := some { v with state := .granted }, state := .busy }
  have lifts (m) : (s.grant l v passed).lift m = (u.setOrder l).lift m := State.lift_of_lifts (State.tellGrant_lifts _ _) m
  refine ⟨?_, fun m other => ?_⟩
  · rw [lifts, State.setOrder_lift low high, State.lift_setLift_same _ _ _ low high]
  · rw [lifts]
    exact (State.lift_setLift_ne _ _ _ _ (Ne.symm other)).trans (State.lift_setLift_ne _ _ _ _ (Ne.symm other))

/-- What a grant tells leaves the records of a number alone that asks for no lane and is not told, or does not wait for a
ride down, and reserves no lane for it. -/
theorem State.tellGrant_spares_of {s : State} {n : Nat} (asks : ∀ t ∈ s.recordsOf n, t.wantsLane = false) {w : Tenure}
    (untold : w.ticket ≠ some n ∨ ∀ t ∈ s.recordsOf n, t.state ≠ .fetching) :
    (s.tellGrant w).recordsOf n = s.recordsOf n ∧ ∀ m, s.LaneKept (s.tellGrant w) n m := by
  unfold State.tellGrant
  split
  · exact ⟨rfl, fun m => .inl rfl⟩
  next k told =>
    split
    next fetching =>
      obtain ⟨m, own, found⟩ := Option.bind_eq_some_iff.mp told
      have other : n ≠ k.number := fun same => by
        rcases untold with other | still
        · exact other (by rw [own, same, State.ticket_number found])
        · exact still k (State.mem_recordsOf.mpr ⟨List.mem_of_find?_eq_some found, same.symm⟩) fetching.1
      have records := (State.recordsOf_move_ne (s.modifyTicket k.number fun k => { k with laneRequest := some (k.laneRequest.getD s.now) })
        other .descending).trans (s.recordsOf_edit_ne other fun k => { k with laneRequest := some (k.laneRequest.getD s.now) })
      obtain ⟨records', lanes⟩ := State.serveLanes_spares Config.laneCount (n := n)
        (s := (s.modifyTicket k.number fun k => { k with laneRequest := some (k.laneRequest.getD s.now) }).moveTicket k.number .descending)
        fun t mem => asks t (by rwa [records] at mem)
      have lane (m) : ((s.modifyTicket k.number fun k =>
          { k with laneRequest := some (k.laneRequest.getD s.now) }).moveTicket k.number .descending).lane m = s.lane m :=
        State.lane_congr (State.moveTicket_frame _ _ _).2.2.2.2.2.2.1 m
      refine ⟨records'.trans records, fun m => ?_⟩
      have kept := lanes m
      rwa [State.LaneKept, lane] at kept
    · exact ⟨rfl, fun m => .inl rfl⟩

/-- What a grant tells leaves the records of a number alone that neither asks for a lane nor waits for a ride down, and
reserves no lane for it. -/
theorem State.tellGrant_spares {s : State} {n : Nat}
    (asks : ∀ t ∈ s.recordsOf n, t.wantsLane = false ∧ t.state ≠ .fetching) (w : Tenure) :
    (s.tellGrant w).recordsOf n = s.recordsOf n ∧ ∀ m, s.LaneKept (s.tellGrant w) n m :=
  State.tellGrant_spares_of (fun t mem => (asks t mem).1) (.inr fun t mem => (asks t mem).2)

/-- A grant check grants the chosen tenure of a configured, IDLE lift without a tenure, and does nothing otherwise. -/
theorem State.grantCheck_cases (s : State) (l : Nat) : s.grantCheck l = s ∨ ∃ v passed, s.grantCheck l = s.grant l v passed := by
  unfold State.grantCheck
  dsimp only
  split
  · split
    · exact .inl rfl
    · exact .inr ⟨_, _, rfl⟩
  · exact .inl rfl

theorem State.grantCheck_idle {s : State} {l : Nat} (idle : s.liftConfigured l = false ∨ (s.lift l).state ≠ .idle ∨
    (s.lift l).current ≠ none ∨ (s.lift l).queue.filter (s.tenureQualifies l) = []) : s.grantCheck l = s := by
  unfold State.grantCheck
  dsimp only
  split
  next can =>
    rcases idle with off | busy | taken | empty
    · simp [can.1] at off
    · exact absurd can.2.1 busy
    · exact absurd can.2.2 taken
    · rw [empty]
      rfl
  · rfl

/-- A grant check adds its event after those reported before. -/
theorem State.grantCheck_waiting (s : State) (l : Nat) : ∃ more, (s.grantCheck l).events.waiting = s.events.waiting ++ more := by
  rcases s.grantCheck_cases l with same | ⟨v, passed, same⟩
  · exact ⟨[], by rw [same, List.append_nil]⟩
  · exact ⟨_, by rw [same, State.grant_waiting]⟩

theorem State.stagingFell_waiting (s : State) (l : Option Nat) :
    ∃ more, (s.stagingFell l).events.waiting = s.events.waiting ++ more := by
  cases l with
  | none => exact ⟨[], (List.append_nil _).symm⟩
  | some l => exact s.grantCheck_waiting l

section

variable {s : State} {n : Nat} (asks : ∀ t ∈ s.recordsOf n, t.wantsLane = false ∧ t.state ≠ .fetching)
include asks

theorem State.grantCheck_spares (l : Nat) :
    (s.grantCheck l).recordsOf n = s.recordsOf n ∧ ∀ m, s.LaneKept (s.grantCheck l) n m := by
  rcases s.grantCheck_cases l with same | ⟨v, passed, same⟩
  · rw [same]
    exact ⟨rfl, fun m => .inl rfl⟩
  · rw [same]
    exact State.tellGrant_spares (s := ((s.setLift l _).setOrder l).raise .liftGrant l) asks v

/-- A grant check after a fallen staging count leaves alone the records and the lanes of such a number. -/
theorem State.stagingFell_spares (l : Option Nat) :
    (s.stagingFell l).recordsOf n = s.recordsOf n ∧ ∀ m, s.LaneKept (s.stagingFell l) n m := by
  cases l with
  | none => exact ⟨rfl, fun m => .inl rfl⟩
  | some l => exact State.grantCheck_spares asks l

end

theorem State.grantCheck_parkedLevel {s : State} {l : Nat} (low : 1 ≤ l) (high : l ≤ 4) :
    ((s.grantCheck l).lift l).parkedLevel = (s.lift l).parkedLevel := by
  rcases s.grantCheck_cases l with same | ⟨v, passed, same⟩
  · rw [same]
  · rw [same, (State.grant_result low high v passed).1]

end Sys2Proof.Machine
end

section
/-! PROOFS of O37, O38, O39 and O42: lift and lane reports. -/

namespace Sys2Proof.Machine

open Sys2Proof

/-! ### Reports of a lift and of a lane loop that are heard (R106, R120) -/

theorem State.LiftSpeaks.report {s : State} {f : From} {l level : Nat} (h : s.LiftSpeaks f l) (fits : level < 8)
    (k : Nat → State → State) : (.next (s.onFrame f fun s => s.liftReport f.source level k) : Host.Outcome State Fault Refusal) =
      .next (k l (s.heard f)) := by
  obtain ⟨hears, cls, served, -⟩ := h
  refine (State.exec_onFrame_heard hears _).trans (next_congr ?_)
  have served' : ((s.heard f).station f.source).served = some (.lift l) := by rw [hears.station_heard]; exact served
  rw [State.liftReport, if_pos ⟨hears.classOf_heard.trans cls, fits⟩, served']

theorem State.LaneSpeaks.report {s : State} {f : From} {n : Nat} (h : s.LaneSpeaks f n) (k : Nat → State → State) :
    (.next (s.onFrame f fun s => s.laneReport f.source k) : Host.Outcome State Fault Refusal) = .next (k n (s.heard f)) := by
  obtain ⟨hears, cls, served, -⟩ := h
  refine (State.exec_onFrame_heard hears _).trans (next_congr ?_)
  have served' : ((s.heard f).station f.source).served = some (.lane n) := by rw [hears.station_heard]; exact served
  rw [State.laneReport, if_pos (hears.classOf_heard.trans cls), served']

/-- A block's work on a heard frame keeps the setup. -/
theorem State.KeepsRest.heardSetup {s u : State} {f : From} (h : (s.heard f).KeepsRest u) : s.KeepsSetup u :=
  (s.heard_keepsSetup f).trans h.setup

/-- Settles O37: each report by the state of the lift and of its current tenure. -/
theorem rideReportsFollowTheTenure : Obligations.RideReportsFollowTheTenure := by
  intro s f l level speaks fits
  have same : (s.heard f).lift l = s.lift l := s.lift_heard f l
  refine ⟨fun w busy current => ⟨fun granted => ?_, fun riding => ⟨?_, ?_⟩, ?_⟩, fun idle => ⟨?_, ?_, ?_, ?_⟩⟩
  all_goals refine (speaks.report fits _).trans (next_congr ?_)
  · simp only [State.liftLoaded, same, busy, current, granted, if_true]
  · simp [State.liftLoaded, same, busy, current, riding]
  · simp [State.liftObstructed, same, busy, current, riding]
  · simp only [State.liftArrived, same, busy, current, State.setParked]
  all_goals
    simp only [State.liftLoaded, State.liftArrived, State.liftUnloaded, State.liftObstructed, same]
    split
    next w busy current => simp [busy, current] at idle
    · rfl

/-! ### Unloading (R112) -/

theorem State.tellUnloaded_found {s : State} {c : Ticket} (found : s.ticket c.number = some c) :
    s.tellUnloaded (some c.number) =
      if c.state = .descending then s.moveTicket c.number (if c.lane.isSome then .toCurb else .staged) else s := by
  simp only [State.tellUnloaded, Option.bind_some, found]

/-- Settles O38: the lift's record is written, LIFT_DONE raised and the ticket told before the grant check. -/
theorem unloadingEndsTheRide : Obligations.UnloadingEndsTheRide := by
  intro s f l level w c speaks fits busy current named found
  obtain ⟨hears, -, -, low, high⟩ := id speaks
  have same : (s.heard f).lift l = s.lift l := s.lift_heard f l
  let rode := ((s.heard f).setLift l { s.lift l with current := none, parkedLevel := w.toLevel, state := .idle }).raise .liftDone l
  have heard (m) : rode.ticket m = s.ticket m := s.ticket_heard f m
  let told := if c.state = .descending then rode.moveTicket c.number (if c.lane.isSome then .toCurb else .staged) else rode
  have taken : (s.heard f).liftUnloaded l = told.grantCheck l := by
    simp only [State.liftUnloaded, same, busy, current, named]
    exact congrArg (State.grantCheck · l) (State.tellUnloaded_found (s := rode) ((heard _).trans found))
  have rest := (keepsRest_workKeeps (s.heard f)).liftUnloaded l (State.KeepsRest.refl _)
  rw [taken] at rest
  obtain ⟨stalls, unplaced, issue, keys, dispatch, arbiter, events⟩ : told.stalls = rode.stalls ∧ told.unplaced = rode.unplaced ∧
      told.issue = rode.issue ∧ told.keys = rode.keys ∧ told.dispatch = rode.dispatch ∧ told.arbiter = rode.arbiter ∧
      told.events = rode.events := by
    unfold told
    split <;> simp [State.moveTicket_frame]
  have lift : told.lift l = { s.lift l with state := .idle, current := none, parkedLevel := w.toLevel } :=
    (State.lift_congr arbiter l).trans (State.lift_setLift_same _ _ _ low high)
  obtain ⟨-, stalls', -, -, keys', dispatch', -⟩ := told.grantCheck_frame l
  refine ⟨_, (speaks.report fits _).trans (next_congr taken), rest.heardSetup, ?_, ?_, stalls'.trans (stalls.trans (s.heard_stalls f)),
    keys'.trans (keys.trans (s.heard_keys f)), dispatch'.trans (dispatch.trans (s.heard_dispatch f)), fun empty => ?_⟩
  · obtain ⟨more, waiting⟩ := told.grantCheck_waiting l
    exact ⟨more, waiting.trans (by rw [events]; simp [rode, State.raise, State.setLift])⟩
  · rw [State.grantCheck_parkedLevel low high, lift]
  · rw [State.grantCheck_idle (.inr (.inr (.inr (by rw [lift, empty]; rfl))))]
    refine ⟨lift, fun descending => ?_, fun states => ?_, fun m other => ?_, unplaced.trans (s.heard_unplaced f),
      issue.trans (s.heard_issue f)⟩
    · refine (congrArg (State.ticket · _) (if_pos descending)).trans (State.ticket_entered ((heard _).trans found) ?_)
      split <;> decide
    · have still : c.state ≠ .descending := by rcases states with state | state <;> simp [state]
      exact (congrArg (State.ticket · _) (if_neg still)).trans ((heard _).trans found)
    · refine Eq.trans ?_ (heard m)
      unfold told
      split
      · exact State.ticket_moveTicket_ne _ _ _ _ other
      · rfl

/-! ### Obstruction (R113) -/

/-- A turnback tells a DESCENDING ticket: it is FETCHING again, its lane request kept, and no lane is reserved for it. -/
theorem State.tellTurnback_descending {s : State} {c : Ticket} (found : s.ticket c.number = some c) (state : c.state = .descending) :
    ∃ k, (s.tellTurnback (some c.number)).ticket c.number = some k ∧ k.state = .fetching ∧ k.laneRequest = c.laneRequest ∧
      ∀ n, ¬ (((s.tellTurnback (some c.number)).lane n).state = .reserved ∧
        ((s.tellTurnback (some c.number)).lane n).ticket = some c.number) := by
  let moved := s.moveTicket c.number .fetching
  let freed := moved.cancelLane c.number
  have told : s.tellTurnback (some c.number) = freed.laneGrantCheck := by
    simp only [State.tellTurnback, Option.bind_some, found, state, if_true, moved, freed]
  have moving : moved.recordsOf c.number = (s.recordsOf c.number).map (·.enter .fetching s.now) := by
    rw [State.recordsOf_move, if_pos rfl]
  have fetching : ∀ t ∈ freed.recordsOf c.number, t.state = .fetching := by
    have entered : ∀ t ∈ moved.recordsOf c.number, t.state = .fetching := by
      rw [moving]
      exact List.forall_mem_map.mpr fun t _ => by rw [Ticket.enter_of_ne (x := .fetching) (by decide)]
    rcases moved.cancelLane_recordsOf c.number with same | same
    · rwa [same]
    · rw [same]
      exact List.forall_mem_map.mpr entered
  obtain ⟨records, lanes⟩ := freed.serveLanes_spares Config.laneCount (n := c.number) fun t mem => by
    simp [Ticket.wantsLane, fetching t mem]
  rw [told]
  have entered : moved.ticket c.number = some { c with state := .fetching, verify := false } := State.ticket_entered found (by decide)
  have cancelled : freed.ticket c.number = some { c with state := .fetching, verify := false } ∨
      freed.ticket c.number = some { c with state := .fetching, verify := false, lane := none } := by
    rw [State.ticket_eq_head] at entered ⊢
    rcases moved.cancelLane_recordsOf c.number with same | same
    · exact .inl ((congrArg List.head? same).trans entered)
    · exact .inr ((congrArg List.head? same).trans (by rw [List.head?_map, entered]; rfl))
  have unreserved (n : Nat) : ¬ ((freed.laneGrantCheck.lane n).state = .reserved ∧
      (freed.laneGrantCheck.lane n).ticket = some c.number) := by
    rintro ⟨reserved, own⟩
    have reserved' : freed.laneGrantCheck.reservedFor n c.number = true := by simp [State.reservedFor, reserved, own]
    rcases lanes n with kept | ⟨-, k, other, taken⟩
    · have none := moved.cancelLane_unreserved c.number n
      rw [← State.reservedFor_congr (t := freed.laneGrantCheck) kept, reserved'] at none
      cases none
    · rw [State.laneGrantCheck, taken] at own
      exact other (Option.some.inj own)
  rcases cancelled with same | same
  · exact ⟨_, (State.ticket_of_records records).trans same, rfl, rfl, unreserved⟩
  · exact ⟨_, (State.ticket_of_records records).trans same, rfl, rfl, unreserved⟩

theorem State.tellTurnback_other {s : State} {c : Ticket} (found : s.ticket c.number = some c) (state : c.state ≠ .descending) :
    s.tellTurnback (some c.number) = s := by
  simp only [State.tellTurnback, Option.bind_some, found, state, if_false]

theorem State.tellTurnback_lifts (s : State) (n : Option Nat) : (s.tellTurnback n).arbiter.lifts = s.arbiter.lifts := by
  unfold State.tellTurnback
  split
  · rfl
  · split
    · exact (State.laneGrantCheck_lifts _).trans ((State.cancelLane_lifts _ _).trans
        (congrArg Arbiter.lifts (State.moveTicket_frame _ _ _).2.2.2.2.2.2.1))
    · rfl

/-- A lift after a turnback of a tenure with a ticket: the tenure waits again in its place (R113). -/
theorem State.turnBack_lift {s : State} {l n : Nat} (low : 1 ≤ l) (high : l ≤ 4) {w : Tenure} (named : w.ticket = some n)
    (x : LiftState) : (s.turnBack l w x).lift l = { s.lift l with
      queue := insertBy tenureBefore { w with state := .waiting } (s.lift l).queue, current := none, state := x } := by
  refine (State.lift_of_lifts (State.tellTurnback_lifts _ _) l).trans ((State.lift_setLift_same _ _ _ low high).trans ?_)
  rw [named]

/-- What a turnback of a GRANTED tenure does, but for the lift's own state (R113). -/
theorem State.turnBack_result {s : State} {l : Nat} {w : Tenure} {c : Ticket} (low : 1 ≤ l) (high : l ≤ 4)
    (named : w.ticket = some c.number) (found : s.ticket c.number = some c) (x : LiftState) :
    { w with state := .waiting } ∈ ((s.turnBack l w x).lift l).queue ∧
    ((s.turnBack l w x).lift l).queue.length = (s.lift l).queue.length + 1 ∧
    (c.state = .descending → ∃ k, (s.turnBack l w x).ticket c.number = some k ∧ k.state = .fetching ∧
      k.laneRequest = c.laneRequest ∧ ∀ n, 1 ≤ n → n ≤ 6 →
        ¬(((s.turnBack l w x).lane n).state = .reserved ∧ ((s.turnBack l w x).lane n).ticket = some c.number)) ∧
    ((c.state = .parking ∨ c.state = .restaging) → (s.turnBack l w x).ticket c.number = some c) := by
  have perm := insertBy_perm tenureBefore { w with state := .waiting } (s.lift l).queue
  rw [State.turnBack_lift low high named]
  refine ⟨perm.mem_iff.mpr List.mem_cons_self, perm.length_eq.trans rfl, fun descending => ?_, fun states => ?_⟩
  · obtain ⟨k, told, fetching, request, unreserved⟩ := State.tellTurnback_descending (s := s.setLift l _) found descending
    exact ⟨k, by rw [State.turnBack, named]; exact told, fetching, request,
      fun n _ _ => by rw [State.turnBack, named]; exact unreserved n⟩
  · have still : c.state ≠ .descending := by rcases states with state | state <;> simp [state]
    rw [State.turnBack, named]
    exact (congrArg (State.ticket · _) (State.tellTurnback_other (s := s.setLift l _) found still)).trans found

/-- Settles O39: the turnback, after which the BUSY lift grants nothing. -/
theorem obstructionTurnsTheTenureBack : Obligations.ObstructionTurnsTheTenureBack := by
  intro s f l level w c speaks fits busy current granted named found
  obtain ⟨hears, -, -, low, high⟩ := id speaks
  have same : (s.heard f).lift l = s.lift l := s.lift_heard f l
  have found : (s.heard f).ticket c.number = some c := (s.ticket_heard f _).trans found
  have lift := State.turnBack_lift (s := s.heard f) low high named .busy
  have taken : (s.heard f).liftObstructed l = (s.heard f).turnBack l w .busy := by
    simp only [State.liftObstructed, same, busy, current, granted, if_true]
    exact State.grantCheck_idle (.inr (.inl (by simp [lift])))
  have rest := (keepsRest_workKeeps (s.heard f)).liftObstructed l (State.KeepsRest.refl _)
  rw [taken] at rest
  obtain ⟨waits, longer, descending, others⟩ := State.turnBack_result (s := s.heard f) low high named found .busy
  rw [same] at longer
  obtain ⟨-, stalls, -, -, keys, dispatch, -, events, -⟩ := (s.heard f).turnBack_frame l w .busy
  exact ⟨_, (speaks.report fits _).trans (next_congr taken), rest.heardSetup, congrArg Lift.state lift, congrArg Lift.current lift,
    waits, longer, descending, others, events.trans (s.heard_events f), stalls.trans (s.heard_stalls f),
    keys.trans (s.heard_keys f), dispatch.trans (s.heard_dispatch f)⟩

end Sys2Proof.Machine
end

section
/-! PROOFS of O41 and O42: lane and lift grants, and lane reports. -/

namespace Sys2Proof.Machine

open Sys2Proof

/-! ### Lane reports (R120 to R122) -/

theorem State.noLaneRequest_congr {s t : State} (same : t.tickets = s.tickets) : t.NoLaneRequest ↔ s.NoLaneRequest := by
  rw [State.NoLaneRequest, State.NoLaneRequest, same]

theorem State.freeLane_quiet {s : State} {n : Nat} (none : s.NoLaneRequest) : s.freeLane n =
    s.setLane n { state := .free, ticket := Option.none, turnbackHold := false, clearingBy := Option.none } :=
  State.laneGrantCheck_idle (.inr none)

/-- Settles O42: each report by the state of the lane; the delivery, and the turnback, of the lane's ticket. -/
theorem laneReportsFollowTheLane : Obligations.LaneReportsFollowTheLane := by
  refine ⟨fun s f n speaks => ?_, fun s f n speaks => ?_, fun s f n c speaks reserved named found => ?_⟩
  · have same : (s.heard f).lane n = s.lane n := s.lane_heard f n
    refine ⟨fun states => ?_, fun clearing => ?_, fun states => ?_⟩
    all_goals refine (speaks.report _).trans (next_congr ?_)
    · rcases states with state | state <;> simp only [State.laneOccupied, same, state] <;> rfl
    · simp only [State.laneOccupied, same, clearing]
      rfl
    · rcases states with state | state <;> simp only [State.laneOccupied, same, state]
  · have same : (s.heard f).lane n = s.lane n := s.lane_heard f n
    refine ⟨fun states none => ?_, fun blocked hold => ?_, fun states => ?_⟩
    all_goals refine (speaks.report _).trans (next_congr ?_)
    · have quiet := State.freeLane_quiet (n := n) ((State.noLaneRequest_congr (s.heard_tickets f)).mpr none)
      rcases states with state | state | ⟨state, hold⟩ <;> simp [State.laneClear, *]
    · simp only [State.laneClear, same, blocked, hold, if_true, s.now_heard f, s.heard_params f]
      rfl
    · rcases states with state | state | state <;> simp only [State.laneClear, same, state]
  · obtain ⟨hears, -, -, low, high⟩ := id speaks
    have same : (s.heard f).lane n = s.lane n := s.lane_heard f n
    have heard : (s.heard f).ticket c.number = some c := (s.ticket_heard f _).trans found
    have rest := (keepsRest_workKeeps (s.heard f)).laneOccupied n (State.KeepsRest.refl _)
    refine ⟨fun toCurb => ?_, fun descending none => ?_⟩
    · have taken : (s.heard f).laneOccupied n = (s.heard f).deliver n c := by
        simp only [State.laneOccupied, same, reserved, named, Option.bind_some, heard, toCurb]
      rw [taken] at rest
      let stood := (s.heard f).setLane n { s.lane n with state := .occupied }
      let told := (stood.moveTicket c.number .atCurb).raise .atCurb n
      have delivered : (s.heard f).deliver n c = told.stagingFell c.lift := by
        rw [State.deliver, same]
      have entered : told.recordsOf c.number = (stood.recordsOf c.number).map (·.enter .atCurb stood.now) :=
        (stood.recordsOf_move c.number c.number .atCurb).trans (if_pos rfl)
      obtain ⟨records, lanes⟩ := State.stagingFell_spares (s := told) (n := c.number) (by
        rw [entered]
        refine List.forall_mem_map.mpr fun t _ => ?_
        simp [Ticket.enter, Ticket.wantsLane]) c.lift
      have lane : told.lane n = { s.lane n with state := .occupied } :=
        (State.lane_congr (State.moveTicket_frame _ _ _).2.2.2.2.2.2.1 n).trans (State.lane_setLane_same _ _ _ low high)
      have ticket : told.ticket c.number = some { c with
          state := .atCurb, atCurbAt := some s.now, overduePending := true, verify := false } := by
        refine (stood.ticket_moveTicket_same c.number .atCurb).trans ?_
        rw [show stood.ticket c.number = some c from heard, show stood.now = s.now from s.now_heard f]
        rfl
      obtain ⟨more, waiting⟩ := told.stagingFell_waiting c.lift
      obtain ⟨-, stalls, -, -, keys, dispatch, -⟩ := told.stagingFell_frame c.lift
      obtain ⟨-, stalls', -, -, keys', dispatch', -, -, -, -, events', -⟩ := stood.moveTicket_frame c.number .atCurb
      rw [delivered] at taken rest
      refine ⟨_, (speaks.report _).trans (next_congr taken), rest.heardSetup, ?_, (State.ticket_of_records records).trans ticket,
        ⟨more, waiting.trans ?_⟩, stalls.trans (stalls'.trans (s.heard_stalls f)), keys.trans (keys'.trans (s.heard_keys f)),
        dispatch.trans (dispatch'.trans (s.heard_dispatch f))⟩
      · rcases lanes n with kept | ⟨free, -⟩
        · exact kept.trans lane
        · rw [lane] at free
          cases free
      · have waiting : told.events.waiting = s.events.waiting ++ [⟨.atCurb, n⟩] := by
          show (stood.moveTicket c.number .atCurb).events.waiting ++ _ = _
          rw [events']
          exact congrArg (·.waiting ++ _) (s.heard_events f)
        rw [waiting, List.append_assoc]
        rfl
    · have taken : (s.heard f).laneOccupied n = (s.heard f).laneTurnback n c := by
        simp only [State.laneOccupied, same, reserved, named, Option.bind_some, heard, descending]
      rw [taken] at rest
      let turned := (((s.heard f).setLane n { state := .blocked, ticket := Option.none, turnbackHold := true, clearingBy := Option.none }).modifyTicket
        c.number fun t => { t with lane := Option.none, turnbacks := min 255 (t.turnbacks + 1) }).raise .laneTurnback n
      have lane : turned.lane n = { state := .blocked, ticket := Option.none, turnbackHold := true, clearingBy := Option.none } :=
        State.lane_setLane_same _ _ _ low high
      have others (m) (other : m ≠ n) : turned.lane m = s.lane m :=
        (State.lane_setLane_ne _ _ _ _ (Ne.symm other)).trans (s.lane_heard f m)
      have full : turned.freeLanes = [] := by
        refine List.eq_nil_iff_forall_not_mem.mpr fun m mem => ?_
        obtain ⟨inside, configured, free⟩ := State.mem_freeLanes.mp mem
        by_cases here : m = n
        · rw [here, lane] at free
          cases free
        · rw [others m here] at free
          have configured : s.laneConfigured m = true := by
            rw [State.laneConfigured, ← s.heard_params f]
            exact configured
          exact absurd (State.mem_freeLanes.mpr ⟨inside, configured, free⟩) (by simp [none])
      have done : (s.heard f).laneTurnback n c = turned := State.laneGrantCheck_idle (.inl full)
      rw [done] at taken rest
      have ticket (m) := State.ticket_edit ((s.heard f).setLane n { state := .blocked, ticket := Option.none, turnbackHold := true, clearingBy := Option.none })
        c.number m fun t => { t with lane := Option.none, turnbacks := min 255 (t.turnbacks + 1) }
      refine ⟨_, (speaks.report _).trans (next_congr taken), rest.heardSetup, lane, (ticket c.number).trans ?_, ?_, s.heard_stalls f,
        by show (s.heard f).arbiter.lifts = _; rw [s.heard_arbiter f], s.heard_keys f, s.heard_dispatch f, fun m other => (ticket m).trans ?_,
        s.heard_unplaced f, s.heard_issue f⟩
      · exact (congrArg _ heard).trans (by simp)
      · exact congrArg (·.waiting ++ _) (s.heard_events f)
      · exact (congrArg _ (s.ticket_heard f m)).trans (by simp [other])

end Sys2Proof.Machine
end

section
/-! PROOFS of O35, O45, O51 and O52: how a management request is judged, and the requests to the channels. -/

namespace Sys2Proof.Machine

open Sys2Proof

/-! ### KEY_REQUEST (R69, R70) -/

/-- A step other than HANDOVER of a ticket's holder gets to the ticket. -/
theorem State.Holds.heldStep {s : State} {f : From} {b : Nat} {c : Ticket} (holds : s.Holds f b c)
    (k : Ticket → State × Answer) : (s.heard f).heldStep b c.number k = k c := by
  obtain ⟨-, holder, found⟩ := holds
  have held : (s.heard f).holdsTask b c.number = true := by rwa [State.holdsTask, s.runner_heard]
  rw [State.heldStep, if_pos held, s.ticket_heard, found]

/-- A step other than HANDOVER, taken by the holder of its ticket's task. -/
theorem State.Holds.step {s : State} {f : From} {b : Nat} {c : Ticket} (holds : s.Holds f b c) (kind : RunnerFrameKind)
    (k : State → Ticket → State × Answer) {u : State} {o : Answer} (taken : k (s.heard f) c = (u, o)) :
    (.next (s.onFrame f fun s => s.runnerFrame f.source b kind (some c.number) fun s => s.heldStep b c.number (k s)) :
      Host.Outcome State Fault Refusal) = .next (u.oweRunner b kind o (some c.number)) :=
  holds.1.frame kind _ ((holds.heldStep _).trans taken)

/-- Settles O35: the custody of the bound hook, and the state of its panel, decide. -/
theorem keyRequestReleasesTheKey : Obligations.KeyRequestReleasesTheKey := by
  refine ⟨fun s f b h c holds state => ?_, fun s f b c holds fetching restaging => ?_⟩
  · have frame {t : State} {o : Answer} (result : (s.heard f).keyStep b c = (t, o)) :
        exec (.keyRequest f b c.number) s = .next (t.oweRunner b .keyRequest o (some c.number)) :=
      holds.step .keyRequest (fun s => s.keyStep b) result
    have toKey : (s.heard f).keyStep b c = (s.heard f).requestKey c b := by
      rcases state with state | state <;> rw [State.keyStep, state]
    have asked {g : Nat} (bound : c.hook = some g) : (s.heard f).keyStep b c =
        (if (s.panel (panelOf g)).state = .faulted then (s.heard f, .keyPanel)
        else match (s.hook g).custody with
          | .cabinet => ((s.heard f).setHook g { s.hook g with
              custody := .released, runner := some b,
              releaseBy := some ⟨s.now.plusSeconds s.params.releaseWindow, false⟩ }, .done)
          | .missing => (((s.heard f).setHook g { s.hook g with custody := .out, runner := some b }).setAlert g false, .done)
          | _ => (s.heard f, .keyState)) := by
      rw [toKey, State.requestKey, bound]
      simp only [s.panel_heard, s.hook_heard, s.now_heard, s.heard_params]
      rfl
    refine ⟨fun bound => frame ?_, fun bound faulted => frame ?_, fun bound works cabinet => ?_,
      fun bound inside own works missing => ?_, fun bound works cabinet missing => frame ?_⟩
    · rw [toKey, State.requestKey, bound]
    · rw [asked bound, if_pos faulted]
    · refine (frame (by rw [asked bound, if_neg works, cabinet])).trans rfl
    · refine (frame (by rw [asked bound, if_neg works, missing])).trans ?_
      rw [State.setAlert, State.hook_setHook_same _ _ _ (show h < Config.hookCount from inside), own]
    · rw [asked bound, if_neg works]
      cases custody : (s.hook h).custody <;> simp_all
  · refine holds.step .keyRequest (fun s => s.keyStep b) ?_
    rw [State.keyStep]
    cases state : c.state <;> simp_all

/-! ### The judging of a management request (R195) -/

section

variable {α : Type} {s : State} {f : From} (code : ManageCode) (r : Wire α) (form : α → ManageRecord)
  (k : α → State → State × Answer × Option (Option LatchContent))

theorem State.Hears.manage_ignored (h : s.Hears f) (other : s.classOf f.source ≠ .desk) :
    (s.onFrame f fun s => s.admitManage f.source code r form k) = s.heard f :=
  (s.onFrame_heard f _ h).trans (if_neg (by rwa [h.classOf_heard]))

theorem State.Hears.manage_refused (h : s.Hears f) (desk : s.classOf f.source = .desk)
    (off : (s.permissionsOf f.source).manage = false) :
    (s.onFrame f fun s => s.admitManage f.source code r form k) =
      (s.heard f).replied f code .permission (recordOf r form) (s.heard f) := by
  refine (s.onFrame_heard f _ h).trans ((if_pos (h.classOf_heard.trans desk)).trans ?_)
  cases r <;> simp [h.permissionsOf_heard, off, State.replied, recordOf]

theorem State.Manages.tooShort (h : s.Manages f) :
    (s.onFrame f fun s => s.admitManage f.source code (.tooShort : Wire α) form k) =
      (s.heard f).replied f code .range .tooShort (s.heard f) := by
  obtain ⟨hears, desk, on⟩ := h
  refine (s.onFrame_heard f _ hears).trans ((if_pos (hears.classOf_heard.trans desk)).trans ?_)
  simp [hears.permissionsOf_heard, on, State.replied]

/-- An admitted request is taken, and its reply owed in the sender's slot. -/
theorem State.Manages.admitted (h : s.Manages f) (x : α) :
    (s.onFrame f fun s => s.admitManage f.source code (.fields x) form k) =
      (k x (s.heard f)).1.oweManage f.source ((s.heard f).commissioning f.source) code (k x (s.heard f)).2.1 (form x)
        (k x (s.heard f)).2.2 := by
  obtain ⟨hears, desk, on⟩ := h
  refine (s.onFrame_heard f _ hears).trans ((if_pos (hears.classOf_heard.trans desk)).trans ?_)
  simp [hears.permissionsOf_heard, on]

end

/-- An admitted request other than READ_LATCH and RESTART leaves what its rule makes of the state, and its reply. -/
theorem State.Manages.request {α : Type} {s : State} {f : From} (h : s.Manages f) {code : ManageCode} {form : α → ManageRecord}
    {x : α} (k : α → State → State × Answer) {t : State} {o : Answer} (taken : k x (s.heard f) = (t, o)) :
    (.next (s.manage f code (.fields x) form k) : Host.Outcome State Fault Refusal) =
      .next ((s.heard f).replied f code o (form x) t) := by
  refine next_congr ((h.admitted code form _ x).trans ?_)
  rw [taken]
  rfl

/-- A command that is a management request, but a RESTART that restarts, goes through the judging of R195. -/
theorem exec_manageRequest {s : State} {c : Instr} {f : From} {code : ManageCode} {record : ManageRecord}
    (request : manageRequest c = some (f, code, record)) (hears : s.Hears f)
    (stays : ¬ (s.classOf f.source = .desk ∧ (s.permissionsOf f.source).manage = true) ∨ record = .tooShort) :
    ∃ (α : Type) (r : Wire α) (form : α → ManageRecord) (k : α → State → State × Answer × Option (Option LatchContent)),
      record = recordOf r form ∧ (record = .tooShort → r = .tooShort) ∧
        exec c s = .next (s.onFrame f fun s => s.admitManage f.source code r form k) := by
  cases c
  case restart g strap =>
    cases request
    refine ⟨Unit, .fields (), fun _ => .empty, fun _ s => (s, .done, none), rfl, nofun, next_congr ((s.onFrame_heard f _ hears).trans ?_)⟩
    refine (if_neg ?_).trans (s.onFrame_heard f (fun s => s.admitManage f.source _ _ _ _) hears).symm
    rw [hears.classOf_heard, hears.permissionsOf_heard]
    exact stays.resolve_right nofun
  case loadStation g r | loadStall g r | loadParams g r | loadPassRule g r | loadRoute g r | loadTimer g r | loadMasks g r |
      setStallService g r | setClock g r | startTimer g r | stopTimer g r | readTicket g r | readStall g r | readHook g r |
      readRunner g r | readCounts g r | readLatch g r | clearFlags g r | rebindHook g r | restage g r | forceClose g r =>
    cases request
    refine ⟨_, r, _, _, rfl, ?_, rfl⟩
    cases r
    exacts [fun _ => rfl, nofun]
  case readFlags | readEstimates | manageUnknownKind =>
    cases request
    exact ⟨Unit, .fields (), fun _ => .empty, _, rfl, nofun, rfl⟩
  all_goals cases request

/-- Settles O45: every request goes through one judging of its sender and length. -/
theorem managementNeedsItsPermission : Obligations.ManagementNeedsItsPermission := by
  refine ⟨fun s c f code record request hears => ⟨fun desk off => ?_, fun other => ?_, fun manages short => ?_⟩,
    fun s f x manages => manages.request _ rfl⟩
  · obtain ⟨α, r, form, k, rfl, -, run⟩ := exec_manageRequest request hears (.inl fun both => by simp [off] at both)
    exact run.trans (next_congr (hears.manage_refused code r form k desk off))
  · obtain ⟨α, r, form, k, -, -, run⟩ := exec_manageRequest request hears (.inl fun both => other both.1)
    exact run.trans (next_congr (hears.manage_ignored code r form k other))
  · obtain ⟨α, r, form, k, -, tooShort, run⟩ := exec_manageRequest request hears (.inr short)
    obtain rfl := tooShort short
    exact run.trans (next_congr (manages.tooShort code form k))

/-! ### The channels (R167 to R169) -/

theorem setNth_self {α : Type} {n : Nat} (v : Vector α n) (i : Nat) (d : α) : setNth v i (nth v i d) = v :=
  setNth1_self v (i + 1) d

theorem State.setChannel_self (s : State) (k : Nat) : s.setChannel k (s.channel k) = s := by
  rw [State.setChannel, State.channel, setNth_self]

/-- A channel's record, when every one of the eight is as a channel is at rest. -/
theorem State.ChannelsRight.channel {s : State} (right : s.ChannelsRight) {k : Nat} (low : k < 8) :
    (s.channel k).atRest = true := by
  rw [State.channel, nth, Vector.getElem?_eq_getElem (show k < Config.channelCount from low)]
  exact List.all_eq_true.mp right _ (by simp)

/-- Settles O51: a request of a channel 0 to 7 is judged by its mode and state. -/
theorem timersStartAndStop : Obligations.TimersStartAndStop := by
  intro s f k manages
  have start {t : State} {o : Answer} (taken : (s.heard f).requestStart k = (t, o)) :=
    manages.request (code := .startTimer) (form := .number) (x := k) (fun k s => s.requestStart k) taken
  have stop {t : State} {o : Answer} (taken : (s.heard f).requestStop k = (t, o)) :=
    manages.request (code := .stopTimer) (form := .number) (x := k) (fun k s => s.requestStop k) taken
  have started (low : k < 8) : (s.heard f).requestStart k = (s.heard f).startTimer k := if_pos low
  have stopped (low : k < 8) : exec (.stopTimer f (.fields k)) s =
      .next ((s.heard f).replied f .stopTimer .done (.number k) ((s.heard f).setChannel k (s.channel k).stop)) :=
    stop ((if_pos low).trans (by rw [s.channel_heard]))
  refine ⟨fun high => ⟨start (if_neg (by simpa [Config.channelCount] using high)),
    stop (if_neg (by simpa [Config.channelCount] using high))⟩, fun low off => start ?_, fun low on runs => start ?_,
    fun low mode rests => start ?_, fun low mode rests => start ?_, stopped, fun low rests right => ?_⟩
  · rw [started low, State.startTimer, s.channel_heard]
    exact if_pos off
  · rw [started low, State.startTimer, s.channel_heard]
    exact (if_neg on).trans (if_pos runs)
  · rw [started low, State.startTimer, s.channel_heard]
    refine (if_neg (by simp [mode])).trans ((if_neg (by simpa using rests)).trans ?_)
    rw [Channel.start, mode]
    rfl
  · rw [started low, State.startTimer, s.channel_heard]
    refine (if_neg (by rintro off; simp [off] at mode)).trans ((if_neg (by simpa using rests)).trans ?_)
    rw [Channel.start]
    rcases mode with mode | mode | mode <;> rw [mode] <;> rfl
  · obtain ⟨-, zero, quiet⟩ := (s.channel k).atRest_iff.mp (right.channel low)
    obtain ⟨drive, pulse, elapsed, due⟩ := quiet rests
    have same : (s.channel k).stop = s.channel k := by
      have counter := zero (by simp [rests])
      unfold Channel.stop
      cases c : s.channel k
      simp_all
    refine ⟨drive, (stopped low).trans ?_⟩
    rw [same, ← s.channel_heard f k, State.setChannel_self]

theorem State.clockFits_iff {s : State} {c : Nat} {clock : TimerClock} {source : Option Nat} :
    s.clockFits c clock source = true ↔
      (clock = .event → ∃ k, source = some k ∧ k < 30 ∧ ∀ j, j < 8 →
        (k = 22 + j → j ≠ c ∧ (s.channel j).clock ≠ .event) ∧
          (j ≠ c → (s.channel j).clock = .event → (s.channel j).clockSource ≠ some (22 + c))) ∧
        (clock ≠ .event → source = none) := by
  by_cases event : clock = .event
  · cases source <;>
      simp [State.clockFits, event, Config.sourceCount, Config.channelCount, timerSource, imp_iff_not_or, or_assoc]
  · cases clock <;> simp_all [State.clockFits]

theorem State.masterFits_iff {s : State} {c : Nat} {mode : TimerMode} {master : Option Nat} :
    s.masterFits c mode master = true ↔
      (mode = .window → ∃ m, master = some m ∧ m < 8 ∧ m ≠ c ∧
        ((s.channel m).mode = .interval ∨ (s.channel m).mode = .delay)) ∧
      (mode ≠ .window → master = none) ∧
      (mode ≠ .interval → mode ≠ .delay → ∀ j, j < 8 → j ≠ c → (s.channel j).mode = .window →
        (s.channel j).master ≠ some c) := by
  by_cases window : mode = .window
  · cases master <;>
      simp [State.masterFits, window, Config.channelCount, imp_iff_not_or, or_assoc, and_assoc]
  · cases mode <;> simp_all [State.masterFits, Config.channelCount, imp_iff_not_or, or_assoc]

theorem targetFits_iff {mode : TimerMode} {clock : TimerClock} {target : CaptureTarget} :
    targetFits mode clock target = true ↔ (target ≠ .none → mode = .capture ∧ clock ≠ .event) := by
  simp [targetFits, imp_iff_not_or]

/-- R167's list is exactly what LOAD_TIMER's reading of values in their sets lets through. -/
theorem State.timerRefused_values {s : State} {k reload : Nat} {mode : TimerMode} {clock : TimerClock}
    {source master : Option Nat} {output : OutputLine} {target : CaptureTarget} :
    s.TimerRefused ⟨k, .value mode, .value clock, source, reload, master, .value output, .value target⟩ ↔
      ¬ (k < 8 ∧ s.clockFits k clock source = true ∧ s.masterFits k mode master = true ∧
        Machine.targetFits mode clock target = true) := by
  rw [State.clockFits_iff, State.masterFits_iff, targetFits_iff]
  constructor
  · rintro refused ⟨low, ⟨counts, plain⟩, ⟨window, other, mastered⟩, captures⟩
    cases refused with
    | channel h => exact absurd low (by simpa using h)
    | outsideSet h => simp at h
    | sourceAbsent h h' =>
      obtain ⟨_, present, -⟩ := counts (by simpa using h)
      simp_all
    | sourceRange j h h' h'' =>
      obtain ⟨_, present, low, -⟩ := counts (by simpa using h)
      simp_all
      omega
    | sourcePresent c h h' h'' => simp_all
    | masterAbsent h h' => simp_all
    | masterItself h h' => simp_all
    | masterMode m h h' h'' =>
      obtain ⟨m', present, low, -, modes⟩ := window (by simpa using h)
      obtain rfl : m = m' := Option.some.inj (h'.symm.trans present)
      rcases h'' with high | ⟨interval, delay⟩
      · omega
      · exact modes.elim interval delay
    | masterPresent m h h' h'' => simp_all
    | target t h h' h'' => simp_all
    | countsEventChannel j h hj h' h'' =>
      obtain ⟨i, present, -, fits⟩ := counts (by simpa using h)
      have := (fits j hj).1
      simp_all
    | countedByEventChannel j h hj h' h'' h''' =>
      obtain ⟨i, -, -, fits⟩ := counts (by simpa using h)
      exact (fits j hj).2 h' h'' h'''
    | isMaster m j h h' hj hne h'' h''' =>
      obtain rfl : mode = m := by simpa using h
      exact mastered h'.1 h'.2 j hj hne h'' h'''
  · intro misfit
    by_contra accepted
    have low : k < 8 := by
      by_contra high
      exact accepted (.channel (by simpa using high))
    refine misfit ⟨low, ⟨fun event => ?_, fun other => ?_⟩, ⟨fun window => ?_, fun other => ?_,
      fun interval delay j hj ne slave master => ?_⟩, fun some => ⟨?_, fun event => ?_⟩⟩
    · subst event
      cases present : source with
      | none => exact absurd (.sourceAbsent rfl present) accepted
      | some i =>
        refine ⟨i, rfl, ?_, fun j hj => ⟨fun own => ⟨fun same => ?_, fun event => ?_⟩, fun ne event counted => ?_⟩⟩
        · by_contra high
          exact accepted (.sourceRange i rfl present (by omega))
        · exact accepted (.countsEventChannel j rfl hj (by rw [← own]; exact present) (.inl same))
        · exact accepted (.countsEventChannel j rfl hj (by rw [← own]; exact present) (.inr event))
        · exact accepted (.countedByEventChannel j rfl hj ne event counted)
    · by_contra present
      exact accepted (.sourcePresent clock rfl other present)
    · subst window
      cases present : master with
      | none => exact absurd (.masterAbsent rfl present) accepted
      | some m =>
        have modes : ¬ (8 ≤ m ∨ (s.channel m).mode ≠ .interval ∧ (s.channel m).mode ≠ .delay) :=
          fun outside => accepted (.masterMode m rfl present outside)
        refine ⟨m, rfl, by omega, fun itself => accepted (.masterItself rfl (by rw [present, itself])), by tauto⟩
    · by_contra present
      exact accepted (.masterPresent mode rfl other present)
    · exact accepted (.isMaster mode j rfl ⟨interval, delay⟩ hj ne slave master)
    · by_contra other
      exact accepted (.target target rfl some (.inl (by simpa using other)))
    · exact accepted (.target target rfl some (.inr (by rw [event])))

/-- Of values in their sets LOAD_TIMER reads the stored record, unless R167's list refuses them. -/
theorem State.readTimer_values {s : State} {k reload : Nat} {mode : TimerMode} {clock : TimerClock}
    {source master : Option Nat} {output : OutputLine} {target : CaptureTarget} :
    s.readTimer ⟨k, .value mode, .value clock, source, reload, master, .value output, .value target⟩ =
      if k < 8 ∧ s.clockFits k clock source = true ∧ s.masterFits k mode master = true ∧
          Machine.targetFits mode clock target = true then
        some (k, { Channel.cold with mode, clock, clockSource := source, reload := clampTo 1 65535 reload, master, output, target })
      else none := by
  simp [State.readTimer, Sent.get?, Config.channelCount, Config.countTop, and_assoc]

/-- The setup that LOAD_TIMER reads is refused in the cases of R167's list. -/
theorem State.readTimer_refused {s : State} {x : TimerFields} (refused : s.TimerRefused x) : s.readTimer x = none := by
  obtain ⟨k, mode, clock, source, reload, master, output, target⟩ := x
  cases mode <;> cases clock <;> cases output <;> cases target
  case value.value.value.value => rw [State.readTimer_values, if_neg (State.timerRefused_values.mp refused)]
  all_goals simp [State.readTimer, Sent.get?]

theorem State.readTimer_heard (s : State) (f : From) (x : TimerFields) : (s.heard f).readTimer x = s.readTimer x := by
  have clock (c k i) : (s.heard f).clockFits c k i = s.clockFits c k i := by
    simp only [State.clockFits, s.channel_heard]
  have master (c k i) : (s.heard f).masterFits c k i = s.masterFits c k i := by
    simp only [State.masterFits, s.channel_heard]
  simp only [State.readTimer, clock, master]

/-- Settles O52: what is read is exactly what R167's list does not refuse. -/
theorem timerLoadsStoreTheSetup : Obligations.TimerLoadsStoreTheSetup := by
  refine ⟨fun s f k reload mode clock source master output target manages fits accepted => ?_, fun s f x manages refused => ?_⟩
  · have load {t : State} {o : Answer} (taken : (s.heard f).loadTimer
        ⟨k, .value mode, .value clock, source, reload, master, .value output, .value target⟩ = (t, o)) :=
      manages.request (code := .loadTimer) (form := .timer) (fun x s => s.loadTimer x) taken
    have read := State.readTimer_values (s := s) (reload := reload) (output := output) (k := k) (mode := mode)
      (clock := clock) (source := source) (master := master) (target := target)
    rw [if_pos (not_not.mp (mt State.timerRefused_values.mpr accepted))] at read
    have clamped : clampTo 1 65535 reload = if reload = 0 then 1 else reload := by
      unfold clampTo
      split <;> omega
    refine ⟨fun stopped => load ?_, fun runs => load ?_⟩
    · rw [State.loadTimer, s.readTimer_heard, read]
      refine (if_neg (by simpa [s.channel_heard] using stopped)).trans ?_
      rw [clamped]
      by_cases zero : reload = 0
      · rw [if_pos zero, if_pos zero, clampedOr, zero]
        rfl
      · simp [zero, clampedOr, Channel.cold]
    · rw [State.loadTimer, s.readTimer_heard, read]
      exact if_pos (by simpa [s.channel_heard] using runs)
  · refine manages.request (fun x s => s.loadTimer x) ?_
    rw [State.loadTimer, s.readTimer_heard, State.readTimer_refused refused]

end Sys2Proof.Machine
end

section
/-! PROOFS of O46 and O49: the reads, their replies, the loads of the small tables, the parameters. -/

namespace Sys2Proof.Machine

open Sys2Proof

/-! ### What a reply carries (R195, R197) -/

/-- A bank as the list of its records. -/
theorem toList_eq_map {α : Type} {n : Nat} (v : Vector α n) (d : α) : v.toList = (List.range n).map fun i => nth v i d := by
  refine List.ext_getElem (by simp) fun i low low' => ?_
  have low : i < n := by simpa using low
  simp [nth, Vector.getElem?_eq_getElem low]

/-- The number of records with a property is that of their numbers 1 to `n`. -/
theorem countP_bank {α : Type} {n : Nat} (v : Vector α n) (d : α) (p : α → Bool) :
    v.toList.countP p = ((oneTo n).filter fun b => p (nth1 v b d)).length := by
  rw [toList_eq_map v d, List.countP_map, oneTo, ← List.countP_eq_length_filter, List.countP_map]
  rfl

/-- A reply of DONE carries the record's numbers and the content read as it is built. -/
theorem State.Answers.of {s : State} {code : ManageCode} {record : ManageRecord} {content : ManageContent}
    (built : ∀ overrun commissioning, s.manageContent
      { code, outcome := .done, record, latch := none, overrun, commissioning } = content) :
    s.Answers code record record.numbers content := fun a overrun commissioning => by
  rw [State.buildManage, built overrun commissioning]

theorem State.entryOf_none {s : State} {n : Nat} (gone : ∀ e ∈ s.calls.schedule, e.ticket ≠ n) : s.entryOf n = none :=
  List.find?_eq_none.mpr fun e mem => by simpa using gone e mem

/-- The flags that are kept when some are marked to be cleared. -/
theorem nth_zipBank {n : Nat} (v w : Vector Bool n) {k : Nat} (low : k < n) :
    nth (zipBank (fun flag mark => flag && !mark) v w) k false = (nth v k false && !nth w k false) := by
  simp [nth, zipBank, Vector.getElem?_eq_getElem low]

theorem State.named_isSome {s : State} {n : Nat} :
    (s.named n).isSome = true ↔ 1 ≤ n ∧ n ≤ 9999 ∧ s.ticket n ≠ none := by
  rw [Option.isSome_iff_ne_none, State.named]
  split
  next inside => simp_all [Config.maxTicketNumber]
  next outside =>
    simp only [Config.maxTicketNumber] at outside
    tauto

theorem State.manageContent_refused {s : State} {slot : ManageSlot} (refused : slot.outcome ≠ .done) :
    s.manageContent slot = .nothing := by
  unfold State.manageContent
  split <;> simp_all

/-- Settles O46. -/
theorem readsAndTableLoadsChangeNoMore : Obligations.ReadsAndTableLoadsChangeNoMore := by
  refine ⟨fun s f manages => ?_, fun s => ?_⟩
  · have read {α : Type} {code : ManageCode} {form : α → ManageRecord} {x : α} {k : α → State → State × Answer} {named p : Prop}
        [Decidable named] [Decidable p] (taken : k x (s.heard f) = (s.heard f, if p then .done else .range))
        (same : p ↔ named) : (.next (s.manage f code (.fields x) form k) : Host.Outcome State Fault Refusal) =
          .next ((s.heard f).replied f code (if named then .done else .range) (form x) (s.heard f)) :=
      manages.request k (taken.trans (by simp only [same]))
    have passTable : (s.heard f).links.passTable = s.links.passTable := by
      obtain ⟨-, -, -, -, -, -, -, -, -, -, same, -⟩ := s.heard_keepsSetup f
      exact same
    refine ⟨fun n part => ?_, fun k => ?_, fun h => ?_, fun b => ?_, fun k => ?_, ?_, ?_, fun n low => ?_, fun n high => ?_,
      fun m => ?_, fun m outside => ?_, fun n r low order fits => ?_, fun n low => ?_, fun n r high => ?_,
      fun n source filter action low inside fits within => ?_, fun n source filter action misfit => ?_, fun marks => ?_⟩
    · exact read (k := fun x s => s.requestRead _) rfl (by
        rw [Bool.and_eq_true, decide_eq_true_eq, State.named_isSome, s.ticket_heard])
    · exact read (k := fun x s => s.requestRead _) rfl (by simp [Config.stallCount])
    · exact read (k := fun x s => s.requestRead _) rfl (by simp [Config.hookCount])
    · exact read (k := fun x s => s.requestRead _) rfl (by simp [Config.runnerCount])
    · exact read (k := fun x s => s.requestRead _) rfl (by simp)
    · exact manages.request _ rfl
    · exact manages.request _ rfl
    · refine next_congr ((manages.admitted .readLatch .number _ n).trans ?_)
      rw [if_pos (show n < Config.latchCount from low)]
      have owing : (s.station f.source).manageReply.isSome = ((s.heard f).station f.source).manageReply.isSome := by
        rw [manages.1.station_heard]
      rw [owing, ← manages.1.commissioning_heard, ← s.heard_events f]
      rfl
    · refine next_congr ((manages.admitted .readLatch .number _ n).trans ?_)
      rw [if_neg (by simpa [Config.latchCount] using high)]
      rfl
    · refine manages.request (fun x s => s.loadMasks x) ?_
      rw [State.loadMasks, readMasks_values]
    · refine manages.request (fun x s => s.loadMasks x) ?_
      rw [State.loadMasks, readMasks_outside m outside]
    · refine manages.request (fun x s => s.loadPassRule x) ?_
      rw [State.loadPassRule, readPassRule, if_pos (show n < Config.passRuleCount from low)]
      simp [readRule, Sent.get?, order, fits, passTable]
    · refine manages.request (fun x s => s.loadPassRule x) ?_
      rw [State.loadPassRule, readPassRule, if_pos (show n < Config.passRuleCount from low)]
      simp [passTable]
    · refine manages.request (fun x s => s.loadPassRule x) ?_
      rw [State.loadPassRule, readPassRule, if_neg (by simpa [Config.passRuleCount] using high)]
    · have fitting : filterFits source filter = true := by
        cases filter with
        | none => rfl
        | some x => simpa [filterFits] using within x rfl
      refine manages.request (fun x s => s.loadRoute x) ?_
      simp [State.loadRoute, Sent.get?, Config.routeCount, Config.sourceCount, low, inside, fits, fitting]
    · refine manages.request (fun x s => s.loadRoute x) ?_
      have refused : ¬ (n < 16 ∧ source < 30 ∧ filterFits source filter = true ∧ actionFits action = true) := by
        rintro ⟨low, inside, -, fits⟩
        rcases misfit with high | high | misfit
        · omega
        · omega
        · simp [fits] at misfit
      simp only [State.loadRoute, Sent.get?, Config.routeCount, Config.sourceCount, Bool.and_eq_true, decide_eq_true_eq, and_assoc,
        if_neg refused]
    · refine ⟨_, manages.request (fun x s => s.requestClear x) rfl, fun k low => ?_⟩
      rw [nth_zipBank _ _ low, s.heard_events]
      rfl
  · have runners (x : RunnerState) : s.runnersIn x = ((oneTo 32).filter fun b => (s.runner b).state == x).length :=
      countP_bank _ _ _
    have stations (x : StationPresence) : s.stationsIn x = ((oneTo 60).filter fun a => (s.station a).presence == x).length :=
      countP_bank _ _ _
    refine ⟨fun n c found => ⟨.of fun _ _ => ?_, fun other => .of fun _ _ => ?_, fun e mem own once state => .of fun _ _ => ?_⟩,
      fun n part closed => .of fun _ _ => ?_, fun k => .of fun _ _ => rfl, fun h => .of fun _ _ => ?_, fun b => .of fun _ _ => rfl,
      ⟨s.countsView, .of fun _ _ => rfl, rfl, rfl, rfl, rfl, List.countP_eq_length_filter, List.countP_eq_length_filter,
        runners _, runners _, runners _, stations _, stations _, stations _, rfl, rfl⟩, .of fun _ _ => ?_, .of fun _ _ => rfl,
      fun part channels which => ?_, .of fun _ _ => ?_, .of fun _ _ => rfl, fun a n taken overrun commissioning => rfl,
      fun a slot refused => ?_⟩
    · show s.ticketContent n 0 = _
      obtain rfl := State.ticket_number found
      rw [State.ticketContent, found]
      rfl
    · show s.ticketContent n 1 = _
      obtain rfl := State.ticket_number found
      have entry : (if c.state = .scheduled then s.entryOf c.number else none) = none := by
        rcases other with gone | state
        · rw [State.entryOf_none gone]
          exact ite_self _
        · exact if_neg state
      rw [State.ticketContent, found]
      simp [State.ticketPart1, entry]
    · show s.ticketContent n 1 = _
      obtain rfl := State.ticket_number found
      have entry : s.entryOf c.number = some e := by
        rw [← own]
        exact find?_key (·.ticket) once mem
      rw [State.ticketContent, found]
      simp [State.ticketPart1, state, entry]
    · show s.ticketContent n part = _
      rw [State.ticketContent, closed]
    · show ManageContent.hook h _ _ _ = _
      simp [State.panelConfigured, panelOf, Config.hooksPerPanel]
    · show ManageContent.lifts (liftNumbers.map s.liftView) = _
      refine congrArg ManageContent.lifts (List.map_congr_left fun l _ => ?_)
      simp only [State.liftView, State.stagingCount, List.countP_eq_length_filter, Bool.and_comm]
    · rcases which with ⟨rfl, rfl⟩ | ⟨rfl, rfl⟩
      · refine .of fun _ _ => ?_
        show ManageContent.channels _ = _
        rw [toList_eq_map s.timers Channel.cold]
        rfl
      · refine .of fun _ _ => ?_
        show ManageContent.channels _ = _
        rw [toList_eq_map s.timers Channel.cold]
        rfl
    · show ManageContent.flags _ _ _ _ s.latchMarks = _
      rw [State.latchMarks, toList_eq_map s.events.latches none, List.map_map]
      refine congrArg _ (List.map_congr_left fun n _ => ?_)
      cases latch : nth s.events.latches n none <;> simp [latch]
    · exact ⟨slot.record.numbers, by rw [State.buildManage, State.manageContent_refused refused]⟩

/-! ### The parameter table (R198) -/

/-- A row of R198's numbers is what the model reads and stores for it. -/
theorem Params.NumberRow.stored {p q : Params} {n k low high : Nat} (row : p.NumberRow n k low high q) :
    paramKind k = some (.number low high) ∧ p.storeNumber k n = q ∧ low ≤ high ∧ k < 26 := by
  cases row with
  | stayTarget i h => interval_cases i <;> exact ⟨rfl, rfl, by decide, by decide⟩
  | stayWeight i h => interval_cases i <;> exact ⟨rfl, rfl, by decide, by decide⟩
  | _ => exact ⟨rfl, rfl, by decide, by decide⟩

/-- A row of R198's flags is what the model reads and stores for it. -/
theorem Params.FlagRow.stored {p q : Params} {b : Bool} {k : Nat} (row : p.FlagRow b k q) :
    paramKind k = some .flag ∧ p.storeFlag k b = q := by
  cases row with
  | lift l h =>
    obtain ⟨low, high⟩ := h
    interval_cases l <;> exact ⟨rfl, rfl⟩
  | lane n h =>
    obtain ⟨low, high⟩ := h
    interval_cases n <;> exact ⟨rfl, rfl⟩

/-- A row of R198's sets is what the model reads and stores for it. -/
theorem Params.SetRow.stored {p q : Params} {xs : List Nat} {k bound : Nat} (row : p.SetRow xs k bound q) :
    (bound = 8 ∧ paramKind k = some .levels ∨ bound = 5 ∧ paramKind k = some .lifts) ∧ p.storeSet k xs = q ∧
      25 < k ∧ k < 36 := by
  cases row with
  | servedLevels l h =>
    obtain ⟨low, high⟩ := h
    interval_cases l <;> exact ⟨.inl ⟨rfl, rfl⟩, rfl, by decide, by decide⟩
  | preferredLifts n h =>
    obtain ⟨low, high⟩ := h
    interval_cases n <;> exact ⟨.inr ⟨rfl, rfl⟩, rfl, by decide, by decide⟩

/-- A parameter that is neither a reserve, the curb hold nor a flag hands nothing on. -/
theorem State.paramChanged_quiet (s : State) {k : Nat} (quiet : (k < 12 ∨ 15 < k) ∧ k ≠ 18 ∧ k < 36) :
    s.paramChanged k = s := by
  obtain ⟨reserve, hold, flag⟩ := quiet
  unfold State.paramChanged
  split <;> simp_all

/-- A read parameter is stored, and does no more when it changes nothing or hands nothing on. -/
theorem State.loadParams_stores {s : State} {x : ParamFields} {p : Params} {clamped : Bool}
    (read : s.params.read x = some (p, clamped))
    (quiet : p = s.params ∨ (x.number < 12 ∨ 15 < x.number) ∧ x.number ≠ 18 ∧ x.number < 36 ∧ x.number ≠ 25) :
    s.loadParams x = ({ s with params := p }, clampedOr clamped) := by
  rw [State.loadParams, read]
  by_cases same : p = s.params
  · subst same
    exact if_pos rfl
  · obtain ⟨reserve, hold, flag, panels⟩ := quiet.resolve_left same
    exact (if_neg same).trans ((if_neg panels).trans (by rw [State.paramChanged_quiet _ ⟨reserve, hold, flag⟩]))

theorem clampTo_eq {low high n : Nat} (order : low ≤ high) :
    clampTo low high n = if n < low then low else if high < n then high else n := by
  unfold clampTo
  split_ifs <;> omega

theorem mem_hooksOf {p h : Nat} (own : p = h / 64 + 1) : h ∈ hooksOf p := by
  subst own
  exact List.mem_map.mpr ⟨h % 64, List.mem_range.mpr (Nat.mod_lt _ (by decide)), by
    simp only [Config.hooksPerPanel]
    omega⟩

/-- Settles O49: each row of R198's table is what the model reads and stores. -/
theorem parametersAreClampedAndStored : Obligations.ParametersAreClampedAndStored := by
  refine ⟨fun p q k n low high row => row.stored.2.1, fun p q k b row => row.stored.2, fun s f k manages => ?_⟩
  have load {v : ParamValue} {t : State} {o : Answer} (taken : (s.heard f).loadParams ⟨k, v⟩ = (t, o)) :=
    manages.request (code := .loadParams) (form := .param) (fun x s => s.loadParams x) taken
  have refused {v : ParamValue} (outside : s.params.read ⟨k, v⟩ = none) : exec (.loadParams f (.fields ⟨k, v⟩)) s =
      .next ((s.heard f).replied f .loadParams .range (.param ⟨k, v⟩) (s.heard f)) := by
    refine load ?_
    rw [State.loadParams, s.heard_params, outside]
  have stored {v : ParamValue} {p : Params} {clamped : Bool} (read : s.params.read ⟨k, v⟩ = some (p, clamped))
      (quiet : p = s.params ∨ (k < 12 ∨ 15 < k) ∧ k ≠ 18 ∧ k < 36 ∧ k ≠ 25) : exec (.loadParams f (.fields ⟨k, v⟩)) s =
      .next ((s.heard f).replied f .loadParams (clampedOr clamped) (.param ⟨k, v⟩) { s.heard f with params := p }) :=
    load (State.loadParams_stores (by rwa [s.heard_params]) (by rwa [s.heard_params]))
  have flag (low : 36 ≤ k) (high : k ≤ 45) : paramKind k = some .flag := by
    interval_cases k <;> rfl
  refine ⟨?_, fun xs bound q row => ⟨fun inside => ?_, fun outside => refused ?_⟩,
    fun low high => ⟨fun b row => ?_, refused ?_⟩, fun high v => refused ?_, fun n h less most low high bound => ?_⟩
  · intro n low high q value row quiet
    obtain ⟨kind, store, order, small⟩ := row.stored
    have read : s.params.read ⟨k, .number n⟩ = some (q, value != n) := by
      rw [Params.read, kind]
      simp only [clampTo_eq order]
      rw [store]
    refine (stored read ?_).trans ?_
    · rcases quiet with ⟨reserve, hold, panels⟩ | same
      · exact .inr ⟨reserve, hold, by omega, panels⟩
      · exact .inl same
    · have outcome : clampedOr (value != n) = if low ≤ n ∧ n ≤ high then .done else .clamped := by
        by_cases inside : low ≤ n ∧ n ≤ high
        · have same : value = n := by simp only [value]; split_ifs <;> omega
          rw [if_pos inside, same, bne_self_eq_false]
          rfl
        · have moved : value ≠ n := by simp only [value]; split_ifs <;> omega
          rw [if_neg inside, bne_iff_ne.mpr moved]
          rfl
      rw [outcome]
  · obtain ⟨kind, store, low, high⟩ := row.stored
    refine (stored (clamped := false) ?_ (.inr ⟨.inr (by omega), by omega, high, by omega⟩))
    have members : memberSet bound xs = (List.range bound).filter (· ∈ xs) :=
      List.filter_congr fun x _ => List.contains_eq_mem x xs
    rcases kind with ⟨rfl, kind⟩ | ⟨rfl, kind⟩
    · rw [Params.read, kind]
      refine (if_pos (by simpa using inside)).trans ?_
      rw [members, store]
    · rw [Params.read, kind]
      refine (if_pos (by simpa [Config.liftCount, Nat.lt_succ_iff] using inside)).trans ?_
      rw [members, store]
  · obtain ⟨kind, -, -, -⟩ := row.stored
    obtain ⟨x, mem, beyond⟩ := outside
    rcases kind with ⟨rfl, kind⟩ | ⟨rfl, kind⟩
    · rw [Params.read, kind]
      exact if_neg fun all => absurd (List.all_eq_true.mp all x mem) (by simpa using beyond)
    · rw [Params.read, kind]
      exact if_neg fun all => absurd (List.all_eq_true.mp all x mem) (by simp only [Config.liftCount, decide_eq_true_eq]; omega)
  · generalize after : s.params = p at row
    obtain ⟨kind, store⟩ := Params.FlagRow.stored row
    subst after
    refine (stored (clamped := false) (p := s.params) ?_ (.inl rfl)).trans ?_
    · rw [Params.read, kind]
      exact congrArg (fun p => some (p, false)) store
    · rw [← s.heard_params f]
      rfl
  · rw [Params.read, flag low high]
    rfl
  · have kind : paramKind k = none := by
      obtain ⟨j, rfl⟩ := Nat.exists_eq_add_of_le' high
      rfl
    rw [Params.read, kind]
  · refine manages.request (code := .loadParams) (form := .param) (fun x s => s.loadParams x) ?_
    rw [State.loadParams, s.heard_params, Params.read]
    have order : clampTo 1 9 n < s.params.panelCount ∧ clampTo 1 9 n = max 1 n := by
      unfold clampTo
      omega
    have busy : (s.heard f).panelCountBusy (clampTo 1 9 n) = true := by
      rw [order.2]
      refine List.any_eq_true.mpr ⟨h / 64 + 1, List.mem_map.mpr ⟨h / 64, List.mem_range.mpr (by simp only [Config.panelCount]; omega), rfl⟩, ?_⟩
      simp only [Bool.and_eq_true, decide_eq_true_eq, State.panelConfigured, s.heard_params]
      refine ⟨⟨by omega, by omega, by omega⟩, List.any_eq_true.mpr ⟨h, mem_hooksOf (by omega), ?_⟩⟩
      rwa [s.hook_heard]
    refine (if_neg fun same => ?_).trans ((if_pos rfl).trans (if_pos busy))
    exact absurd (congrArg Params.panelCount same) (Nat.ne_of_lt order.1)

end Sys2Proof.Machine
end

section
/-! SUPPORT for the obligations about calls: a task that is made, and a call of a ticket in its stall (R50, R88, R91). -/

namespace Sys2Proof.Machine

open Sys2Proof

/-! ### What a pairing keeps of a task (R91, R93) -/

/-- A task as a pairing may leave it: offered to one of the runners `may`, or as it was, its declined set at most emptied. -/
def Task.PairedTo (may : Nat → Prop) (w v : Task) : Prop :=
  v.kind = w.kind ∧ v.ticket = w.ticket ∧ v.age = w.age ∧ (w.declined = [] → v.declined = []) ∧
    (v.place = w.place ∨ ∃ b, may b ∧ v.place = .offered b)

/-- The task lists agree, task by task, up to pairing. -/
def TasksPaired (may : Nat → Prop) (xs ys : List Task) : Prop := List.Forall₂ (Task.PairedTo may) xs ys

section

variable {may : Nat → Prop}

theorem Task.PairedTo.refl (w : Task) : w.PairedTo may w := ⟨rfl, rfl, rfl, id, .inl rfl⟩

theorem Task.PairedTo.trans {w v u : Task} (h : w.PairedTo may v) (h' : v.PairedTo may u) : w.PairedTo may u := by
  obtain ⟨kind, ticket, age, declined, place⟩ := h
  obtain ⟨kind', ticket', age', declined', place'⟩ := h'
  refine ⟨kind'.trans kind, ticket'.trans ticket, age'.trans age, declined' ∘ declined, ?_⟩
  rcases place' with same | offered
  · rw [same]
    exact place
  · exact .inr offered

theorem Task.PairedTo.mono {may' : Nat → Prop} (more : ∀ b, may b → may' b) {w v : Task} (h : w.PairedTo may v) :
    w.PairedTo may' v := by
  obtain ⟨kind, ticket, age, declined, place⟩ := h
  exact ⟨kind, ticket, age, declined, place.imp_right fun ⟨b, ready, offered⟩ => ⟨b, more b ready, offered⟩⟩

theorem TasksPaired.refl (xs : List Task) : TasksPaired may xs xs := List.forall₂_same.mpr fun w _ => .refl w

theorem TasksPaired.trans {xs ys zs : List Task} (h : TasksPaired may xs ys) (h' : TasksPaired may ys zs) :
    TasksPaired may xs zs := by
  unfold TasksPaired at *
  induction h generalizing zs with
  | nil => exact h'
  | cons first _ ih =>
    cases h' with
    | cons first' rest' => exact .cons (first.trans first') (ih rest')

theorem TasksPaired.mono {may' : Nat → Prop} (more : ∀ b, may b → may' b) {xs ys : List Task} (h : TasksPaired may xs ys) :
    TasksPaired may' xs ys :=
  List.Forall₂.imp (fun _ _ pairs => pairs.mono more) h

theorem TasksPaired.mem {xs ys : List Task} (h : TasksPaired may xs ys) {w : Task} (mem : w ∈ xs) :
    ∃ v ∈ ys, w.PairedTo may v := by
  unfold TasksPaired at h
  induction h with
  | nil => cases mem
  | cons first _ ih =>
    rcases List.mem_cons.mp mem with rfl | mem
    · exact ⟨_, List.mem_cons_self, first⟩
    · obtain ⟨v, mem, pairs⟩ := ih mem
      exact ⟨v, List.mem_cons_of_mem _ mem, pairs⟩

theorem TasksPaired.find {xs ys : List Task} (h : TasksPaired may xs ys) {n : Nat} {w : Task}
    (own : xs.find? (·.ticket == n) = some w) : ∃ v, ys.find? (·.ticket == n) = some v ∧ w.PairedTo may v := by
  unfold TasksPaired at h
  induction h with
  | nil => cases own
  | @cons x y xs ys first _ ih =>
    by_cases here : x.ticket = n
    · rw [List.find?_cons_of_pos (by simpa using here)] at own
      exact ⟨y, List.find?_cons_of_pos (by simpa [first.2.1] using here), by rwa [← Option.some.inj own]⟩
    · rw [List.find?_cons_of_neg (by simpa using here)] at own
      rw [List.find?_cons_of_neg (by simpa [first.2.1] using here)]
      exact ih own

theorem State.modifyTask_tasksPaired (s : State) (n : Nat) {f : Task → Task} (pairs : ∀ v : Task, v.PairedTo may (f v)) :
    TasksPaired may s.dispatch.tasks (s.modifyTask n f).dispatch.tasks := by
  refine List.forall₂_map_right_iff.mpr (List.forall₂_same.mpr fun w _ => ?_)
  split
  · exact pairs w
  · exact .refl w

end

/-- The runners who are READY. -/
def State.isReady (s : State) (b : Nat) : Prop := (s.runner b).state = .ready

theorem State.pairTask_tasksPaired (s : State) (n : Nat) :
    TasksPaired s.isReady s.dispatch.tasks (s.pairTask n).dispatch.tasks := by
  have emptied (p : Prop) [Decidable p] : TasksPaired s.isReady s.dispatch.tasks
      (if p then s.modifyTask n fun t => { t with declined := [] } else s).dispatch.tasks := by
    split
    · exact s.modifyTask_tasksPaired n fun v => ⟨rfl, rfl, rfl, fun _ => rfl, .inl rfl⟩
    · exact .refl _
  unfold State.pairTask
  split
  · split
    · exact .refl _
    next t found =>
      dsimp only
      split
      · exact emptied _
      next b chosen =>
        have offerable : s.offerable b = true := by
          have mem := (List.mem_filter.mp (firstBy_mem chosen)).2
          have offerable := ((Bool.and_eq_true _ _).mp mem).1
          revert offerable
          split <;> exact id
        refine (emptied (s.allDeclined t = true)).trans ?_
        exact State.modifyTask_tasksPaired _ _ fun v => ⟨rfl, rfl, rfl, id, .inr ⟨b, ((s.offerable_iff b).mp offerable).1, rfl⟩⟩
  · exact .refl _

theorem State.isReady_of_pairTask {s : State} {n b : Nat} (ready : (s.pairTask n).isReady b) : s.isReady b := by
  by_contra busy
  rw [State.isReady, State.runner_pairTask busy] at ready
  exact busy ready

/-- A pairing keeps every task, as offered to a runner who was READY or as it was. -/
theorem State.pair_tasksPaired (s : State) : TasksPaired s.isReady s.dispatch.tasks s.pair.dispatch.tasks := by
  have both : TasksPaired s.isReady s.dispatch.tasks s.pair.dispatch.tasks ∧ ∀ b, s.pair.isReady b → s.isReady b := by
    refine forEach_keeps (fun t : State => TasksPaired s.isReady s.dispatch.tasks t.dispatch.tasks ∧
      ∀ b, t.isReady b → s.isReady b) _ _ s (fun n u held => ?_) ⟨TasksPaired.refl _, fun _ ready => ready⟩
    obtain ⟨paired, ready⟩ := held
    exact ⟨paired.trans ((u.pairTask_tasksPaired n).mono ready), fun b now => ready b (State.isReady_of_pairTask now)⟩
  exact both.1

/-! ### A task is made (R88, R89) -/

theorem State.task_append {s : State} {n : Nat} (gone : s.task n = none) {w : Task} (own : w.ticket = n) {t : State}
    (tasks : t.dispatch.tasks = s.dispatch.tasks ++ [w]) : t.task n = some w := by
  rw [State.task, tasks, List.find?_append, show s.dispatch.tasks.find? (·.ticket == n) = none from gone]
  simp [own]

/-- What making a task for a ticket without one leaves: the task, in BACKLOG exactly when every place is taken. -/
theorem State.makeTask_task {s : State} {n : Nat} (kind : TaskKind) (age : SiteTime) (gone : s.task n = none) :
    ∃ w, (s.makeTask kind n age).task n = some w ∧ w.kind = kind ∧ w.age = age ∧ (w.place = .backlog ↔ 64 ≤ s.placesTaken) := by
  unfold State.makeTask
  by_cases room : s.placesTaken < Config.maxQueue
  · rw [if_pos room]
    obtain ⟨v, own, same, -, made, -, place⟩ := (State.pair_tasksPaired { s with dispatch.tasks := s.dispatch.tasks ++
      [{ kind, ticket := n, age, declined := [], place := .queued }] }).find (State.task_append gone rfl rfl)
    refine ⟨v, own, same, made, fun backlog => ?_, fun full => absurd room (not_lt.mpr full)⟩
    rcases place with place | ⟨b, -, place⟩ <;> cases backlog.symm.trans place
  · rw [if_neg room]
    exact ⟨_, State.task_append gone (w := { kind, ticket := n, age, declined := [], place := .backlog }) rfl rfl, rfl, rfl,
      fun _ => not_lt.mp room, fun _ => rfl⟩

/-- A task that is made is appended, and pairs with what is there. -/
theorem State.makeTask_tasks (s : State) (kind : TaskKind) (n : Nat) (age : SiteTime) :
    ∃ place, TasksPaired s.isReady (s.dispatch.tasks ++ [{ kind, ticket := n, age, declined := [], place }])
      (s.makeTask kind n age).dispatch.tasks := by
  unfold State.makeTask
  split
  · exact ⟨.queued, State.pair_tasksPaired { s with dispatch.tasks := s.dispatch.tasks ++
      [{ kind, ticket := n, age, declined := [], place := .queued }] }⟩
  · exact ⟨.backlog, TasksPaired.refl _⟩

/-- Making a task sets the backlog flag of its ticket when every place is taken. -/
theorem State.makeTask_ticket (s : State) (kind : TaskKind) (n : Nat) (age : SiteTime) :
    (s.makeTask kind n age).ticket n =
      (s.ticket n).map fun c => { c with backlog := c.backlog || decide (64 ≤ s.placesTaken) } := by
  unfold State.makeTask
  by_cases room : s.placesTaken < Config.maxQueue
  · have few : ¬ 64 ≤ s.placesTaken := not_le.mpr room
    rw [if_pos room, State.ticket_congr (State.pair_tickets _)]
    simp only [few, decide_false, Bool.or_false]
    exact Option.map_id'.symm
  · have full : 64 ≤ s.placesTaken := not_lt.mp room
    rw [if_neg room, State.ticket_edit _ n n fun k => { k with backlog := true }]
    simp only [full, decide_true, Bool.or_true, if_true]
    rfl

/-- Making a task leaves the other tickets as they are. -/
theorem State.makeTask_ticket_ne {s : State} {n m : Nat} (kind : TaskKind) (age : SiteTime) (other : m ≠ n) :
    (s.makeTask kind n age).ticket m = s.ticket m := by
  unfold State.makeTask
  split
  · exact State.ticket_congr (State.pair_tickets _) m
  · exact State.ticket_modifyTicket_ne _ _ _ _ other fun _ => rfl

/-! ### A call of a ticket in its stall (R50, R138) -/

/-- What a call of a PARKED or SCHEDULED ticket leaves. -/
structure State.CalledFrom (s t : State) (c : Ticket) (time : SiteTime) : Prop where
  schedule : t.calls.schedule = s.calls.schedule.filter (·.ticket != c.number)
  board : t.calls.board = s.calls.board
  stalls : t.stalls = s.stalls
  keys : t.keys = s.keys
  events : t.events = s.events
  arbiter : t.arbiter = s.arbiter
  only : s.ChangesOnlyTicket t c.number
  ticket : t.ticket c.number = some { c with
    state := .called, calledAt := some time, promise := s.quoteAt c time, verify := false,
    backlog := c.backlog || decide (64 ≤ s.placesTaken) }
  task : s.task c.number = none → ∃ w, t.task c.number = some w ∧ w.kind = .fetch ∧ w.age = time ∧
    (w.place = .backlog ↔ 64 ≤ s.placesTaken)
  made : ∃ w ∈ t.dispatch.tasks, w.ticket = c.number ∧ w.kind = .fetch ∧ w.age = time
  kept : ∀ w ∈ s.dispatch.tasks, ∃ v ∈ t.dispatch.tasks, v.kind = w.kind ∧ v.ticket = w.ticket ∧ v.age = w.age

theorem State.callParked_from {s : State} {c : Ticket} (found : s.ticket c.number = some c) (rests : c.state.onBoard = false)
    (time : SiteTime) : s.CalledFrom (s.callParked c time) c time := by
  let edit (k : Ticket) : Ticket := { k with calledAt := some time, promise := (s.unschedule c.number).quoteAt c time }
  let u := ((s.unschedule c.number).modifyTicket c.number edit).moveTicket c.number .called
  have edited : ((s.unschedule c.number).modifyTicket c.number edit).ticket c.number = some (edit c) :=
    State.ticket_edit_same (show (s.unschedule c.number).ticket c.number = some c from found) edit
  have entered : u.ticket c.number = some { edit c with state := .called, verify := false } :=
    State.ticket_entered edited (by decide)
  have calls : u.calls = (s.unschedule c.number).calls := State.moveTicket_calls edited rests rfl
  obtain ⟨-, stalls, unplaced, issue, keys, dispatch, arbiter, -, -, -, events, -⟩ := State.moveTicket_frame
    ((s.unschedule c.number).modifyTicket c.number edit) c.number .called
  obtain ⟨-, stalls', unplaced', issue', keys', arbiter', calls', -, events', -⟩ := u.makeTask_frame .fetch c.number time
  have taken : u.placesTaken = s.placesTaken := by
    rw [State.placesTaken, dispatch]
    rfl
  obtain ⟨place, paired⟩ := u.makeTask_tasks .fetch c.number time
  rw [dispatch] at paired
  refine ⟨congrArg Calls.schedule (calls'.trans calls), (congrArg Calls.board (calls'.trans calls)).trans rfl, stalls'.trans stalls, keys'.trans keys, events'.trans events, arbiter'.trans arbiter,
    ⟨fun m other => ?_, unplaced'.trans unplaced, issue'.trans issue⟩, ?_, fun gone => ?_, ?_, fun w h => ?_⟩
  · refine (State.makeTask_ticket_ne _ _ other).trans ((State.ticket_moveTicket_ne _ _ _ _ other).trans ?_)
    exact State.ticket_modifyTicket_ne _ _ _ _ other fun _ => rfl
  · refine (u.makeTask_ticket .fetch c.number time).trans ?_
    rw [entered, taken]
    rfl
  · have gone' : u.task c.number = none := (State.task_congr dispatch _).trans gone
    rw [← taken]
    exact State.makeTask_task .fetch time gone'
  · obtain ⟨v, mem, kind, ticket, age, -⟩   := paired.mem (List.mem_append_right _ (List.mem_singleton_self _))
    exact ⟨v, mem, ticket, kind, age⟩
  · obtain ⟨v, mem, kind, ticket, age, -⟩ := paired.mem (List.mem_append_left _ h)
    exact ⟨v, mem, kind, ticket, age⟩

end Sys2Proof.Machine
end

section
/-! PROOFS of O23, O56 and O57: schedule entries and deadlines that are reached. -/

namespace Sys2Proof.Machine

open Sys2Proof

/-! ### Deadlines of records (R16, R71, R122, R171) -/

/-- A command of the controller's own, with main power on. -/
theorem next_powered {s : State} (on : s.power.main = true) (k : State → State) :
    (.next (s.powered k) : Host.Outcome State Fault Refusal) = .next (k s) := by rw [State.powered, if_pos on]

/-- A stall record that is stored with the class it is counted in moves no count. -/
theorem State.putStall_counted {s : State} {k : Nat} {r : Stall} (low : k < 640) (same : (s.stall k).freeClass = r.freeClass) :
    s.putStall k r = { s with stalls.records := setNth s.stalls.records k r } := by
  rw [State.putStall, if_pos (show k < Config.stallCount from low)]
  exact if_pos same

/-- Settles O56. -/
theorem reachedDeadlinesAreTaken : Obligations.ReachedDeadlinesAreTaken := by
  refine fun s on => ⟨fun k d low reached => ?_, fun h d released reached => ?_, fun n d clearing reached none => ?_,
    fun k d reached => ?_, fun k d waits => ?_, fun h d waits => ?_, fun n d waits => ?_, fun k d waits => ?_⟩
  all_goals refine (next_powered on _).trans (next_congr ?_)
  · simp only [State.confirmReached, reached, if_true]
    rw [State.putStall_counted (r := { s.stall k with confirmBy := none }) low rfl]
  · simp only [State.releaseReached, reached, released, and_self, if_true]
  · simp only [State.clearingReached, reached, clearing, and_self, if_true]
    exact State.freeLane_quiet none
  · simp only [State.pulseReached, isReached, reached, if_true]
    rfl
  · simp [State.confirmReached, waits]
  · simp [State.releaseReached, waits]
  · simp [State.clearingReached, waits]
  · simp [State.pulseReached, isReached, waits]

/-! ### Offers, overdue tickets and releases (R58, R96, R130) -/

/-- An overdue deadline that has come is the at-curb time plus the curb hold, at or before now. -/
theorem State.isOverdue_iff (s : State) (c : Ticket) : s.isOverdue c = true ↔ c.state = .atCurb ∧ c.overduePending = true ∧
    ∃ d, c.atCurbAt = some d ∧ (d.plusSeconds (60 * s.params.curbHold)).notAfter s.now = true := by
  unfold State.isOverdue State.overdueAt
  by_cases both : c.state = .atCurb ∧ c.overduePending = true
  · rw [if_pos both]
    cases c.atCurbAt <;> simp [both]
  · rw [if_neg both]
    simp only [Bool.false_eq_true, false_iff]
    exact fun h => both ⟨h.1, h.2.1⟩

/-- What an overdue deadline that is taken leaves. -/
theorem State.overdueReached_taken {s : State} {c : Ticket} (found : s.ticket c.number = some c) (over_ : s.isOverdue c = true) :
    let t := s.overdueReached c.number
    t.ticket c.number = some { c with overdue := true, overduePending := false } ∧
      t.events.waiting = s.events.waiting ++ [⟨.curbOverdue, c.number⟩] ∧ t.stalls = s.stalls ∧ t.calls = s.calls ∧
      t.keys = s.keys ∧ t.dispatch = s.dispatch ∧ t.arbiter = s.arbiter ∧ s.ChangesOnlyTicket t c.number := by
  let edit (k : Ticket) : Ticket := { k with overdue := true, overduePending := false }
  have taken : s.overdueReached c.number = ((s.modifyTicket c.number edit).boardSince s).raise .curbOverdue c.number := by
    rw [State.overdueReached, found]
    exact if_pos over_
  obtain ⟨-, stalls, unplaced, tickets, issue, keys, dispatch, arbiter, calls, -, events, -⟩ :=
    (s.modifyTicket c.number edit).boardSince_frame s
  rw [taken]
  refine ⟨(State.ticket_congr tickets _).trans (State.ticket_edit_same found edit),
    congrArg (fun e : EventUnit => e.waiting ++ [⟨.curbOverdue, c.number⟩]) events, stalls, calls, keys, dispatch, arbiter,
    fun m other => ?_, unplaced, issue⟩
  exact (State.ticket_congr tickets m).trans (State.ticket_modifyTicket_ne _ _ _ _ other fun _ => rfl)

theorem State.overdueReached_waits {s : State} {c : Ticket} (found : s.ticket c.number = some c)
    (waits : s.isOverdue c = false) : s.overdueReached c.number = s := by
  rw [State.overdueReached, found]
  exact if_neg (by rw [waits]; decide)

/-- A released entry calls its ticket, and SCHEDULE_RELEASE is raised (R130). -/
theorem State.releaseEntry_called {s : State} {c : Ticket} (found : s.ticket c.number = some c)
    (state : c.state = .parked ∨ c.state = .scheduled) :
    ∃ u, s.releaseEntry c.number = u.raise .scheduleRelease c.number ∧ s.CalledFrom u c s.now := by
  have called : ((s.unschedule c.number).callTicket c s.now).1 = (s.unschedule c.number).callParked c s.now := by
    rcases state with state | state <;> rw [State.callTicket, state]
  refine ⟨(s.unschedule c.number).callParked c s.now, ?_, ?_⟩
  · rw [State.releaseEntry, found]
    exact congrArg (State.raise · _ _) called
  · have from_ := State.callParked_from (s := s.unschedule c.number) found
      (by rcases state with state | state <;> rw [state] <;> rfl) s.now
    have schedule : ((s.unschedule c.number).callParked c s.now).calls.schedule =
        s.calls.schedule.filter (·.ticket != c.number) := from_.schedule.trans (by simp [State.unschedule])
    exact { from_ with schedule := schedule, board := from_.board }

/-- Settles O57: each record's deadline, taken by its block. -/
theorem expiredTimesActOnTheirRecords : Obligations.ExpiredTimesActOnTheirRecords := by
  refine ⟨fun s b d w on low high offered task reached own => ?_, fun s c on found => ⟨fun d state pending came past => ?_,
    fun waits => ?_⟩, fun s e c on first number found state gone => ?_⟩
  · let u := (s.endOffer b .silent).raise .runnerSilent b
    have taken : s.offerReached b = u.pair := by
      rw [State.offerReached, reached]
      exact (if_pos rfl).trans (if_pos offered)
    have runner : u.runner b =
        { s.runner b with state := .silent, task := none, offerBy := none, owed := some (.withdraw w.ticket) } := by
      refine (State.runner_setRunner_same _ _ _ low high).trans ?_
      rw [task]
    have returned : u.task w.ticket = some { w with place := .queued } := by
      show (s.returnOffer b).task w.ticket = _
      rw [State.returnOffer, task]
      refine (s.task_edit _ _ fun t => { t with place := .queued }).trans ?_
      rw [own]
      simp
    obtain ⟨v, own', kind, ticket, age, -, place⟩ := u.pair_tasksPaired.find returned
    obtain ⟨-, stalls, unplaced, tickets, issue, keys, arbiter, calls, timers, events, -⟩ := s.endOffer_frame b .silent
    obtain ⟨-, stalls', unplaced', tickets', issue', keys', arbiter', calls', timers', events', -⟩ := u.pair_frame
    have rest := (keepsRest_workKeeps s).expireOffer b (State.KeepsRest.refl s)
    refine ⟨u.pair, v, (next_powered on _).trans (next_congr taken), ?_, (State.runner_pair (by rw [runner]; nofun)).trans runner,
      (congrArg EventUnit.waiting events').trans (congrArg (fun e : EventUnit => e.waiting ++ [⟨.runnerSilent, b⟩]) events), own',
      age, place.imp_right fun ⟨o, ready, place⟩ => ⟨o, ?_, place⟩, tickets'.trans tickets, stalls'.trans stalls,
      keys'.trans keys, arbiter'.trans arbiter, calls'.trans calls⟩
    · rw [State.expireOffer, if_pos offered] at rest
      exact rest.setup
    · rintro rfl
      rw [State.isReady, runner] at ready
      cases ready
  · have over_ := (s.isOverdue_iff c).mpr ⟨state, pending, d, came, past⟩
    obtain ⟨ticket, waiting, stalls, calls, keys, dispatch, arbiter, only⟩ := State.overdueReached_taken found over_
    have rest := (keepsRest_workKeeps s).overdueReached c.number (State.KeepsRest.refl s)
    refine ⟨_, next_powered on _, rest.setup, ticket, waiting, stalls, calls, keys, dispatch,
      arbiter, only, (next_powered (rest.power ▸ on) _).trans (next_congr ?_)⟩
    refine State.overdueReached_waits (c := { c with overdue := true, overduePending := false }) ticket ?_
    exact Bool.eq_false_iff.mpr fun over_ => by simpa using ((State.isOverdue_iff _ _).mp over_).2.1
  · refine (next_powered on _).trans (next_congr (State.overdueReached_waits found (Bool.eq_false_iff.mpr fun over_ => ?_)))
    obtain ⟨state, pending, d, came, past⟩ := (s.isOverdue_iff c).mp over_
    rcases waits with other | done | early
    · exact other state
    · rw [done] at pending
      cases pending
    · rw [early d came] at past
      cases past
  · obtain ⟨u, released, called⟩ := State.releaseEntry_called found (.inr state)
    obtain ⟨w, task, kind, age, -⟩ := called.task gone
    have taken : s.releaseReachedEntry = u.raise .scheduleRelease c.number := by
      rw [State.releaseReachedEntry, first, ← released, ← number]
    have rest := (keepsRest_workKeeps s).releaseReachedEntry (State.KeepsRest.refl s)
    rw [taken] at rest
    exact ⟨_, w, (next_powered on _).trans (next_congr taken), rest.setup, called.schedule, called.ticket, task, kind, age,
      congrArg (fun e : EventUnit => e.waiting ++ [⟨.scheduleRelease, c.number⟩]) called.events, called.stalls, called.keys,
      called.arbiter, called.only⟩

end Sys2Proof.Machine
end

section
/-! PROOF of O23: the call schedule. -/

namespace Sys2Proof.Machine

open Sys2Proof

/-! ### The order of the schedule (R127) -/

section

variable {α β : Type} [LinearOrder β] {before : α → α → Bool} {key : α → β} (hkey : ∀ a b, before a b = true ↔ key a < key b)
include hkey

/-- An element is inserted behind all that do not stand after it. -/
theorem insertBy_split (x : α) {l : List α} (sorted : l.Pairwise (key · ≤ key ·)) :
    ∃ ahead behind, l = ahead ++ behind ∧ insertBy before x l = ahead ++ x :: behind ∧
      (∀ e ∈ ahead, before x e = false) ∧ ∀ e ∈ behind, before x e = true := by
  induction l with
  | nil => exact ⟨[], [], rfl, rfl, by simp, by simp⟩
  | cons y ys ih =>
    obtain ⟨first, sorted⟩ := List.pairwise_cons.mp sorted
    by_cases less : before x y = true
    · refine ⟨[], y :: ys, rfl, by rw [insertBy, if_pos less]; rfl, by simp, fun e mem => ?_⟩
      rcases List.mem_cons.mp mem with rfl | mem
      · exact less
      · exact (hkey _ _).mpr (((hkey _ _).mp less).trans_le (first e mem))
    · obtain ⟨ahead, behind, split, inserted, before_, after⟩ := ih sorted
      refine ⟨y :: ahead, behind, congrArg (y :: ·) split, ?_, fun e mem => ?_, after⟩
      · rw [insertBy, if_neg less, inserted]
        rfl
      · rcases List.mem_cons.mp mem with rfl | mem
        · exact Bool.eq_false_iff.mpr less
        · exact before_ e mem

end

theorem filter_insertBy {α : Type} (before : α → α → Bool) {p : α → Bool} {x : α} (out : p x = false) (l : List α) :
    (insertBy before x l).filter p = l.filter p := by
  induction l with
  | nil => simp [insertBy, out]
  | cons y ys ih =>
    unfold insertBy
    split
    · simp [List.filter_cons, out]
    · simp [List.filter_cons, ih]

theorem releaseBefore_iff (a b : ScheduleEntry) : releaseBefore a b = true ↔ a.release.key < b.release.key :=
  SiteTime.before_iff _ _

theorem schedule_sorted {l : List ScheduleEntry} : l.Pairwise (fun a b => b.release.before a.release = false) ↔
    l.Pairwise (fun a b => a.release.key ≤ b.release.key) := by
  have le (a b : ScheduleEntry) : b.release.before a.release = false ↔ a.release.key ≤ b.release.key := by
    rw [← not_lt, ← SiteTime.before_iff, Bool.not_eq_true]
  simp only [le]

/-! ### SCHEDULE (R128) -/

/-- The entry that SCHEDULE makes. -/
def State.entryFor (s : State) (n : Nat) (requested : SiteTime) : ScheduleEntry :=
  { ticket := n, requested := requested, release := s.releaseTime requested, reached := false }

/-- The entry takes the place of an old one. -/
def State.entered (s : State) (n : Nat) (requested : SiteTime) : State :=
  { s.unschedule n with
    calls.schedule := insertBy releaseBefore (s.entryFor n requested) (s.unschedule n).calls.schedule }

/-- A schedule entry is all that changes. -/
theorem State.entered_frame (s : State) (n : Nat) (requested : SiteTime) :
    (s.entered n requested).tickets = s.tickets ∧ (s.entered n requested).stalls = s.stalls ∧
      (s.entered n requested).dispatch = s.dispatch ∧ (s.entered n requested).events = s.events ∧
      (s.entered n requested).keys = s.keys ∧ (s.entered n requested).arbiter = s.arbiter ∧
      (s.entered n requested).unplaced = s.unplaced ∧ (s.entered n requested).issue = s.issue ∧
      (s.entered n requested).params = s.params ∧ (s.entered n requested).calls.estimates = s.calls.estimates ∧
      (s.entered n requested).calls.board = s.calls.board :=
  ⟨rfl, rfl, rfl, rfl, rfl, rfl, rfl, rfl, rfl, rfl, rfl⟩

theorem State.enterSchedule_waits {s : State} {n : Nat} {requested : SiteTime}
    (later : s.now.before (s.releaseTime requested) = true) : s.enterSchedule n requested = s.entered n requested :=
  if_neg (by simp [SiteTime.notAfter, later])

theorem State.enterSchedule_releases {s : State} {n : Nat} {requested : SiteTime}
    (come : s.now.before (s.releaseTime requested) = false) :
    s.enterSchedule n requested = (s.entered n requested).releaseEntry n :=
  if_pos (by simp [SiteTime.notAfter, come])

theorem readSchedule_none {now : SiteTime} {day tenth : Nat} (beyond : 864000 ≤ tenth ∨ now.tenths + 864000 < day * 864000 + tenth) :
    readSchedule now day tenth = none := by
  refine if_neg ?_
  simp only [Config.dayTenths]
  omega

theorem readSchedule_some {now : SiteTime} {day tenth : Nat} (fits : day < 65536) (within : tenth < 864000)
    (near : day * 864000 + tenth ≤ now.tenths + 864000) : readSchedule now day tenth = some ⟨day, tenth⟩ :=
  if_pos ⟨fits, within, near⟩

/-- A SCHEDULE of an open ticket for an admitted time is judged by `scheduleTicket`. -/
theorem State.Serves.schedule {s : State} {f : From} {c : Ticket} (h : s.Serves f) (low : 1 ≤ c.number) (high : c.number ≤ 9999)
    (found : s.ticket c.number = some c) {day tenth : Nat} (fits : day < 65536) (within : tenth < 864000)
    (near : day * 864000 + tenth ≤ s.now.tenths + 864000) {u : State} {o : Answer}
    (judged : (s.heard f).scheduleTicket c ⟨day, tenth⟩ = (u, o)) :
    exec (.schedule f (.fields ⟨c.number, day, tenth⟩)) s = .next (u.oweService f.source .schedule o (some c.number)) := by
  have named : (s.heard f).named c.number = some c := State.named_some low high ((s.ticket_heard f _).trans found)
  refine (h.service _ _ _ (⟨c.number, day, tenth⟩ : ScheduleFields)).trans (next_congr ?_)
  rw [State.serveTicket_some named]
  simp only [s.now_heard, readSchedule_some fits within near, judged]

/-- The reply that a PODIUM or DESK station is owed. -/
theorem State.Hears.reply_oweService {s : State} {f : From} (h : s.Hears f) (u : State) (kind : ServiceKind) (o : Answer)
    (n m : Option Nat) : ∃ r, ((u.oweService f.source kind o n m).station f.source).serviceReply = some r ∧ r.kind = kind ∧
      r.outcome = o ∧ r.ticket = n ∧ r.members = m :=
  ⟨_, congrArg Station.serviceReply (State.station_setStation_same _ _ _ h.address.1 h.address.2), rfl, rfl, rfl, rfl⟩

/-! ### What a quote reads (R135 to R137) -/

/-- States from which a quote reads the same: tasks and runners, estimates, stalls, lifts, clock, parameters, and of the
tickets their called times and tiers. -/
structure State.QuotesAs (t s : State) : Prop where
  dispatch : t.dispatch = s.dispatch
  estimates : t.calls.estimates = s.calls.estimates
  stalls : t.stalls = s.stalls
  arbiter : t.arbiter = s.arbiter
  clock : t.now = s.now
  params : t.params = s.params
  tickets : ∀ m, (t.ticket m).map (fun k => (k.calledAt, k.tier)) = (s.ticket m).map fun k => (k.calledAt, k.tier)

namespace State.QuotesAs

variable {s t : State} (h : t.QuotesAs s)
include h

theorem calledAt (m : Nat) : (t.ticket m).bind (·.calledAt) = (s.ticket m).bind (·.calledAt) := by
  have same := h.tickets m
  cases h' : t.ticket m <;> cases h'' : s.ticket m <;> simp_all

theorem rank : t.rank = s.rank := by
  funext w
  have same := h.tickets w.ticket
  have tier : t.tierOf w.ticket = s.tierOf w.ticket := by
    unfold State.tierOf
    cases h' : t.ticket w.ticket <;> cases h'' : s.ticket w.ticket <;> simp_all
  simp only [State.rank, State.priority, State.agingSteps, tier, h.clock, h.params]

theorem tasksAhead (c : Ticket) (age : SiteTime) : t.tasksAhead c age = s.tasksAhead c age := by
  have backlog (n time) : t.backlogAhead n time = s.backlogAhead n time := by
    simp only [State.backlogAhead, h.dispatch, h.calledAt]
  simp only [State.tasksAhead, State.othersInQueue, State.task, h.dispatch, h.rank, backlog]

theorem runnerWait (c : Ticket) (age : SiteTime) : t.runnerWait c age = s.runnerWait c age := by
  simp only [State.runnerWait, h.tasksAhead, State.readyRunners, State.activeRunners, State.runner, h.dispatch, h.estimates] <;>
    rfl

theorem fullSeconds (c : Ticket) (wait : Nat) : t.fullSeconds c wait = s.fullSeconds c wait := by
  simp only [State.fullSeconds, State.quoteWalk, State.liftPart, State.quoteLift, State.quoteSite, State.stall, State.lift,
    h.estimates, h.stalls, h.arbiter] <;> rfl

theorem quoteAt (c : Ticket) (age : SiteTime) : t.quoteAt c age = s.quoteAt c age := by
  simp only [State.quoteAt, h.fullSeconds, h.runnerWait, h.estimates]

end State.QuotesAs

/-- A PARKED ticket's quote is that of the ticket SCHEDULED. -/
theorem State.quoteAt_scheduled (s : State) {c : Ticket} (state : c.state = .parked ∨ c.state = .scheduled) (age : SiteTime) :
    s.quoteAt { c with state := .scheduled, verify := false } age = s.quoteAt c age := by
  have stall : Ticket.quoteStall { c with state := .scheduled, verify := false } = c.quoteStall := by
    unfold Ticket.quoteStall
    rcases state with state | state <;> simp [state]
  have site : s.quoteSite { c with state := .scheduled, verify := false } = s.quoteSite c := by
    rw [State.quoteSite, stall, State.quoteSite]
  have lift : s.quoteLift { c with state := .scheduled, verify := false } = s.quoteLift c := by
    rw [State.quoteLift, site, State.quoteLift]
  have seconds (wait : Nat) :
      s.fullSeconds { c with state := .scheduled, verify := false } wait = s.fullSeconds c wait := by
    simp only [State.fullSeconds, State.quoteWalk, State.liftPart, site, lift]
  have now : s.quoteAt c age = some (minutesOf (s.fullSeconds c (s.runnerWait c age))) := by
    rcases state with state | state <;> rw [State.quoteAt, state]
  rw [now, ← seconds]
  rfl

/-- A call of a ticket in its stall, from a state in which its entry may stand, and its record but for state and verify. -/
theorem State.CalledFrom.of_entered {s v u : State} {c : Ticket} {x : TicketState} {verify : Bool} {time : SiteTime}
    (called : v.CalledFrom u { c with state := x, verify := verify } time) (quotes : v.QuotesAs s)
    (quote : s.quoteAt { c with state := x, verify := verify } time = s.quoteAt c time)
    (schedule : v.calls.schedule.filter (·.ticket != c.number) = s.calls.schedule.filter (·.ticket != c.number))
    (board : v.calls.board = s.calls.board) (keys : v.keys = s.keys) (events : v.events = s.events)
    (only : s.ChangesOnlyTicket v c.number) : s.CalledFrom u c time := by
  have placed : v.placesTaken = s.placesTaken := by simp only [State.placesTaken, quotes.dispatch]
  obtain ⟨others, unplaced, issue⟩ := called.only
  obtain ⟨others', unplaced', issue'⟩ := only
  refine ⟨called.schedule.trans schedule, called.board.trans board, called.stalls.trans quotes.stalls, called.keys.trans keys,
    called.events.trans events, called.arbiter.trans quotes.arbiter,
    ⟨fun m other => (others m other).trans (others' m other), unplaced.trans unplaced', issue.trans issue'⟩, ?_, fun gone => ?_,
    called.made, ?_⟩
  · refine called.ticket.trans ?_
    rw [quotes.quoteAt, quote, placed]
  · rw [← placed]
    exact called.task ((State.task_congr quotes.dispatch _).trans gone)
  · rw [← quotes.dispatch]
    exact called.kept

theorem State.moveTicket_now (s : State) (n : Nat) (x : TicketState) : (s.moveTicket n x).now = s.now := by
  rw [State.now, (s.moveTicket_frame n x).2.2.2.2.2.2.2.2.2.2.1, State.now]

/-- The new entry stands among the others of a sorted schedule behind those of its time. -/
theorem State.entered_schedule (s : State) (n : Nat) (requested : SiteTime) {l : List ScheduleEntry}
    (others : s.calls.schedule.filter (·.ticket != n) = l)
    (sorted : l.Pairwise fun a b => b.release.before a.release = false) :
    ∃ ahead behind, l = ahead ++ behind ∧ (s.entered n requested).calls.schedule = ahead ++ s.entryFor n requested :: behind ∧
      (∀ e ∈ ahead, (s.releaseTime requested).before e.release = false) ∧
      ∀ e ∈ behind, (s.releaseTime requested).before e.release = true := by
  obtain ⟨ahead, behind, split, inserted, before_, after⟩ :=
    insertBy_split (key := fun e : ScheduleEntry => e.release.key) releaseBefore_iff (s.entryFor n requested) (schedule_sorted.mp sorted)
  refine ⟨ahead, behind, split, ?_, before_, after⟩
  rw [← inserted, ← others]
  rfl

theorem State.releaseTime_congr {s t : State} (params : t.params = s.params) (requested : SiteTime) :
    t.releaseTime requested = requested.less (600 * s.params.leadTime) := by
  rw [State.releaseTime, params]

/-- A SCHEDULE whose release time has come calls its ticket at once (R128, R130). -/
theorem State.scheduleTicket_releases {s : State} {c : Ticket} {requested : SiteTime} (found : s.ticket c.number = some c)
    (states : c.state = .parked ∧ s.calls.schedule.length < 64 ∨ c.state = .scheduled)
    (come : s.now.before (requested.less (600 * s.params.leadTime)) = false) :
    ∃ u, s.scheduleTicket c requested = (u.raise .scheduleRelease c.number, .done) ∧ s.CalledFrom u c s.now := by
  rcases states with ⟨state, room⟩ | state
  · let v := s.moveTicket c.number .scheduled
    obtain ⟨-, stalls, unplaced, issue, keys, dispatch, arbiter, schedule, estimates, -, events, params, -⟩ :=
      s.moveTicket_frame c.number .scheduled
    have lead : v.releaseTime requested = requested.less (600 * s.params.leadTime) := State.releaseTime_congr params _
    have entered : v.ticket c.number = some { c with state := .scheduled, verify := false } :=
      State.ticket_entered found (by decide)
    have others (m) (other : m ≠ c.number) : v.ticket m = s.ticket m := State.ticket_moveTicket_ne _ _ _ _ other
    have calls : v.calls = s.calls := State.moveTicket_calls found (by rw [state]; rfl) rfl
    have judged : s.scheduleTicket c requested = ((v.entered c.number requested).releaseEntry c.number, .done) := by
      rw [State.scheduleTicket, state, ← State.enterSchedule_releases (by rw [lead, State.moveTicket_now]; exact come)]
      exact if_pos room
    obtain ⟨u, released, called⟩ := State.releaseEntry_called (s := v.entered c.number requested)
      (c := { c with state := .scheduled, verify := false }) entered (.inr rfl)
    rw [show (v.entered c.number requested).now = s.now from s.moveTicket_now _ _] at called
    refine ⟨u, judged.trans (congrArg (·, _) released), called.of_entered ?_ (s.quoteAt_scheduled (.inl state) _) ?_
      (congrArg (fun k : Calls => k.board) calls :) keys events ⟨others, unplaced, issue⟩⟩
    · refine ⟨dispatch, estimates, stalls, arbiter, s.moveTicket_now _ _, params, fun m => ?_⟩
      by_cases own : m = c.number
      · rw [own, show (v.entered c.number requested).ticket c.number = _ from entered, found]
        rfl
      · rw [show (v.entered c.number requested).ticket m = _ from others m own]
    · refine (filter_insertBy _ (by simp [State.entryFor]) _).trans ?_
      rw [State.unschedule, calls]
      simp
  · have judged : s.scheduleTicket c requested = ((s.entered c.number requested).releaseEntry c.number, .done) := by
      rw [State.scheduleTicket, state, ← State.enterSchedule_releases come]
    obtain ⟨u, released, called⟩ := State.releaseEntry_called (s := s.entered c.number requested) found (.inr state)
    refine ⟨u, judged.trans (congrArg (·, _) released), State.CalledFrom.of_entered (x := c.state) (verify := c.verify) called
      ⟨rfl, rfl, rfl, rfl, rfl, rfl, fun _ => rfl⟩ rfl ?_ rfl rfl rfl ⟨fun _ _ => rfl, rfl, rfl⟩⟩
    refine (filter_insertBy _ (by simp [State.entryFor]) _).trans ?_
    rw [State.unschedule]
    simp

/-- A call of a ticket as a PRESENT station's frame finds the state. -/
theorem State.CalledFrom.of_heard {s u : State} {f : From} {c : Ticket} {time : SiteTime}
    (called : (s.heard f).CalledFrom u c time) : s.CalledFrom u c time :=
  State.CalledFrom.of_entered (x := c.state) (verify := c.verify) called
    ⟨s.heard_dispatch f, by rw [s.heard_calls f], s.heard_stalls f, s.heard_arbiter f, s.now_heard f, s.heard_params f,
      fun m => by rw [s.ticket_heard f m]⟩ rfl (by rw [s.heard_calls f]) (by rw [s.heard_calls f]) (s.heard_keys f)
    (s.heard_events f) ⟨fun m _ => s.ticket_heard f m, s.heard_unplaced f, s.heard_issue f⟩

/-- Settles O23: the entry is inserted in order, and a release time that has come releases it at once. -/
theorem scheduleEntersInOrderOrIsRefused : Obligations.ScheduleEntersInOrderOrIsRefused := by
  refine ⟨fun s f c day tenth serves low high found state room absent sorted fits within near later => ?_,
    fun s f c day tenth serves low high found state sorted fits within near later => ?_,
    fun s f c day tenth serves low high found states fits within near come gone => ?_,
    fun s f n day tenth serves closed => ?_, fun s f c day tenth serves low high found => ⟨fun beyond => ?_,
      fun fits within near state full => ?_, fun fits within near => ⟨fun states => ?_, fun states => ?_⟩⟩⟩
  · have heard : (s.heard f).ticket c.number = some c := (s.ticket_heard f _).trans found
    let u := (s.heard f).moveTicket c.number .scheduled
    obtain ⟨-, stalls, unplaced, issue, keys, dispatch, arbiter, -, -, -, events, params, -⟩ :=
      (s.heard f).moveTicket_frame c.number .scheduled
    have lead : u.releaseTime ⟨day, tenth⟩ = SiteTime.less ⟨day, tenth⟩ (600 * s.params.leadTime) :=
      State.releaseTime_congr (params.trans (s.heard_params f)) _
    have calls : u.calls = s.calls :=
      (State.moveTicket_calls heard (by rw [state]; rfl) rfl).trans (s.heard_calls f)
    have judged : (s.heard f).scheduleTicket c ⟨day, tenth⟩ = (u.entered c.number ⟨day, tenth⟩, .done) := by
      have waits : u.enterSchedule c.number ⟨day, tenth⟩ = u.entered c.number ⟨day, tenth⟩ :=
        State.enterSchedule_waits (by rw [lead, State.moveTicket_now, s.now_heard]; exact later)
      rw [State.scheduleTicket, state, ← waits]
      exact if_pos (by rw [s.heard_calls]; exact room)
    have rest := (keepsRest_workKeeps (s.heard f)).scheduleTicket c ⟨day, tenth⟩ (State.KeepsRest.refl _)
    rw [judged] at rest
    obtain ⟨ahead, behind, split, schedule, before_, after⟩ := u.entered_schedule c.number ⟨day, tenth⟩
      (l := s.calls.schedule) (by rw [calls]; exact List.filter_eq_self.mpr fun e mem => by simpa using absent e mem) sorted
    rw [State.entryFor, lead] at schedule
    rw [lead] at before_ after
    obtain ⟨tickets', stalls', dispatch', events', keys', arbiter', unplaced', issue', -⟩ :=
      u.entered_frame c.number ⟨day, tenth⟩
    have ticket (m) : (u.entered c.number ⟨day, tenth⟩).ticket m = u.ticket m := State.ticket_congr tickets' m
    have entered : u.ticket c.number = some { c with state := .scheduled, verify := false } :=
      State.ticket_entered heard (by decide)
    have others (m) (other : m ≠ c.number) : u.ticket m = s.ticket m :=
      (State.ticket_moveTicket_ne _ _ _ _ other).trans (s.ticket_heard f m)
    have run := serves.schedule low high found fits within near judged
    generalize u.entered c.number ⟨day, tenth⟩ = v at *
    exact ⟨_, ahead, behind, run, rest.served _ _ _ _ _, split, schedule, before_, after, (ticket _).trans entered,
      stalls'.trans (stalls.trans (s.heard_stalls f)), dispatch'.trans (dispatch.trans (s.heard_dispatch f)),
      events'.trans (events.trans (s.heard_events f)), keys'.trans (keys.trans (s.heard_keys f)),
      arbiter'.trans (arbiter.trans (s.heard_arbiter f)), fun m other => (ticket m).trans (others m other),
      unplaced'.trans (unplaced.trans (s.heard_unplaced f)), issue'.trans (issue.trans (s.heard_issue f))⟩
  · have lead : (s.heard f).releaseTime ⟨day, tenth⟩ = SiteTime.less ⟨day, tenth⟩ (600 * s.params.leadTime) :=
      State.releaseTime_congr (s.heard_params f) _
    have judged : (s.heard f).scheduleTicket c ⟨day, tenth⟩ = ((s.heard f).entered c.number ⟨day, tenth⟩, .done) := by
      have waits : (s.heard f).enterSchedule c.number ⟨day, tenth⟩ = (s.heard f).entered c.number ⟨day, tenth⟩ :=
        State.enterSchedule_waits (by rw [lead, s.now_heard]; exact later)
      rw [State.scheduleTicket, state, ← waits]
    have rest := (keepsRest_workKeeps (s.heard f)).scheduleTicket c ⟨day, tenth⟩ (State.KeepsRest.refl _)
    rw [judged] at rest
    obtain ⟨ahead, behind, split, schedule, before_, after⟩ := (s.heard f).entered_schedule c.number ⟨day, tenth⟩
      (l := s.calls.schedule.filter (·.ticket != c.number)) (by rw [s.heard_calls]) (sorted.filter _)
    rw [State.entryFor, lead] at schedule
    rw [lead] at before_ after
    obtain ⟨tickets, stalls, dispatch, events, keys, arbiter, -⟩ := (s.heard f).entered_frame c.number ⟨day, tenth⟩
    have run := serves.schedule low high found fits within near judged
    generalize (s.heard f).entered c.number ⟨day, tenth⟩ = v at *
    obtain ⟨r, reply, -, outcome, ticket, -⟩ := serves.1.reply_oweService v .schedule .done (some c.number) none
    exact ⟨_, ahead, behind, run, rest.served _ _ _ _ _, split, schedule, before_, after, tickets.trans (s.heard_tickets f),
      stalls.trans (s.heard_stalls f), dispatch.trans (s.heard_dispatch f), events.trans (s.heard_events f),
      keys.trans (s.heard_keys f), arbiter.trans (s.heard_arbiter f), by rw [reply]; simp [outcome, ticket]⟩
  · obtain ⟨u, judged, called⟩ := State.scheduleTicket_releases (s := s.heard f) (c := c) (requested := ⟨day, tenth⟩)
      ((s.ticket_heard f _).trans found) (by rwa [s.heard_calls]) (by rwa [s.now_heard, s.heard_params])
    rw [s.now_heard] at called
    have called := called.of_heard
    have rest := (keepsRest_workKeeps (s.heard f)).scheduleTicket c ⟨day, tenth⟩ (State.KeepsRest.refl _)
    rw [judged] at rest
    obtain ⟨w, task, kind, age, -⟩ := called.task gone
    obtain ⟨r, reply, -, outcome, ticket, -⟩ := serves.1.reply_oweService (u.raise .scheduleRelease c.number) .schedule .done
      (some c.number) none
    exact ⟨_, serves.schedule low high found fits within near judged, rest.served _ _ _ _ _, called.schedule, called.ticket,
      ⟨w, task, kind, age⟩, congrArg (fun e : EventUnit => e.waiting ++ [⟨.scheduleRelease, c.number⟩]) called.events,
      called.stalls, called.keys, called.arbiter, called.only, by rw [reply]; simp [outcome, ticket]⟩
  · have none : (s.heard f).named n = none := State.named_none (by rwa [s.ticket_heard])
    exact (serves.service _ _ _ (⟨n, day, tenth⟩ : ScheduleFields)).trans (next_congr (by rw [State.serveTicket_none none]))
  · have named : (s.heard f).named c.number = some c := State.named_some low high ((s.ticket_heard f _).trans found)
    refine (serves.service _ _ _ (⟨c.number, day, tenth⟩ : ScheduleFields)).trans (next_congr ?_)
    rw [State.serveTicket_some named]
    simp only [s.now_heard, readSchedule_none beyond]
  · refine serves.schedule low high found fits within near ?_
    rw [State.scheduleTicket, state]
    exact if_neg (by rw [s.heard_calls]; exact not_lt.mpr full)
  · refine serves.schedule low high found fits within near ?_
    rcases states with ⟨state | state | state, pending⟩ | state | state | state | state | state | state <;>
      simp [State.scheduleTicket, *]
  · refine serves.schedule low high found fits within near ?_
    rcases states with state | ⟨state | state | state, pending⟩ <;> simp [State.scheduleTicket, *]

end Sys2Proof.Machine
end

section
/-! SUPPORT: a stall that becomes FREE, what its hand-on leaves, and tickets put AT_CURB by a call (R5, R8, R9, R50). -/

namespace Sys2Proof.Machine

open Sys2Proof

/-! ### Freed stalls (R5, R7 to R9) -/

/-- The free class of a stall record: its size class while it is FREE. -/
theorem Stall.freeClass_of_free {r : Stall} {site : StallSite} (state : r.state = .free) (loaded : r.site = some site) :
    r.freeClass = some site.size := by
  simp [Stall.freeClass, state, loaded]

theorem Stall.freeClass_of_taken {r : Stall} (state : r.state ≠ .free) : r.freeClass = none := by
  simp [Stall.freeClass, state]

/-- A stall that becomes FREE raises its class's count, and reports nothing (R9). -/
theorem State.putStall_rises {s : State} {k : Nat} {r : Stall} {c : SizeClass} (low : k < 640)
    (taken : (s.stall k).freeClass = none) (free : r.freeClass = some c) :
    (s.putStall k r).stalls.free = s.stalls.free.set c (s.stalls.free.get c + 1) ∧ (s.putStall k r).events = s.events := by
  rw [State.putStall, if_pos (show k < Config.stallCount from low)]
  simp only [taken, free]
  exact ⟨rfl, rfl⟩

/-- A hand-on finds no ticket that waits for the stall (R8, R31, R101). -/
def State.NoneWaits (s : State) : Prop := s.unplaced = [] ∧ ∀ d ∈ s.tickets, d.restageWanted = false

theorem State.lookRestage_quiet {s : State} (none : ∀ d ∈ s.tickets, d.restageWanted = false) (k : Nat) : s.lookRestage k = s := by
  unfold State.lookRestage
  split
  · split
    · have empty (site) : s.restageCandidate site = Option.none := by
        rw [State.restageCandidate, List.filter_eq_nil_iff.mpr fun d mem => by simp [State.restageable, none d mem]]
        rfl
      rw [empty]
    · rfl
  · rfl

theorem State.attemptUnplaced_quiet {s : State} (empty : s.unplaced = []) : s.attemptUnplaced = s := by
  rw [State.attemptUnplaced, empty]
  rfl

theorem State.NoneWaits.handOn {s : State} (none : s.NoneWaits) (k : Nat) : s.handOn k = s := by
  rw [State.handOn, State.attemptUnplaced_quiet none.1, State.lookRestage_quiet none.2]

/-- What a release of a hold leaves, before its hand-on. -/
theorem State.releaseStall_held {s : State} {k n : Nat} {site : StallSite} (low : k < 640) (held : s.heldFor k n = true)
    (loaded : (s.stall k).site = some site) :
    (s.releaseStall k n).stall k = { s.stall k with state := .free, ticket := none, confirmed := false, recheck := true } ∧
      (∀ j, j ≠ k → (s.releaseStall k n).stall j = s.stall j) ∧
      (s.releaseStall k n).stalls.free = s.stalls.free.set site.size (s.stalls.free.get site.size + 1) ∧
      (s.releaseStall k n).events = s.events := by
  have taken : (s.stall k).freeClass = none := Stall.freeClass_of_taken (by
    have both : (s.stall k).state = .held ∧ (s.stall k).ticket = some n := by simpa [State.heldFor] using held
    simp [both])
  rw [State.releaseStall, if_pos held]
  exact ⟨s.stall_putStall_same k _ low, fun j other => s.stall_putStall_ne k j _ (Ne.symm other),
    State.putStall_rises low taken (Stall.freeClass_of_free rfl loaded)⟩

/-! ### Tickets put AT_CURB on lane 0 (R50, R120, R142) -/

/-- The record of a ticket that a call has put AT_CURB on lane 0. -/
def Ticket.atPodium (c : Ticket) (now : SiteTime) : Ticket :=
  { c with state := .atCurb, lane := some 0, calledAt := some now, atCurbAt := some now, overduePending := true, verify := false }

theorem State.toPodium_frame (s : State) (n : Nat) :
    (s.toPodium n).stalls = s.stalls ∧ (s.toPodium n).unplaced = s.unplaced ∧ (s.toPodium n).issue = s.issue ∧
      (s.toPodium n).keys = s.keys ∧ (s.toPodium n).dispatch = s.dispatch ∧ (s.toPodium n).arbiter = s.arbiter ∧
      (s.toPodium n).events = s.events ∧ (s.toPodium n).calls.schedule = s.calls.schedule ∧
      ∀ m, m ≠ n → (s.toPodium n).ticket m = s.ticket m := by
  obtain ⟨-, stalls, unplaced, issue, keys, dispatch, arbiter, schedule, -, -, events, -⟩ := State.moveTicket_frame
    (s.modifyTicket n fun t => { t with lane := some 0, calledAt := some s.now }) n .atCurb
  exact ⟨stalls, unplaced, issue, keys, dispatch, arbiter, events, schedule, fun m other =>
    (State.ticket_moveTicket_ne _ _ _ _ other).trans (State.ticket_modifyTicket_ne _ _ _ _ other fun _ => rfl)⟩

theorem State.toPodium_ticket {s : State} {n : Nat} {c : Ticket} (found : s.ticket n = some c) :
    (s.toPodium n).ticket n = some (c.atPodium s.now) := by
  refine (State.ticket_moveTicket_same _ _ _).trans ?_
  rw [State.ticket_edit_same found fun t => { t with lane := some 0, calledAt := some s.now }]
  rfl

/-- A ticket that comes onto the curb board is listed with board time now. -/
theorem State.moveTicket_joins {s : State} {n : Nat} {c : Ticket} {x : TicketState} (found : s.ticket n = some c)
    (off : c.state.onBoard = false) (on : x.onBoard = true) :
    (s.moveTicket n x).calls.board = insertBy boardBefore ⟨n, s.now⟩ s.calls.board := by
  simp only [State.moveTicket, found, off, on, Bool.false_eq_true, if_false, if_true]
  exact congrArg Calls.board (State.boardSince_frame _ _).2.2.2.2.2.2.2.2.1

theorem State.toPodium_listed {s : State} {n : Nat} {c : Ticket} (found : s.ticket n = some c) (off : c.state.onBoard = false) :
    ⟨n, s.now⟩ ∈ (s.toPodium n).calls.board := by
  have edited := State.ticket_edit_same found fun t => { t with lane := some 0, calledAt := some s.now }
  rw [State.toPodium, State.moveTicket_joins (c := { c with lane := some 0, calledAt := some s.now }) edited off rfl]
  exact (insertBy_perm _ _ _).mem_iff.mpr List.mem_cons_self

/-! ### Calls of one ticket (R50) -/

/-- A CALL of an open ticket alone is judged by `callTicket`. -/
theorem State.Serves.call {s : State} {f : From} {c : Ticket} (h : s.Serves f) (low : 1 ≤ c.number) (high : c.number ≤ 9999)
    (found : s.ticket c.number = some c) {u : State} {o : Answer}
    (judged : (s.heard f).callTicket c s.now = (u, o)) :
    exec (.call f (.fields ⟨c.number, .value false⟩)) s = .next (u.oweService f.source .call o (some c.number)) := by
  have named : (s.heard f).named c.number = some c := State.named_some low high ((s.ticket_heard f _).trans found)
  refine (h.service _ _ _ (⟨c.number, .value false⟩ : CallFields)).trans (next_congr ?_)
  rw [← s.now_heard f] at judged
  simp only [State.requestCall, named, Sent.get?, State.takeCall, judged]

/-- What a call refuses: a ticket that is called, or will be. -/
theorem State.callTicket_already {s : State} {c : Ticket} (time : SiteTime)
    (states : (c.state = .assigned ∨ c.state = .parking ∨ c.state = .restaging) ∧ c.callPending = true ∨ c.state = .called ∨
      c.state = .fetching ∨ c.state = .descending ∨ c.state = .staged ∨ c.state = .toCurb ∨ c.state = .atCurb) :
    s.callTicket c time = (s, .already) := by
  rcases states with ⟨state | state | state, pending⟩ | state | state | state | state | state | state <;>
    simp [State.callTicket, *]

theorem State.callTicket_pending {s : State} {c : Ticket} (time : SiteTime) (states : c.state = .parking ∨ c.state = .restaging)
    (free : c.callPending = false) : s.callTicket c time =
      (s.modifyTicket c.number fun k => { k with callPending := true, calledAt := some s.now, promise := s.quote c }, .done) := by
  rcases states with state | state <;> simp [State.callTicket, state, free]

theorem State.callTicket_unplaced {s : State} {c : Ticket} (time : SiteTime) (state : c.state = .unplaced) :
    s.callTicket c time = ({ s with unplaced := s.unplaced.filter (· != c.number) }.toPodium c.number, .done) := by
  simp [State.callTicket, state]

/-- The part of a call of an ASSIGNED ticket before it is put AT_CURB: the PARK task withdrawn, the stall released. -/
def State.uncommitted (s : State) (c : Ticket) : State :=
  match c.stall with
  | none => s.withdrawTask c.number
  | some k =>
    if (s.withdrawTask c.number).heldFor k c.number then
      (((s.withdrawTask c.number).releaseStall k c.number).modifyTicket c.number fun t => { t with stall := none }).handOn k
    else ((s.withdrawTask c.number).releaseStall k c.number).modifyTicket c.number fun t => { t with stall := none }

theorem State.callTicket_assigned {s : State} {c : Ticket} (time : SiteTime) (state : c.state = .assigned)
    (free : c.callPending = false) : s.callTicket c time = ((s.uncommitted c).toPodium c.number, .done) := by
  simp only [State.callTicket, state, free, Bool.false_eq_true, if_false, State.uncommitted] <;> cases c.stall <;> rfl

/-- Without a BACKLOG task a promotion does nothing. -/
theorem State.promote_noBacklog {s : State} (none : ∀ v ∈ s.dispatch.tasks, v.place ≠ .backlog) : s.promote = s := by
  have empty : s.dispatch.tasks.filter (·.place == .backlog) = [] :=
    List.filter_eq_nil_iff.mpr fun v mem => by simpa using none v mem
  rw [State.promote, empty]
  exact ite_self s

/-- The runner to whom a withdrawn task was offered, or who held it. -/
def State.freedRunner (s : State) (b n : Nat) : State :=
  (s.dropTask n).setRunner b { (s.runner b).enterReady s.now with owed := some (.withdraw n) }

/-- A task withdrawn before it is held, where none is BACKLOG: it is gone, and the runner it was offered to is freed. -/
theorem State.withdrawTask_waiting {s : State} {n : Nat} {w : Task} (own : s.task n = some w)
    (none : ∀ v ∈ s.dispatch.tasks, v.place ≠ .backlog) :
    (w.place = .queued → s.withdrawTask n = s.dropTask n) ∧
      ∀ b, w.place = .offered b → s.withdrawTask n = (s.freedRunner b n).pair := by
  have dropped : (s.dropTask n).promote = s.dropTask n :=
    State.promote_noBacklog fun v mem => none v (List.mem_of_mem_filter mem)
  refine ⟨fun place => ?_, fun b place => ?_⟩
  · simp only [State.withdrawTask, own, place]
    exact dropped
  · simp only [State.withdrawTask, own, place]
    exact congrArg State.pair (State.promote_noBacklog (s := s.freedRunner b n) fun v mem => none v (List.mem_of_mem_filter mem))

theorem State.withdrawTask_waiting_tickets {s : State} {n : Nat} {w : Task} (own : s.task n = some w)
    (none : ∀ v ∈ s.dispatch.tasks, v.place ≠ .backlog) (place : w.place = .queued ∨ ∃ b, w.place = .offered b) :
    (s.withdrawTask n).tickets = s.tickets := by
  obtain ⟨queued, offered⟩ := State.withdrawTask_waiting own none
  rcases place with place | ⟨b, place⟩
  · rw [queued place]
    rfl
  · rw [offered b place, State.pair_tickets]
    rfl

/-- What a call of an ASSIGNED ticket gives up, where no ticket waits for its stall and no task is BACKLOG. -/
theorem State.uncommitted_result {s : State} {c : Ticket} {k : Nat} {site : StallSite} {w : Task}
    (found : s.ticket c.number = some c) (stall : c.stall = some k) (inside : k < 640) (loaded : (s.stall k).site = some site)
    (held : s.heldFor k c.number = true) (waits : s.NoneWaits) (own : s.task c.number = some w)
    (none : ∀ v ∈ s.dispatch.tasks, v.place ≠ .backlog) (place : w.place = .queued ∨ ∃ b, w.place = .offered b) :
    let t := s.uncommitted c
    t.stall k = { s.stall k with state := .free, ticket := Option.none, confirmed := false, recheck := true } ∧
      (∀ j, j ≠ k → t.stall j = s.stall j) ∧
      t.stalls.free = s.stalls.free.set site.size (s.stalls.free.get site.size + 1) ∧ t.events = s.events ∧
      t.ticket c.number = some { c with stall := Option.none } ∧ (∀ m, m ≠ c.number → t.ticket m = s.ticket m) ∧
      t.dispatch = (s.withdrawTask c.number).dispatch ∧ t.keys = s.keys ∧ t.arbiter = s.arbiter ∧ t.unplaced = s.unplaced ∧
      t.issue = s.issue ∧ t.calls = s.calls ∧ t.now = s.now := by
  let v := s.withdrawTask c.number
  obtain ⟨-, stalls, unplaced, issue, keys, arbiter, calls, -, events, -⟩ := s.withdrawTask_frame c.number
  have tickets : v.tickets = s.tickets := State.withdrawTask_waiting_tickets own none place
  have held' : v.heldFor k c.number = true := by rwa [State.heldFor, State.stall_congr stalls]
  let edit (t : Ticket) : Ticket := { t with stall := Option.none }
  have freed := State.releaseStall_held (s := v) inside held' (by rwa [State.stall_congr stalls])
  rw [stalls, State.stall_congr stalls] at freed
  obtain ⟨record, others, count, events'⟩ := freed
  obtain ⟨-, unplaced', tickets', issue', keys', dispatch', arbiter', calls', -⟩ := v.releaseStall_frame k c.number
  let u := v.releaseStall k c.number
  have quiet : (u.modifyTicket c.number edit).NoneWaits := by
    refine ⟨unplaced'.trans (unplaced.trans waits.1), fun d mem => ?_⟩
    obtain ⟨d', mem', rfl⟩ := List.mem_map.mp mem
    have settled := waits.2 d' (by rwa [tickets', tickets] at mem')
    split <;> exact settled
  have taken : s.uncommitted c = u.modifyTicket c.number edit := by
    rw [State.uncommitted, stall]
    exact (if_pos held').trans (quiet.handOn k)
  rw [taken]
  have ticket (m) : u.ticket m = s.ticket m := State.ticket_congr (tickets'.trans tickets) m
  have events'' : u.events = s.events := events'.trans events
  exact ⟨record, fun j other => (others j other).trans (State.stall_congr stalls j), count, events'',
    State.ticket_edit_same ((ticket _).trans found) edit,
    fun m other => (State.ticket_modifyTicket_ne u c.number m edit other fun _ => rfl).trans (ticket m), dispatch', keys'.trans keys,
    arbiter'.trans arbiter, unplaced'.trans unplaced, issue'.trans issue, calls'.trans calls, congrArg EventUnit.clock events''⟩

/-- The quote reads nothing of what a hearing changes. -/
theorem State.quoteAt_heard (s : State) (f : From) (c : Ticket) (age : SiteTime) : (s.heard f).quoteAt c age = s.quoteAt c age :=
  State.QuotesAs.quoteAt ⟨s.heard_dispatch f, by rw [s.heard_calls f], s.heard_stalls f, s.heard_arbiter f, s.now_heard f,
    s.heard_params f, fun m => by rw [s.ticket_heard f m]⟩ c age

/-- Settles O22: each state's branch of `callTicket`, with what a withdrawn task and a released stall leave. -/
theorem callsOutsideTheStallsWait : Obligations.CallsOutsideTheStallsWait := by
  refine ⟨fun s f c serves low high found => ⟨fun states free => ?_, fun states => ?_⟩,
    fun s f c serves low high found state => ?_,
    fun s f c k site w serves low high found state free stall inside loaded held empty settled own none place => ?_⟩
  · refine serves.call low high found ((State.callTicket_pending _ states free).trans ?_)
    simp only [State.quote, s.now_heard, s.quoteAt_heard]
  · exact serves.call low high found (State.callTicket_already _ states)
  · let v : State := { s.heard f with unplaced := (s.heard f).unplaced.filter (· != c.number) }
    have heard : v.ticket c.number = some c := (s.ticket_heard f _).trans found
    have judged := State.callTicket_unplaced (s := s.heard f) (c := c) s.now state
    have rest := (keepsRest_workKeeps (s.heard f)).callTicket c s.now (State.KeepsRest.refl _)
    rw [judged] at rest
    have run := serves.call low high found judged
    obtain ⟨stalls, unplaced, issue, keys, dispatch, arbiter, events, -, others⟩ := v.toPodium_frame c.number
    have ticket := State.toPodium_ticket heard
    have listed := State.toPodium_listed heard (by rw [state]; rfl)
    rw [show v.now = s.now from s.now_heard f] at ticket listed
    change (s.heard f).KeepsRest (v.toPodium c.number) at rest
    change _ = Host.Outcome.next (State.oweService (v.toPodium c.number) _ _ _ _ _) at run
    generalize v.toPodium c.number = t at *
    exact ⟨_, run, rest.served _ _ _ _ _, ticket, unplaced.trans (by rw [← s.heard_unplaced f]), listed, stalls.trans (s.heard_stalls f),
      dispatch.trans (s.heard_dispatch f), events.trans (s.heard_events f), arbiter.trans (s.heard_arbiter f),
      keys.trans (s.heard_keys f), fun m other => (others m other).trans (s.ticket_heard f m), issue.trans (s.heard_issue f)⟩
  · have heard : (s.heard f).ticket c.number = some c := (s.ticket_heard f _).trans found
    have own' : (s.heard f).task c.number = some w := (s.task_heard f _).trans own
    have tasks' : ∀ v ∈ (s.heard f).dispatch.tasks, v.place ≠ .backlog := by rwa [s.heard_dispatch]
    have judged := State.callTicket_assigned (s := s.heard f) (c := c) s.now state free
    have rest := (keepsRest_workKeeps (s.heard f)).callTicket c s.now (State.KeepsRest.refl _)
    rw [judged] at rest
    have run := serves.call low high found judged
    obtain ⟨record, others, count, events, ticket, only, dispatch, keys, arbiter, unplaced, issue, calls, now⟩ :=
      State.uncommitted_result heard stall inside (by rwa [s.stall_heard]) (by rwa [State.heldFor, s.stall_heard])
        ⟨(s.heard_unplaced f).trans empty, by rwa [s.heard_tickets]⟩ own' tasks' place
    rw [s.stall_heard] at record
    rw [s.heard_stalls] at count
    obtain ⟨stalls', unplaced', issue', keys', dispatch', arbiter', events', -, only'⟩ :=
      ((s.heard f).uncommitted c).toPodium_frame c.number
    have ticket' := State.toPodium_ticket ticket
    have listed := State.toPodium_listed ticket (by rw [state]; rfl)
    rw [now, s.now_heard f] at ticket' listed
    have gone := (s.heard f).withdrawTask_task c.number
    have freed (b) (offered : w.place = .offered b) (low : 1 ≤ b) (high : b ≤ 32)
        (alone : ∀ v ∈ s.dispatch.tasks, v.place = .queued → v.ticket = c.number) :
        ((s.heard f).withdrawTask c.number).runner b = { s.runner b with
          state := .ready, readySince := s.now, task := Option.none, offerBy := Option.none, owed := some (.withdraw c.number) } := by
      have quiet : ((s.heard f).freedRunner b c.number).NoneQueued := by
        refine List.all_eq_true.mpr fun v mem => ?_
        obtain ⟨mem, other⟩ := List.mem_filter.mp mem
        rw [s.heard_dispatch] at mem
        simpa using fun queued : v.place = .queued => absurd (alone v mem queued) (by simpa using other)
      rw [(State.withdrawTask_waiting own' tasks').2 b offered, State.pair_of_noneQueued quiet]
      refine (State.runner_setRunner_same _ _ _ low high).trans ?_
      rw [s.runner_heard, s.now_heard]
      rfl
    generalize (s.heard f).withdrawTask c.number = v at *
    generalize (s.heard f).uncommitted c = u at *
    generalize u.toPodium c.number = t at *
    exact ⟨_, run, rest.served _ _ _ _ _, (State.task_congr (dispatch'.trans dispatch) _).trans gone,
      (State.stall_congr stalls' k).trans record, (congrArg StallMap.free stalls').trans count,
      fun j other => (State.stall_congr stalls' j).trans ((others j other).trans (s.stall_heard f j)), ticket',
      fun b offered low high alone => (State.runner_congr (dispatch'.trans dispatch) b).trans (freed b offered low high alone), listed,
      events'.trans (events.trans (s.heard_events f)), keys'.trans (keys.trans (s.heard_keys f)),
      arbiter'.trans (arbiter.trans (s.heard_arbiter f)),
      fun m other => (only' m other).trans ((only m other).trans (s.ticket_heard f m)),
      unplaced'.trans (unplaced.trans (s.heard_unplaced f)), issue'.trans (issue.trans (s.heard_issue f))⟩

end Sys2Proof.Machine
end

section
/-! PROOF of O58: the expiries of the channels. -/

namespace Sys2Proof.Machine

open Sys2Proof

/-! ### The WINDOW channels of a channel that expires (R172, R174) -/

/-- A channel after an expiry of channel `k`: a WINDOW channel that names it as master takes it. -/
def Channel.led (c : Channel) (k : Nat) : Channel := if c.mode = .window ∧ c.master = some k then c.masterExpiry else c

/-- The channels `js` after an expiry of channel `k`. -/
def State.leads (s : State) (k : Nat) (js : List Nat) : State :=
  forEach js (fun j s =>
    if (s.channel j).mode = .window ∧ (s.channel j).master = some k then s.setChannel j (s.channel j).masterExpiry else s) s

/-- One channel after an expiry of channel `k`. -/
theorem State.leads_cons (s : State) (k i : Nat) (is : List Nat) :
    s.leads k (i :: is) = (s.setChannel i ((s.channel i).led k)).leads k is := by
  refine congrArg (State.leads · k is) (?_ : (if _ then _ else _) = _)
  unfold Channel.led
  split
  · rfl
  · exact (State.setChannel_self s i).symm

/-- Each channel takes the expiry by itself, and nothing but channels changes. -/
theorem State.leads_result (s : State) (k : Nat) {js : List Nat} (once : js.Nodup) (inside : ∀ j ∈ js, j < 8) :
    (∀ j, (s.leads k js).channel j = if j ∈ js then (s.channel j).led k else s.channel j) ∧
      ∃ T, s.leads k js = { s with timers := T } := by
  induction js generalizing s with
  | nil => exact ⟨fun _ => rfl, s.timers, rfl⟩
  | cons i is ih =>
    obtain ⟨fresh, once⟩ := List.nodup_cons.mp once
    obtain ⟨channels, T, rest⟩ :=
      ih (s.setChannel i ((s.channel i).led k)) once fun j mem => inside j (List.mem_cons_of_mem _ mem)
    rw [State.leads_cons]
    refine ⟨fun j => (channels j).trans ?_, T, rest⟩
    by_cases here : j = i
    · subst here
      rw [if_neg fresh, if_pos List.mem_cons_self]
      exact State.channel_setChannel_same _ _ _ (inside j List.mem_cons_self)
    · rw [State.channel_setChannel_ne _ _ _ _ (Ne.symm here)]
      simp [here]

/-- What an expiry hands on: to the WINDOW channels of an INTERVAL or DELAY channel, and as a TIMER event. -/
theorem State.handExpiry_result (s : State) (k : Nat) :
    ∃ T, s.handExpiry k = { s with timers := T }.raise (.timer k) k ∧ ∀ j, nth T j Channel.cold =
      if j < 8 ∧ ((s.channel k).mode = .interval ∨ (s.channel k).mode = .delay) then (s.channel j).led k else s.channel j := by
  obtain ⟨channels, T, rest⟩ :=
    s.leads_result k (js := List.range Config.channelCount) List.nodup_range fun j mem => List.mem_range.mp mem
  have handed : s.handExpiry k = (if (s.channel k).mode = .interval ∨ (s.channel k).mode = .delay then
      s.leads k (List.range Config.channelCount) else s).raise (.timer k) k := rfl
  rw [handed]
  by_cases leads : (s.channel k).mode = .interval ∨ (s.channel k).mode = .delay
  · rw [if_pos leads, rest]
    refine ⟨T, rfl, fun j => ?_⟩
    have one := channels j
    rw [rest] at one
    refine (one : nth T j Channel.cold = _).trans ?_
    simp [leads, Config.channelCount]
  · rw [if_neg leads]
    exact ⟨s.timers, rfl, fun j => by rw [if_neg fun both => leads both.2]; rfl⟩

/-! ### Expiries (R170 to R172) -/

/-- A channel's expiry: the channel as written, the others as led by it, and its TIMER event. -/
theorem State.expiry_hands {s : State} {k : Nat} {d : Channel} (low : k < 8) (unled : d.led k = d) :
    ∃ t, (s.setChannel k d).handExpiry k = t ∧ t.channel k = d ∧
      t.events.waiting = s.events.waiting ++ [⟨.timer k, k⟩] ∧ t.calls = s.calls ∧
      ∀ j, j ≠ k → t.channel j =
        if j < 8 ∧ (d.mode = .interval ∨ d.mode = .delay) then (s.channel j).led k else s.channel j := by
  obtain ⟨T, handed, channels⟩ := State.handExpiry_result (s.setChannel k d) k
  rw [State.channel_setChannel_same _ _ _ low] at channels
  refine ⟨_, handed, (channels k).trans ?_, rfl, rfl, fun j other => (channels j).trans ?_⟩
  · rw [State.channel_setChannel_same _ _ _ low, unled, ite_self]
  · rw [State.channel_setChannel_ne _ _ _ _ (Ne.symm other)]

/-- A channel that does not name `k` as a master it follows is not led by it. -/
theorem Channel.led_of_not {c : Channel} {k : Nat} (free : c.mode ≠ .window ∨ c.master ≠ some k) : c.led k = c :=
  if_neg fun both => free.elim (· both.1) (· both.2)

/-- A WINDOW channel led by its master (R172). -/
theorem Channel.led_window {c : Channel} {k : Nat} (mode : c.mode = .window) (master : c.master = some k) :
    c.led k = match c.state with
      | .stopped => c
      | .armed => { c with state := .counting, counter := c.reload, elapsed := 0, due := false, drive := true }
      | .counting => { c with counter := c.reload, elapsed := 0, due := false } := by
  obtain ⟨_, _, _, _, _, _, _, state, _, _, _, _, _, _⟩ := c
  rw [Channel.led, if_pos ⟨mode, master⟩]
  cases state <;> rfl

/-- A due expiry is taken; one that is not due changes nothing. -/
theorem State.takeExpiry_due {s : State} {k : Nat} {mode : TimerMode} (own : (s.channel k).mode = mode)
    (due : (s.channel k).due = true) : s.takeExpiry k mode = s.expire k := by
  rw [State.takeExpiry, if_pos own, State.takeDue, if_pos due]

/-- Settles O58: each mode's branch of an expiry, and the channels it leads. -/
theorem expiriesFollowTheMode : Obligations.ExpiriesFollowTheMode := by
  intro s k on low
  refine ⟨fun mode due => ?_, fun mode due => ?_, fun mode due => ?_, fun waits => ?_⟩
  · obtain ⟨t, handed, own, events, calls, others⟩ := State.expiry_hands (s := s)
      (d := { (s.channel k).begin (s.channel k).reload with drive := !(s.channel k).drive }) low
      (Channel.led_of_not (.inl (by simp [Channel.begin, mode])))
    have leads : ({ (s.channel k).begin (s.channel k).reload with drive := !(s.channel k).drive } : Channel).mode
      = .interval := mode
    refine ⟨t, (next_powered on _).trans (next_congr ?_), own, events, calls, fun j inside window master => ?_,
      fun j inside other free => ?_⟩
    · simp only [State.takeExpiry_due mode due, State.expire, mode]
      exact handed
    · have other : j ≠ k := by rintro rfl; simp [mode] at window
      rw [others j other, if_pos ⟨inside, .inl leads⟩, Channel.led_window window master] <;> rfl
    · rw [others j other, if_pos ⟨inside, .inl leads⟩, Channel.led_of_not free]
  · obtain ⟨t, handed, own, events, calls, others⟩ := State.expiry_hands (s := s)
      (d := { (s.channel k).rearm with drive := true, pulseEnd := some (Deadline.at (s.now.plus 1)) }) low
      (Channel.led_of_not (.inl (by simp [Channel.rearm, mode])))
    have leads : ({ (s.channel k).rearm with drive := true, pulseEnd := some (Deadline.at (s.now.plus 1)) } : Channel).mode
      = .delay := mode
    refine ⟨t, (next_powered on _).trans (next_congr ?_), own, events, calls, fun j inside window master => ?_⟩
    · simp only [State.takeExpiry_due mode due, State.expire, mode]
      exact handed
    · have other : j ≠ k := by rintro rfl; simp [mode] at window
      rw [others j other, if_pos ⟨inside, .inr leads⟩, Channel.led_window window master] <;> rfl
  · refine (next_powered on _).trans (next_congr ?_)
    simp only [State.takeExpiry_due mode due, State.expire, mode]
    rw [State.handExpiry, State.channel_setChannel_same _ _ _ low]
    simp [Channel.rearm, mode]
  · have none (m : TimerMode) : s.takeExpiry k m = s := by
      rw [State.takeExpiry, State.takeDue, waits]
      simp
    exact ⟨(next_powered on _).trans (next_congr (none _)), (next_powered on _).trans (next_congr (none _)),
      (next_powered on _).trans (next_congr (none _))⟩

end Sys2Proof.Machine
end

section
/-! PROOF of O60: the event unit takes one event. -/

namespace Sys2Proof.Machine

open Sys2Proof

/-! ### What the channels and the routes leave as it is (R184, R191) -/

/-- What the counting channels and the routes of one event leave as it is: all but the channels, the estimates, the latches
and the TIMER events that they report. -/
structure State.EventWork (s t : State) : Prop where
  tickets : t.tickets = s.tickets
  stalls : t.stalls = s.stalls
  keys : t.keys = s.keys
  dispatch : t.dispatch = s.dispatch
  arbiter : t.arbiter = s.arbiter
  links : t.links = s.links
  flags : t.events.flags = s.events.flags
  masks : t.events.masks = s.events.masks
  routes : t.events.routes = s.events.routes
  clock : t.events.clock = s.events.clock
  waiting : ∃ more, t.events.waiting = s.events.waiting ++ more ∧ ∀ x ∈ more, x.source.isTimer = true

namespace State.EventWork

variable {s t u : State}

theorem refl (s : State) : s.EventWork s := by
  constructor
  case waiting => exact ⟨[], (List.append_nil _).symm, nofun⟩
  all_goals rfl

theorem trans (h : s.EventWork t) (g : t.EventWork u) : s.EventWork u where
  tickets := g.tickets.trans h.tickets
  stalls := g.stalls.trans h.stalls
  keys := g.keys.trans h.keys
  dispatch := g.dispatch.trans h.dispatch
  arbiter := g.arbiter.trans h.arbiter
  links := g.links.trans h.links
  flags := g.flags.trans h.flags
  masks := g.masks.trans h.masks
  routes := g.routes.trans h.routes
  clock := g.clock.trans h.clock
  waiting := by
    obtain ⟨first, front, timers⟩ := h.waiting
    obtain ⟨more, back, timers'⟩ := g.waiting
    refine ⟨first ++ more, by rw [back, front, List.append_assoc], fun x mem => ?_⟩
    exact (List.mem_append.mp mem).elim (timers x) (timers' x)

theorem setChannel (s : State) (k : Nat) (c : Channel) : s.EventWork (s.setChannel k c) where
  tickets := rfl
  stalls := rfl
  keys := rfl
  dispatch := rfl
  arbiter := rfl
  links := rfl
  flags := rfl
  masks := rfl
  routes := rfl
  clock := rfl
  waiting := (refl s).waiting

theorem handExpiry (s : State) (k : Nat) : s.EventWork (s.handExpiry k) := by
  obtain ⟨T, handed, -⟩ := s.handExpiry_result k
  rw [handed]
  constructor
  case waiting => exact ⟨[⟨.timer k, k⟩], rfl, fun x mem => by rw [List.mem_singleton.mp mem]; rfl⟩
  all_goals rfl

theorem feedCapture (s : State) (c : Channel) (n : Nat) : s.EventWork (s.feedCapture c n) := by
  unfold State.feedCapture
  split
  · exact refl s
  · constructor
    case waiting => exact (refl s).waiting
    all_goals rfl

theorem expire (s : State) (k : Nat) : s.EventWork (s.expire k) := by
  unfold State.expire
  dsimp only
  split
  case h_4 | h_5 => exact refl s
  all_goals exact (setChannel s k _).trans (handExpiry _ k)

theorem eventStep (s : State) (k : Nat) : s.EventWork (s.eventStep k) := by
  unfold State.eventStep
  dsimp only
  split
  · exact refl s
  · split
    · exact refl s
    · exact setChannel s k _
    · split
      · exact expire s k
      · exact setChannel s k _

theorem stopEvent (s : State) (k : Nat) : s.EventWork (s.stopEvent k) := by
  unfold State.stopEvent
  dsimp only
  split
  · exact setChannel s k _
  · exact setChannel s k _
  · exact ((setChannel s k _).trans (feedCapture _ _ _)).trans (handExpiry _ k)
  · exact refl s

theorem hitLatch (s : State) (n : Nat) (e : Event) : s.EventWork (s.hitLatch n e) := by
  constructor
  case waiting => exact (refl s).waiting
  all_goals rfl

theorem actRoute (s : State) (e : Event) (r : Route) : s.EventWork (s.actRoute e r) := by
  unfold State.actRoute
  split
  · exact refl s
  · split
    · exact refl s
    · exact setChannel s _ _
  · split
    · exact refl s
    · exact stopEvent s _
  · exact hitLatch s _ e

end State.EventWork

/-! ### The latches (R192) -/

/-- What an event makes of a latch, by whether a matching route hits it. -/
def Latched (now : SiteTime) (e : Event) (hit : Bool) (l l' : Option LatchContent) : Prop :=
  match hit, l with
  | false, _ => l' = l
  | true, some c => l' = some { c with overrun := true }
  | true, none => ∃ o, l' = some { time := now, source := e.source, subject := e.subject, overrun := o }

theorem Latched.trans {now : SiteTime} {e : Event} {hit hit' : Bool} {l m n : Option LatchContent}
    (h : Latched now e hit l m) (g : Latched now e hit' m n) : Latched now e (hit || hit') l n := by
  cases hit with
  | false => cases (h : m = l); exact g
  | true =>
    cases l with
    | none =>
      obtain ⟨o, rfl⟩ := (h : ∃ o, m = _)
      cases hit' with
      | false => exact ⟨o, g⟩
      | true => exact ⟨true, g⟩
    | some c =>
      cases (h : m = _)
      cases hit' with
      | false => exact g
      | true => exact g

/-- A FULL latch stays FULL with its content. -/
theorem Latched.full {now : SiteTime} {e : Event} {hit : Bool} {c : LatchContent} {l : Option LatchContent}
    (h : Latched now e hit (some c) l) : ∃ c', l = some c' ∧ c'.time = c.time ∧ c'.source = c.source ∧
      c'.subject = c.subject ∧ (c.overrun = true → c'.overrun = true) := by
  cases hit with
  | false => exact ⟨c, h, rfl, rfl, rfl, id⟩
  | true => exact ⟨_, h, rfl, rfl, rfl, fun _ => rfl⟩

/-- A route hits latch `n` when it matches the event and its action names the latch. -/
def Route.hits (r : Route) (e : Event) (n : Nat) : Bool := r.isMatch e && r.action == .latch n

theorem Route.hits_iff {r : Route} {e : Event} {n : Nat} : r.hits e n = true ↔ r.isMatch e = true ∧ r.action = .latch n := by
  simp [Route.hits]

/-- Only a LATCH action touches the latches. -/
theorem State.latches_actRoute {s : State} {e : Event} {r : Route} (other : ∀ n, r.action ≠ .latch n) :
    (s.actRoute e r).events.latches = s.events.latches := by
  unfold State.actRoute
  split
  · rfl
  · split <;> rfl
  · split <;> simp [State.stopEvent_frame]
  · exact absurd ‹_› (other _)

/-- A hit latch (R192). -/
theorem State.hitLatch_latched (s : State) (e : Event) {n : Nat} (low : n < 4) :
    Latched s.now e true (nth s.events.latches n none) (nth (s.hitLatch n e).events.latches n none) := by
  rw [State.hitLatch, nth_setNth_same _ _ _ _ low]
  cases nth s.events.latches n none with
  | none => exact ⟨false, rfl⟩
  | some c => exact rfl

/-- One route's part in a latch. -/
theorem State.latched_route (s : State) (e : Event) (r : Route) {n : Nat} (low : n < 4) :
    Latched s.now e (r.hits e n) (nth s.events.latches n none)
      (nth (if r.isMatch e then s.actRoute e r else s).events.latches n none) := by
  unfold Route.hits
  by_cases matched : r.isMatch e = true
  · rw [if_pos matched, matched, Bool.true_and]
    by_cases latch : ∃ m, r.action = .latch m
    · obtain ⟨m, action⟩ := latch
      rw [State.actRoute, action]
      by_cases same : m = n
      · subst same
        rw [beq_self_eq_true]
        exact s.hitLatch_latched e low
      · rw [beq_false_of_ne (by simpa using same)]
        exact nth_setNth_ne _ _ _ _ _ same
    · have other (m : Nat) : r.action ≠ .latch m := fun action => latch ⟨m, action⟩
      rw [State.latches_actRoute other, beq_false_of_ne (other n)]
      exact rfl
  · simp only [matched]
    exact rfl

/-- The matching routes of an event, in order. -/
def State.actRoutes (s : State) (e : Event) (rs : List Route) : State :=
  forEach rs (fun r s => if r.isMatch e then s.actRoute e r else s) s

/-- What the routes of an event leave, and what they make of each latch. -/
theorem State.actRoutes_result (s : State) (e : Event) (rs : List Route) :
    s.EventWork (s.actRoutes e rs) ∧ ∀ n < 4, Latched s.now e (rs.any (·.hits e n))
      (nth s.events.latches n none) (nth (s.actRoutes e rs).events.latches n none) := by
  induction rs generalizing s with
  | nil => exact ⟨State.EventWork.refl s, fun _ _ => rfl⟩
  | cons r rs ih =>
    have one : s.EventWork (if r.isMatch e then s.actRoute e r else s) := by
      split
      · exact State.EventWork.actRoute s e r
      · exact State.EventWork.refl s
    have hit n (low : n < 4) := s.latched_route e r low
    generalize next : (if r.isMatch e then s.actRoute e r else s) = u at one hit
    obtain ⟨rest, latched⟩ := ih u
    have whole : s.actRoutes e (r :: rs) = u.actRoutes e rs := congrArg (State.actRoutes · e rs) next
    rw [whole]
    refine ⟨one.trans rest, fun n low => ?_⟩
    rw [List.any_cons]
    have later := latched n low
    rw [show u.now = s.now from one.clock] at later
    exact (hit n low).trans later

/-! ### The event's flag (R185, R188) -/

/-- The flag of an event's source, and the notices owed. -/
theorem State.setFlag_result (s : State) {k : Nat} (low : k < 30) :
    (s.setFlag k).flag k = true ∧ (∀ j, j ≠ k → (s.setFlag k).flag j = s.flag j) ∧
      (s.flag k = false → s.maskOpen k = true → ∀ a, 1 ≤ a → a ≤ 60 → (s.station a).permissions.notice = true →
        ((s.setFlag k).station a).noticeMark = true) ∧
      ((s.flag k = true ∨ s.maskOpen k = false) → (s.setFlag k).links = s.links) := by
  have own : nth (setNth s.events.flags k true) k false = true := nth_setNth_same _ _ _ _ low
  have other (j : Nat) (ne : j ≠ k) : nth (setNth s.events.flags k true) j false = s.flag j :=
    nth_setNth_ne _ _ _ _ _ (Ne.symm ne)
  by_cases set : s.flag k = true
  · rw [State.setFlag, if_pos set]
    exact ⟨set, fun _ _ => rfl, fun clear => absurd set (by simp [clear]), fun _ => rfl⟩
  · rw [State.setFlag, if_neg set]
    dsimp only
    split
    · next opened =>
      refine ⟨own, other, fun _ _ a low high notice => ?_, fun closed => ?_⟩
      · rw [State.oweNotices, State.station_mapStations _ _ _ low high]
        exact congrArg Station.noticeMark (if_pos notice)
      · exact (closed.elim set (by simp [opened])).elim
    · next closed => exact ⟨own, other, fun _ opened => absurd opened closed, fun _ => rfl⟩

/-- An event taken whole: its flag is set, and the channels and routes act after it. -/
theorem State.takeEvent_result (s : State) (e : Event) : ∃ u, (s.setFlag e.source.num).EventWork u ∧
    u.events.latches = s.events.latches ∧ s.takeEvent e = u.actRoutes e s.events.routes.toList := by
  refine ⟨_, ?_, ?_, rfl⟩
  · exact forEach_keeps (s.setFlag e.source.num).EventWork _ _ _ (fun k u h => h.trans (.eventStep u k)) (.refl _)
  · exact forEach_keeps (fun u : State => u.events.latches = s.events.latches) _ _ _
      (fun k u h => by simpa only [State.eventStep_frame] using h) (by simp only [State.setFlag_frame])

/-- Some record of a bank meets a test. -/
theorem any_toList_iff {α : Type} {n : Nat} {v : Vector α n} {f : α → Bool} (d : α) :
    v.toList.any f = true ↔ ∃ i < n, f (nth v i d) = true := by
  rw [List.any_eq_true]
  constructor
  · rintro ⟨x, mem, holds⟩
    obtain ⟨i, low, rfl⟩ := List.mem_iff_getElem.mp mem
    have inside : i < n := by simpa using low
    refine ⟨i, inside, ?_⟩
    have same : nth v i d = v.toList[i] := by simp [nth, inside]
    rwa [same]
  · rintro ⟨i, low, holds⟩
    refine ⟨_, ?_, holds⟩
    simp [nth, low]

/-- Taking the first event is taking it whole, with the rest waiting. -/
theorem State.eventTaken_eq {s : State} {e : Event} {rest : List Event} (on : s.power.main = true)
    (waiting : s.events.waiting = e :: rest) :
    exec .eventTaken s = .next ({ s with events.waiting := rest }.takeEvent e) := by
  refine (next_powered on _).trans (next_congr ?_)
  rw [State.takeNextEvent, waiting]

/-- Settles O60: the flag, the counting channels and the routes in turn; a route table hit decides each latch. -/
theorem eventsAreTakenInOrder : Obligations.EventsAreTakenInOrder := by
  intro s e rest on waiting low
  obtain ⟨u, stepped, latches, taken⟩ := State.takeEvent_result { s with events.waiting := rest } e
  obtain ⟨routed, latched⟩ := u.actRoutes_result e s.events.routes.toList
  obtain ⟨set, others, notices, silent⟩ := State.setFlag_result { s with events.waiting := rest } low
  obtain ⟨-, stalls, -, tickets, -, keys, dispatch, arbiter, -, -, -, -, masks, clock, routes, -, front, -⟩ :=
    State.setFlag_frame { s with events.waiting := rest } e.source.num
  generalize State.setFlag { s with events.waiting := rest } e.source.num = v at *
  replace latches : u.events.latches = s.events.latches := latches
  have now : u.now = s.now := stepped.clock.trans clock
  have whole := stepped.trans routed
  rw [latches, now] at latched
  obtain ⟨more, back, timers⟩ := whole.waiting
  refine ⟨_, more, (State.eventTaken_eq on waiting).trans (next_congr taken), back.trans (by rw [front]), timers, ?_, ?_,
    whole.masks.trans masks, whole.routes.trans routes, ?_, ?_, ?_, ?_, ?_, ?_,
    whole.tickets.trans tickets, whole.stalls.trans stalls, whole.keys.trans keys, whole.dispatch.trans dispatch,
    whole.arbiter.trans arbiter⟩
  all_goals generalize u.actRoutes e s.events.routes.toList = t at *
  · rw [State.flag, whole.flags]
    exact set
  · intro j ne
    rw [State.flag, whole.flags]
    exact others j ne
  · intro clear opened a low high notice
    rw [State.station, whole.links]
    exact notices clear opened a low high notice
  · exact fun closed => whole.links.trans (silent closed)
  · intro n c full
    have inside : n < 4 := by
      by_contra out
      have empty : nth s.events.latches n none = none := by simp [nth, show ¬ n < Config.latchCount from out]
      rw [empty] at full
      cases full
    have one := latched n inside
    rw [full] at one
    exact one.full
  · intro n i c inside low full matched action
    have one := latched n inside
    rw [(any_toList_iff Route.cold).mpr ⟨i, low, Route.hits_iff.mpr ⟨matched, action⟩⟩, full] at one
    exact one
  · intro n inside missed
    have one := latched n inside
    have miss : (s.events.routes.toList.any (·.hits e n)) = false := by
      rw [← Bool.not_eq_true, any_toList_iff Route.cold]
      rintro ⟨i, low, hit⟩
      obtain ⟨matched, action⟩ := Route.hits_iff.mp hit
      exact missed i low matched action
    rw [miss] at one
    exact one
  · intro n i inside low empty matched action
    have one := latched n inside
    rw [(any_toList_iff Route.cold).mpr ⟨i, low, Route.hits_iff.mpr ⟨matched, action⟩⟩, empty] at one
    obtain ⟨o, taken⟩ := one
    exact ⟨_, taken, rfl, rfl, rfl⟩

end Sys2Proof.Machine
end

section
/-! PROOF of O59: what an event brings to a channel. -/

namespace Sys2Proof.Machine

open Sys2Proof

/-! ### The channels that count an event and the routes that act on it (R184, R191) -/

/-- Only the routes of an event with an action act. -/
theorem State.actRoutes_routesOf (s : State) (e : Event) (rs : List Route) :
    s.actRoutes e rs = s.actRoutes e (rs.filter fun r => r.isMatch e && r.action != .none) := by
  induction rs generalizing s with
  | nil => rfl
  | cons r rs ih =>
    rw [List.filter_cons]
    split
    · exact ih _
    · next idle =>
      have still : (if r.isMatch e then s.actRoute e r else s) = s := by
        split
        · next matched =>
          have action : r.action = .none := by simpa [matched] using idle
          rw [State.actRoute, action]
        · rfl
      exact (congrArg (State.actRoutes · e rs) still).trans (ih s)

/-- The one route of an event acts. -/
theorem State.actRoutes_one {s u : State} {e : Event} {r : Route} (routes : s.routesOf e = [r]) :
    u.actRoutes e s.events.routes.toList = u.actRoute e r := by
  rw [State.actRoutes_routesOf, show s.events.routes.toList.filter _ = [r] from routes]
  have matched : r ∈ s.routesOf e := by rw [routes]; exact List.mem_singleton_self r
  have acts : r.isMatch e = true := by
    have both := (List.mem_filter.mp matched).2
    simp only [Bool.and_eq_true] at both
    exact both.1
  exact if_pos acts

/-- With no route for an event nothing acts. -/
theorem State.actRoutes_none {s u : State} {e : Event} (routes : s.routesOf e = []) :
    u.actRoutes e s.events.routes.toList = u := by
  rw [State.actRoutes_routesOf, show s.events.routes.toList.filter _ = [] from routes]
  rfl

/-- A channel counts the events of a source. -/
def Channel.counts (c : Channel) (source : Nat) : Prop :=
  c.state = .counting ∧ c.clock = .event ∧ c.clockSource = some source

/-- No channel counts the event: the flag is set, and the routes act. -/
theorem State.takeEvent_uncounted {s : State} {e : Event} (free : ∀ j < 8, ¬ (s.channel j).counts e.source.num) :
    s.takeEvent e = (s.setFlag e.source.num).actRoutes e s.events.routes.toList := by
  have idle : s.counters e.source.num = [] := by
    refine List.filter_eq_nil_iff.mpr fun j mem => ?_
    simpa [Channel.counts, and_assoc] using free j (List.mem_range.mp mem)
  rw [State.takeEvent, idle]
  rfl

/-- One channel counts the event: it steps before the routes act. -/
theorem State.takeEvent_counted {s : State} {e : Event} {k : Nat} (low : k < 8)
    (free : ∀ j < 8, (s.channel j).counts e.source.num ↔ j = k) :
    s.takeEvent e = ((s.setFlag e.source.num).eventStep k).actRoutes e s.events.routes.toList := by
  have one : s.counters e.source.num = [k] := by
    have same : s.counters e.source.num = (List.range 8).filter (· == k) := by
      refine List.filter_congr fun j mem => ?_
      have known := free j (List.mem_range.mp mem)
      rw [Bool.eq_iff_iff]
      simpa [Channel.counts, and_assoc] using known
    have single : ∀ i < 8, (List.range 8).filter (· == i) = [i] := by decide
    rw [same, single k low]
  rw [State.takeEvent, one]
  rfl

/-! ### Start-events and stop-events (R170 to R173) -/

/-- A start-event by mode and state. -/
theorem Channel.startEvent_eq (c : Channel) : c.startEvent = match c.mode, c.state with
    | .delay, .armed => { c with state := .counting, counter := c.reload, elapsed := 0, due := false }
    | .capture, .armed => { c with state := .counting, counter := 0, elapsed := 0, due := false }
    | .capture, .counting => { c with counter := 0, elapsed := 0, due := false }
    | _, _ => c := by
  obtain ⟨mode, _, _, _, _, _, _, state, _, _, _, _, _, _⟩ := c
  cases mode <;> cases state <;> rfl

/-- A stop-event of a COUNTING DELAY or WINDOW ends it without expiry. -/
theorem State.stopEvent_countdown {s : State} {k : Nat} (mode : (s.channel k).mode = .delay ∨ (s.channel k).mode = .window)
    (counting : (s.channel k).state = .counting) :
    s.stopEvent k = s.setChannel k { s.channel k with
      state := .armed, counter := 0, elapsed := 0, due := false,
      drive := (s.channel k).drive && (s.channel k).mode == .delay } := by
  rcases mode with mode | mode
  · have ended : s.stopEvent k = s.setChannel k (s.channel k).rearm := by
      unfold State.stopEvent
      simp only [mode, counting]
    have drive : ((s.channel k).drive && (s.channel k).mode == .delay) = (s.channel k).drive := by simp [mode]
    rw [ended, drive]
    rfl
  · have ended : s.stopEvent k = s.setChannel k { (s.channel k).rearm with drive := false } := by
      unfold State.stopEvent
      simp only [mode, counting]
    have drive : ((s.channel k).drive && (s.channel k).mode == .delay) = false := by simp [mode]
    rw [ended, drive]
    rfl

/-- An expiry of a channel that leads no WINDOW is its TIMER event alone. -/
theorem State.handExpiry_unled {s : State} {k : Nat} (mode : ¬ ((s.channel k).mode = .interval ∨ (s.channel k).mode = .delay)) :
    s.handExpiry k = s.raise (.timer k) k := by
  unfold State.handExpiry
  exact congrArg (State.raise · (.timer k) k) (if_neg mode)

/-- A stop-event captures a COUNTING CAPTURE: stored, fed and reported. -/
theorem State.stopEvent_capture {s : State} {k : Nat} (low : k < 8) (mode : (s.channel k).mode = .capture)
    (counting : (s.channel k).state = .counting) :
    s.stopEvent k = ((s.setChannel k { s.channel k with
      state := .armed, counter := 0, elapsed := 0, due := false, captured := some (s.channel k).counter }).feedCapture
        (s.channel k) (s.channel k).counter).raise (.timer k) k := by
  have ended : s.stopEvent k = ((s.setChannel k { (s.channel k).rearm with
      captured := some (s.channel k).counter }).feedCapture (s.channel k) (s.channel k).counter).handExpiry k := by
    unfold State.stopEvent
    simp only [mode, counting]
  have timers := (State.feedCapture_frame (s.setChannel k { (s.channel k).rearm with
    captured := some (s.channel k).counter }) (s.channel k) (s.channel k).counter).2.2.2.2.2.2.2.2.1
  rw [ended, State.handExpiry_unled]
  · rfl
  · have own := (congrArg (nth · k Channel.cold) timers).trans (State.channel_setChannel_same _ _ _ low)
    rw [State.channel, own]
    simp [Channel.rearm, mode]

/-- A stop-event does nothing in every other mode or state. -/
theorem State.stopEvent_idle {s : State} {k : Nat}
    (idle : (s.channel k).state ≠ .counting ∨ (s.channel k).mode = .interval ∨ (s.channel k).mode = .off) :
    s.stopEvent k = s := by
  unfold State.stopEvent
  dsimp only
  split <;> simp_all

/-- A stop-event touches no other channel. -/
theorem State.stopEvent_other (s : State) {k j : Nat} (low : k < 8) (other : j ≠ k) :
    (s.stopEvent k).channel j = s.channel j := by
  by_cases counting : (s.channel k).state = .counting
  · cases mode : (s.channel k).mode with
    | off => rw [State.stopEvent_idle (.inr (.inr mode))]
    | interval => rw [State.stopEvent_idle (.inr (.inl mode))]
    | delay =>
      rw [State.stopEvent_countdown (.inl mode) counting]
      exact State.channel_setChannel_ne _ _ _ _ other.symm
    | window =>
      rw [State.stopEvent_countdown (.inr mode) counting]
      exact State.channel_setChannel_ne _ _ _ _ other.symm
    | capture =>
      rw [State.stopEvent_capture low mode counting]
      have timers := (State.feedCapture_frame (s.setChannel k { s.channel k with
        state := .armed, counter := 0, elapsed := 0, due := false, captured := some (s.channel k).counter })
        (s.channel k) (s.channel k).counter).2.2.2.2.2.2.2.2.1
      exact (congrArg (nth · j Channel.cold) timers).trans (State.channel_setChannel_ne _ _ _ _ other.symm)
  · rw [State.stopEvent_idle (.inl counting)]

/-! ### The estimates fed by a capture (R141, R178) -/

/-- A capture that is not fed leaves the estimates. -/
theorem State.feedCapture_unfed {s : State} {c : Channel} {n : Nat} (unfed : n = 65535 ∨ c.target = .none) :
    (s.feedCapture c n).calls.estimates = s.calls.estimates := by
  unfold State.feedCapture
  split
  · rfl
  · next fed =>
    have target := unfed.resolve_left fun top => fed (.inl top)
    rw [target]
    rfl

/-- A capture fed moves the estimates by its sample. -/
theorem State.feedCapture_fed {s : State} {c : Channel} {n : Nat} (top : n ≠ 65535) (clock : c.clock ≠ .event) :
    (s.feedCapture c n).calls.estimates = s.calls.estimates.feed c.target (sampleOf c.clock n) := by
  unfold State.feedCapture
  rw [if_neg fun either => either.elim top clock]

/-! ### A counted event (R166, R170 to R173) -/

/-- A CAPTURE counts up. -/
theorem State.eventStep_capture {s : State} {k : Nat} (counting : (s.channel k).state = .counting)
    (mode : (s.channel k).mode = .capture) :
    s.eventStep k = s.setChannel k { s.channel k with counter := min 65535 ((s.channel k).counter + 1) } := by
  simp only [State.eventStep, counting, mode, ne_eq, not_true_eq_false, if_false, Config.countTop]

/-- A countdown steps, or expires at its last step. -/
theorem State.eventStep_countdown {s : State} {k : Nat} (counting : (s.channel k).state = .counting)
    (mode : (s.channel k).mode = .interval ∨ (s.channel k).mode = .delay ∨ (s.channel k).mode = .window) :
    s.eventStep k = if (s.channel k).counter ≤ 1 then s.expire k
      else s.setChannel k { s.channel k with counter := (s.channel k).counter - 1 } := by
  rcases mode with mode | mode | mode <;>
    simp only [State.eventStep, counting, mode, ne_eq, not_true_eq_false, if_false]

/-- A countdown's expiry: its TIMER event, the channel by its mode, and the ARMED WINDOW channels it opens. -/
theorem State.expire_result (s : State) {k : Nat} (low : k < 8)
    (mode : (s.channel k).mode = .interval ∨ (s.channel k).mode = .delay ∨ (s.channel k).mode = .window) :
    (s.expire k).events.waiting = s.events.waiting ++ [⟨.timer k, k⟩] ∧
      ((s.channel k).mode = .interval → ((s.expire k).channel k).counter = (s.channel k).reload ∧
        ((s.expire k).channel k).state = .counting ∧ ((s.expire k).channel k).drive = !(s.channel k).drive) ∧
      ((s.channel k).mode ≠ .interval → ((s.expire k).channel k).counter = 0 ∧ ((s.expire k).channel k).state = .armed ∧
        ((s.expire k).channel k).drive = decide ((s.channel k).mode = .delay)) ∧
      ((s.channel k).mode ≠ .window → ∀ j, j < 8 → (s.channel j).mode = .window → (s.channel j).master = some k →
        (s.channel j).state = .armed → (s.expire k).channel j = { s.channel j with
          state := .counting, counter := (s.channel j).reload, elapsed := 0, due := false, drive := true }) := by
  have opened (j : Nat) (window : (s.channel j).mode = .window) (master : (s.channel j).master = some k)
      (armed : (s.channel j).state = .armed) : (s.channel j).led k = { s.channel j with
        state := .counting, counter := (s.channel j).reload, elapsed := 0, due := false, drive := true } := by
    rw [Channel.led_window window master, armed]
  have other {j : Nat} (window : (s.channel j).mode = .window) (ne : (s.channel k).mode ≠ .window) : j ≠ k := by
    rintro rfl
    exact ne window
  rcases mode with mode | mode | mode
  · obtain ⟨t, handed, own, events, -, others⟩ := State.expiry_hands (s := s)
      (d := { (s.channel k).begin (s.channel k).reload with drive := !(s.channel k).drive }) low
      (Channel.led_of_not (.inl (by simp [Channel.begin, mode])))
    have expired : s.expire k = t := by simp only [State.expire, mode]; exact handed
    rw [expired, own]
    refine ⟨events, fun _ => ⟨rfl, rfl, rfl⟩, fun ne => absurd mode ne, fun ne j inside window master armed => ?_⟩
    rw [others j (other window ne), if_pos ⟨inside, .inl mode⟩]
    exact opened j window master armed
  · obtain ⟨t, handed, own, events, -, others⟩ := State.expiry_hands (s := s)
      (d := { (s.channel k).rearm with drive := true, pulseEnd := some (Deadline.at (s.now.plus 1)) }) low
      (Channel.led_of_not (.inl (by simp [Channel.rearm, mode])))
    have expired : s.expire k = t := by simp only [State.expire, mode]; exact handed
    rw [expired, own]
    refine ⟨events, fun interval => absurd (mode.symm.trans interval) nofun,
      fun _ => ⟨rfl, rfl, (decide_eq_true mode).symm⟩, fun ne j inside window master armed => ?_⟩
    rw [others j (other window ne), if_pos ⟨inside, .inr mode⟩]
    exact opened j window master armed
  · have own := State.channel_setChannel_same s k { (s.channel k).rearm with drive := false } low
    have expired : s.expire k = (s.setChannel k { (s.channel k).rearm with drive := false }).raise (.timer k) k := by
      simp only [State.expire, mode]
      rw [State.handExpiry_unled]
      rw [own]
      simp [Channel.rearm, mode]
    rw [expired, show ((s.setChannel k _).raise (.timer k) k).channel k = _ from own]
    refine ⟨rfl, fun interval => absurd (mode.symm.trans interval) nofun,
      fun _ => ⟨rfl, rfl, (decide_eq_false (by rw [mode]; nofun)).symm⟩, fun ne => absurd mode ne⟩

/-! ### The event routed (R175, R184, R191) -/

/-- What the flag of an event leaves: the channels and the quote unit as they were, the other events waiting. -/
theorem State.flagged (s : State) (rest : List Event) (k : Nat) : ∃ v, { s with events.waiting := rest }.setFlag k = v ∧
    v.timers = s.timers ∧ v.calls = s.calls ∧ v.events.waiting = rest ∧ v.events.routes = s.events.routes := by
  obtain ⟨-, -, -, -, -, -, -, -, calls, timers, -, -, -, -, routes, -, front, -⟩ :=
    State.setFlag_frame { s with events.waiting := rest } k
  exact ⟨_, rfl, timers, calls, front, routes⟩

/-- An event that one route takes and no channel counts: the route acts in the flagged state. -/
theorem State.eventTaken_routed {s v : State} {e : Event} {rest : List Event} {r : Route} (on : s.power.main = true)
    (waiting : s.events.waiting = e :: rest) (routes : s.routesOf e = [r])
    (free : ∀ j < 8, ¬ (s.channel j).counts e.source.num)
    (flagged : { s with events.waiting := rest }.setFlag e.source.num = v) :
    exec .eventTaken s = .next (v.actRoute e r) := by
  refine (State.eventTaken_eq on waiting).trans (next_congr ?_)
  rw [State.takeEvent_uncounted (s := { s with events.waiting := rest }) free, flagged]
  exact State.actRoutes_one (s := s) routes

/-- An event that one channel counts: it steps in the flagged state, and the routes act. -/
theorem State.eventTaken_counted {s v : State} {e : Event} {rest : List Event} {k : Nat} (on : s.power.main = true)
    (waiting : s.events.waiting = e :: rest) (low : k < 8)
    (free : ∀ j < 8, (s.channel j).counts e.source.num ↔ j = k)
    (flagged : { s with events.waiting := rest }.setFlag e.source.num = v) :
    exec .eventTaken s = .next ((v.eventStep k).actRoutes e s.events.routes.toList) := by
  refine (State.eventTaken_eq on waiting).trans (next_congr ?_)
  rw [State.takeEvent_counted (s := { s with events.waiting := rest }) low free, flagged]

/-- A route that starts a channel hands it a start-event. -/
theorem State.actRoute_start {s : State} {e : Event} {r : Route} {k : Nat} (action : r.action = .timerStart k)
    (plain : e.source.isTimer = false) : s.actRoute e r = s.setChannel k (s.channel k).startEvent := by
  simp only [State.actRoute, action, plain, Bool.false_eq_true, if_false]

/-- A route that stops a channel hands it a stop-event. -/
theorem State.actRoute_stop {s : State} {e : Event} {r : Route} {k : Nat} (action : r.action = .timerStop k)
    (plain : e.source.isTimer = false) : s.actRoute e r = s.stopEvent k := by
  simp only [State.actRoute, action, plain, Bool.false_eq_true, if_false]

/-- A route on a TIMER source hands no start-event and no stop-event. -/
theorem State.actRoute_timer {s : State} {e : Event} {r : Route} {k : Nat}
    (action : r.action = .timerStart k ∨ r.action = .timerStop k) (timer : e.source.isTimer = true) :
    s.actRoute e r = s := by
  rcases action with action | action <;> simp only [State.actRoute, action, timer, if_true]

/-- A stop-event stores a capture, feeds it to its estimate and reports it. -/
theorem State.stopEvent_captures {v : State} {k : Nat} (low : k < 8) (mode : (v.channel k).mode = .capture)
    (counting : (v.channel k).state = .counting) :
    (v.stopEvent k).channel k = { v.channel k with
        state := .armed, counter := 0, elapsed := 0, due := false, captured := some (v.channel k).counter } ∧
      (v.stopEvent k).events.waiting = v.events.waiting ++ [⟨.timer k, k⟩] ∧
      (v.stopEvent k).calls.schedule = v.calls.schedule ∧ (v.stopEvent k).calls.board = v.calls.board ∧
      (v.stopEvent k).calls.estimates = (v.feedCapture (v.channel k) (v.channel k).counter).calls.estimates := by
  rw [State.stopEvent_capture low mode counting]
  generalize written : v.setChannel k _ = u
  have calls : u.calls = v.calls := by rw [← written]; rfl
  obtain ⟨-, -, -, -, -, -, -, -, timers, events, -, -, -, schedule, board⟩ :=
    State.feedCapture_frame u (v.channel k) (v.channel k).counter
  refine ⟨?_, ?_, ?_, ?_, ?_⟩
  · refine (congrArg (nth · k Channel.cold) timers).trans ?_
    rw [← written]
    exact State.channel_setChannel_same _ _ _ low
  · refine congrArg (· ++ [⟨.timer k, k⟩]) ((congrArg EventUnit.waiting events).trans ?_)
    rw [← written]
    rfl
  · exact schedule.trans (by rw [calls])
  · exact board.trans (by rw [calls])
  · refine (?_ : (u.feedCapture _ _).calls.estimates = _)
    unfold State.feedCapture
    split
    · rw [calls]
    · exact congrArg (fun c : Calls => c.estimates.feed _ _) calls

/-- Settles O59: the one route or the one counting channel of an event, and the lines read off the channels and flags. -/
theorem routedEventsDriveTheChannels : Obligations.RoutedEventsDriveTheChannels := by
  refine ⟨fun s e rest r k on waiting low routes free => ?_, ?_, ?_⟩
  · have uncounted (j : Nat) (inside : j < 8) : ¬ (s.channel j).counts e.source.num :=
      fun ⟨counting, clock, source⟩ => free j inside counting clock source
    obtain ⟨v, flagged, timers, calls, front, -⟩ := s.flagged rest e.source.num
    have taken := State.eventTaken_routed on waiting routes uncounted flagged
    have channel (j : Nat) : v.channel j = s.channel j := congrArg (nth · j Channel.cold) timers
    clear flagged
    refine ⟨fun action plain => ?_, fun action plain => ?_, fun action timer => ?_⟩
    · rw [State.actRoute_start action plain] at taken
      refine ⟨_, taken, front, calls, fun j other => ?_, ?_⟩
      · exact (State.channel_setChannel_ne _ _ _ _ other.symm).trans (channel j)
      · refine (State.channel_setChannel_same _ _ _ low).trans ?_
        rw [channel]
        exact Channel.startEvent_eq _
    · rw [State.actRoute_stop action plain] at taken
      refine ⟨_, taken, fun j other => (v.stopEvent_other low other).trans (channel j), ?_, ?_, ?_⟩
      all_goals rw [← channel k]
      · intro mode counting
        rw [State.stopEvent_countdown mode counting]
        exact ⟨State.channel_setChannel_same _ _ _ low, front, calls⟩
      · intro mode counting
        obtain ⟨own, events, schedule, board, estimates⟩ := State.stopEvent_captures low mode counting
        refine ⟨own, events.trans (by rw [front]), schedule.trans (by rw [calls]), board.trans (by rw [calls]),
          fun unfed => ?_, fun top clock => ?_⟩
        · rw [estimates, State.feedCapture_unfed unfed, calls]
        · rw [State.feedCapture_fed top clock, calls] at estimates
          rw [estimates]
          generalize (v.channel k).clock = c
          refine ⟨fun target => ?_, fun target => ?_, fun l target => ?_⟩
          · rw [target]
            cases c <;> rfl
          · rw [target]
            cases c <;> rfl
          · rcases target with ⟨target, rfl⟩ | ⟨target, rfl⟩ | ⟨target, rfl⟩ | ⟨target, rfl⟩ <;>
              rw [target] <;> cases c <;> rfl
      · intro idle
        rw [State.stopEvent_idle idle]
        exact ⟨rfl, front, calls⟩
    · refine ⟨v, ?_, timers, calls, front⟩
      exact taken.trans (next_congr (State.actRoute_timer action timer))
  · intro s e rest k on waiting low counting clock source free
    have counted (j : Nat) (inside : j < 8) : (s.channel j).counts e.source.num ↔ j = k := by
      constructor
      · rintro ⟨counting, clock, source⟩
        by_contra other
        exact free j inside other counting clock source
      · rintro rfl
        exact ⟨counting, clock, source⟩
    obtain ⟨v, flagged, timers, calls, front, -⟩ := s.flagged rest e.source.num
    have taken := State.eventTaken_counted on waiting low counted flagged
    have channel (j : Nat) : v.channel j = s.channel j := congrArg (nth · j Channel.cold) timers
    clear flagged
    simp only [← channel] at counting ⊢
    refine ⟨fun routes => ?_, fun r routes action plain mode => ?_⟩
    · rw [State.actRoutes_none routes] at taken
      refine ⟨_, taken, fun mode => ?_, fun mode => ?_⟩
      · rw [State.eventStep_capture counting mode]
        exact ⟨State.channel_setChannel_same _ _ _ low, front⟩
      · rw [State.eventStep_countdown counting mode]
        refine ⟨fun more => ?_, fun last => ?_⟩
        · rw [if_neg (by omega)]
          exact ⟨State.channel_setChannel_same _ _ _ low, front⟩
        · rw [if_pos last]
          obtain ⟨events, own, armed, windows⟩ := v.expire_result low mode
          exact ⟨events.trans (by rw [front]), own, armed, windows⟩
    · rw [State.actRoutes_one routes, State.actRoute_stop action plain, State.eventStep_capture counting mode] at taken
      refine ⟨_, taken, ?_⟩
      obtain ⟨own, -⟩ := State.stopEvent_captures (v := v.setChannel k { v.channel k with
        counter := min 65535 ((v.channel k).counter + 1) }) low
        (by rw [State.channel_setChannel_same _ _ _ low]; exact mode)
        (by rw [State.channel_setChannel_same _ _ _ low]; exact counting)
      rw [own, State.channel_setChannel_same _ _ _ low]
      exact ⟨rfl, rfl⟩
  · intro s line
    refine ⟨?_, ?_, fun t kept => ?_⟩
    · rw [State.outLevel, Bool.and_eq_true, any_toList_iff Channel.cold]
      simp [State.channel, Config.channelCount]
    · simp [State.alert, Config.sourceCount]
    · constructor
      · rw [State.outLevel, Bool.and_eq_false_iff, ← Bool.not_eq_true (t.timers.toList.any _), any_toList_iff Channel.cold]
        refine .inr fun ⟨j, inside, driven⟩ => ?_
        rw [show nth t.timers j Channel.cold = _ from kept.channels j inside] at driven
        simp [Channel.stop] at driven
      · rw [State.alert, List.any_eq_false]
        intro j mem
        simp [kept.flags j (List.mem_range.mp mem)]

end Sys2Proof.Machine
end

section
/-! PROOF of O36: a ticket closes. -/

namespace Sys2Proof.Machine

open Sys2Proof

/-! ### What closing a ticket does (R42, R57, R66) -/

theorem State.KeepsRest.trans {s t u : State} (h : s.KeepsRest t) (g : t.KeepsRest u) : s.KeepsRest u where
  pending := g.pending.trans h.pending
  params := g.params.trans h.params
  power := g.power.trans h.power
  timers := g.timers.trans h.timers
  estimates := g.estimates.trans h.estimates
  issue := g.issue.trans h.issue
  clock := g.clock.trans h.clock
  flags := g.flags.trans h.flags
  masks := g.masks.trans h.masks
  routes := g.routes.trans h.routes
  latches := g.latches.trans h.latches
  panels := g.panels.trans h.panels
  scan := g.scan.trans h.scan
  cabinet := g.cabinet.trans h.cabinet
  passTable := g.passTable.trans h.passTable
  strap := g.strap.trans h.strap
  curb := g.curb.trans h.curb
  deck := g.deck.trans h.deck

/-- The state `t` in which a ticket `c` of `s` has been closed. -/
structure State.ClosedFrom (s t : State) (c : Ticket) : Prop where
  rest : s.KeepsRest t
  stalls : t.stalls = s.stalls
  unplaced : t.unplaced = s.unplaced
  dispatch : t.dispatch = s.dispatch
  events : t.events = s.events
  schedule : t.calls.schedule = s.calls.schedule
  lifts : t.arbiter.lifts = s.arbiter.lifts
  board : t.calls.board = s.calls.board.filter (·.ticket != c.number)
  gone : t.ticket c.number = none
  lanes : ∀ n, t.lane n = if 1 ≤ n ∧ n ≤ 6 ∧ (s.lane n).ticket = some c.number then { s.lane n with ticket := none } else s.lane n
  hook : ∀ h < 576, c.hook = some h → (t.hook h).ticket ≠ some c.number
  hooks : ∀ h, c.hook ≠ some h → t.hook h = s.hook h

/-- A change of one ticket's record leaves the others. -/
theorem State.ticket_edit_ne (s : State) {n m : Nat} (other : m ≠ n) (f : Ticket → Ticket)
    (keeps : ∀ t, (f t).number = t.number := by exact fun _ => rfl) : (s.modifyTicket n f).ticket m = s.ticket m :=
  s.ticket_modifyTicket_ne n m f other keeps

theorem State.setLane_self (s : State) (n : Nat) : s.setLane n (s.lane n) = s := by
  rw [State.setLane, State.lane, setNth1_self]

/-- Lanes lose a closing ticket, each by itself, and nothing else changes. -/
theorem State.vacate_result (s : State) (n : Nat) {ls : List Nat} (once : ls.Nodup)
    (inside : ∀ l ∈ ls, 1 ≤ l ∧ l ≤ Config.laneCount) :
    ∃ v, forEach ls (fun lane s =>
        if (s.lane lane).ticket = some n then s.setLane lane { s.lane lane with ticket := none } else s) s =
          { s with arbiter.lanes := v } ∧
      ∀ l, nth1 v l Lane.cold =
        if l ∈ ls ∧ (s.lane l).ticket = some n then { s.lane l with ticket := none } else s.lane l := by
  induction ls generalizing s with
  | nil => exact ⟨s.arbiter.lanes, rfl, fun l => by simp; rfl⟩
  | cons i is ih =>
    obtain ⟨fresh, once⟩ := List.nodup_cons.mp once
    obtain ⟨low, high⟩ := inside i List.mem_cons_self
    have one : (if (s.lane i).ticket = some n then s.setLane i { s.lane i with ticket := none } else s) =
        s.setLane i (if (s.lane i).ticket = some n then { s.lane i with ticket := none } else s.lane i) := by
      split
      · rfl
      · exact (s.setLane_self i).symm
    obtain ⟨v, rest, lanes⟩ := ih (s.setLane i (if (s.lane i).ticket = some n then { s.lane i with ticket := none }
      else s.lane i)) once fun l mem => inside l (List.mem_cons_of_mem _ mem)
    refine ⟨v, ?_, fun l => (lanes l).trans ?_⟩
    · rw [forEach_cons, one]
      exact rest
    · by_cases here : l = i
      · subst here
        rw [State.lane_setLane_same _ _ _ low high, if_neg fun both => fresh both.1]
        simp
      · rw [State.lane_setLane_ne _ _ _ _ (Ne.symm here)]
        simp [here]

/-- A hook handed to binding is bound to an open ticket without a hook, or not at all. -/
theorem State.handHook_bound (s : State) (h : Nat) :
    s.handHook h = s ∨ ∃ x ∈ s.tickets, x.hook = none ∧ s.handHook h = s.bindHook h x.number := by
  unfold State.handHook
  split
  · split
    · exact .inl rfl
    · next x chosen =>
      have mem := List.mem_filter.mp (firstBy_mem chosen)
      exact .inr ⟨x, mem.1, by simpa using mem.2, rfl⟩
  · exact .inl rfl

/-- The record of a ticket that is dropped, and its place on the curb board, are gone. -/
theorem State.dropTicket_result (s : State) (n : Nat) :
    s.KeepsRest (s.dropTicket n) ∧ (s.dropTicket n).tickets = s.tickets.filter (·.number != n) ∧
      (s.dropTicket n).calls.board = s.calls.board.filter (·.ticket != n) ∧
      (s.dropTicket n).calls.schedule = s.calls.schedule ∧ (s.dropTicket n).stalls = s.stalls ∧
      (s.dropTicket n).unplaced = s.unplaced ∧ (s.dropTicket n).dispatch = s.dispatch ∧
      (s.dropTicket n).events = s.events ∧ (s.dropTicket n).arbiter = s.arbiter ∧ (s.dropTicket n).keys = s.keys := by
  unfold State.dropTicket
  generalize made : ({ s.leaveBoard n with tickets := s.tickets.filter (·.number != n) } : State) = u
  have kept : s.KeepsRest u := by rw [← made]; constructor <;> rfl
  obtain ⟨-, stalls, unplaced, tickets, -, keys, dispatch, arbiter, calls, -, events, -⟩ := u.boardSince_frame s
  rw [tickets, calls, stalls, unplaced, keys, dispatch, arbiter, events, ← made]
  exact ⟨made ▸ (keepsRest_workKeeps s).boardSince s kept, rfl, rfl, rfl, rfl, rfl, rfl, rfl, rfl, rfl⟩

/-- A ticket that has left its hook and its group is freed: everything of `ClosedFrom` but its hook. -/
theorem State.freed_closes (s : State) (c : Ticket) (K : Vector Hook Config.hookCount) (T : List Ticket) :
    ∃ t, ({ s with keys.hooks := K, tickets := T }.vacateLanes c.number).dropTicket c.number = t ∧
      t.keys.hooks = K ∧ t.tickets = T.filter (·.number != c.number) ∧
      ((∀ h < 576, c.hook = some h → (t.hook h).ticket ≠ some c.number) → (∀ h, c.hook ≠ some h → t.hook h = s.hook h) →
        s.ClosedFrom t c) := by
  obtain ⟨v, vacated, lanes⟩ := { s with keys.hooks := K, tickets := T }.vacate_result c.number (ls := laneNumbers)
    (by decide) (fun l mem => mem_laneNumbers.mp mem)
  obtain ⟨kept, tickets, board, schedule, stalls, unplaced, dispatch, events, arbiter, keys⟩ :=
    State.dropTicket_result { s with keys.hooks := K, tickets := T, arbiter.lanes := v } c.number
  refine ⟨_, congrArg (State.dropTicket · c.number) vacated, by rw [keys], tickets, fun own others => ?_⟩
  have rest : s.KeepsRest { s with keys.hooks := K, tickets := T, arbiter.lanes := v } := by constructor <;> rfl
  generalize State.dropTicket { s with keys.hooks := K, tickets := T, arbiter.lanes := v } c.number = t at *
  refine ⟨?_, stalls, unplaced, dispatch, events, schedule, ?_, board, ?_, ?_, own, others⟩
  · exact rest.trans kept
  · rw [arbiter]
  · rw [State.ticket, tickets]
    simp
  · intro n
    refine ((congrArg (fun a : Arbiter => nth1 a.lanes n Lane.cold) arbiter).trans (lanes n)).trans ?_
    simp only [mem_laneNumbers, and_assoc]
    rfl

/-- A hook that an open ticket's binding takes names that ticket; the other hooks stay. -/
theorem State.bindHook_hook (s : State) {h n : Nat} (low : h < 576) :
    ((s.bindHook h n).hook h).ticket = some n ∧ ∀ h', h' ≠ h → (s.bindHook h n).hook h' = s.hook h' :=
  ⟨congrArg Hook.ticket (State.hook_setHook_same _ _ _ low), fun _ other => State.hook_setHook_ne _ _ _ _ other.symm⟩

/-- Another ticket's binding keeps a closed ticket closed. -/
theorem State.ClosedFrom.bindHook {s t : State} {c : Ticket} (closed : s.ClosedFrom t c) {h n : Nat}
    (own : c.hook = some h) (other : n ≠ c.number) : s.ClosedFrom (t.bindHook h n) c where
  rest := (keepsRest_workKeeps s).bindHook h n closed.rest
  stalls := closed.stalls
  unplaced := closed.unplaced
  dispatch := closed.dispatch
  events := closed.events
  schedule := closed.schedule
  lifts := closed.lifts
  board := closed.board
  gone := by
    exact (State.ticket_edit_ne (t.setHook h _) other.symm _).trans closed.gone
  lanes := closed.lanes
  hook h' low own' := by
    cases own.symm.trans own'
    rw [(t.bindHook_hook low).1]
    exact fun same => other (Option.some.inj same)
  hooks h' foreign := by
    have ne : h' ≠ h := by rintro rfl; exact foreign own
    rw [← closed.hooks h' foreign]
    exact State.hook_setHook_ne _ _ _ _ ne.symm

/-- A ticket leaves its group by a change of the ticket table. -/
theorem State.leaveGroup_tickets (s : State) (c : Ticket) : ∃ T, s.leaveGroup c = { s with tickets := T } := by
  unfold State.leaveGroup
  split
  · exact ⟨s.tickets, rfl⟩
  · exact ⟨_, rfl⟩

/-- A ticket closes. -/
theorem State.closeTicket_closes (s : State) (c : Ticket) : s.ClosedFrom (s.closeTicket c) c := by
  cases hook : c.hook with
  | none =>
    obtain ⟨T, left⟩ := s.leaveGroup_tickets c
    obtain ⟨t, freed, hooks, -, closes⟩ := s.freed_closes c s.keys.hooks T
    have closed : s.closeTicket c = t := by
      rw [← freed, State.closeTicket, hook]
      exact congrArg (fun u : State => (u.vacateLanes c.number).dropTicket c.number) left
    rw [closed]
    exact closes (fun h _ own => absurd (hook.symm.trans own) nofun)
      fun h _ => congrArg (nth · h Hook.cold) hooks
  | some h =>
    obtain ⟨T, left⟩ := (s.unbindHook h).leaveGroup_tickets c
    obtain ⟨t, freed, hooks, tickets, closes⟩ := s.freed_closes c (s.unbindHook h).keys.hooks T
    have closed : s.closeTicket c = t.handHook h := by
      rw [← freed, State.closeTicket, hook]
      exact congrArg (fun u : State => ((u.vacateLanes c.number).dropTicket c.number).handHook h) left
    have base : s.ClosedFrom t c := by
      refine closes (fun h' low own => ?_) fun h' foreign => ?_
      · cases hook.symm.trans own
        rw [show t.hook h = _ from (congrArg (nth · h Hook.cold) hooks).trans (State.hook_setHook_same s h _ low)]
        nofun
      · have ne : h' ≠ h := by rintro rfl; exact foreign hook
        exact (congrArg (nth · h' Hook.cold) hooks).trans (State.hook_setHook_ne _ _ _ _ ne.symm)
    rw [closed]
    rcases t.handHook_bound h with same | ⟨x, mem, -, bound⟩
    · rwa [same]
    · rw [bound]
      rw [tickets] at mem
      exact base.bindHook hook (by simpa using (List.mem_filter.mp mem).2)

/-! ### Handing over (R56, R99, R100) -/

/-- A record outside a bank numbered from 1 is not written. -/
theorem setNth1_outside {α : Type} {n : Nat} (v : Vector α n) (i : Nat) (x : α) (out : ¬ (1 ≤ i ∧ i ≤ n)) :
    setNth1 v i x = v := by
  cases i with
  | zero => rfl
  | succ i => exact setNth_outside _ _ _ (by omega)

/-- A field that a written runner record keeps stays in every runner record. -/
theorem State.runner_setRunner_field {α : Type} (field : Runner → α) (s : State) (b' b : Nat) {r : Runner}
    (same : field r = field (s.runner b')) : field ((s.setRunner b' r).runner b) = field (s.runner b) := by
  by_cases here : b' = b
  · subst here
    by_cases inside : 1 ≤ b' ∧ b' ≤ Config.runnerCount
    · rw [s.runner_setRunner_same b' r inside.1 inside.2, same]
    · rw [State.runner, State.runner, State.setRunner, setNth1_outside _ _ _ inside]
  · rw [s.runner_setRunner_ne b' b r here]

/-- A pairing writes the state, task, deadline and owed frame of a runner alone. -/
theorem State.pairTask_field {α : Type} (field : Runner → α)
    (same : ∀ r x y z w, field { r with state := x, task := y, offerBy := z, owed := w } = field r) (s : State) (n b : Nat) :
    field ((s.pairTask n).runner b) = field (s.runner b) := by
  unfold State.pairTask
  split
  · split
    · rfl
    · dsimp only
      split <;> split
      · rfl
      · rfl
      · exact State.runner_setRunner_field field _ _ b (same _ _ _ _ _)
      · exact State.runner_setRunner_field field _ _ b (same _ _ _ _ _)
  · rfl

theorem State.pair_field {α : Type} (field : Runner → α)
    (same : ∀ r x y z w, field { r with state := x, task := y, offerBy := z, owed := w } = field r) (s : State) (b : Nat) :
    field (s.pair.runner b) = field (s.runner b) :=
  forEach_keeps (fun t => field (t.runner b) = field (s.runner b)) _ _ s
    (fun n t kept => (t.pairTask_field field same n b).trans kept) rfl

/-- A task ends: it leaves the queue, TASK_END is raised, and its runner is SILENT, or READY with the slot-free mark. -/
theorem State.endTask_ends (s : State) {b : Nat} (low : 1 ≤ b) (high : b ≤ Config.runnerCount) (n : Nat) (free : Bool) :
    (s.endTask b n free).task n = none ∧
      (s.endTask b n free).events.waiting = s.events.waiting ++ [⟨.taskEnd, b⟩] ∧
      ((s.endTask b n free).runner b).level = (s.runner b).level ∧
      (free = false → (s.endTask b n free).runner b = { s.runner b with state := .silent, task := none }) ∧
      (free = true → s.NoneQueued → (s.endTask b n free).runner b = (s.runner b).enterReady s.now) := by
  have gone (u : State) (tasks : u.dispatch.tasks = s.dispatch.tasks.filter (·.ticket != n)) : u.task n = none := by
    rw [State.task, tasks]
    simp
  cases free with
  | false =>
    have own := (s.dropTask n).runner_setRunner_same b { s.runner b with state := .silent, task := none } low high
    exact ⟨gone _ rfl, rfl, (congrArg Runner.level own :), fun _ => own, nofun⟩
  | true =>
    have own := (s.dropTask n).runner_setRunner_same b ((s.runner b).enterReady s.now) low high
    have ended : s.endTask b n true =
      (((s.dropTask n).setRunner b ((s.runner b).enterReady s.now)).raise .taskEnd b).pair := rfl
    generalize made : ((s.dropTask n).setRunner b ((s.runner b).enterReady s.now)).raise .taskEnd b = u at ended
    have runner : u.runner b = (s.runner b).enterReady s.now := by rw [← made]; exact own
    have tasks : u.dispatch.tasks = s.dispatch.tasks.filter (·.ticket != n) := by rw [← made]; rfl
    rw [ended]
    refine ⟨?_, ?_, ?_, nofun, fun _ none => ?_⟩
    · rw [State.task_none_iff, State.pair_taskTickets, ← State.task_none_iff]
      exact gone u tasks
    · rw [u.pair_frame.2.2.2.2.2.2.2.2.2.1, ← made]
      rfl
    · rw [State.pair_field Runner.level (fun _ _ _ _ _ => rfl), runner]
      rfl
    · rw [State.pair_of_noneQueued, runner]
      rw [State.NoneQueued, tasks]
      simp only [State.NoneQueued, List.all_eq_true] at none ⊢
      exact fun w mem => none w (List.mem_of_mem_filter mem)

/-- Settles O36: the ticket closes, and the task of its holder ends. -/
theorem handoverClosesTheTicket : Obligations.HandoverClosesTheTicket := by
  intro s f b c free carries found state either
  obtain ⟨-, -, low, high⟩ := id carries
  have closed := (s.heard f).closeTicket_closes c
  have work := keepsRest_workKeeps (s.heard f)
  generalize made : (s.heard f).closeTicket c = u at closed
  have runner : u.runner b = s.runner b := (State.runner_congr closed.dispatch b).trans (s.runner_heard f b)
  have levelled : (u.setLevel b 0).runner b = { s.runner b with level := 0 } := by
    rw [← runner]
    exact State.runner_setRunner_same _ _ _ low high
  have ticket : (s.heard f).ticket c.number = some c := by rwa [s.ticket_heard]
  have lanes (t : State) (arbiter : t.arbiter = u.arbiter) (n : Nat) (first : 1 ≤ n) (last : n ≤ 6) :
      (t.lane n).state = (s.lane n).state ∧ (t.lane n).ticket ≠ some c.number := by
    rw [State.lane_congr arbiter, closed.lanes, s.lane_heard]
    split
    · exact ⟨rfl, nofun⟩
    · next other => exact ⟨rfl, fun same => other ⟨first, last, same⟩⟩
  have board (t : State) (calls : t.calls = u.calls) : ∀ e ∈ t.calls.board, e.ticket ≠ c.number := by
    rw [calls, closed.board]
    intro e mem
    simpa using (List.mem_filter.mp mem).2
  rcases either with held | ⟨unheld, noTask, duty⟩
  · have taken : (s.heard f).takeHandover b c.number free = ((u.setLevel b 0).endTask b c.number free, .done) := by
      have holds : (s.heard f).holdsTask b c.number = true := by rwa [State.holdsTask, s.runner_heard]
      rw [State.takeHandover, if_pos holds, State.heldStep, if_pos holds, ticket, ← made]
      exact if_pos state
    obtain ⟨-, stalls, -, tickets, -, keys, arbiter, calls, -⟩ := (u.setLevel b 0).endTask_frame b c.number free
    have rest := work.oweRunner b .handover .done (some c.number)
      (work.endTask b c.number free (work.setRunner b { u.runner b with level := 0 } closed.rest))
    obtain ⟨task, events, level, silent, ready⟩ := (u.setLevel b 0).endTask_ends low high c.number free
    have now : (u.setLevel b 0).now = s.now := closed.rest.clock.trans (s.now_heard f)
    rw [levelled, now] at ready
    rw [levelled] at level silent
    have quiet (none : s.NoneQueued) : (u.setLevel b 0).NoneQueued := by
      show u.dispatch.tasks.all _ = true
      rw [closed.dispatch, s.heard_dispatch]
      exact none
    have waiting := events.trans (congrArg (fun e : EventUnit => e.waiting ++ [⟨.taskEnd, b⟩])
      (closed.events.trans (s.heard_events f)))
    have replied := State.runner_oweRunner (s := (u.setLevel b 0).endTask b c.number free) low high .handover .done
      (some c.number)
    refine ⟨_, carries.frame .handover _ taken, (s.heard_keepsSetup f).trans rest.setup, ?_⟩
    change ((u.setLevel b 0).endTask b c.number free).arbiter = u.arbiter at arbiter
    change ((u.setLevel b 0).endTask b c.number free).calls = u.calls at calls
    change ((u.setLevel b 0).endTask b c.number free).tickets = u.tickets at tickets
    change ((u.setLevel b 0).endTask b c.number free).keys = u.keys at keys
    change ((u.setLevel b 0).endTask b c.number free).stalls = u.stalls at stalls
    generalize (u.setLevel b 0).endTask b c.number free = v at *
    refine ⟨(State.ticket_congr tickets _).trans closed.gone, task, (congrArg Runner.level replied).trans level,
      lanes _ arbiter, fun h own inside => ?_, board _ calls, stalls.trans (closed.stalls.trans (s.heard_stalls f)), ?_, ?_, ?_,
      fun _ => ⟨waiting, fun plain => ?_, fun marked none => ?_⟩, fun unheld => absurd (held.symm.trans unheld) nofun⟩
    · rw [show (v.oweRunner b .handover .done (some c.number)).hook h = u.hook h from State.hook_congr keys h]
      exact closed.hook h inside own
    · exact (congrArg Arbiter.lifts arbiter).trans (closed.lifts.trans (by rw [s.heard_arbiter]))
    · exact (congrArg Calls.schedule calls).trans (closed.schedule.trans (by rw [s.heard_calls]))
    · rw [replied]
      rfl
    · rw [replied, silent plain]
      exact ⟨rfl, rfl⟩
    · rw [replied, ready marked (quiet none)]
      exact ⟨rfl, rfl, rfl⟩
  · have taken : (s.heard f).takeHandover b c.number free = (u.setLevel b 0, .done) := by
      have holds : (s.heard f).holdsTask b c.number = false := by rwa [State.holdsTask, s.runner_heard]
      have onDuty : ((s.heard f).runner b).onDuty = true := by
        rw [s.runner_heard]
        rcases duty with duty | duty | duty <;> simp [Runner.onDuty, duty]
      rw [State.takeHandover, holds, if_neg Bool.false_ne_true, State.handoverFree, ticket, ← made]
      exact if_pos ⟨state, by rwa [s.task_heard], onDuty⟩
    have rest := work.oweRunner b .handover .done (some c.number) (work.setRunner b { u.runner b with level := 0 } closed.rest)
    have replied := State.runner_oweRunner (s := u.setLevel b 0) low high .handover .done (some c.number)
    rw [levelled] at replied
    refine ⟨_, carries.frame .handover _ taken, (s.heard_keepsSetup f).trans rest.setup, closed.gone, ?_,
      (congrArg Runner.level replied :), lanes _ rfl, fun h own inside => closed.hook h inside own, board _ rfl,
      closed.stalls.trans (s.heard_stalls f), closed.lifts.trans (by rw [s.heard_arbiter]),
      closed.schedule.trans (by rw [s.heard_calls]), ?_, fun held => absurd (held.symm.trans unheld) nofun, fun _ => ?_⟩
    · rw [← noTask, ← s.task_heard f]
      exact congrArg (fun d : DispatchUnit => d.tasks.find? (·.ticket == c.number)) closed.dispatch
    · rw [replied]
      rfl
    · rw [replied]
      refine ⟨closed.events.trans (s.heard_events f), ?_, rfl, rfl, rfl⟩
      exact (congrArg DispatchUnit.tasks closed.dispatch).trans (by rw [s.heard_dispatch])

end Sys2Proof.Machine
end

section
/-! PROOF of O53: REBIND_HOOK and RESTAGE. -/

namespace Sys2Proof.Machine

open Sys2Proof

/-! ### REBIND_HOOK (R72) -/

/-- A FOUND hook is bound to a ticket without a hook. -/
theorem State.rebind_fresh {s : State} {h : Nat} {c : Ticket} (custody : (s.hook h).custody = .found) (fresh : c.hook = none) :
    s.rebind h c = ((s.setHook h { s.hook h with custody := .cabinet, ticket := some c.number }).modifyTicket c.number
      fun k => { k with hook := some h }, .done) := by
  simp [State.rebind, custody, fresh]

/-- A hook that is not FOUND, and a ticket whose key is in its own hook, are refused. -/
theorem State.rebind_refused {s : State} {h : Nat} {c : Ticket} (refused : (s.hook h).custody ≠ .found ∨
    ∃ g, c.hook = some g ∧ ((s.hook g).custody = .cabinet ∨ (s.hook g).custody = .released)) :
    s.rebind h c = (s, .state) := by
  rcases refused with custody | ⟨g, own, settled⟩
  · simp [State.rebind, custody]
  · simp [State.rebind, own, settled]

/-- The hook that a ticket's record names is written in every record of its number. -/
theorem State.hook_of_modifyTicket {s : State} {n h : Nat} {f : Ticket → Ticket}
    (names : ∀ t ∈ s.tickets, t.number = n → (f t).hook = some h) :
    ∀ x ∈ (s.modifyTicket n f).tickets, x.hook = none → x.number ≠ n := by
  intro x mem bare own
  obtain ⟨t, old, rfl⟩ := List.mem_map.mp mem
  by_cases same : t.number = n
  · rw [if_pos same, names t old same] at bare
    cases bare
  · rw [if_neg same] at own
    exact same own

/-- A FOUND hook is bound to a ticket whose key is away, and the former hook is handed on. -/
theorem State.rebind_moves {s : State} {h g : Nat} {c : Ticket} (found : s.ticket c.number = some c) (low : h < 576)
    (inside : g < 576) (custody : (s.hook h).custody = .found) (own : c.hook = some g)
    (away : (s.hook g).custody = .expecting ∨ (s.hook g).custody = .out ∨ (s.hook g).custody = .missing) :
    ∃ t k, s.rebind h c = (t, .done) ∧ (t.hook h).custody = .cabinet ∧ (t.hook h).ticket = some c.number ∧
      t.ticket c.number = some k ∧ k.hook = some h ∧ k.keyAlert = (c.keyAlert && (s.hook g).custody != .missing) ∧
      (t.hook g).ticket ≠ some c.number ∧ (t.hook g).runner = none ∧ t.stalls = s.stalls ∧ t.events = s.events := by
  have other : g ≠ h := by rintro rfl; simp [custody] at away
  let bind (t : Ticket) : Ticket := { t with hook := some h }
  let clear (t : Ticket) : Ticket := { t with keyAlert := false }
  let d : Ticket := { bind c with keyAlert := c.keyAlert && (s.hook g).custody != .missing }
  let u := (s.setHook h { s.hook h with custody := .cabinet, ticket := some c.number }).modifyTicket c.number bind
  have former : u.hook g = s.hook g := State.hook_setHook_ne _ _ _ _ other.symm
  have ticket : u.ticket c.number = some (bind c) :=
    State.ticket_edit_same (show (s.setHook h _).ticket c.number = some c from found) bind
  have named : ∀ x ∈ u.tickets, x.hook = none → x.number ≠ c.number :=
    State.hook_of_modifyTicket fun _ _ _ => rfl
  have unsettled : ((s.hook g).custody == .cabinet || (s.hook g).custody == .released) = false := by
    rcases away with away | away | away <;> rw [away] <;> rfl
  obtain ⟨v, cleared, keys, stalls, events, theTicket, names⟩ : ∃ v,
      (if (u.hook g).custody = .missing then u.modifyTicket c.number clear else u) = v ∧ v.keys = u.keys ∧
        v.stalls = s.stalls ∧ v.events = s.events ∧
        v.ticket c.number = some d ∧
        ∀ x ∈ v.tickets, x.hook = none → x.number ≠ c.number := by
    rw [former]
    refine ⟨_, rfl, ?_⟩
    split
    · next missing =>
      refine ⟨rfl, rfl, rfl, (State.ticket_edit_same ticket clear).trans ?_, fun x mem bare own => ?_⟩
      · simp [clear, d, missing]
      · obtain ⟨t, old, rfl⟩ := List.mem_map.mp mem
        by_cases same : t.number = c.number
        · rw [if_pos same] at bare
          exact named t old bare same
        · rw [if_neg same] at own
          exact same own
    · next there => exact ⟨rfl, rfl, rfl, ticket.trans (by simp [bind, d, there]), named⟩
  have taken : s.rebind h c = ((v.setHook g { u.hook g with custody := .vacant, ticket := none, runner := none }).handHook g,
      .done) := by
    rw [← cleared, State.rebind, own]
    simp only [unsettled, custody, ne_eq, not_true_eq_false, Bool.false_eq_true, or_self, if_false]
    rfl
  have atH : v.hook h = { s.hook h with custody := .cabinet, ticket := some c.number } :=
    (State.hook_congr keys h).trans (State.hook_setHook_same _ _ _ low)
  let w := v.setHook g { u.hook g with custody := .vacant, ticket := none, runner := none }
  have here : w.hook h = v.hook h := State.hook_setHook_ne _ _ _ _ other
  have there : w.hook g = { u.hook g with custody := .vacant, ticket := none, runner := none } :=
    State.hook_setHook_same _ _ _ inside
  rcases w.handHook_bound g with same | ⟨x, mem, bare, bound⟩
  · refine ⟨w, d, taken.trans (by rw [same]), ?_, ?_, theTicket, rfl, rfl, ?_, ?_, stalls, events⟩
    · rw [here, atH]
    · rw [here, atH]
    · rw [there]
      nofun
    · rw [there]
  · have foreign : x.number ≠ c.number := names x mem bare
    obtain ⟨takes, others⟩ := w.bindHook_hook (n := x.number) inside
    refine ⟨w.bindHook g x.number, d, taken.trans (by rw [bound]), ?_, ?_, ?_, rfl, rfl, ?_, ?_, stalls, events⟩
    · rw [others h other.symm, here, atH]
    · rw [others h other.symm, here, atH]
    · exact (State.ticket_modifyTicket_ne (w.setHook g _) x.number c.number (fun k => { k with hook := some g }) foreign.symm
        fun _ => rfl).trans theTicket
    · rw [takes]
      exact fun same => foreign (Option.some.inj same)
    · exact (congrArg Hook.runner (State.hook_setHook_same w g _ inside)).trans (by rw [there])

/-! ### RESTAGE (R48, R102) -/

/-- A RESTAGE task made for a PARKED ticket with no task. -/
theorem State.beginRestage_result {s : State} {c : Ticket} {target : Nat} (found : s.ticket c.number = some c)
    (state : c.state = .parked) (inside : target < 640) (free : (s.stall target).state = .free) :
    let t := s.beginRestage c.number target
    (t.stall target).state = .held ∧ (t.stall target).ticket = some c.number ∧
      (∃ d, t.ticket c.number = some d ∧ d.state = .restaging ∧ d.target = some target ∧ d.stall = c.stall) ∧
      (s.task c.number = none → ∃ w, t.task c.number = some w ∧ w.kind = .restage ∧ w.age = s.now) ∧
      (∀ j, j ≠ target → t.stall j = s.stall j) ∧ t.keys = s.keys ∧ t.arbiter = s.arbiter ∧ t.calls = s.calls ∧
      s.ChangesOnlyTicket t c.number := by
  intro t
  let aim (k : Ticket) : Ticket := { k with target := some target }
  let u := (s.hold target c.number).modifyTicket c.number aim
  let v := u.moveTicket c.number .restaging
  have held : s.hold target c.number = s.putStall target { s.stall target with
      state := .held, ticket := some c.number, confirmed := false, recheck := false } := by
    rw [State.hold, if_pos free]
  obtain ⟨-, unplaced, tickets, issue, keys, dispatch, arbiter, calls, -⟩ := s.hold_frame target c.number
  have edited : u.ticket c.number = some (aim c) := State.ticket_edit_same ((State.ticket_congr tickets _).trans found) aim
  have entered : v.ticket c.number = some { aim c with state := .restaging, verify := false } :=
    State.ticket_entered edited (by decide)
  have calls' : v.calls = u.calls := State.moveTicket_calls edited (by simp [aim, state]; rfl) rfl
  obtain ⟨-, stalls', unplaced', issue', keys', dispatch', arbiter', -⟩ := u.moveTicket_frame c.number .restaging
  obtain ⟨-, stalls'', unplaced'', issue'', keys'', arbiter'', calls'', -⟩ := v.makeTask_frame .restage c.number s.now
  have stall (j : Nat) : t.stall j = (s.hold target c.number).stall j := State.stall_congr (stalls''.trans stalls') j
  have own : t.stall target = { s.stall target with
      state := .held, ticket := some c.number, confirmed := false, recheck := false } := by
    rw [stall, held]
    exact State.stall_putStall_same _ _ _ inside
  have ticket := v.makeTask_ticket .restage c.number s.now
  rw [entered, Option.map_some] at ticket
  refine ⟨congrArg Stall.state own, congrArg Stall.ticket own, ⟨_, ticket, rfl, rfl, rfl⟩, fun gone => ?_, fun j other => ?_,
    keys''.trans (keys'.trans keys), arbiter''.trans (arbiter'.trans arbiter), calls''.trans (calls'.trans calls),
    fun m other => ?_, unplaced''.trans (unplaced'.trans unplaced), issue''.trans (issue'.trans issue)⟩
  · obtain ⟨w, task, kind, age, -⟩ := State.makeTask_task .restage s.now
      (((State.task_congr dispatch' _).trans (State.task_congr dispatch _)).trans gone)
    exact ⟨w, task, kind, age⟩
  · rw [stall, held]
    exact State.stall_putStall_ne _ _ _ _ other.symm
  · refine (State.makeTask_ticket_ne _ _ other).trans ((State.ticket_moveTicket_ne _ _ _ _ other).trans ?_)
    exact (State.ticket_modifyTicket_ne _ _ _ aim other fun _ => rfl).trans (State.ticket_congr tickets m)

/-- A RESTAGE of a PARKED ticket is judged by its target. -/
theorem State.restageTicket_parked {s : State} {c : Ticket} {k : Nat} (state : c.state = .parked) (bound : c.stall = some k)
    (target : Nat) : s.restageTicket c target =
      if (s.stall target).state ≠ .free then (s, .busy)
      else if s.targetFits c k target then (s.beginRestage c.number target, .done) else (s, .state) := by
  rw [State.restageTicket, state, bound]

/-- A RESTAGE of a ticket that is not PARKED is refused. -/
theorem State.restageTicket_refused {s : State} {c : Ticket} (other : c.state ≠ .parked ∨ c.stall = none) (target : Nat) :
    s.restageTicket c target = (s, .state) := by
  unfold State.restageTicket
  split
  · next state bound => exact (other.elim (· state) fun none => nomatch bound.symm.trans none).elim
  · rfl

/-- Settles O53: each request judged by the hook or the target it names, and what an admitted one moves. -/
theorem deskMovesKeysAndCars : Obligations.DeskMovesKeysAndCars := by
  refine ⟨fun s f h c manages low first last found => ?_, fun s f c k target a b manages first last found low => ?_,
    fun s f k n manages => ?_⟩
  · have named : (s.heard f).named c.number = some c := State.named_some first last (by rwa [s.ticket_heard])
    have request {t : State} {o : Answer} (taken : (s.heard f).rebind h c = (t, o)) :
        (s.heard f).requestRebind ⟨h, c.number⟩ = (t, o) := by
      simp only [State.requestRebind, named]
      exact (if_pos low).trans taken
    refine ⟨fun custody fresh => ?_, fun g custody own inside away => ?_, fun refused => ?_⟩
    · have taken := State.rebind_fresh (s := s.heard f) (c := c) (by rwa [s.hook_heard]) fresh
      rw [s.hook_heard] at taken
      exact manages.request (fun x s => s.requestRebind x) (request taken)
    · obtain ⟨t, k, taken, atH, names, ticket, hook, alert, former, runner, stalls, events⟩ :=
        State.rebind_moves (s := s.heard f) (g := g) (by rwa [s.ticket_heard]) low inside (by rwa [s.hook_heard]) own
          (by rwa [s.hook_heard])
      rw [s.hook_heard] at alert
      have rest := (keepsRest_workKeeps (s.heard f)).rebind h c (State.KeepsRest.refl _)
      rw [taken] at rest
      exact ⟨_, k, manages.request (fun x s => s.requestRebind x) (request taken),
        ((keepsRest_workKeeps (s.heard f)).oweManage _ _ _ _ _ _ rest).heardSetup, atH, names, ticket, hook, alert,
        former, runner, stalls.trans (s.heard_stalls f), events.trans (s.heard_events f)⟩
    · have taken := State.rebind_refused (s := s.heard f) (c := c) (h := h) (by simpa only [s.hook_heard] using refused)
      exact manages.request (fun x s => s.requestRebind x) (request taken)
  · have named : (s.heard f).named c.number = some c := State.named_some first last (by rwa [s.ticket_heard])
    have request {t : State} {o : Answer} (taken : (s.heard f).restageTicket c target = (t, o)) :
        (s.heard f).requestRestage ⟨c.number, target⟩ = (t, o) := by
      simp only [State.requestRestage, named]
      exact (if_pos low).trans taken
    have serviceable (l : Nat) : (s.heard f).serviceable l = s.serviceable l := by rw [s.heard_eq f]; rfl
    refine ⟨fun state bound free siteA siteB lift size serves gone => ?_, fun other => ?_, fun state bound taken => ?_,
      fun state bound free siteA siteB unfit => ?_⟩
    · have fits : (s.heard f).targetFits c k target = true := by
        simp only [State.targetFits, s.stall_heard, siteA, siteB, serviceable]
        simpa [lift, size] using serves
      have taken := State.restageTicket_parked (s := s.heard f) state bound target
      rw [s.stall_heard, if_neg (not_not.mpr free), if_pos fits] at taken
      obtain ⟨held, owner, ⟨d, ticket, restaging, aim, stall⟩, task, others, keys, arbiter, calls, only, unplaced, issue⟩ :=
        State.beginRestage_result (s := s.heard f) (by rwa [s.ticket_heard]) state low (by rwa [s.stall_heard])
      have rest := (keepsRest_workKeeps (s.heard f)).beginRestage c.number target (State.KeepsRest.refl _)
      generalize (s.heard f).beginRestage c.number target = t at *
      obtain ⟨w, task, kind, age⟩ := task (by rwa [s.task_heard])
      obtain ⟨firstA, lastA⟩ := manages.1.address
      refine ⟨_, d, w, manages.request (fun x s => s.requestRestage x) (request taken),
        ((keepsRest_workKeeps (s.heard f)).oweManage _ _ _ _ _ _ rest).heardSetup, held, owner, ticket, restaging, aim,
        stall.trans bound, task, kind, age.trans (s.now_heard f), fun j other => (others j other).trans (s.stall_heard f j),
        keys.trans (s.heard_keys f), arbiter.trans (s.heard_arbiter f), calls.trans (s.heard_calls f),
        ⟨fun m other => (only m other).trans (s.ticket_heard f m), unplaced.trans (s.heard_unplaced f),
          issue.trans (s.heard_issue f)⟩, ?_⟩
      exact congrArg (fun r : Station => r.manageReply.map fun r => (r.code, r.outcome))
        (State.station_setStation_same _ _ _ firstA lastA)
    · exact manages.request (fun x s => s.requestRestage x) (request (State.restageTicket_refused other target))
    · have judged := State.restageTicket_parked (s := s.heard f) state bound target
      rw [s.stall_heard, if_pos taken] at judged
      exact manages.request (fun x s => s.requestRestage x) (request judged)
    · have fits : (s.heard f).targetFits c k target = false := by
        simp only [State.targetFits, s.stall_heard, siteA, siteB, serviceable]
        rcases unfit with unfit | unfit | ⟨away, unfit⟩
        · simp [unfit]
        · simp [Nat.not_le.mpr unfit]
        · simp [away, unfit]
      have judged := State.restageTicket_parked (s := s.heard f) state bound target
      rw [s.stall_heard, if_neg (not_not.mpr free), fits, if_neg Bool.false_ne_true] at judged
      exact manages.request (fun x s => s.requestRestage x) (request judged)
  · have judged (bound : Nat) (out : bound ≤ k ∨ n = 0 ∨ 9999 < n ∨ s.ticket n = none) (go : Ticket → State × Answer) :
        (match (s.heard f).named n with
          | none => (s.heard f, Answer.range)
          | some t => if k < bound then go t else (s.heard f, .range)) = (s.heard f, .range) := by
      rcases out with high | unnamed
      · split
        · rfl
        · exact if_neg (by omega)
      · rw [State.named_none (by rwa [s.ticket_heard])]
    exact ⟨fun out => manages.request (fun x s => s.requestRebind x) (judged 576 out _),
      fun out => manages.request (fun x s => s.requestRestage x) (judged 640 out _)⟩

end Sys2Proof.Machine
end

section
/-! PROOF of O41: the grants of lifts and lanes. -/

namespace Sys2Proof.Machine

open Sys2Proof

/-! ### The tenure chosen (R109, R110) -/

/-- The park skip takes the first tenure that starts at the parked level, when none ahead of it has been passed out. -/
theorem skipTo_some {parked : Nat} {ahead l : List Tenure} {v : Tenure} {passed : List Tenure}
    (chosen : skipTo parked ahead l = some (v, passed)) :
    ∃ before after, l = before ++ v :: after ∧ passed = ahead ++ before ∧ v.fromLevel = parked ∧
      (∀ x ∈ before, x.fromLevel ≠ parked) ∧ ∀ x ∈ passed, x.passes < 3 := by
  induction l generalizing ahead with
  | nil => cases chosen
  | cons t rest ih =>
    unfold skipTo at chosen
    split at chosen
    · next here =>
      split at chosen
      · next fresh =>
        cases chosen
        exact ⟨[], rest, rfl, (List.append_nil _).symm, here, nofun, by simpa using fresh⟩
      · cases chosen
    · next elsewhere =>
      obtain ⟨before, after, split, whole, starts, others, fresh⟩ := ih chosen
      refine ⟨t :: before, after, by rw [split]; rfl, by rw [whole, List.append_assoc]; rfl, starts, ?_, fresh⟩
      exact List.forall_mem_cons.mpr ⟨elsewhere, others⟩

/-- Where the park skip takes none, one ahead of the first that starts at the parked level has been passed out. -/
theorem skipTo_none {parked : Nat} {ahead l : List Tenure} (none : skipTo parked ahead l = none) {before after : List Tenure}
    {u : Tenure} (split : l = before ++ u :: after) (starts : u.fromLevel = parked)
    (others : ∀ x ∈ before, x.fromLevel ≠ parked) : ∃ x ∈ ahead ++ before, 3 ≤ x.passes := by
  induction before generalizing l ahead with
  | nil =>
    subst split
    unfold skipTo at none
    rw [List.nil_append] at none
    dsimp only at none
    rw [if_pos starts] at none
    split at none
    · cases none
    · next worn => simpa using worn
  | cons t before ih =>
    obtain ⟨elsewhere, others⟩ := List.forall_mem_cons.mp others
    subst split
    unfold skipTo at none
    rw [List.cons_append] at none
    dsimp only at none
    rw [if_neg elsewhere] at none
    simpa using ih none rfl others

/-- The choice among the qualifying tenures. -/
theorem chooseTenure_some {parked skip : Nat} {l : List Tenure} {v : Tenure} {ahead : List Tenure}
    (chosen : chooseTenure parked skip l = some (v, ahead)) : ∃ behind, l = ahead ++ v :: behind ∧
      (ahead = [] ∧ (v.fromLevel = parked ∨ ∀ before u after, behind = before ++ u :: after → before.length < skip →
          u.fromLevel = parked → (∀ x ∈ before, x.fromLevel ≠ parked) → ∃ x ∈ v :: before, 3 ≤ x.passes) ∨
        ahead ≠ [] ∧ ahead.length ≤ skip ∧ v.fromLevel = parked ∧ ∀ x ∈ ahead, x.fromLevel ≠ parked ∧ x.passes < 3) := by
  cases l with
  | nil => cases chosen
  | cons oldest rest =>
    unfold chooseTenure at chosen
    dsimp only at chosen
    split at chosen
    · next here =>
      cases chosen
      exact ⟨rest, rfl, .inl ⟨rfl, .inl here⟩⟩
    · next elsewhere =>
      split at chosen
      · next skipped =>
        cases chosen
        obtain ⟨before, after, split, rfl, starts, others, fresh⟩ := skipTo_some skipped
        have short : (rest.take skip).length ≤ skip := List.length_take_le _ _
        rw [split] at short
        refine ⟨after ++ rest.drop skip, ?_, .inr ⟨nofun, ?_, starts, fun x mem => ⟨?_, fresh x mem⟩⟩⟩
        · have whole := List.take_append_drop skip rest
          rw [split] at whole
          refine (congrArg (oldest :: ·) whole.symm).trans ?_
          simp
        · simp only [List.length_append, List.length_cons] at short ⊢
          simp only [List.length_nil]
          omega
        · rcases List.mem_cons.mp mem with rfl | mem
          · exact elsewhere
          · exact others x mem
      · next none =>
        cases chosen
        refine ⟨rest, rfl, .inl ⟨rfl, .inr fun before u after split short starts others => ?_⟩⟩
        obtain ⟨m, rfl⟩ : ∃ m, skip = before.length + (m + 1) := ⟨skip - before.length - 1, by omega⟩
        have taken : rest.take (before.length + (m + 1)) = before ++ u :: after.take m := by
          rw [split, List.take_length_add_append, List.take_succ_cons]
        exact skipTo_none none taken starts others

/-- Some tenure is chosen among qualifying ones. -/
theorem chooseTenure_isSome {parked skip : Nat} {l : List Tenure} (some' : l ≠ []) : ∃ v ahead,
    chooseTenure parked skip l = some (v, ahead) := by
  cases l with
  | nil => exact absurd rfl some'
  | cons oldest rest =>
    unfold chooseTenure
    dsimp only
    split
    · exact ⟨_, _, rfl⟩
    · split
      · next choice _ => exact ⟨choice.1, choice.2, rfl⟩
      · exact ⟨_, _, rfl⟩

/-! ### Lane grants (R119) -/

/-- The lowest number of an ascending list that meets a test. -/
theorem find?_lowest {l : List Nat} (ascends : l.Pairwise (· < ·)) {p : Nat → Bool} {n : Nat} (mem : n ∈ l) (meets : p n = true)
    (least : ∀ m ∈ l, p m = true → n ≤ m) : l.find? p = some n := by
  cases found : l.find? p with
  | none => exact absurd meets (List.find?_eq_none.mp found n mem)
  | some m =>
    obtain ⟨holds, before, after, split, misses⟩ := List.find?_eq_some_iff_append.mp found
    rw [split] at mem ascends
    have first := least m (List.mem_of_find?_eq_some found) holds
    rcases List.mem_append.mp mem with early | late
    · exact absurd meets (by simpa using misses n early)
    · rcases List.mem_cons.mp late with same | later
      · rw [same]
      · have after := (List.pairwise_cons.mp (List.pairwise_append.mp ascends).2.1).1 n later
        omega

theorem State.freeLanes_congr {s t : State} (arbiter : t.arbiter = s.arbiter) (params : t.params = s.params) :
    t.freeLanes = s.freeLanes := by
  simp only [State.freeLanes, State.laneConfigured, State.lane, arbiter, params]

theorem State.freeLanes_ascends (s : State) : s.freeLanes.Pairwise (· < ·) :=
  List.Pairwise.filter _ (by decide)

/-- The lane for a ticket: the lowest FREE one that prefers its lift, else the lowest. -/
theorem State.laneFor_eq {s : State} {c : Ticket} {n : Nat} (free : n ∈ s.freeLanes)
    (first : c.lift.getD 0 ∈ s.preferredLifts n ∧ (∀ m ∈ s.freeLanes, c.lift.getD 0 ∈ s.preferredLifts m → n ≤ m) ∨
      ∀ m ∈ s.freeLanes, c.lift.getD 0 ∉ s.preferredLifts m ∧ n ≤ m) : s.laneFor c = some n := by
  unfold State.laneFor
  rcases first with ⟨prefers, least⟩ | lowest
  · rw [find?_lowest s.freeLanes_ascends free (p := fun n => (s.preferredLifts n).contains (c.lift.getD 0))
      (by simpa using prefers) fun m mem meets => least m mem (by simpa using meets)]
  · have none : (s.freeLanes.find? fun n => (s.preferredLifts n).contains (c.lift.getD 0)) = Option.none :=
      List.find?_eq_none.mpr fun m mem => by simpa using (lowest m mem).1
    rw [none]
    dsimp only
    have head := find?_lowest s.freeLanes_ascends free (p := fun _ => true) rfl fun m mem _ => (lowest m mem).2
    cases lanes : s.freeLanes with
    | nil => simp [lanes] at free
    | cons m ms =>
      rw [lanes] at head
      simpa using head

/-- The request before every other is the oldest. -/
theorem State.oldestRequest_eq {s : State} {c : Ticket} (once : (s.tickets.map (·.number)).Nodup) (mem : c ∈ s.tickets)
    (wants : c.wantsLane = true) (oldest : ∀ d ∈ s.tickets, d.wantsLane = true →
      (c.laneRequest.getD SiteTime.zero).before (d.laneRequest.getD SiteTime.zero) = true ∨
        c.laneRequest = d.laneRequest ∧ c.number ≤ d.number) : s.oldestRequest = some c := by
  refine firstBy_eq (key := fun t : Ticket => earlierKey (t.laneRequest.getD SiteTime.zero, t.number))
    (fun a b => earlier_iff _ _) (List.mem_filter.mpr ⟨mem, wants⟩) fun d other ne => ?_
  obtain ⟨mem', wants'⟩ := List.mem_filter.mp other
  rw [← earlier_iff]
  rcases oldest d mem' wants' with before | ⟨same, number⟩
  · simp [earlier, before]
  · have differs : c.number ≠ d.number := fun equal => ne (eq_of_key once mem' mem equal.symm)
    simp [earlier, same]
    omega

/-- The record of a ticket for which lane `n` has been reserved. -/
def Ticket.reserved (c : Ticket) (n : Nat) : Ticket :=
  if c.state = .staged then { c with state := .toCurb, verify := false, lane := some n } else { c with lane := some n }

/-- The state and lane of a ticket that asked for the lane. -/
theorem Ticket.reserved_fields (c : Ticket) (wants : c.wantsLane = true) (n : Nat) :
    ((c.reserved n).state, (c.reserved n).lane) = (if c.state = .staged then .toCurb else .descending, some n) := by
  unfold Ticket.reserved
  split
  · rfl
  · next other =>
    have asks : (c.state = .descending ∧ c.laneRequest.isSome = true) ∧ c.lane = none := by
      simpa [Ticket.wantsLane, other] using wants
    exact Prod.ext asks.1.1 rfl

/-- A reservation: its lane, the record of its ticket, and no lane request in it. -/
theorem State.reserveLane_result {s : State} {n : Nat} {c : Ticket} (free : n ∈ s.freeLanes)
    (found : s.ticket c.number = some c) :
    (s.reserveLane n c).lane n = { s.lane n with state := .reserved, ticket := some c.number } ∧
      (s.reserveLane n c).ticket c.number = some (c.reserved n) ∧
      ∀ t ∈ (s.reserveLane n c).recordsOf c.number, t.wantsLane = false := by
  obtain ⟨⟨low, high⟩, -⟩ := State.mem_freeLanes.mp free
  refine ⟨(State.lane_congr (s.reserveLane_arbiter n c) n).trans (State.lane_setLane_same _ _ _ low high), ?_⟩
  let u := (s.setLane n { s.lane n with state := .reserved, ticket := some c.number }).modifyTicket c.number
    fun t => { t with lane := some n }
  have ticket : u.ticket c.number = some { c with lane := some n } :=
    State.ticket_edit_same (show (s.setLane n _).ticket c.number = some c from found) fun t => { t with lane := some n }
  have records : ∀ t ∈ u.recordsOf c.number, t.lane = some n := by
    rw [State.recordsOf_edit _ _ _ fun t => { t with lane := some n }, if_pos rfl]
    intro t mem
    obtain ⟨d, -, rfl⟩ := List.mem_map.mp mem
    rfl
  unfold State.reserveLane Ticket.reserved
  by_cases staged : c.state = .staged
  · simp only [staged, if_true]
    refine ⟨State.ticket_entered ticket (by decide), fun t mem => ?_⟩
    rw [State.recordsOf_move, if_pos rfl] at mem
    obtain ⟨d, old, rfl⟩ := List.mem_map.mp mem
    rw [Ticket.enter_of_ne (by decide)]
    rfl
  · simp only [staged, if_false]
    exact ⟨ticket, fun t mem => by simp [Ticket.wantsLane, records t mem]⟩

/-- Once the oldest request is served, nothing more happens to its lane and its ticket. -/
theorem State.laneGrantCheck_serves {s : State} {c : Ticket} {n : Nat} (oldest : s.oldestRequest = some c)
    (lane : s.laneFor c = some n) (found : s.ticket c.number = some c) :
    s.laneGrantCheck.lane n = { s.lane n with state := .reserved, ticket := some c.number } ∧
      s.laneGrantCheck.ticket c.number = some (c.reserved n) := by
  obtain ⟨reserved, ticket, served⟩ := State.reserveLane_result (State.laneFor_mem lane) found
  have next : s.laneGrantCheck = (s.reserveLane n c).serveLanes 5 := by
    rw [State.laneGrantCheck, Config.laneCount, State.serveLanes, oldest]
    dsimp only
    rw [lane]
  obtain ⟨records, lanes⟩ := State.serveLanes_spares 5 served
  rw [next]
  refine ⟨?_, (State.ticket_of_records records).trans ticket⟩
  rcases lanes n with kept | ⟨free, -⟩
  · exact kept.trans reserved
  · rw [reserved] at free
    cases free

theorem State.serveLanes_idle (fuel : Nat) {s : State} (none : s.NoLaneRequest) : s.serveLanes fuel = s := by
  cases fuel with
  | zero => rfl
  | succ fuel =>
    unfold State.serveLanes
    split
    · rfl
    · next t oldest =>
      obtain ⟨mem, wants⟩ := State.oldestRequest_mem oldest
      have idle := List.all_eq_true.mp none t mem
      simp [wants] at idle

/-- Where only one ticket number asks for a lane, serving it is all that a lane grant check does. -/
theorem State.laneGrantCheck_only {s : State} {c : Ticket} {n : Nat} (oldest : s.oldestRequest = some c)
    (lane : s.laneFor c = some n) (found : s.ticket c.number = some c)
    (only : ∀ d ∈ s.tickets, d.wantsLane = true → d.number = c.number) : s.laneGrantCheck = s.reserveLane n c := by
  obtain ⟨-, -, served⟩ := State.reserveLane_result (State.laneFor_mem lane) found
  rw [State.laneGrantCheck, Config.laneCount, State.serveLanes, oldest]
  dsimp only
  rw [lane]
  refine State.serveLanes_idle 5 (List.all_eq_true.mpr fun d mem => ?_)
  by_cases own : d.number = c.number
  · simp [served d (State.mem_recordsOf.mpr ⟨mem, own⟩)]
  · have old : d ∈ s.recordsOf d.number := by
      rw [← s.reserveLane_recordsOf_ne n own]
      exact State.mem_recordsOf.mpr ⟨mem, rfl⟩
    simpa using fun wants => own (only d (State.mem_recordsOf.mp old).1 wants)

/-- A reservation takes its lane out of the FREE ones. -/
theorem State.freeLanes_reserveLane (s : State) {n : Nat} (c : Ticket) (free : n ∈ s.freeLanes) :
    (s.reserveLane n c).freeLanes.length < s.freeLanes.length := by
  obtain ⟨⟨low, high⟩, configured, state⟩ := State.mem_freeLanes.mp free
  have params : (s.reserveLane n c).params = s.params := by
    unfold State.reserveLane
    dsimp only
    split
    · exact (State.moveTicket_frame _ _ _).2.2.2.2.2.2.2.2.2.2.2.1
    · rfl
  have lane (m : Nat) (other : m ≠ n) : (s.reserveLane n c).lane m = s.lane m :=
    (State.lane_congr (s.reserveLane_arbiter n c) m).trans (State.lane_setLane_ne _ _ _ _ other.symm)
  have own : (s.reserveLane n c).lane n = _ :=
    (State.lane_congr (s.reserveLane_arbiter n c) n).trans (State.lane_setLane_same _ _ _ low high)
  have fewer : (s.reserveLane n c).freeLanes = s.freeLanes.filter (· != n) := by
    rw [State.freeLanes, State.freeLanes, List.filter_filter]
    refine List.filter_congr fun m mem => ?_
    by_cases here : m = n
    · subst here
      simp [own]
    · rw [lane m here, State.laneConfigured, State.laneConfigured, params]
      simp [here]
  rw [fewer]
  exact List.length_filter_lt_length_iff_exists.mpr ⟨n, free, by simp⟩

theorem State.serveLanes_ends (fuel : Nat) {s : State} (enough : s.freeLanes.length ≤ fuel) :
    (s.serveLanes fuel).freeLanes = [] ∨ (s.serveLanes fuel).NoLaneRequest := by
  induction fuel generalizing s with
  | zero => exact .inl (List.eq_nil_of_length_eq_zero (Nat.le_zero.mp enough))
  | succ fuel ih =>
    unfold State.serveLanes
    split
    · next none =>
      have empty := firstBy_eq_none_iff.mp none
      exact .inr (List.all_eq_true.mpr fun t mem => by simpa using List.filter_eq_nil_iff.mp empty t mem)
    · next t oldest =>
      split
      · next none =>
        unfold State.laneFor at none
        split at none
        · cases none
        · exact .inl (List.head?_eq_none_iff.mp none)
      · next lane found =>
        exact ih (by have := s.freeLanes_reserveLane t (State.laneFor_mem found); omega)

/-- A lane grant check goes on until no lane is FREE or no request stands. -/
theorem State.laneGrantCheck_ends (s : State) : s.laneGrantCheck.freeLanes = [] ∨ s.laneGrantCheck.NoLaneRequest :=
  State.serveLanes_ends _ (List.length_filter_le _ _)

/-- Settles O41: the tenure chosen, the oldest lane request with its lane, and what is left when none can be served. -/
theorem grantsFollowTheLimits : Obligations.GrantsFollowTheLimits := by
  refine ⟨fun s l low high => ⟨fun idle => State.grantCheck_idle idle, fun configured idle free some' => ?_⟩,
    fun s c n once mem wants oldest free first => ?_, fun s => ⟨State.laneGrantCheck_idle, fun _ => s.laneGrantCheck_ends⟩⟩
  · obtain ⟨v, ahead, chosen⟩ := chooseTenure_isSome (parked := (s.lift l).parkedLevel) (skip := s.params.parkSkip) some'
    obtain ⟨behind, split, how⟩ := chooseTenure_some chosen
    have granted : s.grantCheck l = s.grant l v ahead := by
      rw [State.grantCheck, if_pos ⟨configured, idle, free⟩]
      exact (congrArg (fun choice => match choice with | none => s | some (t, passed) => s.grant l t passed) chosen :)
    obtain ⟨lift, others⟩ := State.grant_result (s := s) low high v ahead
    obtain ⟨-, stalls, -, -, -, dispatch, -⟩ := s.grant_frame l v ahead
    rw [granted]
    refine ⟨v, ahead, behind, split, how, lift.trans ?_, ⟨[], s.grant_waiting l v ahead⟩, stalls, dispatch, others⟩
    simp [queueAfter]
  · have found : s.ticket c.number = some c := find?_key _ once mem
    obtain ⟨lane, ticket⟩ := State.laneGrantCheck_serves (State.oldestRequest_eq once mem wants oldest) (State.laneFor_eq free first)
      found
    rw [lane, ticket]
    exact ⟨rfl, rfl, congrArg some (c.reserved_fields wants n)⟩

end Sys2Proof.Machine
end

section
/-! PROOF of O33: a car leaves its stall. -/

namespace Sys2Proof.Machine

open Sys2Proof

/-! ### Departures (R7, R9) -/

/-- An OCCUPIED stall that is freed. -/
theorem State.freeOccupied_result {s : State} {k : Nat} {site : StallSite} (low : k < 640)
    (occupied : (s.stall k).state = .occupied) (loaded : (s.stall k).site = some site) (recheck : Bool) :
    (s.freeOccupied k recheck).stall k = { s.stall k with
        state := .free, ticket := none, confirmed := false, confirmBy := none, recheck := (s.stall k).recheck || recheck } ∧
      (∀ j, j ≠ k → (s.freeOccupied k recheck).stall j = s.stall j) ∧
      (s.freeOccupied k recheck).stalls.free = s.stalls.free.set site.size (s.stalls.free.get site.size + 1) ∧
      (s.freeOccupied k recheck).events = s.events := by
  have taken : (s.stall k).freeClass = none := Stall.freeClass_of_taken (by simp [occupied])
  exact ⟨s.stall_putStall_same k _ low, fun j other => s.stall_putStall_ne k j _ (Ne.symm other),
    State.putStall_rises low taken (Stall.freeClass_of_free rfl loaded)⟩

/-- The state `t` in which the car of ticket `c` has left its stall `k`, before the stall is handed on. -/
structure State.CarGone (s t : State) (k : Nat) (c : Ticket) (site : StallSite) : Prop where
  stall : t.stall k = { s.stall k with state := .free, ticket := none, confirmed := false, confirmBy := none }
  others : ∀ j, j ≠ k → t.stall j = s.stall j
  free : t.stalls.free = s.stalls.free.set site.size (s.stalls.free.get site.size + 1)
  events : t.events = s.events
  ticket : t.ticket c.number = some { c with stall := none, lift := some site.lift }
  tickets : ∀ m, m ≠ c.number → t.ticket m = s.ticket m
  unplaced : t.unplaced = s.unplaced
  issue : t.issue = s.issue
  keys : t.keys = s.keys
  dispatch : t.dispatch = s.dispatch
  arbiter : t.arbiter = s.arbiter
  calls : t.calls = s.calls
  rest : s.KeepsRest t
  numbers : t.numbers = s.numbers
  waits : s.NoneWaits → t.NoneWaits
  asks : s.NoLaneRequest → t.NoLaneRequest

theorem State.occupiedBy_iff (s : State) (k n : Nat) :
    s.occupiedBy k n = true ↔ (s.stall k).state = .occupied ∧ (s.stall k).ticket = some n := by
  simp [State.occupiedBy]

/-- What a departure leaves, before its hand-on. -/
theorem State.depart_gone {s : State} {k : Nat} {c : Ticket} {site : StallSite} (low : k < 640)
    (occupied : s.occupiedBy k c.number = true) (loaded : (s.stall k).site = some site) (found : s.ticket c.number = some c) :
    s.CarGone (s.depart k c.number) k c site := by
  obtain ⟨stall, others, free, events⟩ := State.freeOccupied_result low ((s.occupiedBy_iff _ _).mp occupied).1 loaded false
  obtain ⟨-, unplaced, issue, keys, dispatch, arbiter, calls, -⟩ := s.depart_frame k c.number
  have rest := (keepsRest_workKeeps s).depart k c.number (State.KeepsRest.refl s)
  have tickets := (s.freeOccupied_frame k false).2.2.1
  have departed : s.depart k c.number = (s.freeOccupied k false).modifyTicket c.number
      fun t => { t with stall := none, lift := (s.stall k).site.map (·.lift) } := by rw [State.depart, if_pos occupied]
  have edited := State.ticket_edit_same ((State.ticket_congr tickets _).trans found)
    fun t => { t with stall := none, lift := (s.stall k).site.map (·.lift) }
  rw [loaded] at edited
  refine ⟨?_, ?_, ?_, ?_, ?_, ?_, unplaced, issue, keys, dispatch, arbiter, calls, rest, ?_,
    fun none => ⟨unplaced.trans none.1, ?_⟩, fun none => ?_⟩
  all_goals rw [departed]
  · refine stall.trans ?_
    rw [Bool.or_false]
  · exact others
  · exact free
  · exact events
  · rw [loaded]
    exact edited
  · exact fun m other => (State.ticket_edit_ne _ other _).trans (State.ticket_congr tickets m)
  · refine (State.modifyTicket_numbers _ _ _ ?_).trans (State.numbers_congr tickets)
    exact fun _ => rfl
  · intro d mem
    obtain ⟨x, old, rfl⟩ := List.mem_map.mp mem
    have quiet := none.2 x (tickets ▸ old)
    split <;> exact quiet
  · refine List.all_eq_true.mpr fun d mem => ?_
    obtain ⟨x, old, rfl⟩ := List.mem_map.mp mem
    have quiet := List.all_eq_true.mp none x (tickets ▸ old)
    split <;> exact quiet

/-- A DEPARTED step frees the stall, sets the runner's level and hands the stall on to no one. -/
theorem State.departStep_gone {s : State} {b k : Nat} {c : Ticket} {site : StallSite} (low : k < 640) (bound : c.stall = some k)
    (occupied : s.occupiedBy k c.number = true) (loaded : (s.stall k).site = some site) (found : s.ticket c.number = some c)
    (none : s.NoneWaits) : s.departStep b c = (s.depart k c.number).setLevel b site.level := by
  have gone := State.depart_gone low occupied loaded found
  have waits : ((s.depart k c.number).setLevel b site.level).NoneWaits := gone.waits none
  simp only [State.departStep, bound, occupied, loaded, if_true]
  exact waits.handOn k

/-- What a DEPARTED step leaves, whatever the stage its car comes to adds to it. -/
theorem State.CarGone.departs {s t u : State} {f : From} {b k : Nat} {c : Ticket} {site : StallSite}
    (gone : (s.heard f).CarGone t k c site) (low : 1 ≤ b) (high : b ≤ Config.runnerCount) (rest : (s.heard f).KeepsRest u)
    (stalls : u.stalls = t.stalls) (events : u.events = t.events) (keys : u.keys = t.keys)
    (schedule : u.calls.schedule = t.calls.schedule) (dispatch : u.dispatch = (t.setLevel b site.level).dispatch)
    (unplaced : u.unplaced = t.unplaced) (tickets : ∀ m, m ≠ c.number → u.ticket m = t.ticket m) :
    s.DepartsFrom (u.oweRunner b .departed .done (some c.number)) b k c.number site := by
  have work := keepsRest_workKeeps (s.heard f)
  have setup := (work.oweRunner b .departed .done (some c.number) rest).heardSetup
  have replied := State.runner_oweRunner (s := u) low high .departed .done (some c.number)
  have level : (u.runner b).level = site.level := by
    rw [State.runner_congr dispatch]
    exact congrArg Runner.level (State.runner_setRunner_same t b _ low high)
  have stall (j : Nat) : (u.oweRunner b .departed .done (some c.number)).stall j = t.stall j := State.stall_congr stalls j
  refine ⟨setup, ?_, fun j other => ?_, ?_, (congrArg Runner.level replied).trans level, ?_, ⟨fun m other => ?_, ?_, ?_⟩,
    ?_, ?_, ?_, ?_⟩
  · rw [stall, gone.stall, s.stall_heard]
  · rw [stall, gone.others j other, s.stall_heard]
  · refine (congrArg (fun m : StallMap => m.free.get site.size) stalls).trans ?_
    rw [gone.free, s.heard_stalls, PerSize.get_set, if_pos rfl]
  · rw [replied]
    rfl
  · exact (tickets m other).trans ((gone.tickets m other).trans (s.ticket_heard f m))
  · exact unplaced.trans (gone.unplaced.trans (s.heard_unplaced f))
  · exact rest.issue.trans (s.heard_issue f)
  · exact events.trans (gone.events.trans (s.heard_events f))
  · exact keys.trans (gone.keys.trans (s.heard_keys f))
  · exact schedule.trans (by rw [gone.calls, s.heard_calls])
  · refine (congrArg DispatchUnit.tasks dispatch).trans ?_
    exact (congrArg DispatchUnit.tasks gone.dispatch).trans (by rw [s.heard_dispatch])

/-! ### A car at the curb level (R52, R119) -/

/-- A FETCHING ticket whose car needs no ride asks for a lane, STAGED, before the lane grant check. -/
def State.staged (s : State) (n : Nat) : State :=
  (s.modifyTicket n fun t => { t with laneRequest := some s.now }).moveTicket n .staged

/-- A car from a stall of a lift 1 to 4 has a ride to make. -/
theorem State.stageCar_rides {s : State} {c : Ticket} {l : Nat} (found : s.ticket c.number = some c) (lift : c.lift = some l)
    (rides : 1 ≤ l) : s.stageCar c.number = s := by
  have away : ¬ l = 0 := by omega
  simp [State.stageCar, found, lift, away]

/-- A car from a stall of lift 0, or of no lift, is staged. -/
theorem State.stageCar_stages {s : State} {c : Ticket} (found : s.ticket c.number = some c)
    (lift : c.lift = none ∨ c.lift = some 0) : s.stageCar c.number = (s.staged c.number).laneGrantCheck := by
  rcases lift with lift | lift <;> simp [State.stageCar, State.staged, found, lift]

/-- A STAGED ticket that is given a lane joins the curb board. -/
theorem State.reserveLane_listed {s : State} {c : Ticket} (n : Nat) (found : s.ticket c.number = some c)
    (state : c.state = .staged) : ⟨c.number, s.now⟩ ∈ (s.reserveLane n c).calls.board := by
  let r : Lane := { s.lane n with state := .reserved, ticket := some c.number }
  have ticket := State.ticket_edit_same (show (s.setLane n r).ticket c.number = some c from found)
    fun t => { t with lane := some n }
  simp only [State.reserveLane, state, if_true]
  rw [State.moveTicket_joins ticket (by simp [state, TicketState.onBoard]) rfl]
  exact (insertBy_perm _ _ _).mem_iff.mpr List.mem_cons_self

/-- What staging a car changes: its ticket alone. -/
theorem State.staged_result {s : State} {c : Ticket} (found : s.ticket c.number = some c) (off : c.state.onBoard = false) :
    (s.staged c.number).ticket c.number = some { c with laneRequest := some s.now, state := .staged, verify := false } ∧
      (∀ m, m ≠ c.number → (s.staged c.number).recordsOf m = s.recordsOf m) ∧
      (s.staged c.number).numbers = s.numbers ∧
      (s.staged c.number).stalls = s.stalls ∧ (s.staged c.number).unplaced = s.unplaced ∧
      (s.staged c.number).issue = s.issue ∧ (s.staged c.number).keys = s.keys ∧
      (s.staged c.number).dispatch = s.dispatch ∧ (s.staged c.number).arbiter = s.arbiter ∧
      (s.staged c.number).calls = s.calls ∧ (s.staged c.number).events = s.events ∧
      (s.staged c.number).params = s.params := by
  have edited := State.ticket_edit_same found fun t => { t with laneRequest := some s.now }
  obtain ⟨-, stalls, unplaced, issue, keys, dispatch, arbiter, -, -, -, events, params, -⟩ :=
    (s.modifyTicket c.number fun t => { t with laneRequest := some s.now }).moveTicket_frame c.number .staged
  refine ⟨State.ticket_entered edited (by decide), fun m other => ?_, ?_, stalls, unplaced, issue, keys, dispatch, arbiter,
    State.moveTicket_calls edited off rfl, events, params⟩
  · exact (State.recordsOf_move_ne _ other _).trans (State.recordsOf_edit_ne s other _)
  · exact (State.moveTicket_numbers _ _ _).trans (State.modifyTicket_numbers _ _ _ fun _ => rfl)

/-- A staged car is given the lane that is first for it, when no other ticket asks for one. -/
theorem State.staged_granted {s : State} {c : Ticket} {n : Nat} (found : s.ticket c.number = some c) (off : c.state.onBoard = false)
    (once : (s.tickets.map (·.number)).Nodup) (noLane : c.lane = none) (none : s.NoLaneRequest) (free : n ∈ s.freeLanes)
    (first : c.lift.getD 0 ∈ s.preferredLifts n ∧ (∀ m ∈ s.freeLanes, c.lift.getD 0 ∈ s.preferredLifts m → n ≤ m)) :
    (s.staged c.number).laneGrantCheck = (s.staged c.number).reserveLane n
      { c with laneRequest := some s.now, state := .staged, verify := false } := by
  obtain ⟨ticket, records, numbers, -, -, -, -, -, arbiter, -, -, params⟩ := State.staged_result found off
  generalize s.staged c.number = v at *
  have once' : (v.tickets.map (·.number)).Nodup := (congrArg List.Nodup numbers).mpr once
  have mem := List.mem_of_find?_eq_some ticket
  have lanes := State.freeLanes_congr arbiter params
  have only : ∀ d ∈ v.tickets, d.wantsLane = true → d.number = c.number := by
    intro d mem wants
    by_contra other
    have old : d ∈ s.recordsOf d.number := by
      rw [← records _ other]
      exact State.mem_recordsOf.mpr ⟨mem, rfl⟩
    have idle := List.all_eq_true.mp none d (State.mem_recordsOf.mp old).1
    simp [wants] at idle
  refine State.laneGrantCheck_only (State.oldestRequest_eq once' mem ?_ fun d mem' wants => .inr ?_) ?_ ticket only
  · simp [Ticket.wantsLane, noLane]
  · have same : d = _ := eq_of_key once' mem' mem (only d mem' wants)
    rw [same]
    exact ⟨rfl, le_refl _⟩
  · refine State.laneFor_eq (by rwa [lanes]) (.inl ?_)
    simp only [lanes, State.preferredLifts, params]
    exact first

/-- Settles O33: the stall is freed, and the car goes on by its lift. -/
theorem departureFreesTheStall : Obligations.DepartureFreesTheStall := by
  refine ⟨fun s f b k c site holds bound low loaded occupied empty unwanted => ?_, fun s f b c holds => ?_⟩
  · obtain ⟨carries, -, found⟩ := id holds
    obtain ⟨-, -, first, last⟩ := id carries
    have found' : (s.heard f).ticket c.number = some c := by rwa [s.ticket_heard]
    have loaded' : ((s.heard f).stall k).site = some site := by rwa [s.stall_heard]
    have occupied' : (s.heard f).occupiedBy k c.number = true := by rwa [State.occupiedBy, s.stall_heard]
    have none : (s.heard f).NoneWaits := ⟨by rwa [s.heard_unplaced], by rwa [s.heard_tickets]⟩
    have gone := State.depart_gone low occupied' loaded' found'
    have step := State.departStep_gone (b := b) low bound occupied' loaded' found' none
    have work := keepsRest_workKeeps (s.heard f)
    have rest : (s.heard f).KeepsRest (((s.heard f).depart k c.number).setLevel b site.level) :=
      work.setRunner _ _ gone.rest
    have tenure : (s.heard f).hasTenure c.number = s.hasTenure c.number := by rw [s.heard_eq f]; rfl
    generalize (s.heard f).depart k c.number = t at gone step rest
    let d : Ticket := { c with stall := Option.none, lift := some site.lift }
    have ticket : (t.setLevel b site.level).ticket d.number = some d := gone.ticket
    have now : (t.setLevel b site.level).now = s.now := gone.rest.clock.trans (s.now_heard f)
    have lanes : (t.setLevel b site.level).freeLanes = s.freeLanes := State.freeLanes_congr
      (gone.arbiter.trans (s.heard_arbiter f)) (gone.rest.params.trans (s.heard_params f))
    have stages (state : c.state = .fetching) (lift : site.lift = 0) (alone : s.hasTenure c.number = false) :
        (s.heard f).departedStep b c = (((t.setLevel b site.level).staged d.number).laneGrantCheck, .done) := by
      simp only [State.departedStep, state, tenure, alone, step, Bool.false_eq_true, if_false]
      rw [show (t.setLevel b site.level).stageCar c.number = _ from
        State.stageCar_stages (c := d) ticket (.inr (congrArg some lift))]
    have rest' : (s.heard f).KeepsRest ((t.setLevel b site.level).staged d.number) :=
      work.moveTicket d.number .staged (work.editTicket d.number
        (f := fun k => { k with laneRequest := some (t.setLevel b site.level).now }) rest)
    refine ⟨fun states => ?_, fun state lift alone full => ?_, fun n state lift alone right quiet noLane free prefers least => ?_⟩
    · have taken : (s.heard f).departedStep b c = (t.setLevel b site.level, .done) := by
        rcases states with state | ⟨state, rides, alone⟩
        · simp only [State.departedStep, state, step]
        · simp only [State.departedStep, state, tenure, alone, step, Bool.false_eq_true, if_false]
          rw [State.stageCar_rides (c := d) ticket rfl rides]
      refine ⟨_, holds.step .departed (fun s => s.departedStep b) taken,
        gone.departs first last rest rfl rfl rfl rfl rfl rfl fun _ _ => rfl, gone.arbiter.trans (s.heard_arbiter f),
        gone.calls.trans (s.heard_calls f), gone.ticket⟩
    all_goals
      have off : d.state.onBoard = false := by simp [d, state, TicketState.onBoard]
      have taken := stages state lift alone
    · obtain ⟨staged, records, -, stalls, unplaced, -, keys, dispatch, arbiter, calls, events, params⟩ :=
        State.staged_result ticket off
      rw [State.laneGrantCheck_idle (.inl ((State.freeLanes_congr arbiter params).trans (lanes.trans full)))] at taken
      generalize (t.setLevel b site.level).staged d.number = u at *
      refine ⟨_, holds.step .departed (fun s => s.departedStep b) taken,
        gone.departs first last rest' stalls events keys (congrArg Calls.schedule calls) dispatch unplaced
          fun m other => State.ticket_of_records (records m other),
        arbiter.trans (gone.arbiter.trans (s.heard_arbiter f)), calls.trans (gone.calls.trans (s.heard_calls f)), ?_⟩
      refine (staged : u.ticket c.number = _).trans ?_
      rw [now, ← lift]
    · have numbers : (t.setLevel b site.level).numbers = s.numbers :=
        (gone.numbers : t.numbers = _).trans (State.numbers_congr (s.heard_tickets f))
      have quiet' : (t.setLevel b site.level).NoLaneRequest :=
        gone.asks (show (s.heard f).NoLaneRequest by rwa [State.NoLaneRequest, s.heard_tickets])
      have params : t.params = s.params := gone.rest.params.trans (s.heard_params f)
      have granted := State.staged_granted (n := n) ticket off ((congrArg List.Nodup numbers).mpr right.1) noLane quiet'
        (by rwa [lanes]) (by
          simp only [lanes, State.preferredLifts, show (t.setLevel b site.level).params = s.params from params, d,
            Option.getD_some, lift]
          exact ⟨prefers, least⟩)
      rw [granted] at taken
      obtain ⟨staged, records, -, stalls, unplaced, -, keys, dispatch, arbiter, calls, events, params'⟩ :=
        State.staged_result ticket off
      have free' : n ∈ ((t.setLevel b site.level).staged d.number).freeLanes := by
        rwa [State.freeLanes_congr arbiter params', lanes]
      have now' : ((t.setLevel b site.level).staged d.number).now = s.now := rest'.clock.trans (s.now_heard f)
      generalize (t.setLevel b site.level).staged d.number = u at *
      let e : Ticket := { d with laneRequest := some (t.setLevel b site.level).now, state := .staged, verify := false }
      obtain ⟨reserved, delivered, -⟩ := State.reserveLane_result (c := e) free' staged
      obtain ⟨-, stalls', unplaced', -, keys', dispatch', -, events', -, -, schedule', -⟩ := u.reserveLane_frame n e
      have rest'' := work.reserveLane n e rest'
      have listed : ⟨c.number, s.now⟩ ∈ (u.reserveLane n e).calls.board := by
        rw [← now']
        exact State.reserveLane_listed (c := e) n staged rfl
      change (u.reserveLane n e).ticket c.number = _ at delivered
      refine ⟨_, holds.step .departed (fun s => s.departedStep b) taken,
        gone.departs first last rest'' (stalls'.trans stalls) (events'.trans events) (keys'.trans keys)
          (schedule'.trans (congrArg Calls.schedule calls)) (dispatch'.trans dispatch) (unplaced'.trans unplaced)
          fun m other => State.ticket_of_records ((u.reserveLane_recordsOf_ne n (t := e) other).trans (records m other)),
        ?_, ?_, listed, ?_⟩
      · exact congrArg Lane.state reserved
      · exact congrArg Lane.ticket reserved
      · refine (delivered : (u.reserveLane n e).ticket c.number = _).trans ?_
        simp [Ticket.reserved, e, d, lift, now]
  · obtain ⟨carries, -, found⟩ := id holds
    have found' : (s.heard f).ticket c.number = some c := by rwa [s.ticket_heard]
    have tenure : (s.heard f).hasTenure c.number = s.hasTenure c.number := by rw [s.heard_eq f]; rfl
    have work := keepsRest_workKeeps (s.heard f)
    have unbound (bare : c.stall = Option.none) : (s.heard f).departStep b c = s.heard f := by
      simp only [State.departStep, bare]
    refine ⟨fun states => ?_, fun state bare lift alone full => ?_, fun restaging fetching => ?_⟩
    · refine holds.step .departed (fun s => s.departedStep b) ?_
      rcases states with ⟨state, bare⟩ | ⟨state, rides⟩ | ⟨state, bare, l, lift, high⟩
      · simp only [State.departedStep, state, unbound bare]
      · simp only [State.departedStep, state, tenure, rides, if_true]
      · simp only [State.departedStep, state, unbound bare, State.stageCar_rides found' lift high, ite_self]
    · have off : c.state.onBoard = false := by simp [state, TicketState.onBoard]
      obtain ⟨staged, records, -, stalls, unplaced, issue, keys, dispatch, arbiter, calls, events, params⟩ :=
        State.staged_result found' off
      have rest : (s.heard f).KeepsRest ((s.heard f).staged c.number) :=
        work.moveTicket c.number .staged (work.editTicket c.number
          (f := fun k => { k with laneRequest := some (s.heard f).now }) (State.KeepsRest.refl _))
      have full' : ((s.heard f).staged c.number).freeLanes = [] := by
        rw [State.freeLanes_congr (arbiter.trans (s.heard_arbiter f)) (params.trans (s.heard_params f)), full]
      have taken : (s.heard f).departedStep b c = ((s.heard f).staged c.number, .done) := by
        simp only [State.departedStep, state, tenure, alone, unbound bare, Bool.false_eq_true, if_false,
          State.stageCar_stages found' lift]
        rw [State.laneGrantCheck_idle (.inl full')]
      generalize (s.heard f).staged c.number = u at *
      refine ⟨_, holds.step .departed (fun s => s.departedStep b) taken,
        (work.oweRunner b .departed .done (some c.number) rest).heardSetup, ⟨fun m other => ?_, ?_, ?_⟩,
        stalls.trans (s.heard_stalls f), arbiter.trans (s.heard_arbiter f), keys.trans (s.heard_keys f),
        calls.trans (s.heard_calls f), ?_⟩
      · exact (State.ticket_of_records (records m other)).trans (s.ticket_heard f m)
      · exact unplaced.trans (s.heard_unplaced f)
      · exact issue.trans (s.heard_issue f)
      · refine (staged : u.ticket c.number = _).trans ?_
        rw [s.now_heard]
    · refine holds.step .departed (fun s => s.departedStep b) ?_
      unfold State.departedStep
      split <;> simp_all

end Sys2Proof.Machine
end

section
/-! PROOF of O48: LOAD_STALL and SET_STALL_SERVICE. -/

namespace Sys2Proof.Machine

open Sys2Proof

/-! ### A stall record stored (R9) -/

theorem State.keepsRest_putStall (s : State) (k : Nat) (r : Stall) : s.KeepsRest (s.putStall k r) := by
  constructor <;> simp only [State.putStall_frame]

/-- A stall that leaves FREE lowers its class's count, with RESERVE_LOW at or below the reserve. -/
theorem State.putStall_falls {s : State} {k : Nat} {r : Stall} {c : SizeClass} (low : k < 640)
    (free : (s.stall k).freeClass = some c) (taken : r.freeClass = none) :
    (s.putStall k r).stalls.free = s.stalls.free.set c (s.stalls.free.get c - 1) ∧
      (s.putStall k r).events.waiting = s.events.waiting ++
        (if s.stalls.free.get c - 1 ≤ s.params.reserve.get c then [⟨.reserveLow, c.num⟩] else []) := by
  rw [State.putStall, if_pos (show k < Config.stallCount from low)]
  simp only [free, taken, reduceCtorEq, if_false]
  refine ⟨?_, ?_⟩
  · exact congrArg StallMap.free (State.countFall_stalls _ c)
  · simp only [State.countFall, State.oweVacancy, State.mapStations]
    split
    · rfl
    · exact (List.append_nil _).symm

/-- A FREE stall that changes its class moves from one count to the other. -/
theorem State.putStall_moves {s : State} {k : Nat} {r : Stall} {c d : SizeClass} (low : k < 640)
    (old : (s.stall k).freeClass = some c) (new : r.freeClass = some d) (other : c ≠ d) :
    (s.putStall k r).stalls.free.get d = s.stalls.free.get d + 1 ∧
      (s.putStall k r).stalls.free.get c = s.stalls.free.get c - 1 := by
  rw [State.putStall, if_pos (show k < Config.stallCount from low)]
  have differs : ¬ (some c = some d) := fun same => other (Option.some.inj same)
  simp only [old, new, differs, if_false, State.countRise, State.oweVacancy, State.mapStations, State.countFall_stalls,
    PerSize.get_set, other, other.symm, if_true]
  exact ⟨trivial, trivial⟩

/-- Storing a stall that was in no free count reports nothing. -/
theorem State.putStall_events {s : State} {k : Nat} {r : Stall} (low : k < 640) (taken : (s.stall k).freeClass = none) :
    (s.putStall k r).events = s.events := by
  rw [State.putStall, if_pos (show k < Config.stallCount from low)]
  simp only [taken]
  cases r.freeClass <;> simp [State.countRise, State.oweVacancy, State.mapStations]

/-- A stall stored when no ticket waits for it. -/
theorem State.NoneWaits.stored {s : State} (none : s.NoneWaits) (k : Nat) (r : Stall) (j : Nat) :
    (s.putStall k r).handOn j = s.putStall k r :=
  State.NoneWaits.handOn ⟨by rw [(State.putStall_frame _ _ _).2.1]; exact none.1,
    by rw [(State.putStall_frame _ _ _).2.2.1]; exact none.2⟩ j

/-- The management reply that a request leaves at its desk. -/
theorem State.Manages.reply {s : State} {f : From} (h : s.Manages f) (code : ManageCode) (o : Answer) (record : ManageRecord)
    (u : State) : (((s.heard f).replied f code o record u).station f.source).manageReply.map (fun r => (r.outcome, r.record)) =
      some (o, record) := by
  obtain ⟨first, last⟩ := h.1.address
  exact congrArg (fun r : Station => r.manageReply.map fun r => (r.outcome, r.record))
    (State.station_setStation_same _ _ _ first last)

/-! ### LOAD_STALL (R17) -/

/-- The static fields that LOAD_STALL takes. -/
theorem State.readStallSite_fits {s : State} {x : StallFields} {size : SizeClass} {charger : Bool} (atSize : x.size = .value size)
    (atCharger : x.charger = .value charger) (fits : x.stall < 640 ∧ x.level < 8 ∧ x.zone < 16 ∧ x.lift ≤ 4 ∧
      (x.lift = 0 ∧ x.level = 0 ∨ 1 ≤ x.lift ∧ x.level ∈ s.servedLevels x.lift)) :
    s.readStallSite x = some ⟨x.level, x.zone, x.walk.toNat, size, charger, x.lift⟩ := by
  obtain ⟨stall, level, zone, lift, served⟩ := fits
  have serves : if x.lift = 0 then x.level = 0 else x.level ∈ s.servedLevels x.lift := by
    rcases served with ⟨none, level⟩ | ⟨some', mem⟩
    · rwa [if_pos none]
    · rwa [if_neg (by omega)]
  simpa [State.readStallSite, atSize, atCharger, Sent.get?, stall, level, zone, lift, Config.stallCount, Config.liftCount]
    using serves

theorem State.readStallSite_misfits {s : State} {x : StallFields} (misfits : 640 ≤ x.stall ∨ 8 ≤ x.level ∨ 16 ≤ x.zone ∨
    4 < x.lift ∨ x.lift = 0 ∧ x.level ≠ 0 ∨ 1 ≤ x.lift ∧ x.level ∉ s.servedLevels x.lift) : s.readStallSite x = none := by
  unfold State.readStallSite
  cases x.size.get? with
  | none => rfl
  | some size =>
    cases x.charger.get? with
    | none => rfl
    | some charger =>
      refine if_neg fun fits => ?_
      simp only [Config.stallCount, Config.liftCount, Bool.and_eq_true, decide_eq_true_eq] at fits
      obtain ⟨⟨⟨⟨stall, level⟩, zone⟩, lift⟩, served⟩ := fits
      rcases misfits with out | out | out | out | ⟨none, out⟩ | ⟨some', out⟩
      · omega
      · omega
      · omega
      · omega
      · simp [none, out] at served
      · rw [if_neg (by omega)] at served
        exact out (by simpa using served)

/-- A checked LOAD_STALL, by the stall's state. -/
theorem State.storeStall_undefined {s : State} {k : Nat} (state : (s.stall k).state = .undefined) (y : StallSite) :
    s.storeStall k y = ((s.putStall k { s.stall k with site := some y, state := .free, recheck := true }).handOn k, .done) := by
  simp only [State.storeStall, state]

theorem State.storeStall_free {s : State} {k : Nat} (state : (s.stall k).state = .free) (y : StallSite) :
    s.storeStall k y = ((s.putStall k { s.stall k with site := some y, recheck := true }).handOn k, .done) := by
  simp only [State.storeStall, state]

theorem State.storeStall_idle {s : State} {k : Nat} (state : (s.stall k).state = .blocked ∨ (s.stall k).state = .out)
    (y : StallSite) : s.storeStall k y = (s.putStall k { s.stall k with site := some y }, .done) := by
  rcases state with state | state <;> simp only [State.storeStall, state]

theorem State.storeStall_busy {s : State} {k : Nat} (state : (s.stall k).state = .held ∨ (s.stall k).state = .occupied)
    (y : StallSite) : s.storeStall k y = (s, .busy) := by
  rcases state with state | state <;> simp only [State.storeStall, state]

/-- SET_STALL_SERVICE, by the value and the stall's state. -/
theorem State.serveStall_out {s : State} {k : Nat} (state : (s.stall k).state = .free ∨ (s.stall k).state = .blocked) :
    s.serveStall k .out = (s.putStall k { s.stall k with state := .out, confirmed := false, recheck := false }, .done) := by
  rcases state with state | state <;> simp only [State.serveStall, state, State.takeOut]

theorem State.serveStall_back {s : State} {k : Nat} (state : (s.stall k).state = .blocked ∨ (s.stall k).state = .out) :
    s.serveStall k .free = ((s.putStall k { s.stall k with state := .free, recheck := true }).handOn k, .done) := by
  rcases state with state | state <;> simp only [State.serveStall, state, State.bringBack]

theorem State.serveStall_same {s : State} {k : Nat} {v : ServiceValue}
    (state : v = .out ∧ (s.stall k).state = .out ∨ v = .free ∧ (s.stall k).state = .free) : s.serveStall k v = (s, .done) := by
  rcases state with ⟨rfl, state⟩ | ⟨rfl, state⟩ <;> simp only [State.serveStall, state]

theorem State.serveStall_undefined {s : State} {k : Nat} (state : (s.stall k).state = .undefined) (v : ServiceValue) :
    s.serveStall k v = (s, .state) := by
  cases v <;> simp only [State.serveStall, state]

theorem State.serveStall_busy {s : State} {k : Nat} (state : (s.stall k).state = .held ∨ (s.stall k).state = .occupied)
    (v : ServiceValue) : s.serveStall k v = (s, .busy) := by
  rcases state with state | state <;> cases v <;> simp only [State.serveStall, state]

/-- What a request that stores one stall record leaves of the others, the setup and the tickets. -/
theorem State.stored_result {s : State} {f : From} {k : Nat} {r : Stall} (low : k < 640) {u : State}
    (stored : (s.heard f).putStall k r = u) : s.KeepsSetup u ∧ (s.heard f).KeepsRest u ∧ u.stall k = r ∧
      (∀ j, j ≠ k → u.stall j = s.stall j) ∧ u.tickets = s.tickets ∧ u.dispatch = s.dispatch := by
  subst stored
  have rest := (s.heard f).keepsRest_putStall k r
  obtain ⟨-, -, tickets, -, -, dispatch, -⟩ := State.putStall_frame (s.heard f) k r
  exact ⟨rest.heardSetup, rest, State.stall_putStall_same _ _ _ low,
    fun j other => (State.stall_putStall_ne _ _ _ _ other.symm).trans (s.stall_heard f j), tickets.trans (s.heard_tickets f),
    dispatch.trans (s.heard_dispatch f)⟩

/-- Settles O48: each request by the state of the stall, and the free counts it moves. -/
theorem stallLoadsAndServiceFollowTheState : Obligations.StallLoadsAndServiceFollowTheState := by
  refine ⟨fun s f x size charger manages atSize atCharger => ?_, fun s f k manages low => ?_, fun s f k v manages out => ?_⟩
  · have load {u : State} {o : Answer} (taken : (s.heard f).loadStall x = (u, o)) :
        exec (.loadStall f (.fields x)) s = .next ((s.heard f).replied f .loadStall o (.stall x) u) :=
      manages.request (fun x s => s.loadStall x) taken
    refine ⟨fun fits => ?_, fun misfits => ?_⟩
    · have site := State.readStallSite_fits (s := s.heard f) atSize atCharger (by rw [s.heard_eq f]; exact fits)
      have judged : (s.heard f).loadStall x =
          (s.heard f).storeStall x.stall ⟨x.level, x.zone, x.walk.toNat, size, charger, x.lift⟩ := by
        rw [State.loadStall, site]
      obtain ⟨low, -⟩ := fits
      generalize made : (⟨x.level, x.zone, x.walk.toNat, size, charger, x.lift⟩ : StallSite) = y at *
      have own : y.size = size := by rw [← made]
      have work := keepsRest_workKeeps (s.heard f)
      refine ⟨fun state empty unwanted => ?_, fun old state loaded empty unwanted => ?_, fun state => ?_, fun state => ?_⟩
      · have none : (s.heard f).NoneWaits := ⟨by rwa [s.heard_unplaced], by rwa [s.heard_tickets]⟩
        rw [State.storeStall_undefined (by rwa [s.stall_heard]), none.stored, s.stall_heard] at judged
        obtain ⟨free, events⟩ := State.putStall_rises (s := s.heard f) low (by
          rw [s.stall_heard]
          exact Stall.freeClass_of_taken (by rw [state]; nofun)) (Stall.freeClass_of_free (r := { s.stall x.stall with
            site := some y, state := .free, recheck := true }) rfl rfl)
        generalize stored : (s.heard f).putStall x.stall _ = u at *
        obtain ⟨setup, rest, stall, others, tickets, -⟩ := State.stored_result low stored
        refine ⟨_, load judged, (work.oweManage _ _ _ _ _ _ rest).heardSetup, stall, ?_, others, tickets,
          events.trans (s.heard_events f), manages.reply _ _ _ _⟩
        rw [s.heard_stalls, own] at free
        exact free
      · have none : (s.heard f).NoneWaits := ⟨by rwa [s.heard_unplaced], by rwa [s.heard_tickets]⟩
        rw [State.storeStall_free (by rwa [s.stall_heard]), none.stored, s.stall_heard] at judged
        have before : ((s.heard f).stall x.stall).freeClass = some old.size := by
          rw [s.stall_heard]
          exact Stall.freeClass_of_free state loaded
        have after : Stall.freeClass { s.stall x.stall with site := some y, recheck := true } = some size := by
          rw [← own]
          exact Stall.freeClass_of_free state rfl
        have same (equal : old.size = size) := State.putStall_counted (s := s.heard f) low (before.trans (by rw [after, equal]))
        have moved (other : old.size ≠ size) := State.putStall_moves (s := s.heard f) low before after other
        generalize stored : (s.heard f).putStall x.stall _ = u at *
        obtain ⟨setup, rest, stall, others, tickets, -⟩ := State.stored_result low stored
        refine ⟨_, load judged, (work.oweManage _ _ _ _ _ _ rest).heardSetup, ?_, fun equal => ?_, fun other => ?_, others,
          tickets, manages.reply _ _ _ _⟩
        · exact stall
        · show u.stalls.free = _
          rw [same equal]
          show (s.heard f).stalls.free = _
          rw [s.heard_stalls]
        · have both := moved other
          rw [s.heard_stalls] at both
          exact both
      · have kept : ((s.heard f).stall x.stall).freeClass = Stall.freeClass { s.stall x.stall with site := some y } := by
          rw [s.stall_heard, Stall.freeClass_of_taken, Stall.freeClass_of_taken] <;> rcases state with state | state <;>
            rw [state] <;> nofun
        rw [State.storeStall_idle (by rwa [s.stall_heard]), s.stall_heard, State.putStall_counted low kept,
          show (s.heard f).stalls.records = s.stalls.records from congrArg StallMap.records (s.heard_stalls f)] at judged
        exact load judged
      · rw [State.storeStall_busy (by rwa [s.stall_heard])] at judged
        exact load judged
    · have site := State.readStallSite_misfits (s := s.heard f) (by rw [s.heard_eq f]; exact misfits)
      exact load (by rw [State.loadStall, site])
  · have request {v : ServiceValue} {u : State} {o : Answer} (taken : (s.heard f).serveStall k v = (u, o)) :
        exec (.setStallService f (.fields ⟨k, .value v⟩)) s =
          .next ((s.heard f).replied f .setStallService o (.stallService ⟨k, .value v⟩) u) :=
      manages.request (fun x s => s.setStallService x) ((if_pos low : (s.heard f).setStallService ⟨k, .value v⟩ = _).trans taken)
    have work := keepsRest_workKeeps (s.heard f)
    refine ⟨fun state => ?_, fun state empty unwanted => ?_, fun state => ?_, fun state => ?_, fun state v => ?_, fun state v => ?_⟩
    · have judged := State.serveStall_out (s := s.heard f) (k := k) (by rwa [s.stall_heard])
      rw [s.stall_heard] at judged
      have gone : Stall.freeClass { s.stall k with state := .out, confirmed := false, recheck := false } = none :=
        Stall.freeClass_of_taken nofun
      have counted (blocked : (s.stall k).state = .blocked) := State.putStall_counted (s := s.heard f) low
        (r := { s.stall k with state := .out, confirmed := false, recheck := false })
        (by rw [gone, s.stall_heard]; exact Stall.freeClass_of_taken (by rw [blocked]; nofun))
      have falls (site : StallSite) (free : (s.stall k).state = .free) (loaded : (s.stall k).site = some site) :=
        State.putStall_falls (s := s.heard f) low (by rw [s.stall_heard]; exact Stall.freeClass_of_free free loaded) gone
      generalize stored : (s.heard f).putStall k _ = u at *
      obtain ⟨setup, rest, stall, others, tickets, dispatch⟩ := State.stored_result low stored
      refine ⟨_, request judged, (work.oweManage _ _ _ _ _ _ rest).heardSetup, stall, fun blocked => ⟨?_, ?_⟩,
        fun site free loaded => ?_, others, tickets, dispatch⟩
      · show u.stalls.free = _
        rw [counted blocked]
        show (s.heard f).stalls.free = _
        rw [s.heard_stalls]
      · show u.events = _
        rw [counted blocked]
        exact s.heard_events f
      · have both := falls site free loaded
        rw [s.heard_stalls, s.heard_events, s.heard_params] at both
        exact both
    · have none : (s.heard f).NoneWaits := ⟨by rwa [s.heard_unplaced], by rwa [s.heard_tickets]⟩
      have judged := State.serveStall_back (s := s.heard f) (k := k) (by rwa [s.stall_heard])
      rw [s.stall_heard, none.stored] at judged
      have taken : ((s.heard f).stall k).freeClass = Option.none := by
        rw [s.stall_heard]
        exact Stall.freeClass_of_taken (by rcases state with state | state <;> rw [state] <;> nofun)
      have events := State.putStall_events (s := s.heard f) (r := { s.stall k with state := .free, recheck := true }) low taken
      have rises (site : StallSite) (loaded : (s.stall k).site = some site) := (State.putStall_rises (s := s.heard f) low taken
        (Stall.freeClass_of_free (r := { s.stall k with state := .free, recheck := true }) rfl loaded)).1
      generalize stored : (s.heard f).putStall k _ = u at *
      obtain ⟨setup, rest, stall, others, tickets, dispatch⟩ := State.stored_result low stored
      refine ⟨_, request judged, (work.oweManage _ _ _ _ _ _ rest).heardSetup, stall, fun site loaded => ?_, others, tickets,
        events.trans (s.heard_events f)⟩
      have free := rises site loaded
      rw [s.heard_stalls] at free
      exact free
    · exact request (State.serveStall_same (.inl ⟨rfl, by rwa [s.stall_heard]⟩))
    · exact request (State.serveStall_same (.inr ⟨rfl, by rwa [s.stall_heard]⟩))
    · exact request (State.serveStall_undefined (by rwa [s.stall_heard]) v)
    · exact request (State.serveStall_busy (by rwa [s.stall_heard]) v)
  · have request {u : State} {o : Answer} (taken : (s.heard f).setStallService ⟨k, v⟩ = (u, o)) :
        exec (.setStallService f (.fields ⟨k, v⟩)) s =
          .next ((s.heard f).replied f .setStallService o (.stallService ⟨k, v⟩) u) :=
      manages.request (fun x s => s.setStallService x) taken
    refine request ?_
    rcases out with high | rfl
    · cases v with
      | value v => exact if_neg (not_lt.mpr high)
      | outside => rfl
    · rfl

end Sys2Proof.Machine
end

section
/-! PROOFS of O14 and O47: stations that become ABSENT or leave their record. -/

namespace Sys2Proof.Machine

open Sys2Proof

/-! ### What a handed-on absence keeps of the stations and the events (R156) -/

/-- Every station keeps its loaded record, presence and silent count, and the events reported after those that wait are none
of an absence. -/
structure State.HandedFrom (s t : State) : Prop where
  segment : ∀ b, (t.station b).segment = (s.station b).segment
  cls : ∀ b, (t.station b).cls = (s.station b).cls
  permissions : ∀ b, (t.station b).permissions = (s.station b).permissions
  served : ∀ b, (t.station b).served = (s.station b).served
  presence : ∀ b, (t.station b).presence = (s.station b).presence
  silent : ∀ b, (t.station b).silent = (s.station b).silent
  events : ∃ more, t.events.waiting = s.events.waiting ++ more ∧ ∀ e ∈ more, e.source ≠ .stationAbsent

theorem State.HandedFrom.refl (s : State) : s.HandedFrom s :=
  ⟨fun _ => rfl, fun _ => rfl, fun _ => rfl, fun _ => rfl, fun _ => rfl, fun _ => rfl, [], by simp, by simp⟩

theorem State.HandedFrom.raise {s t : State} (h : s.HandedFrom t) {x : Source} {n : Nat} (other : x ≠ .stationAbsent) :
    s.HandedFrom (t.raise x n) := by
  obtain ⟨more, waiting, none⟩ := h.events
  refine { h with events := ⟨more ++ [⟨x, n⟩], by simp [State.raise, waiting], fun e mem => ?_⟩ }
  rcases List.mem_append.mp mem with mem | mem
  · exact none e mem
  · rwa [List.mem_singleton.mp mem]

/-- A change of every station's marks makes of each record one with the same loaded record, presence and silent count. -/
theorem State.station_marked (s : State) {f : Station → Station} (same : KeepsRecord f) (b : Nat) :
    ∃ g, KeepsRecord g ∧ (s.mapStations f).station b = g (s.station b) := by
  by_cases inside : 1 ≤ b ∧ b ≤ 60
  · exact ⟨f, same, s.station_mapStations f b inside.1 inside.2⟩
  · exact ⟨id, fun _ => ⟨rfl, rfl, rfl, rfl, rfl, rfl⟩, by rw [State.station_outside inside, State.station_outside inside]; rfl⟩

theorem State.HandedFrom.marked {s t : State} (h : s.HandedFrom t) {f : Station → Station} (same : KeepsRecord f) :
    s.HandedFrom (t.mapStations f) := by
  have marked (b : Nat) := t.station_marked same b
  constructor
  case events => exact h.events
  all_goals
    intro b
    obtain ⟨g, keeps, eq⟩ := marked b
    obtain ⟨segment, cls, permissions, served, presence, silent⟩ := keeps (t.station b)
    rw [eq]
  exacts [segment.trans (h.segment b), cls.trans (h.cls b), permissions.trans (h.permissions b), served.trans (h.served b),
    presence.trans (h.presence b), silent.trans (h.silent b)]

/-- Storing a stall record is made of a write of the stall map, a report of RESERVE_LOW, and vacancy marks. -/
theorem State.putStall_of_writes {P : State → Prop} (stalls : ∀ {s : State} v, P s → P { s with stalls := v })
    (raised : ∀ {s : State} n, P s → P (s.raise .reserveLow n)) (vacancy : ∀ {s : State}, P s → P s.oweVacancy)
    {s : State} (k : Nat) (r : Stall) (hs : P s) : P (s.putStall k r) := by
  have stored : P { s with stalls.records := setNth s.stalls.records k r } := stalls _ hs
  unfold State.putStall
  split
  · dsimp only
    split
    · exact stored
    · have fallen (c : SizeClass) : P (State.countFall { s with stalls.records := setNth s.stalls.records k r } c) := by
        unfold State.countFall
        dsimp only
        split
        exacts [raised _ (stalls _ hs), stalls _ hs]
      have fell : P (match (s.stall k).freeClass with
          | none => { s with stalls.records := setNth s.stalls.records k r }
          | some c => State.countFall { s with stalls.records := setNth s.stalls.records k r } c) := by
        split
        exacts [stored, fallen _]
      refine vacancy ?_
      split
      exacts [fell, stalls _ fell]
  · exact hs

theorem handedFrom_handKeeps (s : State) : HandKeeps s.HandedFrom where
  dispatch _ hs := { hs with }
  board _ hs := { hs with }
  raised _ _ other hs := hs.raise other
  putStall k r _ hs := State.putStall_of_writes (P := s.HandedFrom) (fun _ hs => { hs with })
    (fun _ hs => hs.raise (by decide)) (fun hs => hs.marked fun r => by split <;> simp) k r hs
  tickets _ _ hs := { hs with }
  unplaced _ _ hs := { hs with }
  hooks _ hs := { hs with }
  arbiter _ hs := { hs with }
  liftMarks _ _ _ hs := { hs with }
  schedule _ hs := { hs with }
  orders _ same hs := hs.marked same

/-! ### An absent hub (R15) -/

/-- The stall as no sensor sees it. -/
def Stall.unsensed (r : Stall) : Stall := { r with sensed := .unknown, pending := none }

theorem State.forget_result (ks : List Nat) (low : ∀ k ∈ ks, k < 640) (s : State) :
    ∃ records, forEach ks (fun k s => s.putStall k (s.stall k).unsensed) s = { s with stalls.records := records } ∧
      ∀ j, nth records j Stall.cold = if j ∈ ks then (s.stall j).unsensed else s.stall j := by
  induction ks generalizing s with
  | nil => exact ⟨s.stalls.records, rfl, fun j => by simp [State.stall]⟩
  | cons k ks ih =>
    have inside : k < Config.stallCount := low k (by simp)
    have put : s.putStall k (s.stall k).unsensed = { s with stalls.records := setNth s.stalls.records k (s.stall k).unsensed } :=
      State.putStall_counted inside rfl
    have same : (s.putStall k (s.stall k).unsensed).stall k = (s.stall k).unsensed := State.stall_putStall_same _ _ _ inside
    have other (j : Nat) (ne : k ≠ j) := s.stall_putStall_ne k j (s.stall k).unsensed ne
    obtain ⟨records, made, at_⟩ := ih (fun k mem => low k (by simp [mem])) (s.putStall k (s.stall k).unsensed)
    refine ⟨records, made.trans (by rw [put]), fun j => ?_⟩
    rw [at_]
    by_cases eq : k = j
    · subst eq
      rw [same]
      simp [Stall.unsensed]
    · rw [other j eq]
      simp [Ne.symm eq]

/-- The stalls of an absent hub are sensed UNKNOWN, and nothing else changes. -/
theorem State.hubAbsent_result (s : State) (first last : Nat) :
    ∃ records, s.hubAbsent first last = { s with stalls.records := records } ∧
      (∀ k, first ≤ k → k ≤ last → nth records k Stall.cold = (s.stall k).unsensed) ∧
      ∀ k, (k < first ∨ last < k) → nth records k Stall.cold = s.stall k := by
  obtain ⟨records, made, at_⟩ := State.forget_result
    ((List.range Config.stallCount).filter fun k => first ≤ k && k ≤ last)
    (fun k mem => List.mem_range.mp (List.mem_filter.mp mem).1) s
  refine ⟨records, made, fun k low high => ?_, fun k out => ?_⟩
  · rw [at_]
    split
    · rfl
    next absent =>
      have outside : Config.stallCount ≤ k := by
        by_contra inside
        exact absent (List.mem_filter.mpr ⟨List.mem_range.mpr (Nat.lt_of_not_le inside), by simp [low, high]⟩)
      rw [State.stall, nth_outside _ _ _ outside]
      rfl
  · rw [at_]
    exact if_neg fun mem => by
      have both : first ≤ k ∧ k ≤ last := by simpa using (List.mem_filter.mp mem).2
      omega

/-! ### Runners of an absent base (R91, R98) -/

/-- The runner of the badge is as he was, no task has come to be offered to him, and the links are as they were. -/
structure State.Spares (b : Nat) (s t : State) : Prop where
  runner : t.runner b = s.runner b
  links : t.links = s.links
  unoffered : ∀ n, (∀ w, s.task n = some w → w.place ≠ .offered b) → ∀ w, t.task n = some w → w.place ≠ .offered b

theorem State.Spares.refl (b : Nat) (s : State) : State.Spares b s s := ⟨rfl, rfl, fun _ h => h⟩

theorem State.Spares.trans {b : Nat} {s t u : State} (h : State.Spares b s t) (h' : State.Spares b t u) : State.Spares b s u :=
  ⟨h'.runner.trans h.runner, h'.links.trans h.links, fun n free => h'.unoffered n (h.unoffered n free)⟩

/-- A change of a task that does not come to be offered to the runner. -/
theorem State.Spares.edit {b : Nat} {s t : State} (h : State.Spares b s t) (n : Nat) {f : Task → Task}
    (free : ∀ w, w.place ≠ .offered b → (f w).place ≠ .offered b)
    (keeps : ∀ w, (f w).ticket = w.ticket := by exact fun _ => rfl) : State.Spares b s (t.modifyTask n f) := by
  refine ⟨h.runner, h.links, fun m out w found => ?_⟩
  rw [t.task_edit n m f keeps] at found
  obtain ⟨v, own, eq⟩ := Option.map_eq_some_iff.mp found
  have place := h.unoffered m out v own
  rw [← eq]
  split
  exacts [free v place, place]

theorem State.Spares.setRunner {b : Nat} {s t : State} (h : State.Spares b s t) {b' : Nat} (other : b' ≠ b) (r : Runner) :
    State.Spares b s (t.setRunner b' r) :=
  ⟨(State.runner_setRunner_ne _ _ _ _ other).trans h.runner, h.links, h.unoffered⟩

/-- A pairing spares a runner to whom nothing may be offered. -/
theorem State.pairTask_spares {s : State} {b : Nat} (out : s.offerable b = false) (n : Nat) : State.Spares b s (s.pairTask n) := by
  have emptied (c : Prop) [Decidable c] :
      State.Spares b s (if c then s.modifyTask n fun t => { t with declined := [] } else s) := by
    split
    exacts [(State.Spares.refl b s).edit n fun _ h => h, State.Spares.refl b s]
  unfold State.pairTask
  split
  · split
    · exact State.Spares.refl b s
    · dsimp only
      split
      · exact emptied _
      next b' chosen =>
        have offerable : s.offerable b' = true := by
          have both := ((Bool.and_eq_true _ _).mp (List.mem_filter.mp (firstBy_mem chosen)).2).1
          revert both
          split <;> exact id
        have other : b' ≠ b := fun same => by rw [same, out] at offerable; simp at offerable
        refine State.Spares.setRunner (State.Spares.edit (emptied _) _ fun w _ same => ?_) other _
        exact other (TaskPlace.offered.inj same)
  · exact State.Spares.refl b s

/-- A runner of an absent base may be offered nothing. -/
theorem State.offerable_absent {s : State} {a b : Nat} (base : (s.runner b).base = some a)
    (absent : (s.station a).presence = .absent) : s.offerable b = false := by
  simp [State.offerable, State.baseAbsent, base, absent]

theorem State.station_links {s t : State} (same : t.links = s.links) (a : Nat) : t.station a = s.station a := by
  simp only [State.station, same]

theorem State.pair_spares {s : State} {a b : Nat} (base : (s.runner b).base = some a)
    (absent : (s.station a).presence = .absent) : State.Spares b s s.pair := by
  refine forEach_keeps (State.Spares b s) _ _ s (fun n t spared => spared.trans (State.pairTask_spares ?_ n)) (State.Spares.refl b s)
  exact State.offerable_absent (by rw [spared.runner, base]) (by rw [State.station_links spared.links, absent])

/-- An expiry spares a runner of an absent base other than the one whose offer expires. -/
theorem State.expireOffer_spares {s : State} {a b b' : Nat} (base : (s.runner b).base = some a)
    (absent : (s.station a).presence = .absent) (other : b' ≠ b ∨ (s.runner b).state ≠ .offered) :
    State.Spares b s (s.expireOffer b') := by
  unfold State.expireOffer
  split
  next offered =>
    have ne : b' ≠ b := other.elim id fun out same => out (same ▸ offered)
    have returned : State.Spares b s (s.returnOffer b') := by
      unfold State.returnOffer
      split
      exacts [State.Spares.refl b s, (State.Spares.refl b s).edit _ fun _ _ => by simp]
    have ended : State.Spares b s ((s.endOffer b' .silent).raise .runnerSilent b') :=
      { returned.setRunner ne _ with }
    exact ended.trans (State.pair_spares (by rw [ended.runner, base]) (by rw [State.station_links ended.links, absent]))
  · exact State.Spares.refl b s

theorem State.expireOffers_spare {a b : Nat} (bs : List Nat) {s : State} (base : (s.runner b).base = some a)
    (absent : (s.station a).presence = .absent) (other : b ∉ bs ∨ (s.runner b).state ≠ .offered) :
    State.Spares b s (forEach bs (fun b s => s.expireOffer b) s) := by
  induction bs generalizing s with
  | nil => exact State.Spares.refl b s
  | cons b' bs ih =>
    have first : State.Spares b s (s.expireOffer b') := State.expireOffer_spares base absent
      (other.imp_left fun out same => out (by simp [same]))
    refine first.trans (ih (by rw [first.runner, base]) (by rw [State.station_links first.links, absent]) ?_)
    rw [first.runner]
    exact other.imp_left fun out mem => out (by simp [mem])

/-- The offer to a runner of an absent base expires. -/
theorem State.expireOffer_expires {s : State} {a b n : Nat} {kind : TaskKind} (low : 1 ≤ b) (high : b ≤ 32)
    (base : (s.runner b).base = some a) (absent : (s.station a).presence = .absent) (offered : (s.runner b).state = .offered)
    (task : (s.runner b).task = some (n, kind)) :
    (s.expireOffer b).runner b = { s.runner b with
      state := .silent, task := none, offerBy := none, owed := some (.withdraw n) } ∧
    (s.expireOffer b).links = s.links ∧ (s.expireOffer b).events.waiting = s.events.waiting ++ [⟨.runnerSilent, b⟩] ∧
    ∀ w, (s.expireOffer b).task n = some w → w.place ≠ .offered b := by
  have runner : (s.endOffer b .silent).runner b = { s.runner b with
      state := .silent, task := none, offerBy := none, owed := some (.withdraw n) } := by
    simp only [State.endOffer, task]
    exact State.runner_setRunner_same _ _ _ low high
  have links : (s.endOffer b .silent).links = s.links := by simp only [State.endOffer_frame]
  have returned (w : Task) (found : (s.endOffer b .silent).task n = some w) : w.place ≠ .offered b := by
    have edited : (s.modifyTask n fun t => { t with place := .queued }).task n = some w := by
      simp only [State.endOffer, State.returnOffer, task] at found
      exact found
    rw [s.task_edit n n fun t => { t with place := .queued }] at edited
    obtain ⟨v, -, rfl⟩ := Option.map_eq_some_iff.mp edited
    simp
  have eq : s.expireOffer b = ((s.endOffer b .silent).raise .runnerSilent b).pair := if_pos offered
  have spared : State.Spares b ((s.endOffer b .silent).raise .runnerSilent b) (s.expireOffer b) := by
    rw [eq]
    exact State.pair_spares (by show ((s.endOffer b .silent).runner b).base = _; rw [runner]; exact base)
      ((congrArg Station.presence (State.station_links links a)).trans absent)
  refine ⟨spared.runner.trans runner, spared.links.trans links, ?_, spared.unoffered n returned⟩
  rw [eq, (State.pair_frame _).2.2.2.2.2.2.2.2.2.1]
  simp only [State.raise, State.endOffer_frame]

/-- The base is lost: a runner of it to whom a task was offered is SILENT, the task offered to him no more, and any other
runner of it is as he was. -/
theorem State.baseLost_result {s : State} {a b : Nat} (low : 1 ≤ b) (high : b ≤ 32) (base : (s.runner b).base = some a)
    (absent : (s.station a).presence = .absent) :
    (∀ n kind, (s.runner b).state = .offered → (s.runner b).task = some (n, kind) →
      (s.baseLost a).runner b = { s.runner b with
        state := .silent, task := none, offerBy := none, owed := some (.withdraw n) } ∧
      (∃ before after, (s.baseLost a).events.waiting = s.events.waiting ++ before ++ ⟨.runnerSilent, b⟩ :: after) ∧
      ∀ w, (s.baseLost a).task n = some w → w.place ≠ .offered b) ∧
    ((s.runner b).state ≠ .offered → (s.baseLost a).runner b = s.runner b) := by
  refine ⟨fun n kind offered task => ?_, fun out => (State.expireOffers_spare _ base absent (.inr out)).runner⟩
  have mem : b ∈ badges.filter fun b => (s.runner b).base == some a :=
    List.mem_filter.mpr ⟨mem_badges.mpr ⟨low, high⟩, by simp [base]⟩
  obtain ⟨before, after, split, out⟩ := List.eq_append_cons_of_mem mem
  have eq : s.baseLost a = forEach after (fun b s => s.expireOffer b)
      ((forEach before (fun b s => s.expireOffer b) s).expireOffer b) := by
    simp only [State.baseLost, split, forEach, List.foldl_append, List.foldl_cons]
  have hand (bs : List Nat) (u : State) : u.HandedFrom (forEach bs (fun b s => s.expireOffer b) u) :=
    forEach_keeps u.HandedFrom bs _ u (fun b _ => (handedFrom_handKeeps u).expireOffer b) (State.HandedFrom.refl u)
  have first := State.expireOffers_spare before base absent (.inl out)
  obtain ⟨x, waiting, -⟩ := (hand before s).events
  rw [eq]
  generalize forEach before (fun b s => s.expireOffer b) s = u at first waiting
  obtain ⟨runner, links, told, returned⟩ := State.expireOffer_expires (s := u) low high (by rw [first.runner, base])
    (by rw [State.station_links first.links, absent]) (by rw [first.runner, offered]) (by rw [first.runner, task])
  have last := State.expireOffers_spare (b := b) (a := a) after (s := u.expireOffer b) (by rw [runner]; exact first.runner ▸ base)
    (by rw [State.station_links links, State.station_links first.links, absent]) (.inr (by rw [runner]; simp))
  obtain ⟨y, waiting', -⟩ := (hand after (u.expireOffer b)).events
  refine ⟨last.runner.trans (by rw [runner, first.runner]), ⟨x, y, ?_⟩, last.unoffered n returned⟩
  rw [waiting', told, waiting]
  simp

/-! ### A station of a lift lost (R115) -/

theorem State.anyStation_iff (s : State) {f : Station → Bool} :
    s.links.stations.toList.any f = true ↔ ∃ b, 1 ≤ b ∧ b ≤ 60 ∧ f (s.station b) = true := by
  rw [any_toList_iff Station.cold]
  constructor
  · rintro ⟨i, low, holds⟩
    simp only [Config.stationCount] at low
    exact ⟨i + 1, by omega, by omega, holds⟩
  · rintro ⟨b, low, high, holds⟩
    obtain ⟨i, rfl⟩ : ∃ i, b = i + 1 := ⟨b - 1, by omega⟩
    exact ⟨i, high, holds⟩

/-- Every station that serves the lift is ABSENT. -/
def State.AllLost (s : State) (l : Nat) : Prop :=
  ∀ b, 1 ≤ b → b ≤ 60 → (s.station b).cls = .lift → (s.station b).served = some (.lift l) → (s.station b).presence = .absent

theorem State.allLost_iff (s : State) (l : Nat) :
    (s.links.stations.toList.all fun r => !r.servesLift l || r.presence == .absent) = true ↔ s.AllLost l := by
  have dual : (s.links.stations.toList.all fun r => !r.servesLift l || r.presence == .absent) =
      !s.links.stations.toList.any fun r => r.servesLift l && r.presence != .absent := by
    rw [List.not_any_eq_all_not]
    exact congrArg _ (funext fun r => by cases r.servesLift l <;> cases h : r.presence == .absent <;> simp [bne, h])
  rw [dual, Bool.not_eq_true', Bool.eq_false_iff, Ne, s.anyStation_iff]
  simp only [State.AllLost, Bool.and_eq_true, Station.servesLift_iff, bne_iff_ne, not_exists, not_and, not_not]
  exact ⟨fun h b low high cls served => h b low high ⟨cls, served⟩, fun h b low high both => h b low high both.1 both.2⟩

theorem State.liftStationAbsent_stays {s : State} {l b : Nat} (low : 1 ≤ b) (high : b ≤ 60) (cls : (s.station b).cls = .lift)
    (served : (s.station b).served = some (.lift l)) (there : (s.station b).presence ≠ .absent) : s.liftStationAbsent l = s :=
  if_neg fun all => there ((s.allLost_iff l).mp all b low high cls served)

/-- The marks of the orders stay through the placing of cars. -/
theorem ordersClear_placeKeeps (l : Nat) :
    PlaceKeeps fun t : State => ∀ b, (t.station b).servesLift l = true → (t.station b).orderMark = false where
  dispatch _ hs := hs
  board _ hs := hs
  raised _ _ _ hs := hs
  marks {s} f same order hs b serves := by
    by_cases inside : 1 ≤ b ∧ b ≤ 60
    · rw [s.station_mapStations f b inside.1 inside.2] at serves ⊢
      obtain ⟨-, cls, -, served, -⟩ := same (s.station b)
      rw [(order _).1]
      exact hs b (by rwa [Station.servesLift, cls, served] at serves)
    · rw [State.station_outside inside]
      rfl
  putStall {s} k r _ hs := State.putStall_of_writes
    (P := fun t : State => ∀ b, (t.station b).servesLift l = true → (t.station b).orderMark = false)
    (fun _ hs => hs) (fun _ hs => hs) (fun {s} hs b serves => by
      by_cases inside : 1 ≤ b ∧ b ≤ 60
      · rw [State.oweVacancy, State.station_mapStations _ _ b inside.1 inside.2] at serves ⊢
        have stays : (s.station b).servesLift l = true := by
          revert serves
          split <;> exact id
        split <;> exact hs b stays
      · rw [State.station_outside inside]
        rfl) k r hs
  tickets _ _ hs := hs
  unplaced _ _ hs := hs

/-- A lift that is lost, ABSENT or in FAULT, before the cars bound to its stalls are placed anew. -/
def State.lostLift (s : State) (l : Nat) (x : LiftState) : State :=
  ((s.setLift l { s.lift l with state := x }).clearOrder l).raise .liftFault l

theorem State.liftLost_eq (s : State) (l : Nat) (x : LiftState) :
    s.liftLost l x = if s.serviceable l = true then (s.lostLift l x).replaceAll (some l) else s.lostLift l x := rfl

theorem State.lostLift_lift {s : State} {l : Nat} (low : 1 ≤ l) (high : l ≤ 4) (x : LiftState) :
    (s.lostLift l x).lift l = { s.lift l with state := x, orderOwed := false } := by
  have set : (s.setLift l { s.lift l with state := x }).lift l = { s.lift l with state := x } :=
    State.lift_setLift_same _ _ _ low high
  exact (nth1_setNth1_same _ l _ Lift.cold low high).trans (by rw [set])

/-- A lift that is lost: its order and the marks of its stations cleared, its tenures as they stand. -/
theorem State.liftLost_result {s : State} {l : Nat} (low : 1 ≤ l) (high : l ≤ 4) (x : LiftState) :
    (s.liftLost l x).lift l = { s.lift l with state := x, orderOwed := false } ∧
    (∃ more, (s.liftLost l x).events.waiting = s.events.waiting ++ ⟨.liftFault, l⟩ :: more) ∧
    ∀ b, ((s.liftLost l x).station b).servesLift l = true → ((s.liftLost l x).station b).orderMark = false := by
  have lift := s.lostLift_lift low high x
  have waiting : (s.lostLift l x).events.waiting = s.events.waiting ++ [⟨.liftFault, l⟩] := rfl
  have clear (b : Nat) (serves : ((s.lostLift l x).station b).servesLift l = true) :
      ((s.lostLift l x).station b).orderMark = false := by
    have station : (s.lostLift l x).station b = _ := State.clearOrder_station _ l b
    rw [station] at serves ⊢
    split
    · rfl
    next not => rw [if_neg not] at serves; exact absurd serves not
  rw [s.liftLost_eq]
  generalize s.lostLift l x = lost at *
  split
  · obtain ⟨more, told, -⟩ := ((handedFrom_handKeeps lost).replaceAll (some l) (State.HandedFrom.refl lost)).events
    refine ⟨?_, ⟨more, by rw [told, waiting]; simp⟩, (ordersClear_placeKeeps l).replaceAll (some l) clear⟩
    rw [← lift, State.lift, State.lift, (State.replaceAll_frame lost (some l)).2.2.2.1]
  · exact ⟨lift, ⟨[], waiting⟩, clear⟩

/-- A lift all of whose stations are ABSENT is ABSENT, its order and the marks of its stations cleared. -/
theorem State.liftStationAbsent_result {s : State} {l : Nat} (low : 1 ≤ l) (high : l ≤ 4) (all : s.AllLost l) :
    (s.liftStationAbsent l).lift l = { s.lift l with state := .absent, orderOwed := false } ∧
    (∃ more, (s.liftStationAbsent l).events.waiting = s.events.waiting ++ ⟨.liftFault, l⟩ :: more) ∧
    ∀ b, ((s.liftStationAbsent l).station b).servesLift l = true → ((s.liftStationAbsent l).station b).orderMark = false := by
  rw [show s.liftStationAbsent l = s.liftLost l .absent from if_pos ((s.allLost_iff l).mpr all)]
  exact State.liftLost_result low high .absent

/-! ### A lane loop lost (R123) -/

theorem State.serveLanes_lane (fuel : Nat) {s : State} {n : Nat} (taken : (s.lane n).state ≠ .free) :
    (s.serveLanes fuel).lane n = s.lane n := by
  induction fuel generalizing s with
  | zero => rfl
  | succ fuel ih =>
    unfold State.serveLanes
    split
    · rfl
    next t oldest =>
      split
      · rfl
      next lane found =>
        have other : lane ≠ n := fun same => taken (same ▸ (State.mem_freeLanes.mp (State.laneFor_mem found)).2.2)
        have before : (s.reserveLane lane t).lane n = s.lane n :=
          (State.lane_congr (s.reserveLane_arbiter lane t) _).trans (State.lane_setLane_ne _ _ _ _ other)
        exact (ih (by rwa [before])).trans before

/-- A lane that is not FREE stays as it is through a lane grant check. -/
theorem State.laneGrantCheck_lane {s : State} {n : Nat} (taken : (s.lane n).state ≠ .free) : s.laneGrantCheck.lane n = s.lane n :=
  State.serveLanes_lane _ taken

theorem State.loseLane_frame (s : State) (n : Nat) : (s.loseLane n).arbiter = s.arbiter ∧ (s.loseLane n).params = s.params := by
  unfold State.loseLane
  split
  · dsimp only
    split <;> simp [State.moveTicket_frame]
  · simp

theorem State.laneAbsent_lane (s : State) {n : Nat} (low : 1 ≤ n) (high : n ≤ 6) :
    (s.laneAbsent n).lane n = { state := .out, ticket := none, turnbackHold := false, clearingBy := none } := by
  have set : ((s.loseLane n).setLane n { state := .out, ticket := none, turnbackHold := false, clearingBy := none }).lane n =
      { state := .out, ticket := none, turnbackHold := false, clearingBy := none } := State.lane_setLane_same _ _ _ low high
  exact (State.laneGrantCheck_lane (by rw [set]; simp)).trans set

/-- The ticket as the loss of its lane leaves it. -/
def Ticket.laneLost (c : Ticket) : Ticket :=
  if c.state = .toCurb then { c with state := .staged, verify := false, lane := none } else { c with lane := none }

theorem State.loseLane_ticket {s : State} {n : Nat} {c : Ticket} (reserved : (s.lane n).state = .reserved)
    (holds : (s.lane n).ticket = some c.number) (found : s.ticket c.number = some c) :
    (s.loseLane n).ticket c.number = some c.laneLost := by
  unfold State.loseLane Ticket.laneLost
  simp only [reserved, holds, Option.bind_some, found]
  split
  next toCurb =>
    have moved : (s.moveTicket c.number .staged).ticket c.number = some (c.enter .staged s.now) := by
      rw [State.ticket_moveTicket_same, found, Option.map_some]
    exact State.ticket_edit_same moved fun t => { t with lane := none }
  · exact State.ticket_edit_same found fun t => { t with lane := none }

/-- The ticket of a lane that is lost, when no lane is FREE for it. -/
theorem State.laneAbsent_ticket {s : State} {n : Nat} (low : 1 ≤ n) (high : n ≤ 6) {c : Ticket}
    (reserved : (s.lane n).state = .reserved) (holds : (s.lane n).ticket = some c.number)
    (found : s.ticket c.number = some c) (none_ : s.freeLanes = []) :
    (s.laneAbsent n).ticket c.number = some c.laneLost := by
  obtain ⟨arbiter, params⟩ := s.loseLane_frame n
  let out := (s.loseLane n).setLane n { state := .out, ticket := none, turnbackHold := false, clearingBy := none }
  have none' : out.freeLanes = [] := List.eq_nil_iff_forall_not_mem.mpr fun m mem => by
    obtain ⟨inside, configured, free⟩ := State.mem_freeLanes.mp mem
    by_cases same : n = m
    · subst same
      have set : out.lane n = _ := State.lane_setLane_same _ _ _ low high
      rw [set] at free
      cases free
    · have lane : out.lane m = s.lane m :=
        (State.lane_setLane_ne _ _ _ _ same).trans (State.lane_congr arbiter m)
      have flag : s.laneConfigured m = true := by
        have eq : out.laneConfigured m = s.laneConfigured m := by
          show (s.loseLane n).laneConfigured m = _
          simp only [State.laneConfigured, params]
        rwa [← eq]
      rw [lane] at free
      exact List.ne_nil_of_mem (State.mem_freeLanes.mpr ⟨inside, flag, free⟩) none_
  have eq : s.laneAbsent n = out := State.laneGrantCheck_idle (.inl none')
  rw [eq]
  exact State.loseLane_ticket reserved holds found

/-! ### The hand-on by class (R156) -/

/-- The state in which the absence of station `a` is handed on: but for that station's presence, the events and the ports it
is the state before. -/
structure State.GoneFrom (s : State) (a : Nat) (u : State) : Prop where
  stalls : u.stalls = s.stalls
  tickets : u.tickets = s.tickets
  dispatch : u.dispatch = s.dispatch
  arbiter : u.arbiter = s.arbiter
  params : u.params = s.params
  gone : (u.station a).presence = .absent
  others : ∀ b, b ≠ a → (u.station b).cls = (s.station b).cls ∧ (u.station b).served = (s.station b).served ∧
    (u.station b).presence = (s.station b).presence

/-- What the absence of a station of a class is handed on as, from `s` to `t` with the events `more`. -/
structure State.AbsenceHanded (s : State) (a : Nat) (cls : StationClass) (served : Option Served) (t : State)
    (more : List Event) : Prop where
  hub : ∀ first last, cls = .sensorHub → served = some (.stalls first last) →
    (∀ k, first ≤ k → k ≤ last → t.stall k = { s.stall k with sensed := .unknown, pending := none }) ∧
    (∀ k, (k < first ∨ last < k) → t.stall k = s.stall k) ∧ t.stalls.free = s.stalls.free ∧
    t.tickets = s.tickets ∧ t.dispatch = s.dispatch ∧ t.arbiter = s.arbiter ∧ more = []
  base : ∀ b, cls = .runnerBase → 1 ≤ b → b ≤ 32 → (s.runner b).base = some a →
    (∀ n kind, (s.runner b).state = .offered → (s.runner b).task = some (n, kind) →
      t.runner b = { s.runner b with state := .silent, task := none, offerBy := none, owed := some (.withdraw n) } ∧
      ⟨.runnerSilent, b⟩ ∈ more ∧ ∀ w, t.task n = some w → w.place ≠ .offered b) ∧
    ((s.runner b).state ≠ .offered → t.runner b = s.runner b)
  lift : ∀ l, cls = .lift → served = some (.lift l) → 1 ≤ l → l ≤ 4 →
    ((∀ b, 1 ≤ b → b ≤ 60 → b ≠ a → (s.station b).cls = .lift → (s.station b).served = some (.lift l) →
        (s.station b).presence = .absent) →
      t.lift l = { s.lift l with state := .absent, orderOwed := false } ∧ ⟨.liftFault, l⟩ ∈ more ∧
      ∀ b, (t.station b).servesLift l = true → (t.station b).orderMark = false) ∧
    (∀ b, 1 ≤ b → b ≤ 60 → b ≠ a → (s.station b).cls = .lift → (s.station b).served = some (.lift l) →
        (s.station b).presence ≠ .absent →
      t.arbiter = s.arbiter ∧ t.tickets = s.tickets ∧ t.stalls = s.stalls ∧ more = [])
  lane : ∀ n, cls = .laneLoop → served = some (.lane n) → 1 ≤ n → n ≤ 6 →
    t.lane n = { state := .out, ticket := none, turnbackHold := false, clearingBy := none } ∧
    (∀ c, (s.lane n).state = .reserved → (s.lane n).ticket = some c.number → s.ticket c.number = some c →
      s.freeLanes = [] → t.ticket c.number = some (if c.state = .toCurb then
        { c with state := .staged, verify := false, lane := none } else { c with lane := none }))

theorem State.handAbsence_base (s : State) (a : Nat) (served : Option Served) :
    s.handAbsence a .runnerBase served = s.baseLost a := by
  cases served with
  | none => rfl
  | some x => cases x <;> rfl

/-- The absence of a station is handed on by its class. -/
theorem State.GoneFrom.handed {s u : State} {a : Nat} (h : s.GoneFrom a u) (cls : StationClass) (served : Option Served) :
    ∃ more, (u.handAbsence a cls served).events.waiting = u.events.waiting ++ more ∧
      (∀ e ∈ more, e.source ≠ .stationAbsent) ∧ s.AbsenceHanded a cls served (u.handAbsence a cls served) more := by
  obtain ⟨more, waiting, none⟩ := ((handedFrom_handKeeps u).handAbsence a cls served (State.HandedFrom.refl u)).events
  have told {x : List Event} (eq : (u.handAbsence a cls served).events.waiting = u.events.waiting ++ x) : more = x :=
    List.append_cancel_left (waiting.symm.trans eq)
  refine ⟨more, waiting, none, ?_, ?_, ?_, ?_⟩
  · rintro first last rfl rfl
    obtain ⟨records, eq, inside, outside⟩ := u.hubAbsent_result first last
    have stall (k : Nat) : u.stall k = s.stall k := by simp only [State.stall, h.stalls]
    have eq : u.handAbsence a .sensorHub (some (.stalls first last)) = { u with stalls.records := records } := eq
    rw [eq] at told ⊢
    exact ⟨fun k low high => (inside k low high).trans (by rw [stall]; rfl), fun k out => (outside k out).trans (stall k),
      by rw [← h.stalls], h.tickets, h.dispatch, h.arbiter, told (by simp)⟩
  · rintro b rfl low high base
    have runner : u.runner b = s.runner b := State.runner_congr h.dispatch b
    rw [u.handAbsence_base a served] at told ⊢
    have result := State.baseLost_result (s := u) low high (by rwa [runner]) h.gone
    rw [runner] at result
    refine ⟨fun n kind offered task => ?_, result.2⟩
    obtain ⟨silent, ⟨x, y, events⟩, free⟩ := result.1 n kind offered task
    exact ⟨silent, by rw [told (x := x ++ ⟨.runnerSilent, b⟩ :: y) (by rw [events, List.append_assoc])]; simp, free⟩
  · rintro l rfl rfl low high
    have eq : u.handAbsence a .lift (some (.lift l)) = u.liftStationAbsent l := rfl
    rw [eq] at told ⊢
    have lift : u.lift l = s.lift l := by simp only [State.lift, h.arbiter]
    refine ⟨fun all => ?_, fun b low' high' other isLift serves there => ?_⟩
    · have lost : u.AllLost l := fun b low high isLift serves => by
        by_cases own : b = a
        · rw [own, h.gone]
        · obtain ⟨cls, served, presence⟩ := h.others b own
          exact presence.trans (all b low high own (cls ▸ isLift) (served ▸ serves))
      obtain ⟨record, ⟨x, events⟩, clear⟩ := State.liftStationAbsent_result low high lost
      exact ⟨record.trans (by rw [lift]), by rw [told events]; simp, clear⟩
    · obtain ⟨cls, served, presence⟩ := h.others b other
      rw [← cls] at isLift
      rw [← served] at serves
      rw [← presence] at there
      rw [State.liftStationAbsent_stays low' high' isLift serves there] at told ⊢
      exact ⟨h.arbiter, h.tickets, h.stalls, told (by simp)⟩
  · rintro n rfl rfl low high
    have eq : u.handAbsence a .laneLoop (some (.lane n)) = u.laneAbsent n := rfl
    rw [eq]
    have lane : u.lane n = s.lane n := State.lane_congr h.arbiter n
    refine ⟨u.laneAbsent_lane low high, fun c reserved holds found free => ?_⟩
    exact State.laneAbsent_ticket low high (by rwa [lane]) (by rwa [lane]) (by rwa [State.ticket, h.tickets])
      (by rwa [State.freeLanes_congr h.arbiter h.params])

/-! ### Misses (R154, R155) -/

theorem State.missOn_window {s : State} {p : Port} {a : Nat} (window : (s.port p).phase = .window a) :
    s.missOn p = (s.endExchange p).miss a := by
  rw [State.missOn, window]

theorem State.miss_counts {s : State} {a : Nat} (few : (s.station a).silent < 2) :
    s.miss a = s.setStation a { s.station a with silent := (s.station a).silent + 1 } := by
  have count : min 3 ((s.station a).silent + 1) = (s.station a).silent + 1 := by omega
  unfold State.miss
  dsimp only
  rw [count, if_neg (fun third => by omega)]

theorem State.miss_third {s : State} {a : Nat} (many : 2 ≤ (s.station a).silent) (there : (s.station a).presence ≠ .absent) :
    s.miss a = ((s.setStation a { s.station a with presence := .absent, silent := 3 }).raise .stationAbsent a).handAbsence a
      (s.classOf a) (s.station a).served := by
  have count : min 3 ((s.station a).silent + 1) = 3 := by omega
  unfold State.miss
  dsimp only
  rw [count, if_pos ⟨rfl, there⟩]

theorem State.station_endExchange (s : State) (p : Port) (a : Nat) : (s.endExchange p).station a = s.station a := by
  cases p <;> rfl

theorem exec_pollTimeout {s : State} (on : s.power.main = true) (p : Port) : exec (.pollTimeout p) s = .next (s.missOn p) :=
  next_powered on _

theorem exec_badAnswer {s : State} {p : Port} {rx : Received} (discarded : judge rx = .discarded) :
    exec (.badAnswer p rx) s = exec (.pollTimeout p) s := by
  show execBadAnswer p rx s = execPollTimeout p s
  simp only [execBadAnswer, execPollTimeout, State.takeBadAnswer, discarded]

/-- Settles O14: a miss that makes the station ABSENT hands its absence on by `State.GoneFrom.handed`. -/
theorem missesMakeAStationAbsent : Obligations.MissesMakeAStationAbsent := by
  refine ⟨fun s p a rx on window low high few discarded => ⟨?_, exec_badAnswer discarded⟩,
    fun s p a rx on window low high many there discarded => ?_⟩
  · rw [exec_pollTimeout on, State.missOn_window window, State.miss_counts (by rwa [s.station_endExchange]),
      s.station_endExchange]
    rfl
  · let r := s.endExchange p
    let u := (r.setStation a { s.station a with presence := .absent, silent := 3 }).raise .stationAbsent a
    have same : s.missOn p = u.handAbsence a (s.classOf a) (s.station a).served := by
      rw [State.missOn_window window, State.miss_third (by rwa [s.station_endExchange]) (by rwa [s.station_endExchange]),
        s.station_endExchange]
      cases p <;> rfl
    have own : u.station a = { s.station a with presence := .absent, silent := 3 } :=
      State.station_setStation_same _ _ _ low high
    have leaves : s.GoneFrom a u := by
      refine ⟨?_, ?_, ?_, ?_, ?_, by rw [own], fun b other => ?_⟩
      case refine_6 =>
        have same : u.station b = s.station b :=
          (State.station_setStation_ne _ _ _ _ (Ne.symm other)).trans (s.station_endExchange p b)
        rw [same]
        exact ⟨rfl, rfl, rfl⟩
      all_goals cases p <;> rfl
    obtain ⟨more, events, -, handed⟩ := leaves.handed (s.classOf a) (s.station a).served
    have kept := (handedFrom_handKeeps u).handAbsence a (s.classOf a) (s.station a).served (State.HandedFrom.refl u)
    have rest := (keepsRest_workKeeps r).miss a (State.KeepsRest.refl r)
    have missed : r.miss a = u.handAbsence a (s.classOf a) (s.station a).served := (State.missOn_window window).symm.trans same
    rw [missed] at rest
    have waiting : u.events.waiting = s.events.waiting ++ [⟨.stationAbsent, a⟩] := by cases p <;> rfl
    have presence := kept.presence a
    have silent := kept.silent a
    have next : exec (.pollTimeout p) s = .next (u.handAbsence a (s.classOf a) (s.station a).served) :=
      (exec_pollTimeout on p).trans (next_congr same)
    have phase : (r.port p).phase = .opportunity := congrArg PortState.phase (State.port_setPort_same _ _ _)
    rw [own] at presence silent
    generalize u.handAbsence a (s.classOf a) (s.station a).served = t at *
    refine ⟨t, more, next, (exec_badAnswer discarded).trans next, (s.endExchange_keepsSetup p).trans rest.setup,
      by rw [rest.port, phase], presence, silent, by rw [events, waiting]; simp, handed.hub, handed.base,
      fun l cls served low high => ?_, handed.lane⟩
    obtain ⟨lost, stays⟩ := handed.lift l cls served low high
    exact ⟨fun all => ⟨(lost all).1, (lost all).2.1⟩, stays⟩

end Sys2Proof.Machine
end

section
/-! PROOFS of O47: LOAD_STATION, which makes a station leave its record. -/

namespace Sys2Proof.Machine

open Sys2Proof

/-! ### Records of stations -/

/-- The records agree but for the marks and replies other than the order marker. -/
structure Station.Agrees (r x : Station) : Prop where
  segment : r.segment = x.segment
  cls : r.cls = x.cls
  permissions : r.permissions = x.permissions
  served : r.served = x.served
  presence : r.presence = x.presence
  silent : r.silent = x.silent
  orderMark : r.orderMark = x.orderMark

theorem Station.Agrees.refl (r : Station) : r.Agrees r := ⟨rfl, rfl, rfl, rfl, rfl, rfl, rfl⟩

theorem Station.Agrees.servesLift {r x : Station} (h : r.Agrees x) (l : Nat) : r.servesLift l = x.servesLift l := by
  rw [Station.servesLift, Station.servesLift, h.cls, h.served]

/-- A reply owed to a desk changes no station's record. -/
theorem State.oweManage_station (s : State) (a : Nat) (treated : Bool) (code : ManageCode) (o : Answer) (r : ManageRecord)
    (l : Option (Option LatchContent)) (b : Nat) : ((s.oweManage a treated code o r l).station b).Agrees (s.station b) := by
  by_cases same : a = b
  · subst same
    by_cases inside : 1 ≤ a ∧ a ≤ 60
    · rw [State.oweManage, State.station_setStation_same _ _ _ inside.1 inside.2]
      exact ⟨rfl, rfl, rfl, rfl, rfl, rfl, rfl⟩
    · rw [State.station_outside inside, State.station_outside inside]
      exact .refl _
  · rw [State.oweManage, State.station_setStation_ne _ _ _ _ same]
    exact .refl _

/-- Of a station's record the taking of a frame changes the silent count alone. -/
theorem State.Hears.record_heard {s : State} {f : From} (h : s.Hears f) (b : Nat) :
    (s.heard f).station b = { s.station b with silent := ((s.heard f).station b).silent } := by
  by_cases same : f.source = b
  · subst same
    rw [h.station_heard]
  · have other : (s.heard f).station b = s.station b :=
      (State.station_setStation_ne _ _ _ _ same).trans (by cases f.port <;> rfl)
    rw [other]

/-! ### The orders settled (R161) -/

/-- The order owed of a lift as the markers of its stations say. -/
def State.owes (s : State) (l : Nat) : Bool := s.links.stations.toList.any fun r => r.servesLift l && r.orderMark

theorem State.settleOrders_result (ls : List Nat) (s : State) :
    ∃ lifts, forEach ls (fun l s => s.settleOrder l) s = { s with arbiter.lifts := lifts } ∧
      (∀ l, nth1 lifts l Lift.cold = { s.lift l with orderOwed := (nth1 lifts l Lift.cold).orderOwed }) ∧
      ∀ l, 1 ≤ l → l ≤ 4 → l ∈ ls ∨ (s.lift l).orderOwed = s.owes l → (nth1 lifts l Lift.cold).orderOwed = s.owes l := by
  induction ls generalizing s with
  | nil => exact ⟨s.arbiter.lifts, rfl, fun _ => rfl, fun l _ _ owed => owed.resolve_left (by simp)⟩
  | cons m ls ih =>
    obtain ⟨lifts, made, same, owed⟩ := ih (s.settleOrder m)
    have first (l : Nat) : (s.settleOrder m).lift l = { s.lift l with orderOwed := ((s.settleOrder m).lift l).orderOwed } := by
      by_cases own : m = l
      · subst own
        by_cases inside : 1 ≤ m ∧ m ≤ 4
        · rw [(s.settleOrder_lift m inside.1 inside.2).1]
        · have out (t : State) : t.lift m = Lift.cold := nth1_outside _ _ _ inside
          rw [out, out]
      · have other : (s.settleOrder m).lift l = s.lift l := State.lift_setLift_ne _ _ _ _ own
        rw [other]
    refine ⟨lifts, made, fun l => (same l).trans (by rw [first l]), fun l low high already => owed l low high ?_⟩
    by_cases own : m = l
    · subst own
      exact .inr (by rw [(s.settleOrder_lift m low high).1]; rfl)
    · have other : (s.settleOrder m).lift l = s.lift l := State.lift_setLift_ne _ _ _ _ own
      rw [other]
      exact already.imp_left fun mem => (List.mem_cons.mp mem).resolve_left (Ne.symm own)

theorem mem_liftNumbers {l : Nat} : l ∈ liftNumbers ↔ 1 ≤ l ∧ l ≤ 4 := by
  simp only [liftNumbers, oneTo, List.mem_map, List.mem_range, Config.liftCount]
  constructor
  · rintro ⟨i, inside, rfl⟩
    omega
  · exact fun fits => ⟨l - 1, by omega, by omega⟩

/-- What stands when station `a` has taken the record `r`, the orders are settled and a reply is owed. -/
structure State.Settled (s : State) (a : Nat) (r : Station) (t : State) : Prop where
  rest : s.KeepsRest t
  tickets : t.tickets = s.tickets
  stalls : t.stalls = s.stalls
  events : t.events = s.events
  dispatch : t.dispatch = s.dispatch
  keys : t.keys = s.keys
  calls : t.calls = s.calls
  lanes : t.arbiter.lanes = s.arbiter.lanes
  lift : ∀ l, t.lift l = { s.lift l with orderOwed := (t.lift l).orderOwed }
  owed : ∀ l, 1 ≤ l → l ≤ 4 → ((t.lift l).orderOwed = true ↔ ∃ b, 1 ≤ b ∧ b ≤ 60 ∧ (t.station b).cls = .lift ∧
    (t.station b).served = some (.lift l) ∧ (t.station b).orderMark = true)
  own : (t.station a).Agrees r
  others : ∀ b, b ≠ a → (t.station b).Agrees (s.station b)

theorem State.settled_result {s : State} {a : Nat} {r : Station} (low : 1 ≤ a) (high : a ≤ 60) (c : Nat) (treated : Bool)
    (code : ManageCode) (o : Answer) (record : ManageRecord) (l : Option (Option LatchContent)) :
    s.Settled a r ((forEach liftNumbers (fun l s => s.settleOrder l) (s.setStation a r)).oweManage c treated code o record l) := by
  obtain ⟨lifts, made, same, owed⟩ := State.settleOrders_result liftNumbers (s.setStation a r)
  rw [made]
  let u : State := { s.setStation a r with arbiter.lifts := lifts }
  have agrees := u.oweManage_station c treated code o record l
  constructor
  case rest => constructor <;> rfl
  case lift => exact same
  case owed =>
    intro l low high
    have flag := owed l low high (.inl (mem_liftNumbers.mpr ⟨low, high⟩))
    show (nth1 lifts l Lift.cold).orderOwed = true ↔ _
    rw [flag, State.owes, State.anyStation_iff]
    refine exists_congr fun b => and_congr_right fun _ => and_congr_right fun _ => ?_
    have own := agrees b
    rw [own.cls, own.served, own.orderMark, Bool.and_eq_true, Station.servesLift_iff, and_assoc]
    rfl
  case own =>
    have own : u.station a = r := State.station_setStation_same _ _ _ low high
    have record := agrees a
    rwa [own] at record
  case others =>
    intro b other
    have same : u.station b = s.station b := State.station_setStation_ne _ _ _ _ other.symm
    have record := agrees b
    rwa [same] at record
  all_goals rfl

/-! ### LOAD_STATION (R151) -/

theorem readStation_fits {a : Nat} {seg : Segment} {cls : StationClass} {perm : Permissions} {served : Option Served}
    (low : 1 ≤ a) (high : a ≤ 60) (fits : servedFits cls served = true) (desk : perm.manage = true → cls = .desk ∧ seg = .curb) :
    readStation ⟨a, .value seg, .value cls, .value perm, served⟩ = some (a, ⟨seg, cls, perm, served⟩) := by
  have own : (!perm.manage || (cls == .desk && seg == .curb)) = true := by
    cases h : perm.manage
    · rfl
    · obtain ⟨rfl, rfl⟩ := desk h
      rfl
  exact if_pos (by simpa [low, Config.stationCount, high, fits] using own)

theorem readStation_misfits {a : Nat} {seg : Segment} {cls : StationClass} {perm : Permissions} {served : Option Served}
    (misfits : servedFits cls served = false ∨ perm.manage = true ∧ (cls ≠ .desk ∨ seg ≠ .curb)) :
    readStation ⟨a, .value seg, .value cls, .value perm, served⟩ = none := by
  refine if_neg fun fits => ?_
  simp only [Bool.and_eq_true, Bool.or_eq_true, Bool.not_eq_true', beq_iff_eq] at fits
  obtain ⟨⟨-, served⟩, desk⟩ := fits
  rcases misfits with misfits | ⟨manages, other⟩
  · rw [misfits] at served
    cases served
  · obtain ⟨isDesk, curb⟩ := desk.resolve_left (by simp [manages])
    exact other.elim (· isDesk) (· curb)

/-- The state in which a station that leaves its record has had its absence handed on. -/
def State.leftBehind (s : State) (a : Nat) : State :=
  if (s.station a).presence = .absent then s
  else (s.setStation a { s.station a with presence := .absent }).handAbsence a (s.station a).cls (s.station a).served

/-- A load that moves the station stores it in the state in which its absence is handed on. -/
theorem State.storeStation_moves {s : State} {a : Nat} (low : 1 ≤ a) (high : a ≤ 60) {x : StationSetup}
    (moves : (s.station a).moves x = true) : s.storeStation a x =
      forEach liftNumbers (fun l s => s.settleOrder l) ((s.leftBehind a).setStation a
        (Station.store { (s.leftBehind a).station a with presence := .unknown, silent := 0 } x)) := by
  have own := State.station_setStation_same (s.leftBehind a) a
    { (s.leftBehind a).station a with presence := .unknown, silent := 0 } low high
  have twice (r r' : Station) : ((s.leftBehind a).setStation a r).setStation a r' = (s.leftBehind a).setStation a r' := by
    simp only [State.setStation, setNth1_setNth1]
  have leave : s.leaveRecord a = (s.leftBehind a).setStation a
      { (s.leftBehind a).station a with presence := .unknown, silent := 0 } := rfl
  simp only [State.storeStation, moves, if_true]
  rw [leave, own, twice]

theorem State.storeStation_stays {s : State} {a : Nat} {x : StationSetup} (stays : (s.station a).moves x = false) :
    s.storeStation a x =
      forEach liftNumbers (fun l s => s.settleOrder l) (s.setStation a ((s.station a).store x)) := by
  simp [State.storeStation, stays]

theorem Station.moves_iff (r : Station) (x : StationSetup) :
    r.moves x = true ↔ r.segment ≠ x.segment ∨ r.cls ≠ x.cls ∨ r.served ≠ x.served := by
  simp [Station.moves, or_assoc]

/-- Every station but the one that leaves keeps its record, and that one all but its presence. -/
theorem State.leftBehind_records {s : State} {a : Nat} (low : 1 ≤ a) (high : a ≤ 60) (b : Nat) :
    ((s.leftBehind a).station b).segment = (s.station b).segment ∧ ((s.leftBehind a).station b).cls = (s.station b).cls ∧
    ((s.leftBehind a).station b).permissions = (s.station b).permissions ∧
    ((s.leftBehind a).station b).served = (s.station b).served ∧
    (b ≠ a → ((s.leftBehind a).station b).presence = (s.station b).presence) := by
  unfold State.leftBehind
  split
  · exact ⟨rfl, rfl, rfl, rfl, fun _ => rfl⟩
  · let u := s.setStation a { s.station a with presence := .absent }
    have kept := (handedFrom_handKeeps u).handAbsence a (s.station a).cls (s.station a).served (State.HandedFrom.refl u)
    have station : u.station b = if b = a then { s.station a with presence := .absent } else s.station b := by
      split
      next same =>
        subst same
        exact State.station_setStation_same _ _ _ low high
      next other => exact State.station_setStation_ne _ _ _ _ (Ne.symm other)
    rw [kept.segment, kept.cls, kept.permissions, kept.served, kept.presence, station]
    by_cases same : b = a
    · subst same
      simp
    · simp [same]

/-- What a station of another class hands on is nothing. -/
theorem State.handAbsence_none (s : State) (a : Nat) {cls : StationClass} (other : cls = .desk ∨ cls = .podium ∨
    cls = .display ∨ cls = .gate ∨ cls = .other) (served : Option Served) : s.handAbsence a cls served = s := by
  rcases other with rfl | rfl | rfl | rfl | rfl <;> rfl

/-- A station of another class, or one that was ABSENT, leaves nothing behind. -/
theorem State.leftBehind_quiet {s : State} {a : Nat} (none : (s.station a).presence = .absent ∨ (s.station a).cls = .desk ∨
    (s.station a).cls = .podium ∨ (s.station a).cls = .display ∨ (s.station a).cls = .gate ∨ (s.station a).cls = .other) :
    s.leftBehind a = { s with links := (s.leftBehind a).links } := by
  by_cases absent : (s.station a).presence = .absent
  · rw [State.leftBehind, if_pos absent]
  · rw [State.leftBehind, if_neg absent, State.handAbsence_none _ _ (none.resolve_left absent)]
    rfl

/-- In the state in which the load is taken, a station that was there has its absence handed on under its old record. -/
theorem State.leftBehind_hands {s : State} {f : From} (hears : s.Hears f) {a : Nat} (low : 1 ≤ a) (high : a ≤ 60)
    (there : (s.station a).presence ≠ .absent) :
    ∃ more, ((s.heard f).leftBehind a).events.waiting = s.events.waiting ++ more ∧ (∀ e ∈ more, e.source ≠ .stationAbsent) ∧
      s.AbsenceHanded a (s.station a).cls (s.station a).served ((s.heard f).leftBehind a) more := by
  have record := hears.record_heard
  have gone : s.GoneFrom a ((s.heard f).setStation a { (s.heard f).station a with presence := .absent }) := by
    refine ⟨s.heard_stalls f, s.heard_tickets f, s.heard_dispatch f, s.heard_arbiter f, s.heard_params f, ?_, fun b other => ?_⟩
    · rw [State.station_setStation_same _ _ _ low high]
    · rw [State.station_setStation_ne _ _ _ _ (Ne.symm other)]
      rw [record b]
      exact ⟨rfl, rfl, rfl⟩
  have there : ((s.heard f).station a).presence ≠ .absent := fun absent =>
    there ((congrArg Station.presence (record a)).symm.trans absent)
  obtain ⟨more, waiting, none, handed⟩ := gone.handed (s.station a).cls (s.station a).served
  rw [State.leftBehind, if_neg there, congrArg Station.cls (record a), congrArg Station.served (record a)]
  exact ⟨more, waiting.trans (congrArg (· ++ more) (congrArg _ (s.heard_events f))), none, handed⟩

theorem State.leftBehind_keepsRest (s : State) (a : Nat) : s.KeepsRest (s.leftBehind a) := by
  have work := keepsRest_workKeeps s
  unfold State.leftBehind
  split
  exacts [.refl _, work.handAbsence _ _ _ (work.setStation _ _ (.inr rfl) (.refl _))]

/-- An order whose marks are all cleared stays cleared through the storing of a record of the same station. -/
theorem State.Settled.unowed {s t : State} {a l : Nat} {r : Station} (settled : s.Settled a r t) (low : 1 ≤ l) (high : l ≤ 4)
    (clear : ∀ b, (s.station b).servesLift l = true → (s.station b).orderMark = false) (own : r.orderMark = false) :
    (t.lift l).orderOwed = false := by
  by_contra owed
  obtain ⟨b, -, -, isLift, serves, mark⟩ := (settled.owed l low high).mp (by simpa using owed)
  by_cases same : b = a
  · subst same
    rw [settled.own.orderMark, own] at mark
    cases mark
  · have agrees := settled.others b same
    have serves : (t.station b).servesLift l = true := (Station.servesLift_iff _ l).mpr ⟨isLift, serves⟩
    rw [agrees.servesLift] at serves
    rw [agrees.orderMark, clear b serves] at mark
    cases mark

/-- Settles O47: a load that moves the station hands its absence on by `State.GoneFrom.handed`. -/
theorem stationLoadsStoreTheRecord : Obligations.StationLoadsStoreTheRecord := by
  intro s f a seg cls perm served manages low high
  have hears := manages.1
  have load {u : State} {o : Answer}
      (taken : (s.heard f).loadStation ⟨a, .value seg, .value cls, .value perm, served⟩ = (u, o)) :
      exec (.loadStation f (.fields ⟨a, .value seg, .value cls, .value perm, served⟩)) s =
        .next ((s.heard f).replied f .loadStation o (.station ⟨a, .value seg, .value cls, .value perm, served⟩) u) :=
    manages.request (fun x s => s.loadStation x) taken
  refine ⟨fun fits desk => ?_, fun misfits => load (by rw [State.loadStation, readStation_misfits misfits])⟩
  let x : StationSetup := ⟨seg, cls, perm, served⟩
  have taken : (s.heard f).loadStation ⟨a, .value seg, .value cls, .value perm, served⟩ = ((s.heard f).storeStation a x, .done) := by
    rw [State.loadStation, readStation_fits low high fits desk]
  have record := hears.record_heard
  have answered (u : State) : ((((s.heard f).replied f .loadStation .done
      (.station ⟨a, .value seg, .value cls, .value perm, served⟩) u).station f.source).manageReply.map
        fun r => (r.code, r.outcome)) = some (.loadStation, .done) := by
    obtain ⟨first, last⟩ := hears.address
    exact congrArg (fun r : Station => r.manageReply.map fun r => (r.code, r.outcome))
      (State.station_setStation_same _ _ _ first last)
  have segment (b : Nat) := congrArg Station.segment (record b)
  have class_ (b : Nat) := congrArg Station.cls (record b)
  have permissions (b : Nat) := congrArg Station.permissions (record b)
  have serves (b : Nat) := congrArg Station.served (record b)
  have presence (b : Nat) := congrArg Station.presence (record b)
  have work := keepsRest_workKeeps (s.heard f)
  have moves := Station.moves_iff ((s.heard f).station a) x
  rw [segment, class_, serves] at moves
  by_cases leaves : ((s.heard f).station a).moves x = true
  · have changed := moves.mp leaves
    have settled := State.settled_result (s := (s.heard f).leftBehind a) (r := Station.store
      { ((s.heard f).leftBehind a).station a with presence := .unknown, silent := 0 } x) low high f.source
      ((s.heard f).commissioning f.source) .loadStation .done
      (.station ⟨a, .value seg, .value cls, .value perm, served⟩) none
    rw [← State.storeStation_moves low high leaves] at settled
    have records := State.leftBehind_records (s := s.heard f) low high
    have rest := (s.heard f).leftBehind_keepsRest a
    have quiet := State.leftBehind_quiet (s := s.heard f) (a := a)
    have handed := State.leftBehind_hands hears low high
    rw [class_, presence] at quiet
    generalize (s.heard f).leftBehind a = w at *
    have next := load taken
    have reply := answered ((s.heard f).storeStation a x)
    generalize (s.heard f).storeStation a x = u at *
    have same : (s.heard f).replied f .loadStation .done (.station ⟨a, .value seg, .value cls, .value perm, served⟩) u =
      u.oweManage f.source ((s.heard f).commissioning f.source) .loadStation .done
        (.station ⟨a, .value seg, .value cls, .value perm, served⟩) none := rfl
    rw [← same] at settled
    generalize (s.heard f).replied f .loadStation .done (.station ⟨a, .value seg, .value cls, .value perm, served⟩) u = t at *
    have setup := (rest.trans settled.rest).heardSetup
    obtain ⟨-, params, -, -, -, -, -, -, -, -, passTable, -⟩ := setup
    refine ⟨t, next, (rest.trans settled.rest).heardSetup, settled.own.segment, settled.own.cls, settled.own.permissions,
      settled.own.served, fun _ => ⟨settled.own.presence, settled.own.silent, fun none => ?_, fun there => ?_⟩,
      fun eq eq' eq'' => absurd changed (by simp [x, eq, eq', eq'']), fun b other => ?_, params, passTable, settled.owed, reply⟩
    · have eq := quiet none
      have lanes : w.arbiter.lanes = s.arbiter.lanes := by
        rw [congrArg State.arbiter eq, ← s.heard_arbiter f]
      exact ⟨settled.tickets.trans ((congrArg State.tickets eq).trans (s.heard_tickets f)),
        settled.stalls.trans ((congrArg State.stalls eq).trans (s.heard_stalls f)),
        settled.events.trans ((congrArg State.events eq).trans (s.heard_events f)),
        settled.dispatch.trans ((congrArg State.dispatch eq).trans (s.heard_dispatch f)), settled.lanes.trans lanes,
        settled.keys.trans ((congrArg State.keys eq).trans (s.heard_keys f)),
        settled.calls.trans ((congrArg State.calls eq).trans (s.heard_calls f))⟩
    · obtain ⟨more, waiting, none, handed⟩ := handed there
      have stall (k : Nat) : t.stall k = w.stall k := by simp only [State.stall, settled.stalls]
      have runner (b : Nat) : t.runner b = w.runner b := State.runner_congr settled.dispatch b
      have task (n : Nat) : t.task n = w.task n := by simp only [State.task, settled.dispatch]
      have lane (n : Nat) : t.lane n = w.lane n := by simp only [State.lane, settled.lanes]
      have ticket (n : Nat) : t.ticket n = w.ticket n := by simp only [State.ticket, settled.tickets]
      refine ⟨more, (congrArg _ settled.events).trans waiting, none, fun first last isHub range => ?_,
        fun b isBase low high own => ?_, fun l isLift serves' low high => ⟨fun all => ?_, fun b low' high' other isLift' own there => ?_⟩,
        fun n isLane serves' low high => ?_⟩
      · obtain ⟨inside, outside, free, tickets, dispatch, -, empty⟩ := handed.hub first last isHub range
        simp only [stall, settled.stalls, settled.tickets, settled.dispatch]
        exact ⟨inside, outside, free, tickets, dispatch, empty⟩
      · simp only [runner, task]
        exact handed.base b isBase low high own
      · obtain ⟨record, told, clear⟩ := (handed.lift l isLift serves' low high).1 all
        have own : (w.station a).servesLift l = true := (Station.servesLift_iff _ l).mpr
          ⟨(records a).2.1.trans ((class_ a).trans isLift), (records a).2.2.2.1.trans ((serves a).trans serves')⟩
        rw [settled.lift l, settled.unowed low high clear (clear a own), record]
        exact ⟨rfl, told⟩
      · obtain ⟨arbiter, tickets, stalls, empty⟩ := (handed.lift l isLift serves' low high).2 b low' high' other isLift' own there
        have lift : w.lift l = s.lift l := by simp only [State.lift, arbiter]
        exact ⟨lift ▸ settled.lift l, settled.tickets.trans tickets, settled.stalls.trans stalls, empty⟩
      · simp only [lane, ticket]
        exact handed.lane n isLane serves' low high
    · obtain ⟨eq, eq', eq'', eq₃, eq₄⟩ := records b
      have agrees := settled.others b other
      exact ⟨agrees.segment.trans (eq.trans (segment b)), agrees.cls.trans (eq'.trans (class_ b)),
        agrees.permissions.trans (eq''.trans (permissions b)), agrees.served.trans (eq₃.trans (serves b)),
        agrees.presence.trans ((eq₄ other).trans (presence b))⟩
  · have stays : ((s.heard f).station a).moves x = false := Bool.eq_false_iff.mpr leaves
    have kept : ¬ ((s.station a).segment ≠ seg ∨ (s.station a).cls ≠ cls ∨ (s.station a).served ≠ served) :=
      fun changed => leaves (moves.mpr changed)
    have settled := State.settled_result (s := s.heard f) (r := Station.store ((s.heard f).station a) x) low high f.source
      ((s.heard f).commissioning f.source) .loadStation .done
      (.station ⟨a, .value seg, .value cls, .value perm, served⟩) none
    rw [← State.storeStation_stays stays] at settled
    have next := load taken
    have reply := answered ((s.heard f).storeStation a x)
    have setup := settled.rest.heardSetup
    obtain ⟨-, params, -, -, -, -, -, -, -, -, passTable, -⟩ := setup
    refine ⟨_, next, settled.rest.heardSetup, settled.own.segment, settled.own.cls, settled.own.permissions,
      settled.own.served, fun changed => absurd changed kept, fun _ _ _ => ⟨settled.own.presence.trans (presence a),
      settled.own.silent, settled.tickets.trans (s.heard_tickets f), settled.stalls.trans (s.heard_stalls f),
      settled.events.trans (s.heard_events f)⟩, fun b other => ?_, params, passTable, settled.owed, reply⟩
    have agrees := settled.others b other
    exact ⟨agrees.segment.trans (segment b), agrees.cls.trans (class_ b), agrees.permissions.trans (permissions b),
      agrees.served.trans (serves b), agrees.presence.trans (presence b)⟩

end Sys2Proof.Machine
end

section
/-! PROOFS of O32: the rides that AT_LOBBY files. -/

namespace Sys2Proof.Machine

open Sys2Proof

/-! ### Lane grants to a DESCENDING ticket (R53, R119) -/

/-- A lane grant check writes at most the lane of a DESCENDING ticket. -/
theorem State.serveLanes_descending (fuel : Nat) {s : State} {r : Ticket} (found : s.ticket r.number = some r)
    (only : ∀ t ∈ s.recordsOf r.number, t = r) (state : r.state = .descending) :
    ∃ lane, (s.serveLanes fuel).ticket r.number = some { r with lane := lane } := by
  induction fuel generalizing s with
  | zero => exact ⟨r.lane, found⟩
  | succ fuel ih =>
    unfold State.serveLanes
    split
    · exact ⟨r.lane, found⟩
    next t oldest =>
      split
      · exact ⟨r.lane, found⟩
      next n lane =>
        by_cases own : r.number = t.number
        · obtain rfl : t = r := only t (State.mem_recordsOf.mpr ⟨(State.oldestRequest_mem oldest).1, own.symm⟩)
          obtain ⟨-, ticket, served⟩ := State.reserveLane_result (State.laneFor_mem lane) found
          have reserved : t.reserved n = { t with lane := some n } := if_neg (by rw [state]; nofun)
          exact ⟨some n, (State.ticket_of_records (State.serveLanes_spares fuel served).1).trans (reserved ▸ ticket)⟩
        · have records := s.reserveLane_recordsOf_ne n own
          exact ih ((State.ticket_of_records records).trans found) (by rwa [records])

/-! ### The filing of a tenure (R107) -/

/-- The tenure that is filed. -/
def State.filing (s : State) (n badge : Nat) (d : Direction) (x y : Nat) : Tenure :=
  { ticket := some n, runner := some badge, direction := d, fromLevel := x, toLevel := y, state := .waiting,
    requested := s.now, passes := 0 }

/-- The state in which the filed tenure waits and the ticket names its lift. -/
def State.filed (s : State) (n badge l : Nat) (d : Direction) (x y : Nat) : State :=
  (s.setLift l { s.lift l with queue := insertBy tenureBefore (s.filing n badge d x y) (s.lift l).queue }).modifyTicket n
    fun k => { k with lift := some l }

theorem State.fileTenure_files {s : State} {l x y : Nat} (hx : x ∈ s.servedLevels l) (hy : y ∈ s.servedLevels l)
    (room : (s.lift l).queue.length < 32) (n badge : Nat) (d : Direction) :
    s.fileTenure n badge l d x y = ((s.filed n badge l d x y).grantCheck l, .done) := by
  have full : ¬ Config.maxFiled ≤ (s.lift l).queue.length := Nat.not_le.mpr room
  unfold State.fileTenure
  dsimp only
  rw [if_neg (by simp [hx, hy]), if_neg full]
  rfl

theorem State.fileTenure_range {s : State} {l x y : Nat} (out : x ∉ s.servedLevels l ∨ y ∉ s.servedLevels l)
    (n badge : Nat) (d : Direction) : s.fileTenure n badge l d x y = (s, .range) :=
  if_pos (by rcases out with out | out <;> simp [out])

theorem State.fileTenure_full {s : State} {l x y : Nat} (hx : x ∈ s.servedLevels l) (hy : y ∈ s.servedLevels l)
    (full : 32 ≤ (s.lift l).queue.length) (n badge : Nat) (d : Direction) :
    s.fileTenure n badge l d x y = (s, .full) := by
  unfold State.fileTenure
  dsimp only
  rw [if_neg (by simp [hx, hy]), if_pos (show Config.maxFiled ≤ _ from full)]

/-- A grant check does nothing, or grants a tenure of the queue. -/
theorem State.grantCheck_grants (s : State) (l : Nat) :
    s.grantCheck l = s ∨ ∃ v ∈ (s.lift l).queue, ∃ passed, s.grantCheck l = s.grant l v passed := by
  unfold State.grantCheck
  dsimp only
  split
  · cases choice : chooseTenure (s.lift l).parkedLevel s.params.parkSkip ((s.lift l).queue.filter (s.tenureQualifies l)) with
    | none => exact .inl rfl
    | some c =>
      obtain ⟨behind, split, -⟩ := chooseTenure_some (v := c.1) (ahead := c.2) choice
      have mem : c.1 ∈ (s.lift l).queue.filter (s.tenureQualifies l) := by simp [split]
      exact .inr ⟨c.1, (List.mem_filter.mp mem).1, c.2, rfl⟩
  · exact .inl rfl

/-- The tenure stands with the lift, WAITING in its queue or GRANTED as its current one. -/
def Lift.Stands (r : Lift) (w : Tenure) : Prop :=
  w ∈ r.tenures ∧ (w.state = .waiting ∧ w ∈ r.queue ∨ w.state = .granted ∧ r.current = some w)

theorem State.hasTenure_none {s : State} {n l : Nat} (none : s.hasTenure n = false) (low : 1 ≤ l) (high : l ≤ 4) {v : Tenure}
    (mem : v ∈ (s.lift l).tenures) : v.ticket ≠ some n := by
  intro own
  have any : s.hasTenure n = true := List.any_eq_true.mpr ⟨l, mem_liftNumbers.mpr ⟨low, high⟩,
    List.any_eq_true.mpr ⟨v, mem, by simp [own]⟩⟩
  rw [any] at none
  cases none

/-- A lift in the state in which the grant of a tenure is told to its ticket. -/
def State.granting (s : State) (l : Nat) (v : Tenure) (passed : List Tenure) : State :=
  let r : Lift := { s.lift l with
    state := .busy, current := some { v with state := .granted }, queue := queueAfter (s.lift l).queue v passed }
  ((s.setLift l r).setOrder l).raise .liftGrant l

theorem State.grant_eq (s : State) (l : Nat) (v : Tenure) (passed : List Tenure) :
    s.grant l v passed = (s.granting l v passed).tellGrant v := rfl

/-- A granted ride down makes its FETCHING ticket DESCENDING, with a lane request. -/
theorem State.tellGrant_descends {s : State} {r : Ticket} (found : s.ticket r.number = some r)
    (only : ∀ t ∈ s.recordsOf r.number, t = r) (state : r.state = .fetching) {w : Tenure} (own : w.ticket = some r.number)
    (down : w.direction = .down) : ((s.tellGrant w).ticket r.number).map (fun e => (e.state, e.laneRequest)) =
      some (.descending, some (r.laneRequest.getD s.now)) := by
  let asked : Ticket := { r with laneRequest := some (r.laneRequest.getD s.now) }
  let u := s.modifyTicket r.number fun k => { k with laneRequest := some (k.laneRequest.getD s.now) }
  have told : s.tellGrant w = (u.moveTicket r.number .descending).laneGrantCheck := by
    simp only [State.tellGrant, own, Option.bind_some, found]
    exact if_pos ⟨state, down⟩
  have ticket : u.ticket r.number = some asked := State.ticket_edit_same found fun k =>
    { k with laneRequest := some (k.laneRequest.getD s.now) }
  have moved : (u.moveTicket r.number .descending).ticket r.number = some { asked with state := .descending, verify := false } :=
    State.ticket_entered ticket (by decide)
  have records : ∀ t ∈ (u.moveTicket r.number .descending).recordsOf r.number,
      t = { asked with state := .descending, verify := false } := by
    intro t mem
    have edited : u.recordsOf r.number = (s.recordsOf r.number).map fun k =>
        { k with laneRequest := some (k.laneRequest.getD s.now) } := (State.recordsOf_edit s r.number r.number _).trans (if_pos rfl)
    rw [State.recordsOf_move, if_pos rfl, edited, List.map_map] at mem
    obtain ⟨e, old, rfl⟩ := List.mem_map.mp mem
    rw [only e old]
    rfl
  obtain ⟨lane, granted⟩ := State.serveLanes_descending Config.laneCount (r := { asked with state := .descending, verify := false })
    moved records rfl
  rw [told]
  exact congrArg (Option.map _) granted

/-- What the filing of a tenure for a ticket comes to: it waits, or the grant check that follows granted it. -/
theorem State.filed_stands {s : State} {c : Ticket} {badge l x y : Nat} {d : Direction} (low : 1 ≤ l) (high : l ≤ 4)
    (found : s.ticket c.number = some c) (once : (s.tickets.map (·.number)).Nodup) (none : s.hasTenure c.number = false)
    (asks : c.wantsLane = false) : let t := (s.filed c.number badge l d x y).grantCheck l
    ∃ w, (t.lift l).Stands w ∧
      w = { s.filing c.number badge d x y with state := w.state, passes := w.passes } ∧
      ((c.state ≠ .fetching ∨ w.state = .waiting) → t.ticket c.number = some { c with lift := some l }) ∧
      (c.state = .fetching → d = .down → w.state = .granted → (t.ticket c.number).map (fun e => (e.state, e.laneRequest)) =
        some (.descending, some (c.laneRequest.getD s.now))) := by
  intro t
  let own := s.filing c.number badge d x y
  let filed := s.filed c.number badge l d x y
  have lift : filed.lift l = { s.lift l with queue := insertBy tenureBefore own (s.lift l).queue } :=
    State.lift_setLift_same _ _ _ low high
  have waits : own ∈ (filed.lift l).queue := by
    rw [lift]
    exact (insertBy_perm _ _ _).mem_iff.mpr List.mem_cons_self
  have ticket : filed.ticket c.number = some { c with lift := some l } :=
    State.ticket_edit_same (show (s.setLift l _).ticket c.number = some c from found) fun k => { k with lift := some l }
  have only : ∀ k ∈ filed.recordsOf c.number, k = { c with lift := some l } := by
    intro k mem
    have numbers : (filed.tickets.map (·.number)).Nodup := (congrArg List.Nodup
      (State.modifyTicket_numbers (s.setLift l _) c.number (fun k => { k with lift := some l }) fun _ => rfl)).mpr once
    obtain ⟨mem, number⟩ := State.mem_recordsOf.mp mem
    exact eq_of_key numbers mem (List.mem_of_find?_eq_some ticket) number
  have records (v : Tenure) (passed : List Tenure) (untold : v.ticket ≠ some c.number ∨ c.state ≠ .fetching) :
      (filed.grant l v passed).ticket c.number = some { c with lift := some l } := by
    have spared := State.tellGrant_spares_of (s := filed.granting l v passed) (n := c.number) (w := v) (fun k mem => by rw [only k mem]; exact asks)
      (untold.imp_right fun still k mem => by rw [only k mem]; exact still)
    exact (State.ticket_of_records spared.1).trans ticket
  rcases filed.grantCheck_grants l with same | ⟨v, mem, passed, same⟩
  · have eq : t = filed := same
    rw [eq]
    exact ⟨own, ⟨List.mem_append_left _ waits, .inl ⟨rfl, waits⟩⟩, rfl, fun _ => ticket, fun _ _ granted => by cases granted⟩
  · have eq : t = filed.grant l v passed := same
    have result := (State.grant_result (s := filed) low high v passed).1
    rw [eq]
    by_cases first : v = own
    · refine ⟨{ own with state := .granted }, ?_, rfl, fun still => records v passed (.inr (still.resolve_right nofun)),
        fun state down _ => ?_⟩
      · rw [Lift.Stands, Lift.tenures, result, first]
        simp
      · rw [first]
        exact State.tellGrant_descends (s := filed.granting l own passed) (r := { c with lift := some l }) (w := own) ticket only
          state rfl down
    · have kept : own ∈ (filed.lift l).queue.erase v := (List.mem_erase_of_ne (Ne.symm first)).mpr waits
      have old : v ∈ (s.lift l).queue := by
        rw [lift] at mem
        exact (List.mem_cons.mp ((insertBy_perm _ _ _).mem_iff.mp mem)).resolve_left first
      have behind := List.mem_map_of_mem (f := fun u => if passed.contains u then { u with passes := u.passes + 1 } else u) kept
      have stands (w : Tenure) (state : w.state = .waiting) (mem : w ∈ queueAfter (filed.lift l).queue v passed) :
          ((filed.grant l v passed).lift l).Stands w := by
        rw [Lift.Stands, Lift.tenures, result]
        exact ⟨List.mem_append_left _ mem, .inl ⟨state, mem⟩⟩
      have untold := records v passed (.inl (State.hasTenure_none none low high (List.mem_append_left _ old)))
      by_cases counted : passed.contains own
      · rw [if_pos counted] at behind
        exact ⟨_, stands _ rfl behind, rfl, fun _ => untold, fun _ _ granted => by cases granted⟩
      · rw [if_neg counted] at behind
        exact ⟨_, stands _ rfl behind, rfl, fun _ => untold, fun _ _ granted => by cases granted⟩

/-! ### AT_LOBBY by the ticket's state (R46 to R48, R52) -/

theorem State.LobbyRide.step {s : State} {c : Ticket} {level l x y : Nat} {d : Direction} (ride : s.LobbyRide c level l d x y)
    (low : 1 ≤ l) (none : s.hasTenure c.number = false) (b : Nat) :
    s.lobbyStep b level c = s.fileTenure c.number b l d x y := by
  have lifted : l ≠ 0 := by omega
  rcases ride with ⟨state, rfl, rfl, k, site, bound, loaded, rfl, rfl⟩ | ⟨state, free, lift, rfl, rfl, rfl⟩ |
    ⟨state, free, lift, rfl, ⟨k, site, target, loaded, rfl⟩, way⟩
  · have site' : (c.stall.bind fun k => (s.stall k).site) = some site := by rw [bound]; exact loaded
    simp [State.lobbyStep, state, State.lobbyParking, site', lifted, none]
  · simp [State.lobbyStep, state, free, State.lobbyFetching, lift, lifted, none]
  · have site' : (c.target.bind fun k => (s.stall k).site) = some site := by rw [target]; exact loaded
    rcases way with ⟨up, rfl⟩ | ⟨down, rfl⟩
    · simp [State.lobbyStep, state, free, State.lobbyRestaging, site', lift, lifted, none, up, Nat.ne_of_gt up]
    · simp [State.lobbyStep, state, free, State.lobbyRestaging, site', lift, lifted, none, Nat.not_lt.mpr down.le,
        Nat.ne_of_lt down]

/-- The AT_LOBBY steps that file no ride. -/
theorem State.lobbyStep_done {s : State} {c : Ticket} {level : Nat} (idle : c.state = .parking ∧ (s.hasTenure c.number = true ∨
      ∃ k site, c.stall = some k ∧ (s.stall k).site = some site ∧ site.lift = 0) ∨
    c.stall = none ∧ (c.state = .fetching ∨ c.state = .restaging) ∧
      (s.hasTenure c.number = true ∨ c.lift = none ∨ c.lift = some 0) ∨
    c.stall = none ∧ c.state = .restaging ∧ ∃ k site, c.target = some k ∧ (s.stall k).site = some site ∧ site.level = level)
    (b : Nat) : s.lobbyStep b level c = (s, .done) := by
  rcases idle with ⟨state, why⟩ | ⟨free, state, why⟩ | ⟨free, state, k, site, target, loaded, here⟩
  · simp only [State.lobbyStep, state, State.lobbyParking]
    cases site' : c.stall.bind fun k => (s.stall k).site with
    | none => rfl
    | some site =>
      refine if_pos (why.symm.imp (fun ⟨k, site'', bound, loaded, ground⟩ => ?_) id)
      obtain rfl : site'' = site := Option.some.inj (loaded.symm.trans (by rw [bound] at site'; exact site'))
      exact ground
  · have still : c.lift.getD 0 = 0 ∨ s.hasTenure c.number = true := by
      rcases why with has | lift | lift
      · exact .inr has
      · exact .inl (by rw [lift]; rfl)
      · exact .inl (by rw [lift]; rfl)
    rcases state with state | state
    · simp only [State.lobbyStep, state, free, State.lobbyFetching]
      exact if_pos still
    · simp only [State.lobbyStep, state, free, State.lobbyRestaging]
      cases c.target.bind fun k => (s.stall k).site with
      | none => rfl
      | some site => exact if_pos (still.imp_right .inr)
  · have site' : (c.target.bind fun k => (s.stall k).site) = some site := by rw [target]; exact loaded
    simp [State.lobbyStep, state, free, State.lobbyRestaging, site', here]

theorem State.lobbyStep_state {s : State} {c : Ticket} (parking : c.state ≠ .parking)
    (other : c.stall ≠ none ∨ c.state ≠ .fetching ∧ c.state ≠ .restaging) (b level : Nat) :
    s.lobbyStep b level c = (s, .state) := by
  unfold State.lobbyStep
  split
  next state => exact absurd state parking
  next state free => exact absurd state (other.resolve_left (· free)).2
  next state free => exact absurd state (other.resolve_left (· free)).1
  · rfl

/-- Settles O32: the ride that the ticket's state asks for is filed by `State.fileTenure`. -/
theorem lobbyFilesTheRideOrIsRefused : Obligations.LobbyFilesTheRideOrIsRefused := by
  have step {s : State} {f : From} {b level : Nat} {c : Ticket} (holds : s.Holds f b c) (fits : level < 8) {u : State}
      {o : Answer} (taken : (s.heard f).lobbyStep b level c = (u, o)) : exec (.atLobby f b c.number level) s =
        .next ((if o = .done then u.setLevel b level else u).oweRunner b .atLobby o (some c.number)) := by
    refine holds.1.frame .atLobby _ ?_
    rw [State.takeLobby, if_pos fits, holds.heldStep, taken, levelled]
    split <;> simp_all
  have tenures (s : State) (f : From) (n : Nat) : (s.heard f).hasTenure n = s.hasTenure n := by
    simp only [State.hasTenure, s.lift_heard]
  have served (s : State) (f : From) (l : Nat) : (s.heard f).servedLevels l = s.servedLevels l := by
    simp only [State.servedLevels, s.heard_params]
  refine ⟨fun s f b level l x y d c holds fits ride low high none => ?_, fun s f b level c holds fits =>
    ⟨fun idle => ?_, fun other => step holds fits (State.lobbyStep_state other.1 other.2 b level)⟩⟩
  · have files : (s.heard f).lobbyStep b level c = (s.heard f).fileTenure c.number b l d x y :=
      State.LobbyRide.step (by simpa only [State.LobbyRide, s.stall_heard] using ride) low (by rwa [tenures]) b
    have lift : (s.heard f).lift l = s.lift l := s.lift_heard f l
    refine ⟨fun hx hy room right => ?_, fun out => step holds fits (files.trans (State.fileTenure_range (by rwa [served]) _ _ _)),
      fun hx hy full => step holds fits (files.trans
        (State.fileTenure_full (by rwa [served]) (by rwa [served]) (by rwa [lift]) _ _ _))⟩
    have taken := files.trans (State.fileTenure_files (by rwa [served]) (by rwa [served]) (by rwa [lift]) c.number b d)
    have holds' := holds
    obtain ⟨⟨-, -, first, last⟩, holder, found⟩ := holds'
    have stands := State.filed_stands (s := s.heard f) (badge := b) (x := x) (y := y) (d := d) low high
      (by rwa [s.ticket_heard]) (by rw [s.heard_tickets]; exact right.1) (by rwa [tenures]) ?_
    · obtain ⟨-, stalls, unplaced, -, keys, dispatch, -⟩ := (s.heard f).fileTenure_frame c.number b l d x y
      have rest := (keepsRest_workKeeps (s.heard f)).fileTenure c.number b l d x y (State.KeepsRest.refl _)
      rw [← files, taken] at stalls unplaced keys dispatch rest
      dsimp only at stalls unplaced keys dispatch rest stands
      generalize ((s.heard f).filed c.number b l d x y).grantCheck l = t at *
      obtain ⟨w, ⟨mem, place⟩, made, waits, granted⟩ := stands
      have work := keepsRest_workKeeps (s.heard f)
      have runner : t.runner b = s.runner b := State.runner_congr (dispatch.trans (s.heard_dispatch f)) b
      have levelled : (t.setLevel b level).runner b = { s.runner b with level := level } := by
        rw [State.setLevel, State.runner_setRunner_same _ _ _ first last, runner]
      have replied := State.runner_oweRunner (s := t.setLevel b level) first last .atLobby .done (some c.number)
      rw [levelled] at replied
      have tasked : (s.runner b).state = .tasked := by
        simpa using And.left ((Bool.and_eq_true _ _).mp holder)
      have down : c.state = .fetching → d = .down := by
        intro state
        rcases ride with ⟨other, -⟩ | ⟨-, -, -, down, -⟩ | ⟨other, -⟩
        · rw [state] at other; cases other
        · exact down
        · rw [state] at other; cases other
      have now : (s.heard f).now = s.now := s.now_heard f
      refine ⟨_, w, step holds fits taken, (work.oweRunner b .atLobby .done (some c.number) (work.setLevel b level rest)).heardSetup,
        mem, congrArg Tenure.ticket made, congrArg Tenure.runner made, congrArg Tenure.direction made,
        congrArg Tenure.fromLevel made, congrArg Tenure.toLevel made, (congrArg Tenure.requested made).trans now,
        place, waits, fun state given => ?_, by rw [if_pos rfl, replied], by rw [if_pos rfl, replied]; exact tasked,
        stalls.trans (s.heard_stalls f), keys.trans (s.heard_keys f), ?_, unplaced.trans (s.heard_unplaced f),
        by rw [if_pos rfl, replied]; rfl⟩
      · rw [← now]
        exact granted state (down state) given
      · rw [if_pos rfl]
        exact (congrArg (fun d => d.tasks) (dispatch.trans (s.heard_dispatch f)) :)
    · rcases ride with ⟨state, -⟩ | ⟨state, -⟩ | ⟨state, -⟩ <;> simp [Ticket.wantsLane, state]
  · have done := step holds fits (State.lobbyStep_done (by simpa only [tenures, s.stall_heard] using idle) b)
    rwa [if_pos rfl, State.setLevel, s.runner_heard] at done

end Sys2Proof.Machine
end

section
/-! SUPPORT for O34: a car is set down in a stall, and the step that tells of it ends (R5, R6, R47, R48, R51). -/

namespace Sys2Proof.Machine

open Sys2Proof

/-! ### Writes of the stall map and of one ticket -/

/-- From `s` to `t` the stall map, and the record of ticket `n` but for its number, may have changed; no record that does
not want a restage came to want one. -/
structure State.MapOnly (n : Nat) (s t : State) : Prop where
  rest : s.KeepsRest t
  unplaced : t.unplaced = s.unplaced
  issue : t.issue = s.issue
  keys : t.keys = s.keys
  dispatch : t.dispatch = s.dispatch
  arbiter : t.arbiter = s.arbiter
  calls : t.calls = s.calls
  others : ∀ m, m ≠ n → t.ticket m = s.ticket m
  wishes : (∀ d ∈ s.tickets, d.restageWanted = false) → ∀ d ∈ t.tickets, d.restageWanted = false

theorem State.MapOnly.refl (n : Nat) (s : State) : State.MapOnly n s s :=
  ⟨.refl s, rfl, rfl, rfl, rfl, rfl, rfl, fun _ _ => rfl, id⟩

theorem State.MapOnly.putStall {n : Nat} {s t : State} (h : State.MapOnly n s t) (k : Nat) (r : Stall) :
    State.MapOnly n s (t.putStall k r) := by
  obtain ⟨-, unplaced, tickets, issue, keys, dispatch, arbiter, calls, -⟩ := t.putStall_frame k r
  exact ⟨h.rest.trans (t.keepsRest_putStall k r), unplaced.trans h.unplaced, issue.trans h.issue, keys.trans h.keys,
    dispatch.trans h.dispatch, arbiter.trans h.arbiter, calls.trans h.calls,
    fun m other => (State.ticket_congr tickets m).trans (h.others m other), fun none d mem => h.wishes none d (tickets ▸ mem)⟩

theorem State.MapOnly.edit {n : Nat} {s t : State} (h : State.MapOnly n s t) {f : Ticket → Ticket}
    (number : ∀ d, (f d).number = d.number) (wish : ∀ d, d.restageWanted = false → (f d).restageWanted = false) :
    State.MapOnly n s (t.modifyTicket n f) := by
  refine ⟨{ h.rest with }, h.unplaced, h.issue, h.keys, h.dispatch, h.arbiter, h.calls,
    fun m other => (t.ticket_edit_ne other f number).trans (h.others m other), fun none d mem => ?_⟩
  obtain ⟨e, old, rfl⟩ := List.mem_map.mp mem
  have quiet := h.wishes none e old
  split
  exacts [wish e quiet, quiet]

theorem State.MapOnly.noneWaits {n : Nat} {s t : State} (h : State.MapOnly n s t) (none : s.NoneWaits) : t.NoneWaits :=
  ⟨h.unplaced.trans none.1, h.wishes none.2⟩

/-! ### The stalls that a car set down gives up (R5, R6) -/

/-- The stall as a car set down in it leaves it. -/
def Stall.occupiedFor (r : Stall) (n : Nat) (by_ : SiteTime) : Stall :=
  { r with
    state := .occupied, ticket := some n, recheck := false
    confirmed := r.confirmed || r.sensed == .occupied
    confirmBy := if r.confirmed || r.sensed == .occupied then none else some ⟨by_, false⟩ }

theorem State.stall_of_state {s : State} {k : Nat} (state : (s.stall k).state ≠ .undefined) : k < 640 := by
  by_contra out
  have cold : s.stall k = Stall.cold := nth_outside _ _ _ (show Config.stallCount ≤ k from Nat.not_lt.mp out)
  rw [cold] at state
  exact state rfl

theorem State.heldFor_iff (s : State) (k n : Nat) :
    s.heldFor k n = true ↔ (s.stall k).state = .held ∧ (s.stall k).ticket = some n := by
  simp [State.heldFor]

theorem Ticket.heldStall_iff (c : Ticket) (j : Nat) :
    c.heldStall = some j ↔ c.state = .parking ∧ c.stall = some j ∨ c.state = .restaging ∧ c.target = some j := by
  unfold Ticket.heldStall
  split
  next parking => simp [parking]
  next other =>
    split
    next restaging => simp [restaging]
    next other' => simp [other, other']

/-- Another stall held for the ticket is given up, or there is none. -/
theorem State.releaseOther_cases {s w : State} {c : Ticket} {k : Nat}
    (same : ∀ j, j ≠ k → s.heldFor j c.number = true ∨ w.heldFor j c.number = true → w.stall j = s.stall j) :
    (∃ j, s.GivesUp c k j ∧ w.releaseOther c k = (w.releaseStall j c.number, some j)) ∨
      (∀ j, ¬ s.GivesUp c k j) ∧ w.releaseOther c k = (w, none) := by
  have held {j : Nat} (other : j ≠ k) : w.heldFor j c.number = s.heldFor j c.number := by
    by_cases either : s.heldFor j c.number = true ∨ w.heldFor j c.number = true
    · simp only [State.heldFor, same j other either]
    · obtain ⟨none, none'⟩ := not_or.mp either
      rw [Bool.not_eq_true] at none none'
      rw [none, none']
  unfold State.releaseOther
  cases found : c.heldStall with
  | none =>
    refine .inr ⟨fun j gives => ?_, rfl⟩
    rw [(c.heldStall_iff j).mpr gives.2.2] at found
    cases found
  | some h =>
    dsimp only
    by_cases gives : h ≠ k ∧ w.heldFor h c.number = true
    · rw [if_pos gives]
      exact .inl ⟨h, ⟨gives.1, (held gives.1).symm.trans gives.2, (c.heldStall_iff h).mp found⟩, rfl⟩
    · rw [if_neg gives]
      refine .inr ⟨fun j other => gives ?_, rfl⟩
      obtain rfl : h = j := Option.some.inj (found.symm.trans ((c.heldStall_iff j).mpr other.2.2))
      exact ⟨other.1, (held other.1).trans other.2.1⟩

/-- The old stall is left, or there is none. -/
theorem State.departOld_cases {s w : State} {c : Ticket} {k : Nat} (same : ∀ j, j ≠ k → w.stall j = s.stall j) :
    (∃ j, s.Leaves c k j ∧ w.departOld c k = (w.depart j c.number, some j)) ∨
      (∀ j, ¬ s.Leaves c k j) ∧ w.departOld c k = (w, none) := by
  have occupied {j : Nat} (other : j ≠ k) : w.occupiedBy j c.number = s.occupiedBy j c.number := by
    simp only [State.occupiedBy, same j other]
  unfold State.departOld
  split
  next old restaging bound =>
    by_cases leaves : old ≠ k ∧ w.occupiedBy old c.number = true
    · rw [if_pos leaves]
      exact .inl ⟨old, ⟨leaves.1, (occupied leaves.1).symm.trans leaves.2, restaging, bound⟩, rfl⟩
    · rw [if_neg leaves]
      refine .inr ⟨fun j other => leaves ?_, rfl⟩
      obtain ⟨ne, by_, -, stall⟩ := other
      obtain rfl : old = j := Option.some.inj (bound.symm.trans stall)
      exact ⟨ne, (occupied ne).trans by_⟩
  next other =>
    exact .inr ⟨fun j ⟨_, _, restaging, stall⟩ => other j restaging stall, rfl⟩

/-! ### What a car set down leaves (R5, R6) -/

theorem State.MapOnly.depart {n : Nat} {s t : State} (h : State.MapOnly n s t) (k : Nat) : State.MapOnly n s (t.depart k n) := by
  unfold State.depart
  split
  exacts [State.MapOnly.edit (h.putStall _ _) (fun _ => rfl) (fun _ quiet => quiet), h]

theorem State.MapOnly.releaseStall {n : Nat} {s t : State} (h : State.MapOnly n s t) (k m : Nat) :
    State.MapOnly n s (t.releaseStall k m) := by
  unfold State.releaseStall
  split
  exacts [h.putStall _ _, h]

/-- The stall that a car has left. -/
def Stall.vacated (r : Stall) : Stall := { r with state := .free, ticket := none, confirmed := false, confirmBy := none }

/-- The stall whose hold is released. -/
def Stall.released (r : Stall) : Stall := { r with state := .free, ticket := none, confirmed := false, recheck := true }

theorem State.depart_left {s : State} {k : Nat} {c : Ticket} (occupied : s.occupiedBy k c.number = true)
    (found : s.ticket c.number = some c) : (s.depart k c.number).stall k = (s.stall k).vacated ∧
      (∀ j, j ≠ k → (s.depart k c.number).stall j = s.stall j) ∧
      (s.depart k c.number).ticket c.number = some { c with stall := none, lift := (s.stall k).site.map (·.lift) } := by
  have low : k < 640 := State.stall_of_state (by rw [((s.occupiedBy_iff _ _).mp occupied).1]; nofun)
  have departed : s.depart k c.number = (s.freeOccupied k false).modifyTicket c.number
      fun t => { t with stall := none, lift := (s.stall k).site.map (·.lift) } := by rw [State.depart, if_pos occupied]
  rw [departed]
  refine ⟨(s.stall_putStall_same k _ low).trans ?_, fun j other => s.stall_putStall_ne k j _ (Ne.symm other), ?_⟩
  · rw [Bool.or_false]
    rfl
  · exact State.ticket_edit_same ((State.ticket_congr (s.freeOccupied_frame k false).2.2.1 _).trans found)
      fun t => { t with stall := none, lift := (s.stall k).site.map (·.lift) }

theorem State.releaseStall_gives {s : State} {k n : Nat} (held : s.heldFor k n = true) :
    (s.releaseStall k n).stall k = (s.stall k).released ∧ (∀ j, j ≠ k → (s.releaseStall k n).stall j = s.stall j) := by
  have low : k < 640 := State.stall_of_state (by rw [((s.heldFor_iff _ _).mp held).1]; nofun)
  rw [State.releaseStall, if_pos held]
  exact ⟨s.stall_putStall_same k _ low, fun j other => s.stall_putStall_ne k j _ (Ne.symm other)⟩

/-- The state in which the car of ticket `c` stands in stall `k`, before its step ends. -/
structure State.SetDown (s t : State) (k : Nat) (c : Ticket) (charger : Bool) : Prop where
  only : State.MapOnly c.number s t
  taken : s.occupiedBy k c.number = false → t.stall k =
    (s.stall k).occupiedFor c.number (s.now.plusSeconds s.params.confirmWindow)
  stays : s.occupiedBy k c.number = true → t.stall k = s.stall k
  released : ∀ j, s.GivesUp c k j → t.stall j = (s.stall j).released
  left : ∀ j, s.Leaves c k j → t.stall j = (s.stall j).vacated
  others : ∀ j, j ≠ k → ¬ s.GivesUp c k j → ¬ s.Leaves c k j → t.stall j = s.stall j
  sameCounts : (s.stall k).state ≠ .free → (∀ j, ¬ s.GivesUp c k j ∧ ¬ s.Leaves c k j) → t.stalls.free = s.stalls.free
  ticket : ∃ lift, t.ticket c.number = some { c with
      stall := some k, target := none, lift := lift, parkedAt := some s.now, runner := none
      restageWanted := c.restageWanted && !charger }
    ∧ (∀ j old, s.Leaves c k j → (s.stall j).site = some old → lift = some old.lift)
    ∧ ((∀ j, ¬ s.Leaves c k j) → lift = c.lift)

/-- The stall a car is set down in, before the stalls it gives up. -/
def State.keptFor (s : State) (k n : Nat) : State := if s.occupiedBy k n then s else s.occupy k n

theorem State.keptFor_result {s : State} {k : Nat} {c : Ticket} (low : k < 640) :
    State.MapOnly c.number s (s.keptFor k c.number) ∧ (s.keptFor k c.number).tickets = s.tickets ∧
      (∀ j, j ≠ k → (s.keptFor k c.number).stall j = s.stall j) ∧
      (s.occupiedBy k c.number = false → (s.keptFor k c.number).stall k =
        (s.stall k).occupiedFor c.number (s.now.plusSeconds s.params.confirmWindow)) ∧
      (s.occupiedBy k c.number = true → (s.keptFor k c.number).stall k = s.stall k) ∧
      ((s.stall k).state ≠ .free → (s.keptFor k c.number).stalls.free = s.stalls.free) := by
  unfold State.keptFor
  split
  next occupied =>
    exact ⟨.refl _ s, rfl, fun _ _ => rfl, fun none => by simp [occupied] at none, fun _ => rfl, fun _ => rfl⟩
  next other =>
    refine ⟨(State.MapOnly.refl _ s).putStall _ _, (s.putStall_frame k _).2.2.1, fun j ne => s.stall_putStall_ne k j _ (Ne.symm ne),
      fun _ => s.stall_putStall_same k _ low, fun occupied => absurd occupied other, fun taken => ?_⟩
    have counted : s.occupy k c.number = _ := State.putStall_counted low ((Stall.freeClass_of_taken taken).trans
      (Stall.freeClass_of_taken (r := (s.stall k).occupiedFor c.number (s.now.plusSeconds s.params.confirmWindow)) nofun).symm)
    rw [counted]

/-- The old stall of a car set down is left. -/
theorem State.departOld_result {s u : State} {k : Nat} {c : Ticket} (only : State.MapOnly c.number s u)
    (same : ∀ j, j ≠ k → u.stall j = s.stall j) (found : u.ticket c.number = some c) :
    ∃ t old, u.departOld c k = (t, old) ∧ State.MapOnly c.number s t ∧
      (∀ j, s.Leaves c k j → t.stall j = (s.stall j).vacated) ∧ (∀ j, ¬ s.Leaves c k j → t.stall j = u.stall j) ∧
      ((∀ j, ¬ s.Leaves c k j) → t.stalls = u.stalls) ∧
      (∃ stall lift, t.ticket c.number = some { c with stall := stall, lift := lift } ∧
        (∀ j site, s.Leaves c k j → (s.stall j).site = some site → lift = some site.lift) ∧
        ((∀ j, ¬ s.Leaves c k j) → lift = c.lift)) ∧
      ((∃ j, s.Leaves c k j ∧ old = some j) ∨ (∀ j, ¬ s.Leaves c k j) ∧ old = none) := by
  rcases State.departOld_cases same with ⟨j, leaves, eq⟩ | ⟨none, eq⟩
  · have one {i : Nat} (other : s.Leaves c k i) : i = j := Option.some.inj (other.2.2.2.symm.trans leaves.2.2.2)
    have occupied : u.occupiedBy j c.number = true := by
      simp only [State.occupiedBy, same j leaves.1]
      exact leaves.2.1
    obtain ⟨stall, others, ticket⟩ := State.depart_left occupied found
    rw [same j leaves.1] at stall ticket
    refine ⟨_, _, eq, only.depart j, fun i other => ?_, fun i stays => others i fun same => stays (same ▸ leaves),
      fun none => absurd leaves (none j), ⟨_, _, ticket, fun i site other loaded => ?_, fun none => absurd leaves (none j)⟩,
      .inl ⟨j, leaves, rfl⟩⟩
    · rw [one other, stall]
    · rw [← one other, loaded]
      rfl
  · exact ⟨_, _, eq, only, fun j leaves => absurd leaves (none j), fun _ _ => rfl, fun _ => rfl,
      ⟨c.stall, c.lift, found, fun j _ leaves => absurd leaves (none j), fun _ => rfl⟩, .inr ⟨none, rfl⟩⟩

/-- The hold on another stall is released. -/
theorem State.releaseOther_result {s u : State} {k : Nat} {c : Ticket} (only : State.MapOnly c.number s u)
    (same : ∀ j, j ≠ k → s.heldFor j c.number = true ∨ u.heldFor j c.number = true → u.stall j = s.stall j) :
    ∃ t given, u.releaseOther c k = (t, given) ∧ State.MapOnly c.number s t ∧ t.tickets = u.tickets ∧
      (∀ j, s.GivesUp c k j → t.stall j = (s.stall j).released) ∧ (∀ j, ¬ s.GivesUp c k j → t.stall j = u.stall j) ∧
      ((∀ j, ¬ s.GivesUp c k j) → t.stalls = u.stalls) ∧ ((∃ j, s.GivesUp c k j) ∨ given = none) := by
  rcases State.releaseOther_cases same with ⟨j, gives, eq⟩ | ⟨none, eq⟩
  · have one {i : Nat} (other : s.GivesUp c k i) : i = j :=
      Option.some.inj (((c.heldStall_iff i).mpr other.2.2).symm.trans ((c.heldStall_iff j).mpr gives.2.2))
    have stays := same j gives.1 (.inl gives.2.1)
    have held : u.heldFor j c.number = true := by
      simp only [State.heldFor, stays]
      exact gives.2.1
    obtain ⟨stall, others⟩ := State.releaseStall_gives held
    refine ⟨_, _, eq, only.releaseStall j _, (u.releaseStall_frame j c.number).2.2.1, fun i other => ?_,
      fun i stays => others i fun same => stays (same ▸ gives), fun none => absurd gives (none j), .inl ⟨j, gives⟩⟩
    rw [one other, stall, stays]
  · exact ⟨_, _, eq, only, rfl, fun j gives => absurd gives (none j), fun _ _ => rfl, fun _ => rfl, .inr rfl⟩

/-- A car set down, with its old stall where that one is handed on last. -/
theorem State.setDown_result {s : State} {k : Nat} {c : Ticket} (low : k < 640)
    (found : s.ticket c.number = some c) (quiet : (∃ j, s.GivesUp c k j) → s.NoneWaits) :
    ∃ t, s.SetDown t k c (((s.stall k).site.map (·.charger)).getD false) ∧
      ((∃ j, s.Leaves c k j ∧ s.setDown c k = (t, some j)) ∨ (∀ j, ¬ s.Leaves c k j) ∧ s.setDown c k = (t, none)) := by
  obtain ⟨only, tickets, same, taken, stays, counts⟩ := State.keptFor_result (c := c) low
  let bound (u : State) : State := u.modifyTicket c.number (·.parkedIn k (((s.stall k).site.map (·.charger)).getD false) s.now)
  obtain ⟨t, old, eq, only, left, kept, quiet', ⟨stall, lift, ticket, leaves, stays'⟩, whether⟩ :=
    State.departOld_result only same ((State.ticket_congr tickets _).trans found)
  have heldSame (j : Nat) (ne : j ≠ k) (held : s.heldFor j c.number = true ∨ t.heldFor j c.number = true) :
      t.stall j = s.stall j := by
    by_cases leaves : s.Leaves c k j
    · have occupied := ((s.occupiedBy_iff _ _).mp leaves.2.1).1
      rcases held with held | held
      · rw [((s.heldFor_iff _ _).mp held).1] at occupied
        cases occupied
      · have state := ((t.heldFor_iff _ _).mp held).1
        rw [left j leaves] at state
        cases state
    · exact (kept j leaves).trans (same j ne)
  obtain ⟨r, given, eq', only, tickets', released, kept', quiet'', gives⟩ := State.releaseOther_result only heldSame
  have handed : s.setDown c k = (bound r, old) := by
    have set : s.setDown c k = ((match ((s.keptFor k c.number).departOld c k).1.releaseOther c k with
      | (r, none) => bound r
      | (r, some h) => (bound r).handOn h), ((s.keptFor k c.number).departOld c k).2) := by
      simp only [State.setDown, State.keptFor, bound]
      generalize (State.departOld _ c k).1.releaseOther c k = r
      obtain ⟨r, _ | h⟩ := r <;> rfl
    rw [set, eq]
    dsimp only
    rw [eq']
    cases given with
    | none => rfl
    | some h =>
      have none : (bound r).NoneWaits := State.MapOnly.noneWaits
        (only.edit (fun _ => rfl) fun d quiet => by simp [Ticket.parkedIn, quiet]) (quiet (gives.resolve_right nofun))
      exact congrArg (·, old) (none.handOn h)
  have notGiven (j : Nat) (leaves : s.Leaves c k j) : ¬ s.GivesUp c k j := fun gives => by
    have occupied := ((s.occupiedBy_iff _ _).mp leaves.2.1).1
    rw [((s.heldFor_iff _ _).mp gives.2.1).1] at occupied
    cases occupied
  have kNot : ¬ s.GivesUp c k k ∧ ¬ s.Leaves c k k := ⟨fun gives => gives.1 rfl, fun leaves => leaves.1 rfl⟩
  refine ⟨bound r, ⟨only.edit (fun _ => rfl) fun d quiet => by simp [Ticket.parkedIn, quiet], fun free => ?_, fun occupied => ?_,
    released, fun j leaves => (kept' j (notGiven j leaves)).trans (left j leaves),
    fun j ne none none' => (kept' j none).trans ((kept j none').trans (same j ne)), fun state none => ?_,
    ⟨lift, ?_, leaves, stays'⟩⟩, ?_⟩
  · exact (kept' k kNot.1).trans ((kept k kNot.2).trans (taken free))
  · exact (kept' k kNot.1).trans ((kept k kNot.2).trans (stays occupied))
  · have stalls : r.stalls = _ := (quiet'' fun j => (none j).1).trans (quiet' fun j => (none j).2)
    exact (congrArg StallMap.free stalls).trans (counts state)
  · exact State.ticket_edit_same ((State.ticket_congr tickets' _).trans ticket)
      (·.parkedIn k (((s.stall k).site.map (·.charger)).getD false) s.now)
  · rw [handed]
    exact whether.imp (fun ⟨j, leaves, same⟩ => ⟨j, leaves, by rw [same]⟩) fun ⟨out, same⟩ => ⟨out, by rw [same]⟩

/-! ### Letting go of a tenure (R114) -/

/-- No ticket wants a restage. -/
def State.Wishless (s : State) : Prop := ∀ d ∈ s.tickets, d.restageWanted = false

section

variable {s : State} (h : s.Wishless)
include h

theorem State.Wishless.edit (n : Nat) {f : Ticket → Ticket} (wish : ∀ d, d.restageWanted = false → (f d).restageWanted = false) :
    (s.modifyTicket n f).Wishless := by
  intro d mem
  obtain ⟨e, old, rfl⟩ := List.mem_map.mp mem
  split
  exacts [wish e (h e old), h e old]

theorem State.Wishless.move (n : Nat) (x : TicketState) : (s.moveTicket n x).Wishless := by
  rw [State.Wishless, State.moveTicket_tickets]
  refine h.edit n fun d quiet => ?_
  unfold Ticket.enter
  split <;> exact quiet

theorem State.Wishless.serveLanes (fuel : Nat) : (s.serveLanes fuel).Wishless := by
  induction fuel generalizing s with
  | zero => exact h
  | succ fuel ih =>
    unfold State.serveLanes
    split
    · exact h
    next t _ =>
      split
      · exact h
      next lane _ =>
        refine ih ?_
        have reserved : ((s.setLane lane { s.lane lane with state := .reserved, ticket := some t.number }).modifyTicket t.number
            fun t => { t with lane := some lane }).Wishless :=
          State.Wishless.edit (s := s.setLane lane _) h _ fun _ quiet => quiet
        unfold State.reserveLane
        dsimp only
        split
        exacts [reserved.move _ _, reserved]

theorem State.Wishless.grantCheck (l : Nat) : (s.grantCheck l).Wishless := by
  rcases s.grantCheck_cases l with same | ⟨v, passed, same⟩
  · rwa [same]
  · rw [same, State.grant_eq]
    have granting : (s.granting l v passed).Wishless := h
    unfold State.tellGrant
    split
    · exact granting
    · split
      · refine State.Wishless.serveLanes (State.Wishless.move (granting.edit _ ?_) _ _) _
        exact fun _ quiet => quiet
      · exact granting

theorem State.Wishless.letGo (n : Nat) : (s.letGo n).Wishless := by
  refine forEach_keeps State.Wishless _ _ s (fun l t ht => ?_) h
  dsimp only
  split
  · exact State.Wishless.grantCheck (s := t.setLift l _) ht l
  · split
    · exact ht
    · split <;> exact ht

end

/-- A ticket without a tenure has nothing to let go of. -/
theorem State.letGo_none {s : State} {n : Nat} (none : s.hasTenure n = false) : s.letGo n = s := by
  have untold (l : Nat) {v : Tenure} (mem : v ∈ (s.lift l).tenures) : v.ticket ≠ some n := by
    by_cases inside : 1 ≤ l ∧ l ≤ 4
    · exact State.hasTenure_none none inside.1 inside.2 mem
    · have cold : s.lift l = Lift.cold := nth1_outside _ _ _ inside
      rw [cold] at mem
      cases mem
  refine forEach_keeps (fun t => t = s) _ _ s (fun l t same => ?_) rfl
  subst same
  dsimp only
  rw [if_neg (fun any => ?_)]
  · split
    · rfl
    next v current => exact if_neg (untold l (List.mem_append_right _ (by simp [current])))
  · obtain ⟨v, mem, own⟩ := List.any_eq_true.mp any
    exact untold l (List.mem_append_left _ mem) (by simpa using own)

/-- Letting go leaves the records of a number that neither asks for a lane nor waits for a ride down. -/
theorem State.letGo_spares {s : State} {n : Nat} (asks : ∀ t ∈ s.recordsOf n, t.wantsLane = false ∧ t.state ≠ .fetching) (m : Nat) :
    (s.letGo m).recordsOf n = s.recordsOf n := by
  refine forEach_keeps (fun t : State => t.recordsOf n = s.recordsOf n) _ _ s (fun l t same => ?_) rfl
  dsimp only
  split
  · exact (State.grantCheck_spares (s := t.setLift l _) (fun k mem => asks k (by rwa [← same])) l).1.trans same
  · split
    · exact same
    · split <;> exact same

/-! ### The places of the queue through a pairing (R89, R91) -/

/-- The tickets of the tasks, each with whether the task takes a place of the queue. -/
def State.places (s : State) : List (Nat × Bool) := s.dispatch.tasks.map fun w => (w.ticket, w.inQueue)

theorem State.placesTaken_eq (s : State) : s.placesTaken = s.places.countP (·.2) := by
  rw [State.places, List.countP_map]
  rfl

theorem State.places_edit {s : State} {n : Nat} {f : Task → Task} (keeps : ∀ w, (f w).ticket = w.ticket)
    (same : ∀ w ∈ s.dispatch.tasks, w.ticket = n → (f w).inQueue = w.inQueue) : (s.modifyTask n f).places = s.places := by
  simp only [State.places, State.modifyTask, List.map_map]
  refine List.map_congr_left fun w mem => ?_
  simp only [Function.comp_apply]
  split
  next own => rw [keeps, same w mem own]
  · rfl

theorem State.pairTask_places {s : State} {n : Nat} (inside : ∀ b, (n, b) ∈ s.places → b = true) :
    (s.pairTask n).places = s.places := by
  have taken (w : Task) (mem : w ∈ s.dispatch.tasks) (own : w.ticket = n) : w.inQueue = true :=
    inside _ (List.mem_map.mpr ⟨w, mem, by rw [own]⟩)
  have emptied (c : Bool) : (if c then s.modifyTask n fun t => { t with declined := [] } else s).places = s.places := by
    split
    · exact State.places_edit (fun _ => rfl) fun _ _ _ => rfl
    · rfl
  unfold State.pairTask
  split
  · split
    · rfl
    next t found =>
      have number : t.ticket = n := by simpa using List.find?_some found
      dsimp only
      split
      · exact emptied _
      next b _ =>
        refine Eq.trans (State.places_edit (f := fun t => { t with place := .offered b }) (fun _ => rfl) fun w mem own => ?_)
          (emptied (s.allDeclined t))
        have own : w.ticket = n := by
          rw [own]
          split <;> exact number
        have pair := List.mem_map_of_mem (f := fun w : Task => (w.ticket, w.inQueue)) mem
        rw [show List.map _ _ = s.places from emptied _, own] at pair
        exact (inside _ pair).symm
  · rfl

/-- A pairing takes and frees no place, when every ticket has one task at most. -/
theorem State.pair_places {s : State} (once : s.taskTickets.Nodup) : s.pair.places = s.places := by
  have keeps (ns : List Nat) (u : State) (inside : ∀ n ∈ ns, ∀ b, (n, b) ∈ u.places → b = true) :
      (forEach ns (fun n s => s.pairTask n) u).places = u.places := by
    induction ns generalizing u with
    | nil => rfl
    | cons n ns ih =>
      have first := State.pairTask_places (inside n (by simp))
      exact (ih _ fun m mem b place => inside m (by simp [mem]) b (by rwa [← first])).trans first
  refine keeps _ s fun n mem b place => ?_
  obtain ⟨w, ordered, rfl⟩ := List.mem_map.mp mem
  obtain ⟨mem, queued⟩ := List.mem_filter.mp ((sortBy_perm _ _).mem_iff.mp ordered)
  obtain ⟨v, mem', eq⟩ := List.mem_map.mp place
  obtain ⟨same, rfl⟩ := Prod.mk.inj eq
  obtain rfl : v = w := eq_of_key once mem' mem same
  have queued : v.place = .queued := by simpa using queued
  simp [Task.inQueue, queued]

end Sys2Proof.Machine
end

section
/-! PROOF of O34: a PARKED step (R6, R47, R48, R51, R100). -/

namespace Sys2Proof.Machine

open Sys2Proof

/-! ### A runner whose task ends with the slot-free mark (R91, R100) -/

/-- The runner is READY, or was so and has been offered a task. -/
def Runner.atHand (r : Runner) : Prop := r.state = .ready ∨ r.state = .offered

theorem State.pairTask_atHand {s : State} {b : Nat} (low : 1 ≤ b) (high : b ≤ Config.runnerCount) (h : (s.runner b).atHand)
    (n : Nat) : ((s.pairTask n).runner b).atHand := by
  have emptied (c : Prop) [Decidable c] :
      ((if c then s.modifyTask n fun t => { t with declined := [] } else s).runner b).atHand := by split <;> exact h
  unfold State.pairTask
  split
  · split
    · exact h
    · dsimp only
      split
      · exact emptied _
      next b' _ =>
        by_cases same : b' = b
        · subst same
          exact .inr (congrArg Runner.state (State.runner_setRunner_same _ b' _ low high))
        · have kept := emptied
          rw [Runner.atHand, State.offer, State.runner_setRunner_ne _ _ _ _ same]
          exact emptied _
  · exact h

theorem State.pair_atHand {s : State} {b : Nat} (low : 1 ≤ b) (high : b ≤ Config.runnerCount) (h : (s.runner b).atHand) :
    (s.pair.runner b).atHand :=
  forEach_keeps (fun t : State => (t.runner b).atHand) _ _ s (fun n _ kept => State.pairTask_atHand low high kept n) h

theorem State.endTask_atHand {s : State} {b : Nat} (low : 1 ≤ b) (high : b ≤ Config.runnerCount) (n : Nat) :
    ((s.endTask b n true).runner b).atHand ∧ ((s.endTask b n true).runner b).readySince = s.now := by
  have ended : s.endTask b n true =
      (((s.dropTask n).setRunner b ((s.runner b).enterReady s.now)).raise .taskEnd b).pair := rfl
  have runner : (((s.dropTask n).setRunner b ((s.runner b).enterReady s.now)).raise .taskEnd b).runner b =
      (s.runner b).enterReady s.now := (s.dropTask n).runner_setRunner_same b _ low high
  rw [ended]
  refine ⟨State.pair_atHand low high (by rw [runner]; exact .inl rfl), ?_⟩
  rw [State.pair_field Runner.readySince fun _ _ _ _ _ => rfl, runner]
  rfl

/-- A task that takes no place of the queue ends without freeing one. -/
theorem State.endTask_places {s : State} (once : s.taskTickets.Nodup) {n : Nat}
    (held : ∀ w ∈ s.dispatch.tasks, w.ticket = n → w.inQueue = false) (b : Nat) (free : Bool) :
    (s.endTask b n free).placesTaken = s.placesTaken := by
  have dropped : (s.dropTask n).placesTaken = s.placesTaken := by
    simp only [State.placesTaken, State.dropTask, List.countP_filter]
    refine List.countP_congr fun w mem => ?_
    by_cases own : w.ticket = n
    · simp [own, held w mem own]
    · simp [own]
  have once' (r : Runner) : (((s.dropTask n).setRunner b r).raise .taskEnd b).taskTickets.Nodup :=
    List.Nodup.sublist (List.Sublist.map _ List.filter_sublist) once
  cases free with
  | false => exact dropped
  | true =>
    show (State.pair _).placesTaken = _
    rw [State.placesTaken_eq, State.pair_places (once' _), ← State.placesTaken_eq]
    exact dropped

/-! ### The end of a PARKED step (R47, R48, R51, R88, R100) -/

/-- What the end of a PARKED step of ticket `c`, whose record is `d`, leaves. -/
structure State.ParkEnds (s t : State) (b : Nat) (c d : Ticket) (free : Bool) : Prop where
  stalls : t.stalls = s.stalls
  unplaced : t.unplaced = s.unplaced
  issue : t.issue = s.issue
  keys : t.keys = s.keys
  schedule : t.calls.schedule = s.calls.schedule
  ticket : t.ticket c.number = some { d with
    state := if c.callPending then .called else .parked, verify := false, callPending := false
    backlog := d.backlog || (c.callPending && decide (64 ≤ s.placesTaken)) }
  ended : c.callPending = false → t.task c.number = none
  called : c.callPending = true → ∃ w, t.task c.number = some w ∧ w.kind = .fetch ∧ w.declined = [] ∧
    w.age = c.calledAt.getD s.now
  level : (t.runner b).level = (s.runner b).level
  told : ⟨.taskEnd, b⟩ ∈ t.events.waiting
  silent : free = false → (t.runner b).state = .silent ∧ (t.runner b).task = none
  ready : free = true → (t.runner b).atHand ∧ (t.runner b).readySince = s.now ∧
    (c.callPending = false → s.NoneQueued → (t.runner b).state = .ready ∧ (t.runner b).task = none)
  alone : s.hasTenure c.number = false → t.arbiter = s.arbiter ∧ ∀ m, m ≠ c.number → t.ticket m = s.ticket m
  wishless : s.Wishless → t.Wishless

/-- The state after the ticket was moved, its tenure let go of and its task ended. -/
theorem State.stepEnds {s : State} {b n : Nat} {x : TicketState} {d : Ticket} {free : Bool} (low : 1 ≤ b)
    (high : b ≤ Config.runnerCount) (found : s.ticket n = some d) (still : x = .called ∨ x = .parked) {t : State}
    (made : ((s.moveTicket n x).letGo n).endTask b n free = t) :
    t.stalls = s.stalls ∧ t.unplaced = s.unplaced ∧ t.issue = s.issue ∧ t.keys = s.keys ∧
      t.calls.schedule = s.calls.schedule ∧ t.ticket n = some { d with state := x, verify := false } ∧ t.task n = none ∧
      t.now = s.now ∧ (t.runner b).level = (s.runner b).level ∧ ⟨.taskEnd, b⟩ ∈ t.events.waiting ∧
      (free = false → (t.runner b).state = .silent ∧ (t.runner b).task = none) ∧
      (free = true → (t.runner b).atHand ∧ (t.runner b).readySince = s.now ∧
        (s.NoneQueued → (t.runner b).state = .ready ∧ (t.runner b).task = none)) ∧
      (s.hasTenure n = false → t.arbiter = s.arbiter ∧ ∀ m, m ≠ n → t.ticket m = s.ticket m) ∧
      (s.Wishless → t.Wishless) ∧
      (s.taskTickets.Nodup → (∀ w ∈ s.dispatch.tasks, w.ticket = n → w.inQueue = false) → t.placesTaken = s.placesTaken) := by
  have x_ne : x ≠ .atCurb := by rcases still with rfl | rfl <;> nofun
  have moved := State.ticket_entered found x_ne
  obtain ⟨-, stalls, unplaced, issue, keys, dispatch, arbiter, schedule, -, -, clock, -⟩ := s.moveTicket_frame n x
  have records : ∀ k ∈ (s.moveTicket n x).recordsOf n, k.wantsLane = false ∧ k.state ≠ .fetching := by
    intro k mem
    rw [State.recordsOf_move, if_pos rfl] at mem
    obtain ⟨e, -, rfl⟩ := List.mem_map.mp mem
    rw [Ticket.enter_of_ne x_ne]
    rcases still with rfl | rfl <;> exact ⟨rfl, nofun⟩
  have others (m : Nat) (ne : m ≠ n) : (s.moveTicket n x).ticket m = s.ticket m := State.ticket_moveTicket_ne _ _ _ _ ne
  have wishless (h : s.Wishless) := h.move n x
  have tenure : (s.moveTicket n x).hasTenure n = s.hasTenure n := by simp only [State.hasTenure, State.lift, arbiter]
  generalize s.moveTicket n x = u at *
  obtain ⟨-, stalls', unplaced', issue', keys', dispatch', -, -, -, -, -, clock', -, -, schedule', -⟩ := u.letGo_frame n
  have kept := State.ticket_of_records (State.letGo_spares records n)
  have alone (none : s.hasTenure n = false) : u.letGo n = u := State.letGo_none (tenure.trans none)
  have wishless' (h : s.Wishless) := (wishless h).letGo n
  generalize u.letGo n = v at *
  obtain ⟨-, stalls'', unplaced'', tickets, issue'', keys'', arbiter'', calls, -, -, -, -, -, -, clock'', -⟩ :=
    v.endTask_frame b n free
  have both (f : free = true) := f ▸ State.endTask_atHand (s := v) low high n
  have places (once : v.taskTickets.Nodup) (held : ∀ w ∈ v.dispatch.tasks, w.ticket = n → w.inQueue = false) :=
    State.endTask_places once held b free
  obtain ⟨gone, told, level, silent, ready⟩ := State.endTask_ends v low high n free
  rw [made] at *
  clear made
  have now : v.now = s.now := (congrArg id clock').trans (congrArg EventUnit.clock clock)
  have same : v.dispatch = s.dispatch := dispatch'.trans dispatch
  have runner : v.runner b = s.runner b := State.runner_congr same b
  refine ⟨stalls''.trans (stalls'.trans stalls), unplaced''.trans (unplaced'.trans unplaced), issue''.trans (issue'.trans issue),
    keys''.trans (keys'.trans keys), (congrArg Calls.schedule calls).trans (schedule'.trans schedule),
    (State.ticket_congr tickets n).trans (kept.trans moved), gone, clock''.trans now, by rw [level, runner],
    by rw [told]; simp, fun f => by rw [silent f]; exact ⟨rfl, rfl⟩, fun f => ?_, fun none => ?_, fun h d mem => ?_,
    fun once held => ?_⟩
  · refine ⟨(both f).1, (both f).2.trans now, fun none => ?_⟩
    rw [ready f (by rwa [State.NoneQueued, same])]
    exact ⟨rfl, rfl⟩
  · have eq := alone none
    refine ⟨arbiter''.trans (by rw [eq]; exact arbiter), fun m ne => (State.ticket_congr tickets m).trans ?_⟩
    rw [eq]
    exact others m ne
  · exact wishless' h d (tickets ▸ mem)
  · rw [places (by rwa [State.taskTickets, same]) (by rwa [same]), State.placesTaken, same]
    rfl

/-- What a FETCH task made for a ticket without a task leaves to the runners. -/
theorem State.makeTask_runner {s : State} {b : Nat} (low : 1 ≤ b) (high : b ≤ Config.runnerCount) (kind : TaskKind) (n : Nat)
    (age : SiteTime) : ((s.makeTask kind n age).runner b).level = (s.runner b).level ∧
      ((s.makeTask kind n age).runner b).readySince = (s.runner b).readySince ∧
      ((s.runner b).state ≠ .ready → (s.makeTask kind n age).runner b = s.runner b) ∧
      ((s.runner b).atHand → ((s.makeTask kind n age).runner b).atHand) := by
  unfold State.makeTask
  dsimp only
  split
  · exact ⟨State.pair_field Runner.level (fun _ _ _ _ _ => rfl) _ b, State.pair_field Runner.readySince (fun _ _ _ _ _ => rfl) _ b,
      fun busy => State.runner_pair busy, fun h => State.pair_atHand low high h⟩
  · exact ⟨rfl, rfl, fun _ => rfl, id⟩

theorem State.makeTask_fresh {s : State} {n : Nat} (kind : TaskKind) (age : SiteTime) (gone : s.task n = none) :
    ∃ w, (s.makeTask kind n age).task n = some w ∧ w.kind = kind ∧ w.declined = [] ∧ w.age = age := by
  obtain ⟨place, paired⟩ := s.makeTask_tasks kind n age
  have appended : (s.dispatch.tasks ++ [({ kind, ticket := n, age, declined := [], place } : Task)]).find? (fun w => w.ticket == n) =
      some { kind, ticket := n, age, declined := [], place } := by
    rw [List.find?_append, show s.dispatch.tasks.find? (·.ticket == n) = none from gone]
    simp
  obtain ⟨v, own, same, -, made, declined, -⟩ := paired.find appended
  exact ⟨v, own, same, declined rfl, made⟩

theorem State.Wishless.makeTask {s : State} (h : s.Wishless) (kind : TaskKind) (n : Nat) (age : SiteTime) :
    (s.makeTask kind n age).Wishless := by
  unfold State.makeTask
  split
  · intro d mem
    rw [State.pair_tickets] at mem
    exact h d mem
  · exact State.Wishless.edit (s := { s with dispatch.tasks := s.dispatch.tasks ++ _ }) h n fun _ quiet => quiet

theorem State.endParking_result {s : State} {b : Nat} {c d : Ticket} (low : 1 ≤ b) (high : b ≤ Config.runnerCount)
    (found : s.ticket c.number = some d) (same : d.callPending = c.callPending) (once : s.taskTickets.Nodup)
    (held : ∀ w ∈ s.dispatch.tasks, w.ticket = c.number → w.inQueue = false) (free : Bool) :
    s.ParkEnds (s.endParking b c free) b c d free := by
  cases pending : c.callPending with
  | false =>
    have ends : s.endParking b c free = ((s.moveTicket c.number .parked).letGo c.number).endTask b c.number free := by
      simp [State.endParking, pending]
    obtain ⟨stalls, unplaced, issue, keys, schedule, ticket, gone, -, level, told, silent, ready, alone, wishless, -⟩ :=
      State.stepEnds low high found (.inr rfl) ends.symm
    generalize s.endParking b c free = t at *
    refine ⟨stalls, unplaced, issue, keys, schedule, ticket.trans ?_, fun _ => gone, fun now => ?_, level, told, silent,
      fun f => ⟨(ready f).1, (ready f).2.1, fun _ => (ready f).2.2⟩, alone, wishless⟩
    · rw [pending] at same ⊢
      simp [same]
    · rw [pending] at now
      cases now
  | true =>
    let u := s.modifyTicket c.number fun t => { t with callPending := false }
    let e := ((u.moveTicket c.number .called).letGo c.number).endTask b c.number free
    have ends : s.endParking b c free = e.makeTask .fetch c.number (c.calledAt.getD s.now) := by
      simp only [State.endParking, pending, if_true]
      rfl
    have edited : u.ticket c.number = some { d with callPending := false } :=
      State.ticket_edit_same found fun t => { t with callPending := false }
    obtain ⟨stalls, unplaced, issue, keys, schedule, ticket, gone, -, level, told, silent, ready, alone, wishless, places⟩ :=
      State.stepEnds low high edited (.inl rfl) (show _ = e from rfl)
    have places := places once held
    have others (m : Nat) (ne : m ≠ c.number) : u.ticket m = s.ticket m := s.ticket_edit_ne ne fun t => { t with callPending := false }
    have quiet (h : s.Wishless) : u.Wishless := h.edit _ fun _ quiet => quiet
    obtain ⟨-, stalls', unplaced', issue', keys', arbiter', calls', -, events', -⟩ :=
      e.makeTask_frame .fetch c.number (c.calledAt.getD s.now)
    obtain ⟨level', since', busy, atHand⟩ := State.makeTask_runner (s := e) low high .fetch c.number (c.calledAt.getD s.now)
    have task := State.makeTask_fresh .fetch (c.calledAt.getD s.now) gone
    have ticket' := e.makeTask_ticket .fetch c.number (c.calledAt.getD s.now)
    have others' (m : Nat) (ne : m ≠ c.number) := State.makeTask_ticket_ne (s := e) .fetch (c.calledAt.getD s.now) ne
    have wishless' (h : e.Wishless) := h.makeTask .fetch c.number (c.calledAt.getD s.now)
    rw [ends]
    generalize e.makeTask .fetch c.number (c.calledAt.getD s.now) = t at *
    refine ⟨stalls'.trans stalls, unplaced'.trans unplaced, issue'.trans issue, keys'.trans keys,
      (congrArg Calls.schedule calls').trans schedule, ?_, fun now => ?_, fun _ => task, level'.trans level,
      by rw [events']; exact told, fun f => ?_, fun f => ⟨atHand (ready f).1, since'.trans (ready f).2.1, fun now => ?_⟩,
      fun none => ?_, fun h => wishless' (wishless (quiet h))⟩
    · rw [ticket', ticket, places, pending]
      simp only [Option.map_some, if_true, Bool.true_and]
      rfl
    · rw [pending] at now
      cases now
    · rw [busy (by rw [(silent f).1]; nofun)]
      exact silent f
    · rw [pending] at now
      cases now
    · obtain ⟨arbiter, kept⟩ := alone none
      exact ⟨arbiter'.trans arbiter, fun m ne => (others' m ne).trans ((kept m ne).trans (others m ne))⟩

/-- The step of a PARKED, when the named stall may take the car. -/
theorem State.parkStep_result {s : State} {b k : Nat} {c : Ticket} {site : StallSite} {free : Bool} (first : 1 ≤ b)
    (last : b ≤ Config.runnerCount) (low : k < 640) (loaded : (s.stall k).site = some site) (can : s.parkable k c = true)
    (found : s.ticket c.number = some c) (quiet : (∃ j, s.GivesUp c k j ∨ s.Leaves c k j) → s.NoneWaits)
    (once : s.taskTickets.Nodup) (held : ∃ w, s.task c.number = some w ∧ w.place = .held b) :
    ∃ v d t, s.parkStep b k free c = (t, .done) ∧ s.SetDown v k c site.charger ∧ v.ticket c.number = some d ∧
      (v.setLevel b site.level).ParkEnds t b c d free := by
  obtain ⟨v, down, whether⟩ := State.setDown_result low found fun ⟨j, gives⟩ => quiet ⟨j, .inl gives⟩
  rw [loaded] at down
  obtain ⟨lift, ticket, -⟩ := down.ticket
  have tasks : (v.setLevel b site.level).dispatch.tasks = s.dispatch.tasks :=
    (congrArg (fun d => d.tasks) down.only.dispatch :)
  obtain ⟨w, task, place⟩ := held
  have ends := State.endParking_result (s := v.setLevel b site.level) first last ticket rfl
    (by rwa [State.taskTickets, tasks]) (fun w' mem own => by
      rw [tasks] at mem
      obtain rfl : w' = w := eq_of_key once mem (List.mem_of_find?_eq_some task) (own.trans (Eq.symm (by simpa using List.find?_some task)))
      simp [Task.inQueue, place]) free
  refine ⟨v, _, _, ?_, down, ticket, ends⟩
  have handed : s.parkStep b k free c = (match (s.setDown c k).2 with
      | none => (((s.setDown c k).1.setLevel b site.level).endParking b c free, .done)
      | some old => ((((s.setDown c k).1.setLevel b site.level).endParking b c free).handOn old, .done)) := by
    simp only [State.parkStep, show k < Config.stallCount from low, can, if_true, loaded, Option.map_some, Option.getD_some]
    split <;> simp_all
  rw [handed]
  rcases whether with ⟨j, leaves, eq⟩ | ⟨-, eq⟩ <;> rw [eq]
  have none : ((v.setLevel b site.level).endParking b c free).NoneWaits :=
    ⟨ends.unplaced.trans (down.only.noneWaits (quiet ⟨j, .inr leaves⟩)).1,
      ends.wishless (down.only.noneWaits (quiet ⟨j, .inr leaves⟩)).2⟩
  exact congrArg (·, Answer.done) (none.handOn j)

/-- Settles O34: the car is set down, and its step ends. -/
theorem parkedOccupiesTheHeldStall : Obligations.ParkedOccupiesTheHeldStall := by
  intro s f b c slotFree holds
  have step {k : Nat} {u : State} {o : Answer} (taken : (s.heard f).parkedStep b k slotFree c = (u, o)) :
      exec (.parked f b c.number k slotFree) s = .next (u.oweRunner b .parked o (some c.number)) :=
    holds.step .parked (fun s => s.parkedStep b k slotFree) taken
  refine ⟨fun state => ?_, fun parking restaging k => step ?_⟩
  · have parks (k : Nat) : (s.heard f).parkedStep b k slotFree c = (s.heard f).parkStep b k slotFree c := by
      rcases state with state | state <;> simp only [State.parkedStep, state]
    have gives (k j : Nat) : (s.heard f).GivesUp c k j ↔ s.GivesUp c k j := by
      simp only [State.GivesUp, State.heldFor, s.stall_heard]
    have leaves (k j : Nat) : (s.heard f).Leaves c k j ↔ s.Leaves c k j := by
      simp only [State.Leaves, State.occupiedBy, s.stall_heard]
    have parkable (k : Nat) : (s.heard f).parkable k c = s.parkable k c := by
      simp only [State.parkable, State.heldFor, State.occupiedBy, s.stall_heard]
    refine ⟨fun k site low loaded can quiet once held => ?_, fun k high => step ?_, fun k low other notHeld notOld => step ?_⟩
    · obtain ⟨⟨hears, -, first, last⟩, -, found⟩ := id holds
      obtain ⟨v, d, t, taken, down, ticket, ends⟩ := State.parkStep_result (s := s.heard f) (k := k) (c := c) (free := slotFree) first last low
        (by rwa [s.stall_heard]) (by
          rw [parkable]
          simpa [State.parkable, or_assoc] using can) (by rwa [s.ticket_heard])
        (fun ⟨j, either⟩ => by
          rw [gives, leaves] at either
          rw [State.NoneWaits, s.heard_unplaced, s.heard_tickets]
          exact quiet ⟨j, either⟩) (by rwa [State.taskTickets, s.heard_dispatch]) (by rwa [s.task_heard])
      have work := keepsRest_workKeeps (s.heard f)
      have rest := work.parkedStep b k slotFree c (State.KeepsRest.refl _)
      have counted (right : s.FreeCountsRight) := freeCounts_stepKeeps.parkedStep (s := s.heard f) b k slotFree c (by
        rw [s.heard_eq f]
        exact right)
      rw [parks, taken] at rest counted
      obtain ⟨lift, same, left, kept⟩ := down.ticket
      obtain rfl := Option.some.inj (ticket.symm.trans same)
      have stall (j : Nat) : t.stall j = v.stall j := by
        have stalls : t.stalls = v.stalls := ends.stalls
        simp only [State.stall, stalls]
      have now := s.now_heard f
      have params := s.heard_params f
      have placesTaken : (v.setLevel b site.level).placesTaken = s.placesTaken := by
        have tasks : (v.setLevel b site.level).dispatch.tasks = s.dispatch.tasks :=
          (congrArg (fun d => d.tasks) (down.only.dispatch.trans (s.heard_dispatch f)) :)
        rw [State.placesTaken, tasks, State.placesTaken]
      have level : ((v.setLevel b site.level).runner b).level = site.level :=
        congrArg Runner.level (State.runner_setRunner_same _ _ _ first last)
      have nowEnd : (v.setLevel b site.level).now = s.now := (down.only.rest.clock : v.now = _).trans now
      have replied := State.runner_oweRunner (s := t) first last .parked .done (some c.number)
      refine ⟨_, step ((parks k).trans taken), ?_⟩
      constructor
      case setup => exact (work.oweRunner b .parked .done (some c.number) rest).heardSetup
      case taken =>
        intro free
        refine (stall k).trans ((down.taken (by simpa only [State.occupiedBy, s.stall_heard] using free)).trans ?_)
        rw [s.stall_heard, now, params]
        rfl
      case stays => exact fun occupied => (stall k).trans ((down.stays (by simpa only [State.occupiedBy, s.stall_heard] using occupied)).trans (s.stall_heard f k))
      case released => exact fun j other => (stall j).trans ((down.released j ((gives k j).mpr other)).trans (by rw [s.stall_heard]; rfl))
      case left => exact fun j other => (stall j).trans ((down.left j ((leaves k j).mpr other)).trans (by rw [s.stall_heard]; rfl))
      case others =>
        exact fun j ne out out' => (stall j).trans ((down.others j ne (by rwa [gives]) (by rwa [leaves])).trans (s.stall_heard f j))
      case counts => exact fun right => counted right
      case sameCounts =>
        intro state none
        have free := down.sameCounts (by rwa [s.stall_heard]) fun j => by
          rw [gives, leaves]
          exact none j
        have stalls : t.stalls = v.stalls := ends.stalls
        exact (congrArg StallMap.free stalls).trans (free.trans (congrArg StallMap.free (s.heard_stalls f)))
      case ticket =>
        refine ⟨lift, ends.ticket.trans ?_, fun j old other loaded => left j old ((leaves k j).mpr other) (by rwa [s.stall_heard]),
          fun none => kept fun j => by rw [leaves]; exact none j⟩
        rw [placesTaken, now]
      case ended => exact ends.ended
      case called =>
        intro pending
        rw [← nowEnd]
        exact ends.called pending
      case runner =>
        rw [replied]
        exact ⟨ends.level.trans level, rfl, ends.told⟩
      case silent =>
        rw [replied]
        exact ends.silent
      case ready =>
        intro free
        obtain ⟨atHand, since, ready⟩ := ends.ready free
        rw [replied]
        refine ⟨atHand, since.trans nowEnd, fun pending none => ready pending ?_⟩
        have tasks : (v.setLevel b site.level).dispatch.tasks = s.dispatch.tasks :=
          (congrArg (fun d => d.tasks) (down.only.dispatch.trans (s.heard_dispatch f)) :)
        rw [State.NoneQueued, tasks]
        simpa using none
      case rest =>
        exact ⟨ends.keys.trans (down.only.keys.trans (s.heard_keys f)),
          ends.schedule.trans (congrArg Calls.schedule (down.only.calls.trans (s.heard_calls f)))⟩
      case alone =>
        intro none
        have arbiter := down.only.arbiter.trans (s.heard_arbiter f)
        have tenure : (v.setLevel b site.level).hasTenure c.number = false := by
          simpa only [State.hasTenure, State.lift, State.setLevel, State.setRunner, arbiter] using none
        obtain ⟨arbiter', others⟩ := ends.alone tenure
        exact ⟨arbiter'.trans arbiter, fun m ne => (others m ne).trans ((down.only.others m ne).trans (s.ticket_heard f m)),
          ends.unplaced.trans (down.only.unplaced.trans (s.heard_unplaced f)), ends.issue.trans (down.only.issue.trans (s.heard_issue f))⟩
    · rw [parks, State.parkStep, if_neg (show ¬ k < Config.stallCount from Nat.not_lt.mpr high)]
    · rw [parks, State.parkStep, if_pos (show k < Config.stallCount from low), parkable, if_neg]
      simp only [State.parkable, other, notHeld, Bool.or_false, Bool.or_eq_true, beq_iff_eq, false_or, Bool.and_eq_true, not_and]
      exact fun restaging => by simp [notOld restaging]
  · unfold State.parkedStep
    split
    next same => exact absurd same parking
    next same => exact absurd same restaging
    · rfl

end Sys2Proof.Machine
end

section
/-! SUPPORT for the obligation about FORCE_CLOSE: what stays free of a ticket number while other tickets are served. -/

namespace Sys2Proof.Machine

open Sys2Proof

/-! ### Runners who are offered other tasks (R91, R97) -/

/-- The record `x` is `r`, or `r` since offered the task of another ticket than `n`. -/
def Runner.PairedTo (n : Nat) (r x : Runner) : Prop :=
  x = r ∨ ∃ m kind by_, m ≠ n ∧ x = { r with state := .offered, task := some (m, kind), offerBy := by_, owed := some (.offer m) }

theorem Runner.PairedTo.trans {n : Nat} {r x y : Runner} (h : r.PairedTo n x) (h' : x.PairedTo n y) : r.PairedTo n y := by
  rcases h' with rfl | ⟨m, kind, by_, other, rfl⟩
  · exact h
  · rcases h with rfl | ⟨m', kind', by', -, rfl⟩
    exacts [.inr ⟨m, kind, by_, other, rfl⟩, .inr ⟨m, kind, by_, other, rfl⟩]

/-- No task of ticket `n` is listed, and the runners 1 to 32 are those of `s`, or since offered tasks of other tickets. -/
structure State.PairedWithout (n : Nat) (s t : State) : Prop where
  task : t.task n = none
  runners : ∀ b, 1 ≤ b → b ≤ 32 → (s.runner b).PairedTo n (t.runner b)

section

variable {n : Nat} {s t : State}

theorem State.PairedWithout.refl (gone : s.task n = none) : State.PairedWithout n s s := ⟨gone, fun _ _ _ => .inl rfl⟩

theorem State.PairedWithout.of_dispatch (h : State.PairedWithout n s t) {u : State} (same : u.dispatch = t.dispatch) :
    State.PairedWithout n s u :=
  ⟨(State.task_congr same n).trans h.task, fun b low high => by rw [State.runner_congr same]; exact h.runners b low high⟩

/-- The same runners, with tasks of the same tickets. -/
theorem State.PairedWithout.of_tickets (h : State.PairedWithout n s t) {u : State} (tickets : n ∉ u.taskTickets)
    (runners : u.dispatch.runners = t.dispatch.runners) : State.PairedWithout n s u :=
  ⟨(u.task_none_iff n).mpr tickets, fun b low high => by
    rw [show u.runner b = t.runner b from by rw [State.runner, State.runner, runners]]
    exact h.runners b low high⟩

theorem State.PairedWithout.modifyTask (h : State.PairedWithout n s t) (m : Nat) {f : Task → Task}
    (same : ∀ w, (f w).ticket = w.ticket) : State.PairedWithout n s (t.modifyTask m f) :=
  h.of_tickets (by rw [t.modifyTask_taskTickets m same]; exact (t.task_none_iff n).mp h.task) rfl

/-- An offer of another ticket's task. -/
theorem State.offer_pairedTo {w : Task} (other : w.ticket ≠ n) (b' : Nat) {b : Nat} (low : 1 ≤ b) (high : b ≤ 32) :
    (t.runner b).PairedTo n ((t.offer w b').runner b) := by
  by_cases same : b' = b
  · subst same
    exact .inr ⟨w.ticket, w.kind, _, other, State.runner_setRunner_same _ _ _ low high⟩
  · exact .inl (State.runner_setRunner_ne _ _ _ _ same)

theorem State.PairedWithout.pairTask (h : State.PairedWithout n s t) (m : Nat) : State.PairedWithout n s (t.pairTask m) := by
  have tickets : n ∉ (t.pairTask m).taskTickets := by
    rw [t.pairTask_taskTickets]
    exact (t.task_none_iff n).mp h.task
  refine ⟨(State.task_none_iff _ n).mpr tickets, fun b low high => (h.runners b low high).trans ?_⟩
  unfold State.pairTask
  split
  · split
    · exact .inl rfl
    next w own =>
      have emptied (p : Prop) [Decidable p] :
          (if p then t.modifyTask m fun t => { t with declined := [] } else t).runner b = t.runner b := by
        split <;> rfl
      have other (p : Prop) [Decidable p] : (if p then { w with declined := [] } else w).ticket ≠ n := by
        have named : w.ticket = m := by simpa using List.find?_some own
        have ne : m ≠ n := fun same => by
          rw [same, h.task] at own
          cases own
        split <;> simpa only [named] using ne
      dsimp only
      split
      · exact .inl (emptied _)
      next b' chosen =>
        have offered := State.offer_pairedTo (n := n) (t := if t.allDeclined w = true then
          t.modifyTask m fun t => { t with declined := [] } else t) (other (t.allDeclined w = true)) b' low high
        rwa [emptied] at offered
  · exact .inl rfl

theorem State.PairedWithout.pair (h : State.PairedWithout n s t) : State.PairedWithout n s t.pair :=
  forEach_keeps (State.PairedWithout n s) _ _ t (fun m _ held => held.pairTask m) h

theorem State.PairedWithout.promote (h : State.PairedWithout n s t) : State.PairedWithout n s t.promote := by
  unfold State.promote
  split
  · split
    · exact h
    next w first =>
      refine State.PairedWithout.pair (State.PairedWithout.of_dispatch (t := t.modifyTask w.ticket fun t => { t with place := .queued })
        (h.modifyTask _ fun _ => rfl) ?_)
      exact rfl
  · exact h

/-- A task made for another ticket. -/
theorem State.PairedWithout.makeTask (h : State.PairedWithout n s t) (kind : TaskKind) {m : Nat} (other : m ≠ n)
    (age : SiteTime) : State.PairedWithout n s (t.makeTask kind m age) := by
  have gone := (t.task_none_iff n).mp h.task
  have listed (place : TaskPlace) : State.PairedWithout n s
      { t with dispatch.tasks := t.dispatch.tasks ++ [{ kind, ticket := m, age, declined := [], place }] } := by
    refine h.of_tickets ?_ rfl
    rw [State.taskTickets, List.map_append, List.mem_append]
    exact fun mem => mem.elim gone fun own => other (List.mem_singleton.mp own).symm
  unfold State.makeTask
  split
  · exact (listed .queued).pair
  · exact (listed .backlog).of_dispatch rfl

end

/-- A runner's record once the task of ticket `n` is withdrawn (R97). -/
def State.afterWithdrawal (s : State) (n b : Nat) : Runner :=
  match s.task n with
  | none => s.runner b
  | some w =>
    if w.place = .offered b ∨ w.place = .held b then
      { (s.runner b).enterReady s.now with owed := some (.withdraw n) }
    else s.runner b

/-- A withdrawn task leaves the runners, the one it frees READY, or since offered tasks of other tickets. -/
theorem State.withdrawTask_runner (s : State) (n : Nat) {b : Nat} (low : 1 ≤ b) (high : b ≤ 32) :
    (s.afterWithdrawal n b).PairedTo n ((s.withdrawTask n).runner b) := by
  have gone : (s.dropTask n).task n = none := by simp [State.task_none_iff, s.dropTask_taskTickets]
  let ready (c : Nat) : Runner := { (s.runner c).enterReady s.now with owed := some (.withdraw n) }
  have freed (c : Nat) : State.PairedWithout n ((s.dropTask n).setRunner c (ready c)) ((s.dropTask n).setRunner c (ready c)) :=
    State.PairedWithout.refl gone
  cases own : s.task n with
  | none =>
    simp only [State.withdrawTask, State.afterWithdrawal, own]
    exact .inl rfl
  | some w =>
    have loosed {c : Nat} {place : TaskPlace} (freed : place = .offered c ∨ place = .held c) {x : Runner}
        (paired : (((s.dropTask n).setRunner c (ready c)).runner b).PairedTo n x) :
        (if place = .offered b ∨ place = .held b then ready b else s.runner b).PairedTo n x := by
      have which : (place = .offered b ∨ place = .held b) ↔ c = b := by rcases freed with rfl | rfl <;> simp
      simp only [which]
      split
      next same =>
        subst same
        rwa [State.runner_setRunner_same _ _ _ low high] at paired
      next other => rwa [State.runner_setRunner_ne _ _ _ _ other] at paired
    simp only [State.withdrawTask, State.afterWithdrawal, own]
    cases place : w.place with
    | queued => exact (State.PairedWithout.refl gone).promote.runners b low high
    | backlog => exact .inl rfl
    | offered c => exact loosed (.inl rfl) ((freed c).promote.pair.runners b low high)
    | held c =>
      exact loosed (.inr rfl) (((freed c).of_dispatch (u := ((s.dropTask n).setRunner c (ready c)).modifyTicket n
        fun k => { k with runner := none }) rfl).pair.runners b low high)

/-! ### What stays free of a ticket number (R59) -/

/-- State `t`, in which no ticket `n` is open, is free of the number, and what of it `s` still names stands as it stood:
keys, schedule, stalls and the rides of the lifts are not given to it again. -/
structure State.RidOf (n : Nat) (s t : State) : Prop where
  gone : t.ticket n = none
  paired : State.PairedWithout n s t
  unplaced : n ∉ t.unplaced
  keys : t.keys = s.keys
  schedule : t.calls.schedule = s.calls.schedule
  board : ∀ e ∈ t.calls.board, e.ticket ≠ n
  stalls : ∀ k, (t.stall k).ticket = some n → t.stall k = s.stall k
  lanes : ∀ l, 1 ≤ l → l ≤ 6 → (t.lane l).ticket ≠ some n
  queues : ∀ l, 1 ≤ l → l ≤ 4 → ∀ w ∈ (t.lift l).queue, w.ticket ≠ some n
  rides : ∀ l, 1 ≤ l → l ≤ 4 → (s.lift l).current ≠ none →
    (t.lift l).current = (s.lift l).current ∧ (t.lift l).state = (s.lift l).state

section

variable {n : Nat} {s t : State}

/-- A ticket that is open is another one. -/
theorem State.RidOf.other (h : State.RidOf n s t) {c : Ticket} (mem : c ∈ t.tickets) : c.number ≠ n := fun same => by
  have none := List.find?_eq_none.mp h.gone c mem
  simp [same] at none

theorem State.RidOf.edit (h : State.RidOf n s t) {m : Nat} (other : m ≠ n) {f : Ticket → Ticket}
    (number : ∀ d, (f d).number = d.number) : State.RidOf n s (t.modifyTicket m f) :=
  { h with gone := (t.ticket_edit_ne (Ne.symm other) f number).trans h.gone, paired := h.paired.of_dispatch rfl }

theorem State.RidOf.setLane (h : State.RidOf n s t) (l : Nat) {r : Lane} (foreign : r.ticket ≠ some n) :
    State.RidOf n s (t.setLane l r) :=
  { h with
    paired := h.paired.of_dispatch rfl
    lanes := fun m low high => by
      by_cases same : l = m
      · subst same
        rwa [State.lane_setLane_same _ _ _ low high]
      · rw [State.lane_setLane_ne _ _ _ _ same]
        exact h.lanes m low high }

theorem State.RidOf.setLift (h : State.RidOf n s t) (l : Nat) {r : Lift} (foreign : 1 ≤ l → l ≤ 4 → ∀ w ∈ r.queue, w.ticket ≠ some n)
    (ride : (t.lift l).current ≠ none → r.current = (t.lift l).current ∧ r.state = (t.lift l).state) :
    State.RidOf n s (t.setLift l r) where
  gone := h.gone
  paired := h.paired.of_dispatch rfl
  unplaced := h.unplaced
  keys := h.keys
  schedule := h.schedule
  board := h.board
  stalls := h.stalls
  lanes := h.lanes
  queues m low high := by
    by_cases same : l = m
    · subst same
      rw [State.lift_setLift_same _ _ _ low high]
      exact foreign low high
    · rw [State.lift_setLift_ne _ _ _ _ same]
      exact h.queues m low high
  rides m low high taken := by
    obtain ⟨current, state⟩ := h.rides m low high taken
    by_cases same : l = m
    · subst same
      rw [State.lift_setLift_same _ _ _ low high]
      obtain ⟨current', state'⟩ := ride (by rwa [current])
      exact ⟨current'.trans current, state'.trans state⟩
    · rw [State.lift_setLift_ne _ _ _ _ same]
      exact ⟨current, state⟩

theorem State.RidOf.putStall (h : State.RidOf n s t) (k : Nat) {r : Stall} (foreign : r.ticket ≠ some n) :
    State.RidOf n s (t.putStall k r) := by
  obtain ⟨-, unplaced, tickets, -, keys, dispatch, arbiter, calls, -⟩ := t.putStall_frame k r
  exact {
    gone := (State.ticket_congr tickets n).trans h.gone, paired := h.paired.of_dispatch dispatch,
    unplaced := unplaced ▸ h.unplaced, keys := keys.trans h.keys, schedule := (congrArg _ calls).trans h.schedule,
    board := fun e mem => h.board e (calls ▸ mem)
    stalls := fun j own => by
      by_cases same : k = j
      · subst same
        by_cases low : k < 640
        · rw [t.stall_putStall_same k r low] at own
          exact absurd own foreign
        · have cold : (t.putStall k r).stall k = t.stall k := (nth_outside _ _ _ (not_lt.mp low)).trans (nth_outside _ _ _ (not_lt.mp low)).symm
          rw [cold] at own ⊢
          exact h.stalls k own
      · rw [t.stall_putStall_ne k j r same] at own ⊢
        exact h.stalls j own
    lanes := fun l low high => by rw [State.lane_congr arbiter]; exact h.lanes l low high
    queues := fun l low high => by
      rw [State.lift_of_lifts (congrArg _ arbiter)]
      exact h.queues l low high
    rides := fun l low high => by
      rw [State.lift_of_lifts (t := t.putStall k r) (congrArg _ arbiter)]
      exact h.rides l low high }

/-- A change of state puts no other ticket on the curb board. -/
theorem State.moveTicket_board (s : State) {m : Nat} (x : TicketState) {e : BoardEntry}
    (mem : e ∈ (s.moveTicket m x).calls.board) : e ∈ s.calls.board ∨ e.ticket = m := by
  unfold State.moveTicket at mem
  split at mem
  · exact .inl mem
  · rw [(State.boardSince_frame _ _).2.2.2.2.2.2.2.2.1] at mem
    split at mem
    · split at mem
      · exact .inl mem
      · rcases List.mem_cons.mp ((insertBy_perm _ _ _).mem_iff.mp mem) with new | old
        · exact .inr (congrArg BoardEntry.ticket new)
        · exact .inl old
    · split at mem
      · exact .inl (List.mem_filter.mp mem).1
      · exact .inl mem

theorem State.RidOf.moveTicket (h : State.RidOf n s t) {m : Nat} (other : m ≠ n) (x : TicketState) :
    State.RidOf n s (t.moveTicket m x) := by
  obtain ⟨-, stalls, unplaced, -, keys, dispatch, arbiter, schedule, -⟩ := t.moveTicket_frame m x
  exact {
    gone := (t.ticket_moveTicket_ne m n x (Ne.symm other)).trans h.gone, paired := h.paired.of_dispatch dispatch
    unplaced := unplaced ▸ h.unplaced, keys := keys.trans h.keys, schedule := schedule.trans h.schedule
    board := fun e mem => (t.moveTicket_board x mem).elim (h.board e) fun own => own ▸ other
    stalls := fun k => by rw [State.stall_congr stalls]; exact h.stalls k
    lanes := fun l => by rw [State.lane_congr arbiter]; exact h.lanes l
    queues := fun l => by rw [State.lift_congr arbiter]; exact h.queues l
    rides := fun l => by rw [State.lift_congr arbiter]; exact h.rides l }

theorem State.RidOf.makeTask (h : State.RidOf n s t) (kind : TaskKind) {m : Nat} (other : m ≠ n) (age : SiteTime) :
    State.RidOf n s (t.makeTask kind m age) := by
  obtain ⟨-, stalls, unplaced, -, keys, arbiter, calls, -⟩ := t.makeTask_frame kind m age
  exact {
    gone := (State.makeTask_ticket_ne kind age (Ne.symm other)).trans h.gone, paired := h.paired.makeTask kind other age
    unplaced := unplaced ▸ h.unplaced, keys := keys.trans h.keys, schedule := (congrArg _ calls).trans h.schedule
    board := fun e mem => h.board e (calls ▸ mem)
    stalls := fun k => by rw [State.stall_congr stalls]; exact h.stalls k
    lanes := fun l => by rw [State.lane_congr arbiter]; exact h.lanes l
    queues := fun l => by rw [State.lift_congr arbiter]; exact h.queues l
    rides := fun l => by rw [State.lift_congr arbiter]; exact h.rides l }

/-! #### Stalls handed on to other tickets (R8, R33, R48) -/

theorem State.RidOf.hold (h : State.RidOf n s t) (k : Nat) {m : Nat} (other : m ≠ n) : State.RidOf n s (t.hold k m) := by
  unfold State.hold
  dsimp only
  split
  · exact h.putStall k fun own => other (Option.some.inj own)
  · exact h

theorem State.RidOf.attemptTicket (h : State.RidOf n s t) (m : Nat) : State.RidOf n s (t.attemptTicket m) := by
  unfold State.attemptTicket
  split
  · exact h
  next c found =>
    have other : m ≠ n := State.ticket_number found ▸ h.other (List.mem_of_find?_eq_some found)
    split
    · exact h
    next k second _ =>
      have listed : State.RidOf n s { t with unplaced := t.unplaced.filter (· != m) } :=
        { h with
          paired := h.paired.of_dispatch rfl
          unplaced := fun mem => h.unplaced (List.mem_filter.mp mem).1 }
      exact (((listed.hold k other).edit (f := fun t => { t with stall := some k, restageWanted := second }) other
        fun _ => rfl).moveTicket other .assigned).makeTask .park other c.arrived

theorem State.RidOf.attemptUnplaced (h : State.RidOf n s t) : State.RidOf n s t.attemptUnplaced :=
  forEach_keeps (State.RidOf n s) _ _ t (fun m _ held => held.attemptTicket m) h

theorem State.RidOf.handOn (h : State.RidOf n s t) (k : Nat) : State.RidOf n s (t.handOn k) := by
  have placed := h.attemptUnplaced
  unfold State.handOn
  generalize t.attemptUnplaced = u at *
  unfold State.lookRestage
  split
  · split
    · split
      · exact placed
      next c chosen =>
        have other := placed.other (List.mem_filter.mp (firstBy_mem chosen)).1
        exact (((placed.hold k other).edit (f := fun t => { t with target := some k }) other
          fun _ => rfl).moveTicket other .restaging).makeTask .restage other u.now
    · exact placed
  · exact placed

/-! #### Lanes and lifts granted to other tickets (R109 to R111, R119) -/

theorem State.RidOf.serveLanes (fuel : Nat) (h : State.RidOf n s t) : State.RidOf n s (t.serveLanes fuel) := by
  induction fuel generalizing t with
  | zero => exact h
  | succ fuel ih =>
    unfold State.serveLanes
    split
    · exact h
    next c oldest =>
      split
      · exact h
      next lane _ =>
        have other := h.other (State.oldestRequest_mem oldest).1
        have reserved := (h.setLane lane (r := { t.lane lane with state := .reserved, ticket := some c.number })
          fun own => other (Option.some.inj own)).edit (f := fun t => { t with lane := some lane }) other fun _ => rfl
        refine ih ?_
        unfold State.reserveLane
        dsimp only
        split
        · exact reserved.moveTicket other .toCurb
        · exact reserved

theorem State.RidOf.laneGrantCheck (h : State.RidOf n s t) : State.RidOf n s t.laneGrantCheck := h.serveLanes _

theorem State.RidOf.tellGrant (h : State.RidOf n s t) (w : Tenure) : State.RidOf n s (t.tellGrant w) := by
  unfold State.tellGrant
  split
  · exact h
  next k told =>
    split
    · obtain ⟨m, -, found⟩ := Option.bind_eq_some_iff.mp told
      have other := h.other (List.mem_of_find?_eq_some found)
      exact ((h.edit (f := fun k => { k with laneRequest := some (k.laneRequest.getD t.now) }) other
        fun _ => rfl).moveTicket other .descending).laneGrantCheck
    · exact h

theorem State.RidOf.grantCheck (h : State.RidOf n s t) (l : Nat) : State.RidOf n s (t.grantCheck l) := by
  unfold State.grantCheck
  dsimp only
  split
  next can =>
    split
    · exact h
    next v passed _ =>
      rw [State.grant_eq]
      have free := can.2.2
      let r : Lift := { t.lift l with
        state := .busy, current := some { v with state := .granted }, queue := queueAfter (t.lift l).queue v passed }
      have busy : State.RidOf n s (t.setLift l r) := h.setLift l (fun low high w mem => by
        obtain ⟨u, old, rfl⟩ := List.mem_map.mp mem
        have foreign := h.queues l low high u (List.mem_of_mem_erase old)
        split <;> exact foreign) fun taken => absurd free taken
      have owed := busy.setLift l (r := { (t.setLift l r).lift l with orderOwed := true }) (busy.queues l) fun _ => ⟨rfl, rfl⟩
      have granted : State.RidOf n s (t.granting l v passed) := { owed with paired := owed.paired.of_dispatch rfl }
      exact granted.tellGrant v
  · exact h

theorem State.RidOf.stagingFell (h : State.RidOf n s t) (l : Option Nat) : State.RidOf n s (t.stagingFell l) := by
  cases l with
  | none => exact h
  | some l => exact h.grantCheck l

end

end Sys2Proof.Machine
end

section
/-! PROOF of O54: FORCE_CLOSE. -/

namespace Sys2Proof.Machine

open Sys2Proof

/-! ### One turn of a loop that settles its element -/

/-- Where each turn keeps `P`, the turn of `x` reaches `Q` from `P`, and each turn keeps `Q`, the loop reaches `Q`. -/
theorem forEach_reaches {α σ : Type} (P Q : σ → Prop) {xs : List α} {f : α → σ → σ} {x : α} (mem : x ∈ xs) {s : σ}
    (step : ∀ y ∈ xs, ∀ s, P s → P (f y s)) (hit : ∀ s, P s → Q (f x s)) (keep : ∀ y ∈ xs, ∀ s, Q s → Q (f y s)) (h : P s) :
    Q (forEach xs f s) := by
  obtain ⟨before, after, rfl⟩ := List.append_of_mem mem
  rw [forEach, List.foldl_append, List.foldl_cons]
  have reached := hit _ (forEach_keeps_of_mem P before f s (fun y mem => step y (List.mem_append_left _ mem)) h)
  exact forEach_keeps_of_mem Q after f _ (fun y mem => keep y (List.mem_append_right _ (List.mem_cons_of_mem _ mem))) reached

/-! ### The stalls of a ticket freed (R59) -/

/-- A released stall loses its ticket, and the other stalls stay. -/
theorem State.releaseStall_stall (s : State) (k n : Nat) {j : Nat} (own : ((s.releaseStall k n).stall j).ticket = some n) :
    (s.releaseStall k n).stall j = s.stall j ∧ (j = k → s.heldFor k n = false) := by
  by_cases held : s.heldFor k n = true
  · obtain ⟨here, others⟩ := State.releaseStall_gives held
    by_cases same : j = k
    · subst same
      rw [here] at own
      cases own
    · exact ⟨others j same, fun same' => absurd same' same⟩
  · rw [State.releaseStall, if_neg held]
    exact ⟨rfl, fun _ => by simpa using held⟩

theorem State.freeOccupied_stall (s : State) (k n : Nat) (recheck : Bool) {j : Nat}
    (own : ((s.freeOccupied k recheck).stall j).ticket = some n) :
    (s.freeOccupied k recheck).stall j = s.stall j ∧ (j = k → s.occupiedBy k n = false) := by
  unfold State.freeOccupied at own ⊢
  dsimp only at own ⊢
  by_cases low : k < 640
  · by_cases same : j = k
    · subst same
      rw [s.stall_putStall_same j _ low] at own
      cases own
    · exact ⟨s.stall_putStall_ne k j _ (Ne.symm same), fun same' => absurd same' same⟩
  · rw [State.putStall, if_neg (show ¬ k < Config.stallCount from low)] at own ⊢
    refine ⟨rfl, fun _ => Bool.eq_false_iff.mpr fun occupied => low (State.stall_of_state (s := s) ?_)⟩
    rw [((s.occupiedBy_iff k n).mp occupied).1]
    nofun

theorem State.MapOnly.freeStalls (n : Nat) (s : State) (c : Ticket) : State.MapOnly n s (s.freeStalls c).1 :=
  forEach_keeps (State.MapOnly n s) _ _ _ (fun k _ held => held.putStall k _)
    (forEach_keeps (State.MapOnly n s) _ _ s (fun k _ held => held.releaseStall k c.number) (State.MapOnly.refl n s))

/-- A stall that still names the ticket after its stalls are freed stands as it stood, and was not among them. -/
theorem State.freeStalls_stall (s : State) (c : Ticket) {k : Nat} (own : ((s.freeStalls c).1.stall k).ticket = some c.number) :
    (s.freeStalls c).1.stall k = s.stall k ∧ ((c.stall = some k ∨ c.target = some k) → s.heldFor k c.number = false) ∧
      (c.stall = some k → s.occupiedBy k c.number = false) := by
  let Same (t : State) : Prop := (t.stall k).ticket = some c.number → t.stall k = s.stall k
  let Lost (t : State) : Prop := (t.stall k).ticket ≠ some c.number
  have release (j : Nat) (t : State) (same : Same t) : Same (t.releaseStall j c.number) := fun own => by
    have left := (t.releaseStall_stall j c.number own).1
    exact left.trans (same (left ▸ own))
  have free (j : Nat) (t : State) (same : Same t) : Same (t.freeOccupied j true) := fun own => by
    have left := (t.freeOccupied_stall j c.number true own).1
    exact left.trans (same (left ▸ own))
  have releaseLost (j : Nat) (t : State) (lost : Lost t) : Lost (t.releaseStall j c.number) := fun own =>
    lost ((t.releaseStall_stall j c.number own).1 ▸ own)
  have freeLost (j : Nat) (t : State) (lost : Lost t) : Lost (t.freeOccupied j true) := fun own =>
    lost ((t.freeOccupied_stall j c.number true own).1 ▸ own)
  have released : Same _ := forEach_keeps Same
    ((c.stall.toList ++ c.target.toList).filter fun k => s.heldFor k c.number) (fun k s => s.releaseStall k c.number) s release
    fun _ => rfl
  refine ⟨forEach_keeps Same _ _ _ free released own, fun named => ?_, fun named => ?_⟩
  · by_contra held
    have held : s.heldFor k c.number = true := by simpa using held
    refine forEach_keeps Lost _ _ _ freeLost (forEach_reaches Same Lost (x := k) ?_ (fun j _ => release j) (fun t same own => ?_)
      (fun j _ => releaseLost j) fun _ => rfl) own
    · simpa [held] using named
    · obtain ⟨left, loses⟩ := t.releaseStall_stall k c.number own
      have still : t.heldFor k c.number = s.heldFor k c.number := by
        rw [State.heldFor, State.heldFor, same (left ▸ own)]
      rw [still, held] at loses
      cases loses rfl
  · by_contra occupied
    have occupied : s.occupiedBy k c.number = true := by simpa using occupied
    refine forEach_reaches Same Lost (x := k) ?_ (fun j _ => free j) (fun t same own => ?_) (fun j _ => freeLost j) released own
    · simpa [occupied] using named
    · obtain ⟨left, loses⟩ := t.freeOccupied_stall k c.number true own
      have still : t.occupiedBy k c.number = s.occupiedBy k c.number := by
        rw [State.occupiedBy, State.occupiedBy, same (left ▸ own)]
      rw [still, occupied] at loses
      cases loses rfl

/-! ### The tenures of a ticket let go (R59, R114) -/

/-- One lift's turn when a ticket lets go of its tenures. -/
def letGoOn (n l : Nat) (s : State) : State :=
  let r := s.lift l
  if r.queue.any (·.ticket == some n) then
    (s.setLift l { r with queue := r.queue.filter (·.ticket != some n) }).grantCheck l
  else
    match r.current with
    | none => s
    | some t =>
      if t.ticket = some n then s.setLift l { r with current := some { t with ticket := none, runner := none } } else s

theorem State.letGo_eq (s : State) (n : Nat) : s.letGo n = forEach liftNumbers (letGoOn n) s := rfl

/-- A grant check changes its lift alone, and not one with a tenure; the queue keeps its tickets but for the one granted. -/
theorem State.grantCheck_lift (s : State) {l : Nat} (low : 1 ≤ l) (high : l ≤ 4) :
    (∀ m, m ≠ l → (s.grantCheck l).lift m = s.lift m) ∧ ((s.lift l).current ≠ none → s.grantCheck l = s) ∧
      ∀ w ∈ ((s.grantCheck l).lift l).queue, ∃ v ∈ (s.lift l).queue, v.ticket = w.ticket := by
  refine ⟨fun m other => ?_, fun taken => State.grantCheck_idle (.inr (.inr (.inl taken))), fun w mem => ?_⟩
  · rcases s.grantCheck_cases l with same | ⟨v, passed, same⟩
    · rw [same]
    · rw [same, (State.grant_result low high v passed).2 m other]
  · rcases s.grantCheck_cases l with same | ⟨v, passed, same⟩
    · rw [same] at mem
      exact ⟨w, mem, rfl⟩
    · rw [same, (State.grant_result low high v passed).1] at mem
      obtain ⟨u, old, rfl⟩ := List.mem_map.mp mem
      exact ⟨u, List.mem_of_mem_erase old, by split <;> rfl⟩

/-- What a lift's turn leaves: no waiting tenure of the ticket, and a current one of it goes on without it. -/
theorem letGoOn_result (n : Nat) (s : State) {l : Nat} (low : 1 ≤ l) (high : l ≤ 4) :
    (∀ m, m ≠ l → (letGoOn n l s).lift m = s.lift m) ∧
      (∀ w ∈ ((letGoOn n l s).lift l).queue, w.ticket ≠ some n) ∧
      ∀ w, (s.lift l).current = some w → (∀ v ∈ (s.lift l).queue, v.ticket ≠ some n) ∨ w.ticket ≠ some n →
        ((letGoOn n l s).lift l).current = some (if w.ticket = some n then { w with ticket := none, runner := none } else w) ∧
          ((letGoOn n l s).lift l).state = (s.lift l).state := by
  unfold letGoOn
  dsimp only
  by_cases any : (s.lift l).queue.any (·.ticket == some n) = true
  · rw [if_pos any]
    let left := s.setLift l { s.lift l with queue := (s.lift l).queue.filter (·.ticket != some n) }
    have here : left.lift l = { s.lift l with queue := (s.lift l).queue.filter (·.ticket != some n) } :=
      State.lift_setLift_same _ _ _ low high
    obtain ⟨others, stays, queue⟩ := left.grantCheck_lift low high
    refine ⟨fun m other => (others m other).trans (State.lift_setLift_ne _ _ _ _ (Ne.symm other)), fun w mem => ?_,
      fun w current free => ?_⟩
    · obtain ⟨v, mem, same⟩ := queue w mem
      rw [here] at mem
      simpa [same] using (List.mem_filter.mp mem).2
    · obtain ⟨v, mem, own⟩ := List.any_eq_true.mp any
      have other : w.ticket ≠ some n := free.resolve_left fun none => none v mem (by simpa using own)
      rw [stays (by rw [here]; simp [current]), here, if_neg other]
      exact ⟨current, rfl⟩
  · rw [if_neg any]
    have none (w : Tenure) (mem : w ∈ (s.lift l).queue) : w.ticket ≠ some n := fun own =>
      any (List.any_eq_true.mpr ⟨w, mem, by simp [own]⟩)
    cases current : (s.lift l).current with
    | none => exact ⟨fun _ _ => rfl, none, nofun⟩
    | some w =>
      dsimp only
      split
      next own =>
        have here := State.lift_setLift_same s l { s.lift l with current := some { w with ticket := .none, runner := .none } } low high
        refine ⟨fun m other => State.lift_setLift_ne _ _ _ _ (Ne.symm other), fun v mem => none v (by rwa [here] at mem),
          fun v is _ => ?_⟩
        obtain rfl := Option.some.inj is
        rw [here, if_pos own]
        exact ⟨rfl, rfl⟩
      next other =>
        refine ⟨fun _ _ => rfl, none, fun v is _ => ?_⟩
        obtain rfl := Option.some.inj is
        rw [if_neg other]
        exact ⟨current, rfl⟩

/-- A ticket that lets go has no waiting tenure, and its current one goes on without it. -/
theorem State.letGo_lift (s : State) (n : Nat) {l : Nat} (low : 1 ≤ l) (high : l ≤ 4) :
    (∀ w ∈ ((s.letGo n).lift l).queue, w.ticket ≠ some n) ∧
      ∀ w, (s.lift l).current = some w → w.ticket = some n → (∀ v ∈ (s.lift l).queue, v.ticket ≠ some n) →
        ((s.letGo n).lift l).current = some { w with ticket := none, runner := none } ∧
          ((s.letGo n).lift l).state = (s.lift l).state := by
  have mem : l ∈ liftNumbers := mem_liftNumbers.mpr ⟨low, high⟩
  rw [s.letGo_eq]
  refine ⟨?_, fun w current own none => ?_⟩
  · refine forEach_reaches (fun _ => True) (fun t => ∀ w ∈ (t.lift l).queue, w.ticket ≠ some n) mem (fun _ _ _ _ => trivial)
      (fun t _ => (letGoOn_result n t low high).2.1) (fun m inside t free => ?_) trivial
    obtain ⟨low', high'⟩ := mem_liftNumbers.mp inside
    by_cases same : m = l
    · exact same ▸ (letGoOn_result n t low' high').2.1
    · rwa [(letGoOn_result n t low' high').1 l (Ne.symm same)]
  · let Gone (t : State) : Prop :=
      (t.lift l).current = some { w with ticket := .none, runner := .none } ∧ (t.lift l).state = (s.lift l).state
    have loosed (t : State) (before : t.lift l = s.lift l) : Gone (letGoOn n l t) := by
      obtain ⟨-, -, rides⟩ := letGoOn_result n t low high
      rw [before] at rides
      simpa only [Gone, own, if_true] using rides w current (.inl none)
    have goes (m : Nat) (inside : m ∈ liftNumbers) (t : State) (gone : Gone t) : Gone (letGoOn n m t) := by
      obtain ⟨low', high'⟩ := mem_liftNumbers.mp inside
      obtain ⟨others, -, rides⟩ := letGoOn_result n t low' high'
      by_cases same : m = l
      · subst same
        obtain ⟨still, state⟩ := rides _ gone.1 (.inr nofun)
        exact ⟨still, state.trans gone.2⟩
      · have kept := others l (Ne.symm same)
        exact ⟨(congrArg Lift.current kept).trans gone.1, (congrArg Lift.state kept).trans gone.2⟩
    refine forEach_reaches (fun t => t.lift l = s.lift l ∨ Gone t) Gone mem (fun m inside t h => ?_) (fun t h => ?_) goes (.inl rfl)
    · rcases h with before | gone
      · by_cases same : m = l
        · exact .inr (same ▸ loosed t before)
        · obtain ⟨low', high'⟩ := mem_liftNumbers.mp inside
          exact .inl (((letGoOn_result n t low' high').1 l (Ne.symm same)).trans before)
      · exact .inr (goes m inside t gone)
    · rcases h with before | gone
      exacts [loosed t before, goes l mem t gone]

/-! ### FORCE_CLOSE (R59) -/

/-- What the force close of a ticket leaves. -/
structure State.ForcedShut (s t : State) (c : Ticket) : Prop where
  rest : s.KeepsRest t
  gone : t.ticket c.number = none
  task : t.task c.number = none
  unplaced : c.number ∉ t.unplaced
  schedule : ∀ e ∈ t.calls.schedule, e.ticket ≠ c.number
  board : ∀ e ∈ t.calls.board, e.ticket ≠ c.number
  queues : ∀ l, 1 ≤ l → l ≤ 4 → ∀ w ∈ (t.lift l).queue, w.ticket ≠ some c.number
  lanes : ∀ l, 1 ≤ l → l ≤ 6 → (t.lane l).ticket ≠ some c.number
  hook : ∀ h, c.hook = some h → (t.hook h).ticket ≠ some c.number
  hooks : ∀ h, (t.hook h).ticket = some c.number → (s.hook h).ticket = some c.number
  stalls : ∀ k, (t.stall k).ticket = some c.number → t.stall k = s.stall k ∧
    ((c.stall = some k ∨ c.target = some k) → s.heldFor k c.number = false) ∧
      (c.stall = some k → s.occupiedBy k c.number = false)
  rides : ∀ l w, 1 ≤ l → l ≤ 4 → (s.lift l).current = some w → w.ticket = some c.number →
    (∀ v ∈ (s.lift l).queue, v.ticket ≠ some c.number) →
      (t.lift l).current = some { w with ticket := none, runner := none } ∧ (t.lift l).state = (s.lift l).state
  runners : ∀ b, 1 ≤ b → b ≤ 32 → (s.afterWithdrawal c.number b).PairedTo c.number (t.runner b)

/-- The state in which a ticket closes that is closed by force. -/
def State.loosened (s : State) (c : Ticket) : State :=
  (((({ s with unplaced := s.unplaced.filter (· != c.number) }.withdrawTask c.number).unschedule c.number).letGo
    c.number).freeStalls c).1.cancelLane c.number

/-- The state in which the ticket has closed, before what it freed is handed on. -/
theorem State.closed_shut (s : State) (c : Ticket) : s.ForcedShut ((s.loosened c).closeTicket c) c ∧
    State.RidOf c.number ((s.loosened c).closeTicket c) ((s.loosened c).closeTicket c) := by
  let listed : State := { s with unplaced := s.unplaced.filter (· != c.number) }
  have work := keepsRest_workKeeps s
  have rest : s.KeepsRest (s.loosened c) := work.cancelLane _ (work.freeStalls c (work.letGo _ (work.unschedule _
    (work.withdrawTask _ (work.unlist c.number (State.KeepsRest.refl s))))))
  obtain ⟨-, stalls₁, unplaced₁, -, keys₁, arbiter₁, calls₁, -⟩ := listed.withdrawTask_frame c.number
  have noTask := listed.withdrawTask_task c.number
  have freed (b) (low : 1 ≤ b) (high : b ≤ 32) := listed.withdrawTask_runner c.number low high
  unfold State.loosened at rest ⊢
  generalize listed.withdrawTask c.number = u₁ at *
  obtain ⟨-, stalls₂, unplaced₂, -, keys₂, dispatch₂, -, -, -, -, -, -, -, -, schedule₂, -⟩ :=
    (u₁.unschedule c.number).letGo_frame c.number
  have lifts (l) (low : 1 ≤ l) (high : l ≤ 4) := (u₁.unschedule c.number).letGo_lift c.number low high
  generalize (u₁.unschedule c.number).letGo c.number = u₂ at *
  have only := State.MapOnly.freeStalls c.number u₂ c
  have stall (k) := u₂.freeStalls_stall c (k := k)
  generalize (u₂.freeStalls c).1 = u₃ at *
  obtain ⟨-, stalls₄, unplaced₄, -, keys₄, dispatch₄, calls₄, -⟩ := u₃.cancelLane_frame c.number
  have lifts₄ := u₃.cancelLane_lifts c.number
  generalize u₃.cancelLane c.number = u₄ at *
  have closes := u₄.closeTicket_closes c
  generalize u₄.closeTicket c = t at *
  have dispatch : t.dispatch = u₁.dispatch := closes.dispatch.trans (dispatch₄.trans (only.dispatch.trans dispatch₂))
  have task : t.task c.number = none := (State.task_congr dispatch _).trans noTask
  have unplaced : c.number ∉ t.unplaced := by
    rw [closes.unplaced, unplaced₄, only.unplaced, unplaced₂, show (u₁.unschedule c.number).unplaced = _ from unplaced₁]
    simp [listed]
  have board (e) (mem : e ∈ t.calls.board) : e.ticket ≠ c.number := by
    rw [closes.board] at mem
    simpa using (List.mem_filter.mp mem).2
  have lane (l) (low : 1 ≤ l) (high : l ≤ 6) : (t.lane l).ticket ≠ some c.number := by
    rw [closes.lanes]
    split
    · nofun
    next out => exact fun own => out ⟨low, high, own⟩
  have lift (l) : t.lift l = u₂.lift l := (State.lift_of_lifts (closes.lifts.trans lifts₄) l).trans (State.lift_congr only.arbiter l)
  have queues (l) (low : 1 ≤ l) (high : l ≤ 4) : ∀ w ∈ (t.lift l).queue, w.ticket ≠ some c.number := by
    rw [lift]
    exact (lifts l low high).1
  have keys : u₄.keys = s.keys := keys₄.trans (only.keys.trans (keys₂.trans keys₁))
  have hook (h) (own : c.hook = some h) : (t.hook h).ticket ≠ some c.number := by
    by_cases low : h < 576
    · exact closes.hook h low own
    · rw [State.hook, nth_outside _ _ _ (not_lt.mp low)]
      nofun
  have before (k) : u₂.stall k = s.stall k := State.stall_congr (stalls₂.trans stalls₁) k
  have after (k) : t.stall k = u₃.stall k := State.stall_congr (closes.stalls.trans stalls₄) k
  refine ⟨⟨rest.trans closes.rest, closes.gone, task, unplaced, fun e mem => ?_, board, queues, lane, hook, fun h own => ?_,
    fun k own => ?_, fun l w low high current own none => ?_, fun b low high => ?_⟩,
    closes.gone, State.PairedWithout.refl task, unplaced, rfl, rfl, board, fun _ _ => rfl, lane, queues, fun _ _ _ _ => ⟨rfl, rfl⟩⟩
  · rw [closes.schedule, calls₄, only.calls, schedule₂] at mem
    simpa using (List.mem_filter.mp mem).2
  · rwa [closes.hooks h fun is => hook h is own, State.hook_congr keys] at own
  · rw [after] at own ⊢
    simpa only [State.heldFor, State.occupiedBy, before] using stall k own
  · have same : (u₁.unschedule c.number).lift l = s.lift l := State.lift_congr arbiter₁ l
    rw [lift, ← same]
    exact (lifts l low high).2 w (same ▸ current) own (same ▸ none)
  · rw [State.runner_congr dispatch]
    exact freed b low high

/-- A ticket closed by force holds nothing, and nothing is given to its number again. -/
theorem State.forceCloseTicket_shut (s : State) (c : Ticket) : s.ForcedShut (s.forceCloseTicket c) c := by
  obtain ⟨shut, rid⟩ := s.closed_shut c
  have ends : State.RidOf c.number ((s.loosened c).closeTicket c) (s.forceCloseTicket c) ∧ s.KeepsRest (s.forceCloseTicket c) := by
    have work := keepsRest_workKeeps s
    unfold State.forceCloseTicket
    dsimp only
    rw [show State.closeTicket _ c = (s.loosened c).closeTicket c from rfl]
    have handed (ks : List Nat) := forEach_keeps (State.RidOf c.number ((s.loosened c).closeTicket c)) ks
      (fun k s => s.handOn k) _ (fun k _ held => held.handOn k) rid
    have kept (ks : List Nat) := forEach_keeps s.KeepsRest ks (fun k s => s.handOn k) _ (fun k _ held => work.handOn k held) shut.rest
    split
    · exact ⟨(handed _).laneGrantCheck.stagingFell _, work.stagingFell _ (work.laneGrantCheck (kept _))⟩
    · exact ⟨(handed _).laneGrantCheck, work.laneGrantCheck (kept _)⟩
  obtain ⟨rid, rest⟩ := ends
  generalize (s.loosened c).closeTicket c = u at *
  generalize s.forceCloseTicket c = t at *
  have hook (h) : t.hook h = u.hook h := State.hook_congr rid.keys h
  refine ⟨rest, rid.gone, rid.paired.task, rid.unplaced, ?_, rid.board, rid.queues, rid.lanes, fun h => ?_, fun h => ?_,
    fun k own => ?_, fun l w low high current own none => ?_, fun b low high =>
      (shut.runners b low high).trans (rid.paired.runners b low high)⟩
  · rw [rid.schedule]
    exact shut.schedule
  · rw [hook]
    exact shut.hook h
  · rw [hook]
    exact shut.hooks h
  · have same := rid.stalls k own
    rw [same] at own ⊢
    exact shut.stalls k own
  · obtain ⟨now, state⟩ := shut.rides l w low high current own none
    obtain ⟨still, state'⟩ := rid.rides l low high (by rw [now]; nofun)
    exact ⟨still.trans now, state'.trans state⟩

/-- Settles O54: FORCE_CLOSE of any open ticket, whatever it holds. -/
theorem forceCloseUndoesWhatTheTicketHolds : Obligations.ForceCloseUndoesWhatTheTicketHolds := by
  intro s f c manages first last found
  have named : (s.heard f).named c.number = some c := State.named_some first last (by rwa [s.ticket_heard])
  have taken : (s.heard f).requestForceClose c.number = ((s.heard f).forceCloseTicket c, .done) := by
    rw [State.requestForceClose, named]
  have shut := (s.heard f).forceCloseTicket_shut c
  have exec := manages.request (code := .forceClose) (form := .number) (fun n s => s.requestForceClose n) taken
  generalize (s.heard f).forceCloseTicket c = u at *
  have rest := ((keepsRest_workKeeps (s.heard f)).oweManage f.source ((s.heard f).commissioning f.source) .forceClose .done
    (.number c.number) none shut.rest).heardSetup
  obtain ⟨-, gone, task, unplaced, schedule, board, queues, lanes, hook, hooks, stalls, rides, runners⟩ := shut
  have lift (l) : (s.heard f).lift l = s.lift l := by rw [s.heard_eq f]; rfl
  simp only [lift] at rides
  simp only [s.hook_heard] at hooks
  simp only [State.heldFor, State.occupiedBy, s.stall_heard] at stalls
  simp only [State.afterWithdrawal, s.task_heard, s.runner_heard, s.now_heard] at runners
  have runner (b) : ((s.heard f).replied f .forceClose .done (.number c.number) u).runner b = u.runner b := rfl
  obtain ⟨firstA, lastA⟩ := manages.1.address
  refine ⟨_, exec, rest, gone, task, unplaced, schedule, board, queues, lanes, hook, fun k own => ?_, fun k own => ?_,
    rides, fun w b own place low high => ?_, fun only h named => ?_, fun only k named => ?_, fun only b low high named => ?_, ?_⟩
  · refine Bool.eq_false_iff.mpr fun held => ?_
    obtain ⟨state, ticket⟩ := (u.heldFor_iff k c.number).mp held
    obtain ⟨same, free, -⟩ := stalls k ticket
    have still := free own
    rw [← same, state, ticket] at still
    simp at still
  · refine Bool.eq_false_iff.mpr fun occupied => ?_
    obtain ⟨state, ticket⟩ := (u.occupiedBy_iff k c.number).mp occupied
    obtain ⟨same, -, free⟩ := stalls k ticket
    have still := free own
    rw [← same, state, ticket] at still
    simp at still
  · have paired := runners b low high
    rw [own] at paired
    simp only [place, if_true] at paired
    rcases paired with same | ⟨m, kind, by_, other, same⟩
    · rw [runner, same]
      exact ⟨rfl, rfl, .inl ⟨rfl, rfl, rfl, rfl⟩⟩
    · rw [runner, same]
      exact ⟨rfl, rfl, .inr ⟨m, kind, other, rfl, rfl, rfl⟩⟩
  · exact hook h (only h (hooks h named)) named
  · obtain ⟨same, held, occupied⟩ := stalls k named
    have before : (s.stall k).ticket = some c.number := same ▸ named
    rcases only k before with ⟨own, state⟩ | ⟨own, state⟩
    · have notHeld := held (.inl own)
      have notOccupied := occupied own
      rcases state with state | state <;> simp [state, before] at notHeld notOccupied
    · have notHeld := held (.inr own)
      simp [state, before] at notHeld
  · have named : (u.runner b).task.map (·.1) = some c.number := named
    have paired := runners b low high
    by_cases held : ∃ w, s.task c.number = some w ∧ (w.place = .offered b ∨ w.place = .held b)
    · obtain ⟨w, own, place⟩ := held
      rw [own] at paired
      simp only [place, if_true] at paired
      rcases paired with same | ⟨m, kind, by_, other, same⟩ <;> rw [same] at named
      · cases named
      · exact other (Option.some.inj named)
    · have kept : (s.runner b).PairedTo c.number (u.runner b) := by
        split at paired
        · exact paired
        next w own => rwa [if_neg fun place => held ⟨w, own, place⟩] at paired
      rcases kept with same | ⟨m, kind, by_, other, same⟩
      · exact held (only b low high (same ▸ named))
      · rw [same] at named
        exact other (Option.some.inj named)
  · exact congrArg (fun r : Station => r.manageReply.map fun r => (r.code, r.outcome, r.record))
      (State.station_setStation_same _ _ _ firstA lastA)

end Sys2Proof.Machine
end

section
/-! PROOF of O19: the three ends of an ARRIVE. -/

namespace Sys2Proof.Machine

open Sys2Proof

/-! ### A ticket is ASSIGNED its stall (R29) -/

/-- What the assignment of a FREE stall to a ticket leaves. -/
structure State.AssignedFrom (s t : State) (n k : Nat) (second : Bool) (age : SiteTime) (c : Ticket) : Prop where
  stall : t.stall k = { s.stall k with state := .held, ticket := some n, confirmed := false, recheck := false }
  stalls : ∀ j, j ≠ k → t.stall j = s.stall j
  ticket : t.ticket n = some { c with
    stall := some k, restageWanted := second, state := .assigned, verify := false
    backlog := c.backlog || decide (64 ≤ s.placesTaken) }
  tickets : ∀ m, m ≠ n → t.ticket m = s.ticket m
  task : s.task n = none → ∃ w, t.task n = some w ∧ w.kind = .park ∧ w.age = age ∧ (w.place = .backlog ↔ 64 ≤ s.placesTaken)
  events : ∃ more, t.events.waiting = s.events.waiting ++ more
  unplaced : t.unplaced = s.unplaced
  keys : t.keys = s.keys
  arbiter : t.arbiter = s.arbiter
  calls : t.calls = s.calls

theorem State.assign_result {s : State} {n k : Nat} {c : Ticket} (found : s.ticket n = some c) (off : c.state.onBoard = false)
    (free : (s.stall k).state = .free) (second : Bool) (age : SiteTime) :
    s.AssignedFrom (s.assign n k second age) n k second age c := by
  have low : k < 640 := State.stall_of_state (by rw [free]; nofun)
  let bind (t : Ticket) : Ticket := { t with stall := some k, restageWanted := second }
  let u := (s.hold k n).modifyTicket n bind
  let v := u.moveTicket n .assigned
  have held : s.hold k n = s.putStall k { s.stall k with state := .held, ticket := some n, confirmed := false, recheck := false } := by
    rw [State.hold, if_pos free]
  obtain ⟨-, unplaced, tickets, -, keys, dispatch, arbiter, calls, -⟩ := s.hold_frame k n
  have edited : u.ticket n = some (bind c) := State.ticket_edit_same ((State.ticket_congr tickets _).trans found) bind
  have entered := State.ticket_entered edited (x := .assigned) (by decide)
  have calls' : v.calls = u.calls := State.moveTicket_calls edited off rfl
  obtain ⟨-, stalls', unplaced', -, keys', dispatch', arbiter', -⟩ := u.moveTicket_frame n .assigned
  obtain ⟨-, stalls'', unplaced'', -, keys'', arbiter'', calls'', -⟩ := v.makeTask_frame .park n age
  have stall (j : Nat) : (s.assign n k second age).stall j = (s.hold k n).stall j := State.stall_congr (stalls''.trans stalls') j
  have places : v.placesTaken = s.placesTaken := by
    have same : v.dispatch = s.dispatch := dispatch'.trans dispatch
    rw [State.placesTaken, State.placesTaken, same]
  have ticket := v.makeTask_ticket .park n age
  rw [entered, Option.map_some, places] at ticket
  have task := fun gone => State.makeTask_task (s := v) .park age
    (((State.task_congr dispatch' _).trans (State.task_congr dispatch n)).trans gone)
  rw [places] at task
  obtain ⟨more, told, -⟩ := ((handedFrom_handKeeps s).assign n k second age (State.HandedFrom.refl s)).events
  refine ⟨(stall k).trans ?_, fun j other => (stall j).trans ?_, ticket, fun m other => ?_, task, ⟨more, told⟩,
    unplaced''.trans (unplaced'.trans unplaced), keys''.trans (keys'.trans keys), arbiter''.trans (arbiter'.trans arbiter),
    calls''.trans (calls'.trans calls)⟩
  · rw [held]
    exact s.stall_putStall_same _ _ low
  · rw [held]
    exact s.stall_putStall_ne k j _ (Ne.symm other)
  · exact (State.makeTask_ticket_ne .park age other).trans ((u.ticket_moveTicket_ne n m _ other).trans
      ((State.ticket_edit_ne _ other bind).trans (State.ticket_congr tickets m)))

/-! ### The ticket is made (R40, R41) -/

theorem State.bindable_iff {s : State} {h : Nat} (low : h < 576) : s.bindable h = true ↔ s.MayBind h := by
  have inside : h < Config.hookCount := low
  simp [State.bindable, State.MayBind, State.panelBindable, State.panelConfigured, panelOf, inside]

/-- What the making of a ticket leaves, with the hook it binds. -/
structure State.MadeFrom (s t : State) (n : Nat) (q : ArriveRequest) (hook : Option Nat) : Prop where
  fields : ∃ T K, t = { s with issue := nextNumber n, tickets := T, keys := K }
  ticket : t.ticket n = some { newTicket n q s.now with hook := hook }
  numbers : t.numbers = s.numbers ++ [n]
  bound : ∀ h, hook = some h → s.MayBind h ∧ (∀ g, g < h → ¬ s.MayBind g) ∧
    t.hook h = { s.hook h with custody := .expecting, ticket := some n } ∧ ∀ g, g ≠ h → t.hook g = s.hook g
  unbound : hook = none → (∀ h, ¬ s.MayBind h) ∧ t.keys = s.keys

theorem State.bindLowest_eq (s : State) (n : Nat) : s.bindLowest n =
    (((List.range Config.hookCount).find? s.bindable).map fun h => s.bindHook h n).getD s := by
  unfold State.bindLowest
  generalize (List.range Config.hookCount).find? s.bindable = first
  cases first <;> rfl

theorem State.makeTicket_made {s : State} {n : Nat} (fresh : s.ticket n = none) (q : ArriveRequest) :
    ∃ hook, s.MadeFrom (s.makeTicket n q) n q hook := by
  let u : State := { s with issue := nextNumber n, tickets := s.tickets ++ [newTicket n q s.now] }
  have listed : u.ticket n = some (newTicket n q s.now) := by
    rw [State.ticket, List.find?_append, show s.tickets.find? (·.number == n) = none from fresh]
    simp [newTicket]
  have numbers := (s.makeTicket_result n q).2.2
  have bindable : u.bindable = s.bindable := rfl
  cases first : (List.range Config.hookCount).find? u.bindable with
  | none =>
    refine ⟨none, ?_⟩
    have made : u.bindLowest n = u := by rw [u.bindLowest_eq, first, Option.map_none, Option.getD_none]
    rw [State.makeTicket, made] at numbers ⊢
    refine ⟨⟨_, _, rfl⟩, listed, numbers, fun _ is => absurd is (by simp), fun _ => ⟨fun h may => ?_, rfl⟩⟩
    have out := List.find?_eq_none.mp first h (List.mem_range.mpr may.1)
    rw [bindable] at out
    exact out ((State.bindable_iff may.1).mpr may)
  | some h =>
    refine ⟨some h, ?_⟩
    have made : u.bindLowest n = u.bindHook h n := by rw [u.bindLowest_eq, first, Option.map_some, Option.getD_some]
    have low : h < 576 := List.mem_range.mp (List.mem_of_find?_eq_some first)
    rw [State.makeTicket, made] at numbers ⊢
    refine ⟨⟨_, _, rfl⟩, State.ticket_edit_same listed fun t => { t with hook := some h }, numbers, fun g is => ?_,
      fun is => absurd is (by simp)⟩
    obtain rfl := Option.some.inj is
    rw [bindable, List.find?_range_eq_some] at first
    obtain ⟨can, -, before⟩ := first
    refine ⟨(State.bindable_iff low).mp can, fun g less may => ?_,
      State.hook_setHook_same _ _ _ low, fun g other => State.hook_setHook_ne _ _ _ _ (Ne.symm other)⟩
    have notYet := before g less
    rw [(State.bindable_iff may.1).mpr may] at notYet
    cases notYet

/-! ### The three ends (R25, R29, R32, R44) -/

/-- The new ticket is ASSIGNED the stall of its placement. -/
def State.PlacesNew (s t : State) (n : Nat) (q : ArriveRequest) : Prop :=
  ∃ (k : Nat) (c : Ticket) (second : Bool), s.placement (newTicket n q s.now) false = some (k, second) ∧
    (∃ site, s.mayTake (newTicket n q s.now) (q.charger && !second) k site) ∧ c.restageWanted = second ∧
    (s.stall k).state = .free ∧ (t.stall k).state = .held ∧ (t.stall k).ticket = some n ∧
    t.ticket n = some c ∧ c.state = .assigned ∧ c.stall = some k ∧ c.arrived = s.now ∧ c.size = q.size ∧
    (∃ w, t.task n = some w ∧ w.kind = .park ∧ w.age = s.now) ∧
    ⟨.arrival, n⟩ ∈ t.events.waiting ∧ t.unplaced = s.unplaced

/-- The new ticket is UNPLACED, last in the list. -/
def State.ListsNew (s t : State) (n : Nat) (q : ArriveRequest) : Prop :=
  (∀ k site, ¬ s.mayTake (newTicket n q s.now) false k site) ∧
    (∃ c, t.ticket n = some c ∧ c.state = .unplaced ∧ c.stall = none ∧ c.arrived = s.now ∧ c.size = q.size) ∧
    s.unplaced.length < 32 ∧ t.unplaced = s.unplaced ++ [n] ∧ t.stalls = s.stalls ∧
    t.events.waiting = s.events.waiting ++ [⟨.arrival, n⟩, ⟨.unplaced, n⟩]

/-- No ticket is made. -/
def State.RefusesNew (s t : State) (n : Nat) (q : ArriveRequest) : Prop :=
  (∀ k site, ¬ s.mayTake (newTicket n q s.now) false k site) ∧ t.tickets.map (·.number) = s.tickets.map (·.number) ∧
    s.unplaced.length = 32 ∧ t.unplaced = s.unplaced ∧ t.stalls = s.stalls ∧ t.events.waiting = s.events.waiting

/-- What an ARRIVE that makes ticket `n` leaves, by its end. -/
structure State.ArrivedFrom (s : State) (r : RequestResult) (n : Nat) (q : ArriveRequest) : Prop where
  arbiter : r.state.arbiter = s.arbiter
  ends : s.PlacesNew r.state n q ∧ r.outcome = .done ∧ r.ticket = some n ∨
    s.ListsNew r.state n q ∧ r.outcome = .placedLater ∧ r.ticket = some n ∨
    s.RefusesNew r.state n q ∧ r.outcome = .noSpace ∧ r.ticket = none
  bound : r.state.ticket n ≠ none →
    (∀ h, s.MayBind h → (∀ g, g < h → ¬ s.MayBind g) → (r.state.ticket n).bind (·.hook) = some h ∧
      r.state.hook h = { s.hook h with custody := .expecting, ticket := some n } ∧ ∀ g, g ≠ h → r.state.hook g = s.hook g) ∧
    ((∀ h, ¬ s.MayBind h) → (r.state.ticket n).bind (·.hook) = none ∧ r.state.keys = s.keys)
  unbound : r.state.ticket n = none → ∀ h, (s.hook h).ticket ≠ some n → (r.state.hook h).ticket ≠ some n

/-- The hook of a made ticket is the one that stays with it as long as its record and the hooks do. -/
theorem State.MadeFrom.binds {s u t : State} {n : Nat} {q : ArriveRequest} {hook : Option Nat} (made : s.MadeFrom u n q hook)
    (keys : t.keys = u.keys) (own : (t.ticket n).bind (·.hook) = hook) :
    (∀ h, s.MayBind h → (∀ g, g < h → ¬ s.MayBind g) → (t.ticket n).bind (·.hook) = some h ∧
      t.hook h = { s.hook h with custody := .expecting, ticket := some n } ∧ ∀ g, g ≠ h → t.hook g = s.hook g) ∧
    ((∀ h, ¬ s.MayBind h) → (t.ticket n).bind (·.hook) = none ∧ t.keys = s.keys) := by
  have hookAt (g) : t.hook g = u.hook g := State.hook_congr keys g
  simp only [own, hookAt, keys]
  cases hook with
  | none =>
    obtain ⟨none, same⟩ := made.unbound rfl
    exact ⟨fun h may => absurd may (none h), fun _ => ⟨rfl, same⟩⟩
  | some h =>
    obtain ⟨may, first, here, others⟩ := made.bound h rfl
    refine ⟨fun g may' first' => ?_, fun none => absurd may (none h)⟩
    obtain rfl : g = h := by
      rcases Nat.lt_trichotomy g h with less | same | less
      exacts [absurd may' (first g less), same, absurd may (first' h less)]
    exact ⟨rfl, here, others⟩

/-- A removed ticket's hook is bound to it no more. -/
theorem State.removeTicket_removed {s : State} {n : Nat} {c : Ticket} (found : s.ticket n = some c) :
    (s.removeTicket n).ticket n = none ∧ (s.removeTicket n).unplaced = s.unplaced ∧ (s.removeTicket n).stalls = s.stalls ∧
      (s.removeTicket n).events = s.events ∧ (s.removeTicket n).arbiter = s.arbiter ∧
      ∀ h, ((s.removeTicket n).hook h).ticket = some n → (s.hook h).ticket = some n ∧ c.hook ≠ some h := by
  have dropped : (s.tickets.filter (·.number != n)).find? (·.number == n) = none := List.find?_eq_none.mpr fun c mem => by
    simpa using (List.mem_filter.mp mem).2
  unfold State.removeTicket
  dsimp only
  rw [found, Option.bind_some]
  cases own : c.hook with
  | none => exact ⟨dropped, rfl, rfl, rfl, rfl, fun h named => ⟨named, nofun⟩⟩
  | some g =>
    dsimp only
    let v : State := { s.unbindHook g with tickets := s.tickets.filter (·.number != n) }
    have unbound (h : Nat) (named : (v.hook h).ticket = some n) : (s.hook h).ticket = some n ∧ g ≠ h := by
      by_cases same : g = h
      · subst same
        by_cases low : g < 576
        · rw [show v.hook g = _ from State.hook_setHook_same s g _ low] at named
          cases named
        · rw [State.hook, nth_outside _ _ _ (not_lt.mp low)] at named
          cases named
      · rw [show v.hook h = _ from State.hook_setHook_ne s g h _ same] at named
        exact ⟨named, same⟩
    have apart (h : Nat) (named : (v.hook h).ticket = some n) : (s.hook h).ticket = some n ∧ some g ≠ some h := by
      obtain ⟨named, other⟩ := unbound h named
      exact ⟨named, fun same => other (Option.some.inj same)⟩
    suffices ends : ∀ t : State, (t = v ∨ ∃ x ∈ v.tickets, x.hook = none ∧ t = v.bindHook g x.number) →
        t.ticket n = none ∧ t.unplaced = s.unplaced ∧ t.stalls = s.stalls ∧ t.events = s.events ∧ t.arbiter = s.arbiter ∧
          ∀ h, (t.hook h).ticket = some n → (s.hook h).ticket = some n ∧ some g ≠ some h from
      ends _ (v.handHook_bound g)
    intro t h
    rcases h with rfl | ⟨x, mem, -, rfl⟩
    · exact ⟨dropped, rfl, rfl, rfl, rfl, apart⟩
    · have foreign : x.number ≠ n := by simpa using (List.mem_filter.mp mem).2
      refine ⟨(v.ticket_edit_ne (Ne.symm foreign) fun t => { t with hook := some g }).trans dropped, rfl, rfl, rfl, rfl,
        fun h named => ?_⟩
      by_cases low : g < 576
      · obtain ⟨takes, others⟩ := v.bindHook_hook (n := x.number) low
        by_cases same : h = g
        · rw [same, takes] at named
          exact absurd (Option.some.inj named) foreign
        · exact apart h (others h same ▸ named)
      · rw [show (v.bindHook g x.number).hook h = v.hook h from
          congrArg (nth · h Hook.cold) (setNth_outside _ _ _ (not_lt.mp low))] at named
        exact apart h named

theorem State.placeNew_ends {s u : State} {n : Nat} {q : ArriveRequest} {hook : Option Nat} (made : s.MadeFrom u n q hook)
    (fresh : s.ticket n = none) (few : s.unplaced.length ≤ 32) (known : ∀ w ∈ s.dispatch.tasks, s.ticket w.ticket ≠ none) :
    s.ArrivedFrom (u.placeNew n s.now) n q := by
  obtain ⟨T, K, same⟩ := made.fields
  have placement : u.placement { newTicket n q s.now with hook := hook } false = s.placement (newTicket n q s.now) false := by
    subst same
    rfl
  have searched : (u.ticket n).bind (fun t => u.placement t false) = s.placement (newTicket n q s.now) false := by
    rw [made.ticket]
    exact placement
  have noTask : u.task n = none := by
    subst same
    refine List.find?_eq_none.mpr fun w mem own => known w mem ?_
    rwa [show w.ticket = n by simpa using own]
  unfold State.placeNew
  rw [searched]
  cases placed : s.placement (newTicket n q s.now) false with
  | some choice =>
    obtain ⟨k, second⟩ := choice
    obtain ⟨site, may, -⟩ := State.choose_takes_cheapest (State.placement_some placed).1
    have free : (s.stall k).state = .free := may.2.2.1
    have stall : u.stall k = s.stall k := by subst same; rfl
    have assigned := State.assign_result made.ticket rfl (k := k) (by rwa [stall]) second s.now
    dsimp only
    generalize u.assign n k second s.now = t at *
    obtain ⟨w, task, kind, age, -⟩ := assigned.task noTask
    refine ⟨?_, .inl ⟨⟨k, _, second, placed, ⟨site, may⟩, rfl, free, ?_, ?_, assigned.ticket, rfl, rfl, rfl, rfl,
      ⟨w, task, kind, age⟩, List.mem_append_right _ (List.mem_singleton.mpr rfl), ?_⟩, rfl, rfl⟩,
      fun _ => made.binds assigned.keys ?_, fun gone => ?_⟩
    · exact assigned.arbiter.trans (by subst same; rfl)
    · exact congrArg Stall.state assigned.stall
    · exact congrArg Stall.ticket assigned.stall
    · exact assigned.unplaced.trans (by subst same; rfl)
    · exact congrArg (·.bind (·.hook)) assigned.ticket
    · exact absurd (assigned.ticket.symm.trans gone) nofun
  | none =>
    have unfit := (State.placement_none placed).2
    have refused (k) (site) := State.not_mayTake_of_choose_none unfit k site
    have room : u.unplaced = s.unplaced := by subst same; rfl
    have stalls : u.stalls = s.stalls := by subst same; rfl
    have events : u.events = s.events := by subst same; rfl
    have arbiter : u.arbiter = s.arbiter := by subst same; rfl
    dsimp only
    split
    next less =>
      refine ⟨arbiter, .inr (.inl ⟨⟨refused, ⟨_, made.ticket, rfl, rfl, rfl, rfl⟩, room ▸ less, congrArg (· ++ [n]) room, stalls, ?_⟩,
        rfl, rfl⟩), fun _ => made.binds rfl (congrArg (·.bind (·.hook)) made.ticket), fun gone => ?_⟩
      · rw [← events]
        exact List.append_assoc _ _ _
      · exact absurd (made.ticket.symm.trans gone) nofun
    next full =>
      obtain ⟨gone, unplaced, stalls', events', arbiter', hooks⟩ := State.removeTicket_removed made.ticket
      have numbers : (u.removeTicket n).numbers = s.numbers := by
        rw [(u.removeTicket_result n).2.2]
        rw [made.numbers, List.filter_append, List.filter_eq_self.mpr]
        · simp
        · intro m mem
          simpa using fun same : m = n => (s.ticket_eq_none_iff n).mp fresh (same ▸ mem)
      have fits : s.unplaced.length = 32 := by
        rw [room] at full
        have all : ¬ s.unplaced.length < 32 := full
        omega
      refine ⟨arbiter'.trans arbiter, .inr (.inr ⟨⟨refused, numbers, fits, unplaced.trans room, stalls'.trans stalls,
        congrArg EventUnit.waiting (events'.trans events)⟩, rfl, rfl⟩), fun isOpen => absurd gone isOpen, fun _ h free named => ?_⟩
      obtain ⟨own, other⟩ := hooks h named
      cases hook with
      | none => exact free (by rwa [State.hook_congr (made.unbound rfl).2] at own)
      | some g =>
        have other : h ≠ g := fun is => other (congrArg some is.symm)
        exact free (by rwa [(made.bound g rfl).2.2.2 h other] at own)

/-- Settles O19: the ends of an ARRIVE are those of the placement of the new ticket. -/
theorem arriveEndsInOneOfThreeWays : Obligations.ArriveEndsInOneOfThreeWays := by
  intro s f x q serves read low high room few known
  let n := (s.heard f).issued
  have heard (m) : (s.heard f).ticket m = s.ticket m := s.ticket_heard f m
  have roomHeard : (s.heard f).tickets.length < 512 := by rwa [s.heard_tickets]
  obtain ⟨-, -, -, free, -⟩ := (s.heard f).issued_first_free (by rwa [s.heard_issue]) (by rwa [s.heard_issue]) roomHeard
  obtain ⟨setup, -⟩ := State.takeArrive_result (a := f.source) read roomHeard
  have exec := exec_arrive_served serves x
  rw [State.takeArrive_room read roomHeard] at exec setup
  obtain ⟨hook, made⟩ := State.makeTicket_made free q
  have arrived := State.placeNew_ends made free (by rwa [s.heard_unplaced]) fun w mem => by
    rw [heard]
    exact known w (by rwa [s.heard_dispatch] at mem)
  generalize ((s.heard f).makeTicket (s.heard f).issued q).placeNew (s.heard f).issued (s.heard f).now = r at *
  generalize (s.heard f).issued = n at *
  obtain ⟨arbiter, ends, bound, unbound⟩ := arrived
  have reply : ((r.state.oweService f.source .arrive r.outcome r.ticket r.members).station f.source).serviceReply.map
      (fun r => (r.outcome, r.ticket)) = some (r.outcome, r.ticket) := by
    rw [State.oweService, State.station_setStation_same _ _ _ serves.1.address.1 serves.1.address.2]
    rfl
  rw [s.heard_eq f] at arbiter ends bound unbound
  refine ⟨n, _, exec, (s.heard_keepsSetup f).trans (setup.trans (State.oweService_keepsSetup ..)), arbiter,
    (heard n).symm.trans free, ?_, bound, unbound⟩
  rcases ends with ⟨places, outcome, ticket⟩ | ⟨lists, outcome, ticket⟩ | ⟨refuses, outcome, ticket⟩
  · obtain ⟨k, c, second, placed, may, wanted, free, held, own, rest⟩ := places
    obtain ⟨found, state, bound, made, size, task, told, unplaced⟩ := rest
    exact .inl ⟨k, c, second, placed, may, wanted, free, held, own, found, state, bound, made, size, task, told, unplaced,
      reply.trans (by rw [outcome, ticket])⟩
  · obtain ⟨none, listed, less, unplaced, stalls, told⟩ := lists
    exact .inr (.inl ⟨none, listed, less, unplaced, stalls, told, reply.trans (by rw [outcome, ticket])⟩)
  · obtain ⟨none, numbers, full, unplaced, stalls, told⟩ := refuses
    exact .inr (.inr ⟨none, numbers, full, unplaced, stalls, told, reply.trans (by rw [outcome, ticket])⟩)

end Sys2Proof.Machine
end

section
/-! SUPPORT for the obligation about group calls: the members' turns (R133), and what a stall handed on leaves of the
other tickets. -/

namespace Sys2Proof.Machine

open Sys2Proof

/-! ### The members of a group, in ring order (R131, R133) -/

/-- Whether a ticket of a group is called at its turn. -/
def State.callable (s : State) (n : Nat) : Bool :=
  match s.ticket n with
  | none => false
  | some t => t.state == .parked || t.state == .scheduled

/-- What the turns of members leave: state `t` from `s`, the members `called` in order, and the states `u` between their
calls, the first of them the call `k + 1` of the group. -/
structure State.MembersCalled (now : SiteTime) (k : Nat) (s t : State) (called : List Nat) (u : Nat → State) : Prop where
  first : u 0 = s
  last : u called.length = t
  stalls : t.stalls = s.stalls
  keys : t.keys = s.keys
  events : t.events = s.events
  arbiter : t.arbiter = s.arbiter
  unplaced : t.unplaced = s.unplaced
  others : ∀ m, m ∉ called → t.ticket m = s.ticket m
  kept : ∀ w ∈ s.dispatch.tasks, ∃ v ∈ t.dispatch.tasks, v.kind = w.kind ∧ v.ticket = w.ticket ∧ v.age = w.age
  each : ∀ i n, called[i]? = some n → ∃ d, d.number = n ∧ s.ticket n = some d ∧ (d.state = .parked ∨ d.state = .scheduled) ∧
    (u i).ticket n = some d ∧ (u i).CalledFrom (u (i + 1)) d (now.plus (k + i + 1)) ∧ t.ticket n = (u (i + 1)).ticket n ∧
    ∃ w ∈ t.dispatch.tasks, w.ticket = n ∧ w.kind = .fetch ∧ w.age = now.plus (k + i + 1)

theorem State.MembersCalled.nil (now : SiteTime) (k : Nat) (s : State) : State.MembersCalled now k s s [] fun _ => s :=
  ⟨rfl, rfl, rfl, rfl, rfl, rfl, rfl, fun _ _ => rfl, fun w mem => ⟨w, mem, rfl, rfl, rfl⟩, fun _ _ is => by simp at is⟩

/-- The call of one member comes before the calls of the others. -/
theorem State.MembersCalled.cons {now : SiteTime} {k : Nat} {s v t : State} {d : Ticket} {called : List Nat} {u : Nat → State}
    (found : s.ticket d.number = some d) (rests : d.state = .parked ∨ d.state = .scheduled)
    (one : s.CalledFrom v d (now.plus (k + 1))) (fresh : d.number ∉ called) (h : State.MembersCalled now (k + 1) v t called u) :
    State.MembersCalled now k s t (d.number :: called) (fun i => i.casesOn s u) where
  first := rfl
  last := h.last
  stalls := h.stalls.trans one.stalls
  keys := h.keys.trans one.keys
  events := h.events.trans one.events
  arbiter := h.arbiter.trans one.arbiter
  unplaced := h.unplaced.trans one.only.2.1
  others m out := by
    obtain ⟨other, out⟩ := not_or.mp (mt List.mem_cons.mpr out)
    exact (h.others m out).trans (one.only.1 m other)
  kept w mem := by
    obtain ⟨x, mem, kind, ticket, age⟩ := one.kept w mem
    obtain ⟨y, mem, kind', ticket', age'⟩ := h.kept x mem
    exact ⟨y, mem, kind'.trans kind, ticket'.trans ticket, age'.trans age⟩
  each i n is := by
    cases i with
    | zero =>
      obtain rfl : d.number = n := by simpa using is
      obtain ⟨x, mem, ticket, kind, age⟩ := one.made
      obtain ⟨y, mem, kind', ticket', age'⟩ := h.kept x mem
      refine ⟨d, rfl, found, rests, found, ?_, ?_, y, mem, ticket'.trans ticket, kind'.trans kind, age'.trans age⟩
      · change s.CalledFrom (u 0) d _
        rwa [h.first]
      · change _ = (u 0).ticket d.number
        rw [h.first]
        exact h.others _ fresh
    | succ i =>
      have is : called[i]? = some n := by simpa using is
      obtain ⟨e, number, found', rests', at', from', kept, made⟩ := h.each i n is
      have other : n ≠ d.number := fun same => fresh (same ▸ List.mem_of_getElem? is)
      rw [show k + 1 + i + 1 = k + (i + 1) + 1 by omega] at from' made
      exact ⟨e, number, (one.only.1 n other).symm.trans found', rests', at', from', kept, made⟩

/-- The members of a list that may be called are called, in its order. -/
theorem State.callMembers_result (now : SiteTime) {ns : List Nat} (once : ns.Nodup) (s : State) (k : Nat) :
    ∃ u, forEach ns (callMember now) (s, k) = (u (ns.filter s.callable).length, k + (ns.filter s.callable).length) ∧
      State.MembersCalled now k s (u (ns.filter s.callable).length) (ns.filter s.callable) u := by
  induction ns generalizing s k with
  | nil => exact ⟨fun _ => s, rfl, .nil now k s⟩
  | cons n ns ih =>
    obtain ⟨fresh, distinct⟩ := List.nodup_cons.mp once
    rw [forEach_cons]
    by_cases may : s.callable n = true
    · obtain ⟨d, found, rests⟩ : ∃ d, s.ticket n = some d ∧ (d.state = .parked ∨ d.state = .scheduled) := by
        cases found : s.ticket n with
        | none => simp [State.callable, found] at may
        | some d => exact ⟨d, rfl, by simpa [State.callable, found] using may⟩
      obtain rfl : d.number = n := State.ticket_number found
      have called : callMember now d.number (s, k) = (s.callParked d (now.plus (k + 1)), k + 1) := by
        simp only [callMember, found, if_pos rests]
        rcases rests with state | state <;> simp [State.callTicket, state]
      have one := State.callParked_from found (by rcases rests with state | state <;> rw [state] <;> rfl) (now.plus (k + 1))
      rw [called]
      generalize s.callParked d (now.plus (k + 1)) = v at *
      obtain ⟨u, run, rest⟩ := ih distinct v (k + 1)
      have same : ns.filter v.callable = ns.filter s.callable := List.filter_congr fun m mem => by
        rw [State.callable, State.callable, one.only.1 m fun is => fresh (is ▸ mem)]
      rw [same] at run rest
      rw [List.filter_cons_of_pos may]
      refine ⟨fun i => i.casesOn s u, run.trans ?_, ?_⟩
      · rw [List.length_cons, Nat.add_right_comm, Nat.add_assoc]
      · exact rest.cons found rests one fun mem => fresh (List.mem_filter.mp mem).1
    · rw [List.filter_cons_of_neg may]
      have skipped : callMember now n (s, k) = (s, k) := by
        unfold callMember
        cases found : s.ticket n with
        | none => rfl
        | some d =>
          exact if_neg (by simpa [State.callable, found] using may)
      rw [skipped]
      exact ih distinct s k

/-- No work of the blocks opens or closes a ticket. -/
theorem workKeeps_numbers (ns : List Nat) : WorkKeeps fun s => s.numbers = ns where
  hooks _ hs := hs
  dispatch _ hs := hs
  arbiter _ hs := hs
  liftMarks _ _ _ hs := hs
  schedule _ hs := hs
  board _ hs := hs
  waiting _ hs := hs
  stations _ _ hs := hs
  putStall k r _ hs := by simpa only [State.numbers, State.putStall_frame] using hs
  tickets f same hs := by
    rw [← hs]
    simp only [State.numbers, List.map_map]
    exact List.map_congr_left fun t _ => (same t).1
  unplaced _ _ hs := hs

/-! ### What a hand-on leaves of the tickets (R8, R33, R48) -/

/-- From `a` to `b` the group stays, and so do the state and the stall unless the ticket has become ASSIGNED or
RESTAGING. -/
def Ticket.PassedTo (a b : Ticket) : Prop :=
  b.group = a.group ∧ (b.state = a.state ∧ b.stall = a.stall ∨ b.state = .assigned ∨ b.state = .restaging)

theorem Ticket.PassedTo.refl (a : Ticket) : a.PassedTo a := ⟨rfl, .inl ⟨rfl, rfl⟩⟩

theorem Ticket.PassedTo.trans {a b c : Ticket} (h : a.PassedTo b) (h' : b.PassedTo c) : a.PassedTo c := by
  refine ⟨h'.1.trans h.1, ?_⟩
  rcases h'.2 with ⟨state, stall⟩ | moved
  · rcases h.2 with ⟨state', stall'⟩ | moved
    · exact .inl ⟨state.trans state', stall.trans stall'⟩
    · rw [state]
      exact .inr moved
  · exact .inr moved

/-- Each ticket of `s` other than `n` stands in `t` as it stood, or ASSIGNED or RESTAGING; no other one is there. -/
def State.PassesOn (n : Nat) (s t : State) : Prop := ∀ m, m ≠ n → Option.Rel Ticket.PassedTo (s.ticket m) (t.ticket m)

theorem State.PassesOn.of_eq {n : Nat} {s t : State} (same : ∀ m, m ≠ n → t.ticket m = s.ticket m) : State.PassesOn n s t := by
  intro m other
  rw [same m other]
  cases s.ticket m
  exacts [.none, .some (.refl _)]

theorem State.PassesOn.trans {n : Nat} {s t u : State} (h : State.PassesOn n s t) (h' : State.PassesOn n t u) :
    State.PassesOn n s u := by
  intro m other
  have first := h m other
  have second := h' m other
  revert first second
  generalize s.ticket m = a
  generalize t.ticket m = b
  generalize u.ticket m = c
  rintro (first | _) second
  · cases second with
    | some second => exact .some (first.trans second)
  · cases second
    exact .none

/-- A change of one ticket's record passes it on where the change does. -/
theorem State.PassesOn.of_map {n m : Nat} {s t : State} {f : Ticket → Ticket} (own : t.ticket m = (s.ticket m).map f)
    (passes : ∀ c : Ticket, c.PassedTo (f c)) (same : ∀ j, j ≠ m → t.ticket j = s.ticket j) : State.PassesOn n s t := by
  intro j other
  by_cases is : j = m
  · subst is
    rw [own]
    cases s.ticket j
    exacts [.none, .some (passes _)]
  · exact State.PassesOn.of_eq (n := m) same j is

theorem State.PassesOn.makeTask (n m : Nat) (s : State) (kind : TaskKind) (age : SiteTime) :
    State.PassesOn n s (s.makeTask kind m age) :=
  .of_map (s.makeTask_ticket kind m age) (fun _ => ⟨rfl, .inl ⟨rfl, rfl⟩⟩) fun _ other => State.makeTask_ticket_ne kind age other

/-- A record written before the ticket becomes ASSIGNED or RESTAGING. -/
theorem State.PassesOn.move (n m : Nat) (s : State) {x : TicketState} (moved : x = .assigned ∨ x = .restaging)
    {f : Ticket → Ticket} (number : ∀ c, (f c).number = c.number) (group : ∀ c, (f c).group = c.group) :
    State.PassesOn n s ((s.modifyTicket m f).moveTicket m x) := by
  refine .of_map (m := m) (f := fun c => (f c).enter x s.now) ?_ (fun c => ⟨?_, .inr ?_⟩) fun j other => ?_
  · rw [State.ticket_moveTicket_same, s.ticket_modifyTicket_same m f number, Option.map_map]
    rfl
  · rw [Ticket.enter_of_ne (by rcases moved with rfl | rfl <;> nofun)]
    exact group c
  · rw [Ticket.enter_of_ne (by rcases moved with rfl | rfl <;> nofun)]
    exact moved
  · exact (State.ticket_moveTicket_ne _ _ _ _ other).trans (s.ticket_edit_ne other f number)

theorem State.PassesOn.hold (n k m : Nat) (s : State) : State.PassesOn n s (s.hold k m) :=
  .of_eq fun j _ => State.ticket_congr (s.hold_frame k m).2.2.1 j

theorem State.PassesOn.attemptTicket (n m : Nat) (s : State) : State.PassesOn n s (s.attemptTicket m) := by
  have same : State.PassesOn n s s := .of_eq fun _ _ => rfl
  unfold State.attemptTicket
  split
  · exact same
  · split
    · exact same
    next k second _ =>
      let u : State := { s with unplaced := s.unplaced.filter (· != m) }
      have listed : State.PassesOn n s u := .of_eq fun _ _ => rfl
      exact ((listed.trans (.hold n k m u)).trans (.move n m _ (f := fun t => { t with stall := some k, restageWanted := second })
        (.inl rfl) (fun _ => rfl) fun _ => rfl)).trans (.makeTask n m _ _ _)

theorem State.PassesOn.handOn (n k : Nat) (s : State) : State.PassesOn n s (s.handOn k) := by
  have placed : State.PassesOn n s s.attemptUnplaced :=
    forEach_keeps (State.PassesOn n s) _ _ s (fun m t h => h.trans (.attemptTicket n m t)) (.of_eq fun _ _ => rfl)
  unfold State.handOn
  generalize s.attemptUnplaced = u at *
  refine placed.trans ?_
  have same : State.PassesOn n u u := .of_eq fun _ _ => rfl
  unfold State.lookRestage
  split
  · split
    · split
      · exact same
      next c _ =>
        exact ((State.PassesOn.hold n k c.number u).trans (.move n c.number _ (f := fun t => { t with target := some k }) (.inr rfl)
          (fun _ => rfl) fun _ => rfl)).trans (.makeTask n c.number _ _ _)
    · exact same
  · exact same

theorem State.PassesOn.withdrawTask (n m : Nat) (s : State) : State.PassesOn n s (s.withdrawTask m) := by
  intro j _
  cases found : s.ticket j with
  | none =>
    have gone := (workKeeps_groupOf j none).withdrawTask m (by rw [found]; rfl)
    rw [Option.map_eq_none_iff.mp gone]
    exact .none
  | some c =>
    obtain ⟨d, own, same⟩ := State.ticket_withdrawTask found m
    rw [own, same]
    exact .some ⟨rfl, .inl ⟨rfl, rfl⟩⟩

/-! ### A hand-on leaves the tickets that wait for no stall (R8, R101) -/

theorem State.attemptTicket_ticket_ne (s : State) {n m : Nat} (other : n ≠ m) :
    (s.attemptTicket m).ticket n = s.ticket n ∧ (s.attemptTicket m).numbers = s.numbers := by
  unfold State.attemptTicket
  split
  · exact ⟨rfl, rfl⟩
  · split
    · exact ⟨rfl, rfl⟩
    next c _ _ k second _ =>
      let u : State := { s with unplaced := s.unplaced.filter (· != m) }
      refine ⟨?_, u.assign_numbers m k second c.arrived⟩
      refine (State.makeTask_ticket_ne .park c.arrived other).trans ((State.ticket_moveTicket_ne _ _ _ _ other).trans ?_)
      exact (State.ticket_edit_ne (u.hold k m) other fun t => { t with stall := some k, restageWanted := second }).trans
        (State.ticket_congr (u.hold_frame k m).2.2.1 n)

/-- A hand-on leaves an ASSIGNED ticket that is not in the unplaced list. -/
theorem State.handOn_ticket {s : State} {c : Ticket} (found : s.ticket c.number = some c) (distinct : s.numbers.Nodup)
    (state : c.state = .assigned) (unlisted : c.number ∉ s.unplaced) (k : Nat) : (s.handOn k).ticket c.number = some c := by
  obtain ⟨placed, numbers⟩ : s.attemptUnplaced.ticket c.number = some c ∧ s.attemptUnplaced.numbers = s.numbers :=
    forEach_keeps_of_mem (fun t : State => t.ticket c.number = some c ∧ t.numbers = s.numbers) s.unplaced _ s
      (fun m mem t h => by
        obtain ⟨kept, numbers⟩ := t.attemptTicket_ticket_ne (n := c.number) (m := m) fun same => unlisted (same ▸ mem)
        exact ⟨kept.trans h.1, numbers.trans h.2⟩) ⟨found, rfl⟩
  unfold State.handOn
  generalize s.attemptUnplaced = u at *
  unfold State.lookRestage
  split
  · split
    · split
      · exact placed
      next d chosen =>
        obtain ⟨mem, waits⟩ := List.mem_filter.mp (firstBy_mem chosen)
        have other : c.number ≠ d.number := fun same => by
          have is : d = c := eq_of_key (key := Ticket.number) (numbers ▸ distinct : u.numbers.Nodup) mem
            (List.mem_of_find?_eq_some placed) same.symm
          subst is
          simp [State.restageable, state] at waits
        refine (State.makeTask_ticket_ne .restage u.now other).trans ((State.ticket_moveTicket_ne _ _ _ _ other).trans ?_)
        exact (State.ticket_edit_ne (u.hold k d.number) other fun t => { t with target := some k }).trans
          ((State.ticket_congr (u.hold_frame k d.number).2.2.1 _).trans placed)
    · exact placed
  · exact placed

end Sys2Proof.Machine
end

section
/-! PROOF of O21: calls of parked cars and of groups. -/

namespace Sys2Proof.Machine

open Sys2Proof

/-! ### The lead's call, by its state (R50, R133) -/

/-- The ticket is called already, or will be. -/
abbrev Ticket.isCalled (c : Ticket) : Prop :=
  c.state = .called ∨ c.state = .fetching ∨ c.state = .descending ∨ c.state = .staged ∨ c.state = .toCurb ∨ c.state = .atCurb ∨
    c.callPending = true ∧ (c.state = .assigned ∨ c.state = .parking ∨ c.state = .restaging)

theorem State.callTicket_isCalled {s : State} {c : Ticket} (called : c.isCalled) (time : SiteTime) :
    s.callTicket c time = (s, .already) := by
  refine State.callTicket_already time ?_
  unfold Ticket.isCalled at called
  tauto

theorem State.callTicket_rests {s : State} {c : Ticket} (rests : c.state = .parked ∨ c.state = .scheduled) (time : SiteTime) :
    s.callTicket c time = (s.callParked c time, .done) := by
  rcases rests with state | state <;> simp [State.callTicket, state]

/-- A ticket that is not called is in one of four cases. -/
theorem Ticket.callable_cases {c : Ticket} (free : ¬ c.isCalled) :
    (c.state = .parked ∨ c.state = .scheduled) ∨ (c.state = .parking ∨ c.state = .restaging) ∧ c.callPending = false ∨
      c.state = .unplaced ∨ c.state = .assigned ∧ c.callPending = false := by
  unfold Ticket.isCalled at free
  cases state : c.state <;> simp_all

/-- The outcome of a call. -/
theorem State.callTicket_outcome (s : State) (c : Ticket) (time : SiteTime) :
    (c.isCalled → (s.callTicket c time).2 = .already) ∧ (¬ c.isCalled → (s.callTicket c time).2 = .done) := by
  refine ⟨fun called => by rw [State.callTicket_isCalled called], fun free => ?_⟩
  rcases c.callable_cases free with rests | ⟨states, pending⟩ | state | ⟨state, pending⟩
  · rw [State.callTicket_rests rests]
  · rw [State.callTicket_pending time states pending]
  · rw [State.callTicket_unplaced time state]
  · rw [State.callTicket_assigned time state pending]

/-- A call of a ticket that is not ASSIGNED leaves the other tickets and the stalls, and reports nothing. -/
theorem State.callTicket_others {s : State} {c : Ticket} (found : s.ticket c.number = some c) (settled : c.state ≠ .assigned)
    (time : SiteTime) : (∀ m, m ≠ c.number → (s.callTicket c time).1.ticket m = s.ticket m) ∧
      (s.callTicket c time).1.stalls = s.stalls ∧ (s.callTicket c time).1.events = s.events := by
  by_cases called : c.isCalled
  · rw [State.callTicket_isCalled called]
    exact ⟨fun _ _ => rfl, rfl, rfl⟩
  · rcases c.callable_cases called with rests | ⟨states, pending⟩ | state | ⟨state, -⟩
    · rw [State.callTicket_rests rests]
      have one := State.callParked_from found (by rcases rests with state | state <;> rw [state] <;> rfl) time
      exact ⟨one.only.1, one.stalls, one.events⟩
    · rw [State.callTicket_pending time states pending]
      exact ⟨fun m other => s.ticket_edit_ne other fun k =>
        { k with callPending := true, calledAt := some s.now, promise := s.quote c }, rfl, rfl⟩
    · rw [State.callTicket_unplaced time state]
      obtain ⟨stalls, -, -, -, -, -, events, -, others⟩ := State.toPodium_frame
        { s with unplaced := s.unplaced.filter (· != c.number) } c.number
      exact ⟨others, stalls, events⟩
    · exact absurd state settled

/-- A call passes the other tickets on. -/
theorem State.callTicket_passes {s : State} {c : Ticket} (found : s.ticket c.number = some c) (time : SiteTime) :
    State.PassesOn c.number s (s.callTicket c time).1 := by
  by_cases state : c.state = .assigned
  · by_cases pending : c.callPending = true
    · rw [State.callTicket_isCalled (by simp [Ticket.isCalled, state, pending])]
      exact .of_eq fun _ _ => rfl
    · rw [State.callTicket_assigned time state (by simpa using pending)]
      refine State.PassesOn.trans ?_ (.of_eq (State.toPodium_frame (s.uncommitted c) c.number).2.2.2.2.2.2.2.2)
      have withdrawn := State.PassesOn.withdrawTask c.number c.number s
      unfold State.uncommitted
      split
      · exact withdrawn
      next k _ =>
        have freed : State.PassesOn c.number s (((s.withdrawTask c.number).releaseStall k c.number).modifyTicket c.number
            fun t => { t with stall := none }) :=
          withdrawn.trans (.of_eq fun m other => (State.ticket_edit_ne _ other fun t => { t with stall := none }).trans
            (State.ticket_congr (State.releaseStall_frame _ k c.number).2.2.1 m))
        split
        exacts [freed.trans (.handOn _ k _), freed]
  · exact .of_eq (State.callTicket_others found state time).1

theorem State.uncommitted_frame (s : State) (c : Ticket) : (s.uncommitted c).keys = s.keys ∧
    (s.uncommitted c).arbiter = s.arbiter ∧ (s.uncommitted c).events.clock = s.events.clock := by
  unfold State.uncommitted
  split
  · simp [State.withdrawTask_frame]
  · split <;> simp [State.handOn_frame, State.releaseStall_frame, State.withdrawTask_frame]

/-- A call moves no key, and no lift or lane. -/
theorem State.callTicket_frame {s : State} {c : Ticket} (found : s.ticket c.number = some c) (time : SiteTime) :
    (s.callTicket c time).1.keys = s.keys ∧ (s.callTicket c time).1.arbiter = s.arbiter := by
  by_cases called : c.isCalled
  · rw [State.callTicket_isCalled called]
    exact ⟨rfl, rfl⟩
  · rcases c.callable_cases called with rests | ⟨states, pending⟩ | state | ⟨state, pending⟩
    · rw [State.callTicket_rests rests]
      have one := State.callParked_from found (by rcases rests with state | state <;> rw [state] <;> rfl) time
      exact ⟨one.keys, one.arbiter⟩
    · rw [State.callTicket_pending time states pending]
      exact ⟨rfl, rfl⟩
    · rw [State.callTicket_unplaced time state]
      obtain ⟨-, -, -, keys, -, arbiter, -⟩ := State.toPodium_frame
        { s with unplaced := s.unplaced.filter (· != c.number) } c.number
      exact ⟨keys, arbiter⟩
    · rw [State.callTicket_assigned time state pending]
      obtain ⟨keys, arbiter, -⟩ := s.uncommitted_frame c
      obtain ⟨-, -, -, keys', -, arbiter', -⟩ := (s.uncommitted c).toPodium_frame c.number
      exact ⟨keys'.trans keys, arbiter'.trans arbiter⟩

/-- A call of an ASSIGNED ticket puts it AT_CURB without a stall. -/
theorem State.callTicket_assigned_ticket {s : State} {c : Ticket} (found : s.ticket c.number = some c)
    (distinct : s.numbers.Nodup) (state : c.state = .assigned) (pending : c.callPending = false)
    (unlisted : c.number ∉ s.unplaced) (time : SiteTime) :
    ((s.callTicket c time).1.ticket c.number).map (fun e => (e.state, e.stall, e.lane, e.calledAt, e.atCurbAt)) =
      some (.atCurb, none, some 0, some s.now, some s.now) := by
  rw [State.callTicket_assigned time state pending]
  have now : (s.uncommitted c).now = s.now := (s.uncommitted_frame c).2.2
  obtain ⟨d, own, free⟩ : ∃ d, (s.uncommitted c).ticket c.number = some d ∧ d.stall = none := by
    obtain ⟨d, withdrawn, dispatched⟩ := State.ticket_withdrawTask found c.number
    have assigned : d.state = .assigned := by rw [dispatched]; exact state
    have own : d.number = c.number := by rw [dispatched]
    unfold State.uncommitted
    split
    next none => exact ⟨d, withdrawn, by rw [dispatched]; exact none⟩
    next k _ =>
      have released := (State.releaseStall_frame (s.withdrawTask c.number) k c.number).2.2.1
      have unlisted' := (State.releaseStall_frame (s.withdrawTask c.number) k c.number).2.1
      have freed := State.ticket_edit_same ((State.ticket_congr released _).trans withdrawn) fun t => { t with stall := none }
      split
      · have keeps := workKeeps_numbers s.numbers
        have numbers : State.numbers _ = s.numbers := keeps.modifyTicket c.number (fun t => { t with stall := none })
          (fun _ => ⟨rfl, rfl⟩) (keeps.releaseStall k c.number (keeps.withdrawTask c.number rfl))
        have list : State.unplaced _ = s.unplaced := unlisted'.trans (s.withdrawTask_frame c.number).2.2.1
        refine ⟨{ d with stall := none }, ?_, rfl⟩
        rw [← own] at freed ⊢
        exact State.handOn_ticket (c := { d with stall := none }) freed (own ▸ numbers ▸ distinct) assigned
          (own ▸ list ▸ unlisted) k
      · exact ⟨_, freed, rfl⟩
  rw [State.toPodium_ticket own, now]
  simp [Ticket.atPodium, free]

/-! ### The ring of a group (R131, R133) -/

/-- The ring of a group in order: its tickets of distinct numbers by distinct places. -/
structure State.RingOf (s : State) (g : Nat) (ring : List (Nat × Nat)) : Prop where
  mem : ∀ place n, (place, n) ∈ ring ↔ ∃ d, s.ticket n = some d ∧ d.group = some (g, place)
  places : ring.Pairwise (·.1 < ·.1)
  numbers : (ring.map (·.2)).Nodup
  few : ring.length ≤ 4

theorem State.groupRing_of {s : State} (right : s.GroupsRight) (g : Nat) : s.RingOf g (s.groupRing g) := by
  obtain ⟨numbers, -, rings⟩ := right
  obtain ⟨once, few, -⟩ := rings g
  let entry (t : Ticket) : Option (Nat × Nat) := match t.group with
    | none => none
    | some (g', place) => if g' = g then some (place, t.number) else none
  have entry_iff (t : Ticket) (p : Nat × Nat) : entry t = some p ↔ t.group = some (g, p.1) ∧ t.number = p.2 := by
    obtain ⟨place, n⟩ := p
    cases group : t.group with
    | none => simp [entry, group]
    | some q =>
      obtain ⟨g', place'⟩ := q
      by_cases same : g' = g <;> simp [entry, group, same]
  have perm : (s.groupRing g).Perm (s.tickets.filterMap entry) := sortBy_perm _ _
  have placed : (s.tickets.filterMap entry).map (·.1) = s.placesOf g := by
    rw [List.map_filterMap, State.placesOf]
    refine List.filterMap_congr fun t _ => ?_
    cases group : t.group with
    | none => simp [entry, group]
    | some q =>
      obtain ⟨g', place'⟩ := q
      by_cases same : g' = g <;> simp [entry, group, same]
  have distinct : ((s.groupRing g).map (·.1)).Nodup := (perm.map _).nodup_iff.mpr (placed ▸ once)
  refine ⟨fun place n => ?_, ?_, ?_, ?_⟩
  · rw [perm.mem_iff, List.mem_filterMap]
    constructor
    · rintro ⟨t, mem, own⟩
      obtain ⟨group, number⟩ := (entry_iff t _).mp own
      have number : t.number = n := number
      exact ⟨t, number ▸ find?_key Ticket.number numbers mem, group⟩
    · rintro ⟨d, found, group⟩
      exact ⟨d, List.mem_of_find?_eq_some found, (entry_iff d _).mpr ⟨group, State.ticket_number found⟩⟩
  · have sorted := sortBy_sorted (before := fun a b : Nat × Nat => a.1 < b.1) (key := (·.1)) (fun a b => by simp)
      (s.tickets.filterMap entry)
    have apart : (s.groupRing g).Pairwise (·.1 ≠ ·.1) := List.pairwise_map.mp distinct
    exact (sorted.and apart).imp fun ⟨below, other⟩ => lt_of_le_of_ne below other
  · refine (perm.map _).nodup_iff.mpr (List.pairwise_map.mpr ?_)
    refine List.Pairwise.filterMap entry (fun a b other p own q own' same => other ?_) (List.pairwise_map.mp numbers)
    exact ((entry_iff a p).mp own).2.trans (same.trans ((entry_iff b q).mp own').2.symm)
  · rw [perm.length_eq, ← List.length_map (f := (·.1)), placed]
    exact few

/-- The other members of a lead's group, in ring order from the place after the lead's. -/
theorem State.membersAfter_of {s : State} (right : s.GroupsRight) {c : Ticket} {g place : Nat}
    (found : s.ticket c.number = some c) (group : c.group = some (g, place)) :
    (∀ n, n ∈ s.membersAfter g place ↔ n ≠ c.number ∧ ∃ d q, s.ticket n = some d ∧ d.group = some (g, q)) ∧
      (s.membersAfter g place).Nodup ∧ (s.membersAfter g place).length ≤ 3 ∧
      (s.membersAfter g place).Pairwise fun m n => ∀ d e q r, s.ticket m = some d → s.ticket n = some e →
        d.group = some (g, q) → e.group = some (g, r) → (q < r ∧ (place < q ∨ r < place)) ∨ (r < place ∧ place < q) := by
  have ring := State.groupRing_of right g
  unfold State.membersAfter
  dsimp only
  generalize s.groupRing g = l at *
  obtain ⟨mem, places, numbers, few⟩ := ring
  have split : (l.filter (place < ·.1) ++ l.filter (·.1 < place)).Perm (l.filter (·.1 ≠ place)) := by
    have perm := List.filter_append_perm (fun p : Nat × Nat => decide (place < p.1)) (l.filter (·.1 ≠ place))
    have after : (l.filter (·.1 ≠ place)).filter (place < ·.1) = l.filter (place < ·.1) := by
      rw [List.filter_filter]
      exact List.filter_congr fun p _ => by simp; omega
    have before : (l.filter (·.1 ≠ place)).filter (fun p => !decide (place < p.1)) = l.filter (·.1 < place) := by
      rw [List.filter_filter]
      exact List.filter_congr fun p _ => by rw [Bool.eq_iff_iff]; simp; omega
    rwa [after, before] at perm
  have lead : (place, c.number) ∈ l := (mem place c.number).mpr ⟨c, found, group⟩
  have placed {p : Nat × Nat} (inside : p ∈ l) {d : Ticket} {q : Nat} (own : s.ticket p.2 = some d) (at_ : d.group = some (g, q)) :
      q = p.1 := by
    obtain ⟨e, own', at'⟩ := (mem p.1 p.2).mp inside
    rw [own] at own'
    rw [← Option.some.inj own', at_] at at'
    simpa using at'
  have alone {n : Nat} (inside : (place, n) ∈ l) : n = c.number := by
    have distinct : (l.map (·.1)).Nodup := List.pairwise_map.mpr (places.imp fun less => ne_of_lt less)
    exact congrArg Prod.snd (List.inj_on_of_nodup_map distinct inside lead rfl)
  refine ⟨fun n => ?_, ?_, ?_, ?_⟩
  · rw [(split.map _).mem_iff]
    simp only [List.mem_map, List.mem_filter, Prod.exists, exists_eq_right, mem]
    constructor
    · rintro ⟨q, ⟨d, own, at_⟩, other⟩
      refine ⟨fun same => ?_, d, q, own, at_⟩
      have is : q = place := placed lead (same ▸ own) at_
      simp [is] at other
    · rintro ⟨other, d, q, own, at_⟩
      refine ⟨q, ⟨d, own, at_⟩, ?_⟩
      simpa using fun is : q = place => other (alone ((mem place n).mpr ⟨d, own, is ▸ at_⟩))
  · rw [(split.map _).nodup_iff]
    exact numbers.sublist (List.filter_sublist.map _)
  · rw [List.length_map, split.length_eq]
    have fewer : (l.filter (·.1 ≠ place)).length < l.length :=
      List.length_filter_lt_length_iff_exists.mpr ⟨(place, c.number), lead, by simp⟩
    omega
  · rw [List.pairwise_map, List.pairwise_append]
    have low {p : Nat × Nat} (inside : p ∈ l.filter (·.1 < place)) := List.mem_filter.mp inside
    have high {p : Nat × Nat} (inside : p ∈ l.filter (place < ·.1)) := List.mem_filter.mp inside
    refine ⟨(places.filter _).imp_of_mem fun {a b} inA inB less d e q r ownD ownE atD atE => .inl ?_,
      (places.filter _).imp_of_mem fun {a b} inA inB less d e q r ownD ownE atD atE => .inl ?_,
      fun a inA b inB d e q r ownD ownE atD atE => .inr ?_⟩
    · obtain rfl := placed (high inA).1 ownD atD
      obtain rfl := placed (high inB).1 ownE atE
      exact ⟨less, .inl (by simpa using (high inA).2)⟩
    · obtain rfl := placed (low inA).1 ownD atD
      obtain rfl := placed (low inB).1 ownE atE
      exact ⟨less, .inr (by simpa using (low inB).2)⟩
    · obtain rfl := placed (high inA).1 ownD atD
      obtain rfl := placed (low inB).1 ownE atE
      exact ⟨by simpa using (low inB).2, by simpa using (high inA).2⟩

/-! ### The group call (R133, R134) -/

/-- What the lead's call leaves, by the lead's state. -/
structure State.LeadCalled (s v : State) (c : Ticket) (o : Answer) : Prop where
  rest : s.KeepsRest v
  passes : State.PassesOn c.number s v
  groups : ∀ n, (v.ticket n).map (·.group) = (s.ticket n).map (·.group)
  keys : v.keys = s.keys
  arbiter : v.arbiter = s.arbiter
  settled : c.state ≠ .assigned → (∀ m, m ≠ c.number → v.ticket m = s.ticket m) ∧ v.stalls = s.stalls ∧ v.events = s.events
  rests : (c.state = .parked ∨ c.state = .scheduled) →
    (v.ticket c.number).map (fun e => (e.state, e.calledAt, e.promise)) = some (.called, some s.now, s.quote c)
  already : c.isCalled → v.ticket c.number = some c ∧ o = .already
  done : ¬ c.isCalled → o = .done
  pending : (c.state = .parking ∨ c.state = .restaging) → c.callPending = false →
    v.ticket c.number = some { c with callPending := true, calledAt := some s.now, promise := s.quote c }
  unplaced : c.state = .unplaced → v.ticket c.number = some (c.atPodium s.now) ∧ v.unplaced = s.unplaced.filter (· != c.number)
  assigned : c.state = .assigned → c.callPending = false → c.number ∉ s.unplaced →
    (v.ticket c.number).map (fun e => (e.state, e.stall, e.lane, e.calledAt, e.atCurbAt)) =
      some (.atCurb, none, some 0, some s.now, some s.now)

theorem State.callTicket_lead {s : State} {c : Ticket} (found : s.ticket c.number = some c) (distinct : s.numbers.Nodup) :
    s.LeadCalled (s.callTicket c s.now).1 c (s.callTicket c s.now).2 where
  rest := (keepsRest_workKeeps s).callTicket c s.now (State.KeepsRest.refl s)
  passes := State.callTicket_passes found s.now
  groups n := (workKeeps_groupOf n ((s.ticket n).map (·.group))).callTicket c s.now rfl
  keys := (State.callTicket_frame found s.now).1
  arbiter := (State.callTicket_frame found s.now).2
  settled state := State.callTicket_others found state s.now
  rests rests := by
    have one := State.callParked_from found (by rcases rests with state | state <;> rw [state] <;> rfl) s.now
    rw [State.callTicket_rests rests, one.ticket]
    rfl
  already called := by
    rw [State.callTicket_isCalled called]
    exact ⟨found, rfl⟩
  done free := (s.callTicket_outcome c s.now).2 free
  pending states free := by
    rw [State.callTicket_pending s.now states free]
    exact State.ticket_edit_same found fun k => { k with callPending := true, calledAt := some s.now, promise := s.quote c }
  unplaced state := by
    rw [State.callTicket_unplaced s.now state]
    let listed : State := { s with unplaced := s.unplaced.filter (· != c.number) }
    exact ⟨State.toPodium_ticket (s := listed) found, (listed.toPodium_frame c.number).2.1⟩
  assigned state free unlisted := State.callTicket_assigned_ticket found distinct state free unlisted s.now

/-- A CALL of a whole group is judged by `groupCall`. -/
theorem State.Serves.callGroup {s : State} {f : From} {c : Ticket} {g place : Nat} (h : s.Serves f) (low : 1 ≤ c.number)
    (high : c.number ≤ 9999) (found : s.ticket c.number = some c) (group : c.group = some (g, place)) {u : State} {o : Answer}
    {k : Nat} (judged : (s.heard f).groupCall c g place = (u, o, k)) :
    exec (.call f (.fields ⟨c.number, .value true⟩)) s = .next (u.oweService f.source .call o (some c.number) (some k)) := by
  have named : (s.heard f).named c.number = some c := State.named_some low high ((s.ticket_heard f _).trans found)
  refine (h.service _ _ _ (⟨c.number, .value true⟩ : CallFields)).trans (next_congr ?_)
  simp only [State.requestCall, named, Sent.get?, State.takeCall, group, judged]

/-- Settles O21: the call of a parked car, and the lead's call followed by its members' turns. -/
theorem callOfAParkedCarMakesAFetchTask : Obligations.CallOfAParkedCarMakesAFetchTask := by
  refine ⟨fun s f c serves low high found rests gone => ?_, fun s f c g place serves right low high found group => ?_⟩
  · have heard : (s.heard f).ticket c.number = some c := (s.ticket_heard f _).trans found
    have one := State.callParked_from heard (by rcases rests with state | state <;> rw [state] <;> rfl) s.now
    have judged := State.callTicket_rests (s := s.heard f) rests s.now
    have rest := (keepsRest_workKeeps (s.heard f)).callTicket c s.now (State.KeepsRest.refl _)
    rw [judged] at rest
    have run := serves.call low high found judged
    generalize (s.heard f).callParked c s.now = t at *
    have taken : (s.heard f).placesTaken = s.placesTaken := by rw [State.placesTaken, State.placesTaken, s.heard_dispatch]
    obtain ⟨w, own, kind, age, place⟩ := one.task ((s.task_heard f _).trans gone)
    have ticket := one.ticket
    rw [s.quoteAt_heard, taken] at ticket
    refine ⟨_, run, rest.served _ _ _ _ _, ticket, ⟨w, own, kind, age, taken ▸ place⟩,
      one.schedule.trans (by rw [s.heard_calls]), one.stalls.trans (s.heard_stalls f), one.keys.trans (s.heard_keys f),
      one.events.trans (s.heard_events f), one.arbiter.trans (s.heard_arbiter f),
      ⟨fun m other => (one.only.1 m other).trans (s.ticket_heard f m), one.only.2.1.trans (s.heard_unplaced f),
        one.only.2.2.trans (s.heard_issue f)⟩, ?_⟩
    exact congrArg (fun r : Station => r.serviceReply.map fun r => (r.kind, r.outcome, r.ticket))
      (State.station_setStation_same _ _ _ serves.1.address.1 serves.1.address.2)
  · have heard : (s.heard f).ticket c.number = some c := (s.ticket_heard f _).trans found
    have right' : (s.heard f).GroupsRight := by rw [s.heard_eq f]; exact right
    have lead := State.callTicket_lead heard right'.1
    have run₁ := serves.call low high found (show (s.heard f).callTicket c s.now = (((s.heard f).callTicket c s.now).1,
      ((s.heard f).callTicket c s.now).2) from rfl)
    obtain ⟨members, distinct, few, order⟩ := State.membersAfter_of right' heard group
    obtain ⟨u, turns, called⟩ := State.callMembers_result (s.heard f).now distinct ((s.heard f).callTicket c (s.heard f).now).1 0
    have run := serves.callGroup low high found group (show (s.heard f).groupCall c g place = _ from
      congrArg (fun r : State × Nat => (r.1, ((s.heard f).callTicket c (s.heard f).now).2, r.2)) turns)
    have rest := (keepsRest_workKeeps (s.heard f)).groupCall c g place (State.KeepsRest.refl _)
    simp only [State.groupCall, turns] at rest
    simp only [s.now_heard, Nat.zero_add] at lead run₁ called run
    simp only [s.now_heard] at rest
    simp only [s.ticket_heard] at members order
    generalize ((s.heard f).callTicket c s.now).1 = v at *
    generalize ((s.heard f).callTicket c s.now).2 = o at *
    have parked {n : Nat} : v.callable n = true ↔ ∃ d, v.ticket n = some d ∧ (d.state = .parked ∨ d.state = .scheduled) := by
      rw [State.callable]
      cases v.ticket n <;> simp
    have isCalled {n : Nat} : n ∈ ((s.heard f).membersAfter g place).filter v.callable ↔
        n ≠ c.number ∧ ∃ d q, v.ticket n = some d ∧ d.group = some (g, q) ∧ (d.state = .parked ∨ d.state = .scheduled) := by
      have groups := lead.groups n
      rw [s.ticket_heard] at groups
      rw [List.mem_filter, members, parked]
      constructor
      · rintro ⟨⟨other, d, q, own, ring⟩, e, now, rests⟩
        rw [now, own] at groups
        exact ⟨other, e, q, now, (Option.some.inj groups).trans ring, rests⟩
      · rintro ⟨other, e, q, now, ring, rests⟩
        rw [now] at groups
        obtain ⟨d, own, same⟩ := Option.map_eq_some_iff.mp groups.symm
        exact ⟨⟨other, d, q, own, same.trans ring⟩, e, now, rests⟩
    have fewer := (List.length_filter_le v.callable ((s.heard f).membersAfter g place)).trans few
    have ordered := order.filter v.callable
    generalize ((s.heard f).membersAfter g place).filter v.callable = l at *
    generalize u l.length = t at *
    have kept : t.ticket c.number = v.ticket c.number := called.others _ fun mem => (isCalled.mp mem).1 rfl
    have quote : (s.heard f).quote c = s.quote c := by rw [State.quote, State.quote, s.quoteAt_heard, s.now_heard]
    have leadRests := lead.rests
    have leadPending := lead.pending
    have leadUnplaced := lead.unplaced
    have leadAssigned := lead.assigned
    rw [s.now_heard, quote] at leadRests leadPending
    rw [s.now_heard, s.heard_unplaced] at leadUnplaced leadAssigned
    refine ⟨_, o, l, u, run, ?_, ?_, rest.served _ _ _ _ _, fewer, ?_, fun i n is => ?_, ordered, fun i n d is own => ?_,
      fun n other out => ?_, fun settled n other out => ?_, ?_, ?_, ?_, ?_, ?_, ?_, ?_, ?_, ?_, ?_⟩
    · rwa [called.first]
    · rw [called.last]
    · intro n
      rw [called.first]
      exact isCalled
    · obtain ⟨d, rfl, own, rests, at_, one, -⟩ := called.each i n is
      rw [Nat.zero_add] at one
      exact ⟨d, at_, rests, one.schedule, one.only, fun gone => ⟨one.ticket, one.task gone⟩⟩
    · obtain ⟨e, rfl, now, rests, -, one, last, made⟩ := called.each i n is
      rw [Nat.zero_add] at one made
      have passed := lead.passes e.number (isCalled.mp (List.mem_of_getElem? is)).1
      rw [s.ticket_heard, own, now] at passed
      cases passed with
      | some passed =>
        refine ⟨_, last.trans one.ticket, rfl, rfl, ?_, passed.1, made⟩
        rcases passed.2 with ⟨-, stall⟩ | moved | moved
        · exact stall
        · rcases rests with rests | rests <;> exact absurd (rests.symm.trans moved) nofun
        · rcases rests with rests | rests <;> exact absurd (rests.symm.trans moved) nofun
    · rw [called.first]
      exact congrArg (Option.map _) (called.others n out)
    · refine congrArg (Option.map _) ((called.others n out).trans (((lead.settled settled).1 n other).trans (s.ticket_heard f n)))
    · rw [called.first]
      exact kept
    · exact fun rests => (congrArg (Option.map _) kept).trans (leadRests rests)
    · exact fun already => kept.trans (lead.already already).1
    · exact fun states free => kept.trans (leadPending states free)
    · exact fun state => ⟨kept.trans (leadUnplaced state).1, called.unplaced.trans (leadUnplaced state).2⟩
    · exact fun state free unlisted => (congrArg (Option.map _) kept).trans
        (leadAssigned state free unlisted)
    · exact fun settled => ⟨called.stalls.trans ((lead.settled settled).2.1.trans (s.heard_stalls f)),
        called.events.trans ((lead.settled settled).2.2.trans (s.heard_events f))⟩
    · exact called.keys.trans (lead.keys.trans (s.heard_keys f))
    · exact called.arbiter.trans (lead.arbiter.trans (s.heard_arbiter f))
    · refine (congrArg (fun r : Station => r.serviceReply.map fun r => (r.kind, r.outcome, r.ticket, r.members))
        (State.station_setStation_same _ _ _ serves.1.address.1 serves.1.address.2)).trans ?_
      have outcome : o = if c.isCalled then .already else .done := by
        split
        next is => exact (lead.already is).2
        next free => exact lead.done free
      rw [outcome]
      rfl

end Sys2Proof.Machine
end

section
/-! REFUTATION of O40: a lift that recovers, with two records of one ticket number. -/

namespace Sys2Proof.Machine

open Sys2Proof

/-! ### A state with two records of number 7

The last clause asks of the PARKED tickets that none wants a restage, but not that the numbers of the open tickets differ.
Ticket 7 is ASSIGNED stall 12, which is too small for it, and a PARKED record has the number too. The ticket is placed anew
in stall 639 by the second try, which writes restage wanted in both records; the release of stall 12, which has a charger,
then finds the PARKED record, and ticket 7 becomes RESTAGING. -/

def crampedSite : StallSite := ⟨2, 3, 40, .standard, true, 1⟩

def roomySite : StallSite := ⟨2, 3, 40, .large, false, 1⟩

def crampedCar : Ticket :=
  { newTicket 7 ⟨.large, true, .evening, .reserved, none⟩ SiteTime.zero with state := .assigned, stall := some 12 }

def parkedTwin : Ticket := { newTicket 7 ⟨.standard, false, .evening, .standard, none⟩ SiteTime.zero with state := .parked }

/-- Lift 1 of station 31 on the deck link, which the controller waits for. -/
def liftStation : From := ⟨.deck, 31⟩

def twinRecords : State :=
  let s := State.reset.setStation 31 { Station.cold with
    segment := .deck, cls := .lift, served := some (.lift 1), presence := .present }
  let s := (s.setPort .deck { s.port .deck with phase := .window 31 }).setLift 1 { Lift.cold with state := .fault }
  { s with
    tickets := [crampedCar, parkedTwin]
    params.liftConfigured := setNth1 s.params.liftConfigured 1 true
    stalls.records := setNth (setNth s.stalls.records 12
      { Stall.cold with site := some crampedSite, state := .held, ticket := some 7 }) 639
      { Stall.cold with site := some roomySite, state := .free } }

def twinRecovered : State :=
  (twinRecords.heard liftStation).setLift 1 { twinRecords.lift 1 with state := .idle, parkedLevel := 7 }

/-- Two stalls alone have been loaded. -/
theorem twinRecords_stall (k : Nat) : k = 12 ∨ k = 639 ∨ twinRecords.stall k = Stall.cold := by
  by_cases first : k = 12
  · exact .inl first
  by_cases second : k = 639
  · exact .inr (.inl second)
  refine .inr (.inr ?_)
  have old : twinRecords.stall k = State.reset.stall k :=
    (nth_setNth_ne _ _ _ _ _ (Ne.symm second)).trans (nth_setNth_ne _ _ _ _ _ (Ne.symm first))
  rw [old]
  show (Vector.replicate Config.stallCount Stall.cold)[k]?.getD Stall.cold = Stall.cold
  rw [Vector.getElem?_replicate]
  split <;> rfl

theorem twinRecords_oneAssigned : twinRecords.OneAssigned crampedCar 12 where
  assigned := by decide +kernel
  found := by decide +kernel
  bound := rfl
  held := by
    refine ⟨by decide, fun j => ⟨fun held => ?_, fun is => is ▸ (by decide +kernel : twinRecords.heldFor 12 7 = true)⟩⟩
    rcases twinRecords_stall j with is | rfl | cold
    · exact is
    · exact absurd (held : twinRecords.heldFor 639 7 = true) (by decide +kernel)
    · rw [State.heldFor, cold] at held
      cases held
  notOffered w b own := by
    rw [show twinRecords.task crampedCar.number = none by decide +kernel] at own
    cases own

theorem twinRecovered_movesTo : twinRecovered.MovesTo crampedCar 639 true := by
  have at12 : (twinRecovered.stall 12).site = some crampedSite := by decide +kernel
  have at639 : (twinRecovered.stall 639).site = some roomySite := by decide +kernel
  have same (k) : twinRecovered.stall k = twinRecords.stall k :=
    State.stall_congr (twinRecords.heard_stalls liftStation) k
  have fits {need : Bool} {k : Nat} {site : StallSite} (may : twinRecovered.mayMoveTo crampedCar need k site) :
      k = 639 ∧ site = roomySite := by
    obtain ⟨-, loaded, -, size, -⟩ := may
    rcases twinRecords_stall k with rfl | rfl | cold
    · obtain rfl := Option.some.inj (loaded.symm.trans at12)
      exact absurd size (by decide)
    · exact ⟨rfl, Option.some.inj (loaded.symm.trans at639)⟩
    · rw [same, cold] at loaded
      cases loaded
  refine ⟨roomySite, ?_, fun _ => ⟨rfl, fun k site may => ?_⟩, fun k site may => ?_⟩
  · unfold State.mayMoveTo
    decide +kernel
  · obtain ⟨rfl, rfl⟩ := fits may
    exact absurd (may.2.2.2.2.2.1 rfl) (by decide)
  · obtain ⟨rfl, rfl⟩ := fits may
    exact .inr ⟨rfl, .inr ⟨rfl, Nat.le_refl _⟩⟩

/-- The state of ticket 7 after the report. -/
def twinEnd : Option TicketState :=
  match exec (.liftIdleReport liftStation 7) twinRecords with
  | .next t => (t.ticket 7).map (·.state)
  | _ => none

theorem twinEnd_restaging : twinEnd = some .restaging := by decide +kernel

/-- Refutes O40: the last clause fails where two open tickets have one number. -/
theorem not_faultsHoldAndIdleRecovers : ¬ Obligations.FaultsHoldAndIdleRecovers := by
  intro h
  obtain ⟨-, -, -, -, recovers⟩ := h
  obtain ⟨moves, -⟩ := recovers twinRecords liftStation 1 7 12 crampedCar (by decide +kernel) (by decide) (by decide +kernel)
    (by decide +kernel) (by decide +kernel) (by decide +kernel) twinRecords_oneAssigned (by decide +kernel) (by decide +kernel)
  obtain ⟨t, run, replaced⟩ := moves 639 true twinRecovered_movesTo
  have ended := twinEnd_restaging
  unfold twinEnd at ended
  rw [run] at ended
  have ticket : t.ticket 7 = _ := replaced.ticket
  dsimp only at ended
  rw [ticket] at ended
  cases ended

end Sys2Proof.Machine
end

section
/-! PROOF of O43: what the sensors see. -/

namespace Sys2Proof.Machine

open Sys2Proof

/-! ### One stall record stored -/

/-- The state with another record of stall `k`, in which nothing else is touched. -/
def State.restall (s : State) (k : Nat) (r : Stall) : State := { s with stalls.records := setNth s.stalls.records k r }

theorem State.stall_restall (s : State) {k : Nat} (low : k < 640) (r : Stall) : (s.restall k r).stall k = r :=
  nth_setNth_same _ _ _ _ low

theorem State.stall_restall_ne (s : State) {k j : Nat} (other : j ≠ k) (r : Stall) : (s.restall k r).stall j = s.stall j :=
  nth_setNth_ne _ _ _ _ _ other.symm

theorem State.restall_restall (s : State) (k : Nat) (x y : Stall) : (s.restall k x).restall k y = s.restall k y := by
  simp [State.restall, setNth, Vector.setIfInBounds_setIfInBounds]

theorem State.restall_self (s : State) (k : Nat) : s.restall k (s.stall k) = s := by
  have same : setNth s.stalls.records k (s.stall k) = s.stalls.records := by
    by_cases inside : k < Config.stallCount
    · ext j hj
      simp only [setNth, State.stall, nth, Vector.getElem_setIfInBounds, Vector.getElem?_eq_getElem inside, Option.getD_some]
      split
      next same => simp only [same]
      · rfl
    · exact setNth_outside _ _ _ (by omega)
  rw [State.restall, same]

theorem State.keepsRest_restall (s : State) (k : Nat) (r : Stall) : s.KeepsRest (s.restall k r) := by constructor <;> rfl

/-- A record that keeps the state and the static fields of its stall moves no free count. -/
theorem State.putStall_restall {s : State} {k : Nat} {r : Stall} (low : k < 640) (state : r.state = (s.stall k).state)
    (site : r.site = (s.stall k).site) : s.putStall k r = s.restall k r :=
  State.putStall_counted low (by simp only [Stall.freeClass, state, site])

/-- The same of the record that stands in a stall once stored. -/
theorem State.restall_putStall {s : State} {k : Nat} {x r : Stall} (low : k < 640) (state : r.state = x.state)
    (site : r.site = x.site) : (s.restall k x).putStall k r = s.restall k r := by
  rw [State.putStall_restall low, State.restall_restall]
  all_goals rwa [s.stall_restall low]

/-! ### A FREE stall with a car in it (R12, R14) -/

/-- The state `t` in which stall `k` holds the record `r`, with its PHANTOM_CAR raised. -/
structure State.Phantom (s t : State) (k : Nat) (r : Stall) : Prop where
  stall : t.stall k = r
  others : ∀ j, j ≠ k → t.stall j = s.stall j
  raised : ⟨.phantomCar, k⟩ ∈ t.events.waiting
  tickets : t.tickets = s.tickets
  dispatch : t.dispatch = s.dispatch
  keys : t.keys = s.keys
  arbiter : t.arbiter = s.arbiter
  calls : t.calls = s.calls
  rest : s.KeepsRest t

theorem State.block_phantom (s : State) {k : Nat} (low : k < 640) (x : Stall) :
    s.Phantom ((s.restall k x).block k) k { x with state := .blocked, recheck := false } := by
  obtain ⟨-, -, tickets, -, keys, dispatch, arbiter, calls, -⟩ :=
    (s.restall k x).putStall_frame k { (s.restall k x).stall k with state := .blocked, recheck := false }
  have rest : s.KeepsRest ((s.restall k x).block k) := (s.keepsRest_restall k x).trans
    ((keepsRest_workKeeps _).raise _ _ ((keepsRest_workKeeps _).putStall k _ rfl (State.KeepsRest.refl (s.restall k x))))
  refine ⟨?_, fun j other => ?_, List.mem_append_right _ (List.mem_singleton.mpr rfl), tickets, dispatch, keys, arbiter, calls,
    rest⟩
  · refine (State.stall_putStall_same _ _ _ low).trans ?_
    rw [s.stall_restall low]
  · exact (State.stall_putStall_ne _ _ _ _ other.symm).trans (s.stall_restall_ne other x)

/-! ### One mark (R11 to R13) -/

/-- A mark that agrees with the sensed value removes the pending mark. -/
theorem State.takeMark_agrees {s : State} {k : Nat} {m : Mark} (low : k < 640) (same : (s.stall k).sensed = sensedOf m) :
    s.takeMark k m = s.restall k { s.stall k with pending := none } := by
  rw [State.takeMark]
  exact (if_pos same).trans (State.putStall_restall low rfl rfl)

/-- The first of two marks is kept as pending. -/
theorem State.takeMark_pends {s : State} {k : Nat} {m : Mark} (low : k < 640) (differs : (s.stall k).sensed ≠ sensedOf m)
    (first : (s.stall k).pending ≠ some m) : s.takeMark k m = s.restall k { s.stall k with pending := some m } := by
  rw [State.takeMark]
  exact (if_neg differs).trans ((if_neg first).trans (State.putStall_restall low rfl rfl))

/-- The second of two agreeing marks changes the sensed value. -/
theorem State.takeMark_occupied {s : State} {k : Nat} (low : k < 640) (differs : (s.stall k).sensed ≠ .occupied)
    (second : (s.stall k).pending = some .occupied) :
    s.takeMark k .occupied = (s.restall k { s.stall k with sensed := .occupied, pending := none }).sensedOccupied k := by
  rw [State.takeMark]
  refine (if_neg differs).trans ((if_pos second).trans ?_)
  exact congrArg (fun u : State => u.sensedOccupied k) (State.putStall_restall low rfl rfl)

theorem State.takeMark_empty {s : State} {k : Nat} (low : k < 640) (differs : (s.stall k).sensed ≠ .empty)
    (second : (s.stall k).pending = some .empty) :
    s.takeMark k .empty = (s.restall k { s.stall k with sensed := .empty, pending := none }).sensedEmpty k := by
  rw [State.takeMark]
  refine (if_neg differs).trans ((if_pos second).trans ?_)
  exact congrArg (fun u : State => u.sensedEmpty k) (State.putStall_restall low rfl rfl)

section
variable {s : State} {k : Nat} {x : Stall} (low : k < 640)
include low

/-- A change to OCCUPIED, by the state of the stall. -/
theorem State.sensedOccupied_blocks (free : x.state = .free) :
    (s.restall k x).sensedOccupied k = (s.restall k x).block k := by
  simp only [State.sensedOccupied, s.stall_restall low, free]

theorem State.sensedOccupied_held (held : x.state = .held) :
    (s.restall k x).sensedOccupied k = s.restall k { x with confirmed := true } := by
  simp only [State.sensedOccupied, s.stall_restall low, held]
  exact State.restall_putStall low held.symm rfl

theorem State.sensedOccupied_occupied (occupied : x.state = .occupied) :
    (s.restall k x).sensedOccupied k = s.restall k { x with confirmed := true, confirmBy := none } := by
  simp only [State.sensedOccupied, s.stall_restall low, occupied]
  exact State.restall_putStall low occupied.symm rfl

theorem State.sensedOccupied_rests (state : x.state = .undefined ∨ x.state = .blocked ∨ x.state = .out) :
    (s.restall k x).sensedOccupied k = s.restall k x := by
  rcases state with state | state | state <;> simp only [State.sensedOccupied, s.stall_restall low, state]

/-- A change to EMPTY, by the state of the stall. -/
theorem State.sensedEmpty_rests (state : x.state = .undefined ∨ x.state = .free ∨ x.state = .out) :
    (s.restall k x).sensedEmpty k = s.restall k x := by
  rcases state with state | state | state <;> simp only [State.sensedEmpty, s.stall_restall low, state]

theorem State.sensedEmpty_held (held : x.state = .held) :
    (s.restall k x).sensedEmpty k = s.restall k { x with confirmed := false } := by
  simp only [State.sensedEmpty, s.stall_restall low, held]
  exact State.restall_putStall low held.symm rfl

theorem State.sensedEmpty_blocked (blocked : x.state = .blocked) (none : s.NoneWaits) :
    (s.restall k x).sensedEmpty k = (s.restall k x).putStall k { x with state := .free } := by
  simp only [State.sensedEmpty, s.stall_restall low, blocked]
  exact State.NoneWaits.stored (s := s.restall k x) none _ _ _

theorem State.sensedEmpty_occupied {c : Ticket} (occupied : x.state = .occupied) (own : x.ticket = some c.number)
    (found : s.ticket c.number = some c) : (s.restall k x).sensedEmpty k = (s.restall k x).emptyUnder k c := by
  simp only [State.sensedEmpty, s.stall_restall low, occupied, own, Option.bind_some]
  rw [show (s.restall k x).ticket c.number = some c from found]

theorem State.emptyUnder_mismatch {c : Ticket} (state : c.state = .parked ∨ c.state = .scheduled ∨ c.state = .called) :
    (s.restall k x).emptyUnder k c = (s.restall k { x with confirmed := false }).raise .stallMismatch k := by
  have put := State.restall_putStall (s := s) (x := x) (r := { x with confirmed := false }) low rfl rfl
  rcases state with state | state | state <;> simp only [State.emptyUnder, state, s.stall_restall low, put]

end

/-- What a departure leaves of the stall, the ticket and the rest, whether or not the stall is in the map. -/
theorem State.depart_leaves {s : State} {k : Nat} {c : Ticket} (low : k < 640) (occupied : s.occupiedBy k c.number = true)
    (found : s.ticket c.number = some c) :
    (s.depart k c.number).stall k =
        { s.stall k with state := .free, ticket := none, confirmed := false, confirmBy := none } ∧
      (∀ j, j ≠ k → (s.depart k c.number).stall j = s.stall j) ∧ (s.depart k c.number).events = s.events ∧
      (s.depart k c.number).ticket c.number = some { c with stall := none, lift := (s.stall k).site.map (·.lift) } ∧
      (∀ m, m ≠ c.number → (s.depart k c.number).ticket m = s.ticket m) ∧
      (s.NoneWaits → (s.depart k c.number).NoneWaits) := by
  have taken : (s.stall k).freeClass = none :=
    Stall.freeClass_of_taken (by simp [((s.occupiedBy_iff _ _).mp occupied).1])
  have tickets := (s.freeOccupied_frame k false).2.2.1
  have unplaced := (s.freeOccupied_frame k false).2.1
  rw [State.depart, if_pos occupied]
  dsimp only
  refine ⟨?_, fun j other => ?_, State.putStall_events low taken, ?_, fun m other => ?_, fun none => ⟨unplaced.trans none.1, ?_⟩⟩
  · refine (State.stall_putStall_same _ _ _ low).trans ?_
    rw [Bool.or_false]
  · exact State.stall_putStall_ne _ _ _ _ other.symm
  · exact State.ticket_edit_same ((State.ticket_congr tickets _).trans found) _
  · exact (State.ticket_edit_ne _ other _).trans (State.ticket_congr tickets m)
  · intro d mem
    obtain ⟨y, old, rfl⟩ := List.mem_map.mp mem
    have quiet := none.2 y (tickets ▸ old)
    split <;> exact quiet

theorem State.emptyUnder_departs {s : State} {k : Nat} {x : Stall} {c : Ticket} (low : k < 640) (none : s.NoneWaits)
    (occupied : x.state = .occupied) (own : x.ticket = some c.number) (found : s.ticket c.number = some c)
    (state : c.state = .fetching ∨ c.state = .restaging ∧ c.stall = some k) :
    (s.restall k x).emptyUnder k c = (s.restall k x).depart k c.number := by
  have by' : (s.restall k x).occupiedBy k c.number = true := by
    rw [State.occupiedBy_iff, s.stall_restall low]
    exact ⟨occupied, own⟩
  have waits := (State.depart_leaves low by' found).2.2.2.2.2 none
  rcases state with state | ⟨state, bound⟩
  · simp only [State.emptyUnder, state, by', if_true, waits.handOn]
  · simp only [State.emptyUnder, state, bound, by', and_self, if_true, waits.handOn]

/-! ### The recheck (R14) -/

theorem State.recheckStall_blocks {s : State} {k : Nat} {x : Stall} (low : k < 640) (state : x.state = .free)
    (seen : x.sensed = .occupied) :
    (s.restall k x).recheckStall k = (s.restall k { x with recheck := false }).block k := by
  rw [State.recheckStall, s.stall_restall low]
  exact (if_pos ⟨state, seen⟩).trans (congrArg (fun u : State => u.block k) (State.restall_putStall low rfl rfl))

theorem State.recheckStall_clears {s : State} {k : Nat} {x : Stall} (low : k < 640)
    (rests : x.state ≠ .free ∨ x.sensed ≠ .occupied) :
    (s.restall k x).recheckStall k = s.restall k { x with recheck := false } := by
  rw [State.recheckStall, s.stall_restall low]
  refine (if_neg (by tauto)).trans (State.restall_putStall low rfl rfl)

/-- A stall already judged, and no longer FREE, stays as it is. -/
theorem State.recheckStall_judged {s : State} {k : Nat} (low : k < 640) (state : (s.stall k).state ≠ .free)
    (off : (s.stall k).recheck = false) : s.recheckStall k = s := by
  rw [State.recheckStall]
  have same : { s.stall k with recheck := false } = s.stall k := by rw [← off]
  refine (if_neg (by tauto)).trans ((State.putStall_restall (r := { s.stall k with recheck := false }) low rfl rfl).trans ?_)
  rw [same, s.restall_self]

theorem State.takeStallMark_once {s : State} {k : Nat} (m : Mark) (off : (s.stall k).recheck = false) :
    s.takeStallMark k m = s.takeMark k m := by
  simp only [State.takeStallMark, off, Bool.false_eq_true, if_false]

theorem State.takeStallMark_due {s : State} {k : Nat} (m : Mark) (due : (s.stall k).recheck = true) :
    s.takeStallMark k m = (s.takeMark k m).recheckStall k := by
  simp only [State.takeStallMark, due, if_true]

/-! ### A report (R10) -/

/-- The stalls of a report are those of its first mark and of the report of the others. -/
theorem coveredStalls_cons (k first last : Nat) (m : Mark) (ms : List Mark) :
    coveredStalls ⟨k, m :: ms⟩ first last = coveredStalls ⟨k, [m]⟩ first last ++ coveredStalls ⟨k + 1, ms⟩ first last := by
  simp only [coveredStalls]
  rw [← List.filter_append]
  congr 1
  simp only [List.zipIdx_cons, List.zipIdx_nil, List.map_cons, List.map_nil, List.singleton_append, Nat.zero_add,
    Nat.add_zero, List.zipIdx_succ, List.map_map]
  congr 1
  refine List.map_congr_left fun x _ => ?_
  simp only [Function.comp]
  congr 1
  omega

theorem State.takeReport_taken {s : State} {a first last : Nat} {r : ZoneReport} (hub : s.classOf a = .sensorHub)
    (few : r.marks.length ≤ 32) (served : (s.station a).served = some (.stalls first last)) :
    s.takeReport a r = forEach (coveredStalls r first last) (fun km s => s.takeStallMark km.1 km.2) s := by
  rw [State.takeReport, if_pos ⟨hub, few⟩, served]

theorem State.takeReport_ignored {s : State} {a : Nat} {r : ZoneReport} (out : s.classOf a ≠ .sensorHub ∨ 32 < r.marks.length ∨
    ∀ first last, (s.station a).served = some (.stalls first last) → last < r.first ∨ r.first + r.marks.length ≤ first) :
    s.takeReport a r = s := by
  by_cases fits : s.classOf a = .sensorHub ∧ r.marks.length ≤ Config.maxMarks
  · have far := (out.resolve_left fun other => other fits.1).resolve_left (Nat.not_lt.mpr fits.2)
    rw [State.takeReport, if_pos fits]
    split
    next first last served =>
      have none : coveredStalls r first last = [] := by
        refine List.filter_eq_nil_iff.mpr fun km mem inside => ?_
        obtain ⟨⟨m, i⟩, old, rfl⟩ := List.mem_map.mp mem
        have short := (List.mem_zipIdx old).2.1
        simp only [Bool.and_eq_true, decide_eq_true_eq] at inside
        rcases far first last served with far | far <;> omega
      rw [none]
      rfl
    · rfl
  · exact if_neg fits

/-- What a heard report leaves of its sender: after its window is opened again, the sender is heard in the same state. -/
theorem State.Hears.reopened {s t : State} {f : From} (hears : s.Hears f) (rest : (s.heard f).KeepsRest t)
    (hand : (s.heard f).HandedFrom t) :
    (t.setPort f.port { t.port f.port with phase := .window f.source }).Hears f ∧
      (t.setPort f.port { t.port f.port with phase := .window f.source }).heard f = t := by
  have phase : (t.port f.port).phase = .opportunity := by
    rw [rest.port]
    exact congrArg (·.phase) (State.port_setPort_same _ _ _)
  have reopened := State.port_setPort_same t f.port { t.port f.port with phase := .window f.source }
  have station := t.station_setPort f.port { t.port f.port with phase := .window f.source } f.source
  have present : (t.station f.source).presence = .present := by
    rw [hand.presence, hears.station_heard]
    exact hears.2.2
  have silent : (t.station f.source).silent = 0 := by rw [hand.silent, hears.station_heard]
  refine ⟨⟨?_, congrArg (·.phase) reopened, by rw [station]; exact present⟩, ?_⟩
  · have on : t.power.main = true := by
      rw [rest.power, s.heard_eq f]
      exact hears.1
    cases f.port <;> exact on
  · rw [State.heard, station, reopened, State.setPort_setPort, ← phase, ← silent]
    rw [show ({ t.port f.port with phase := (t.port f.port).phase } : PortState) = t.port f.port from rfl, t.setPort_self]
    exact t.setStation_self f.source

/-- Settles O43: one mark by the record of its stall, and several marks one after the other. -/
theorem sensorsChangeAStallOnAgreement : Obligations.SensorsChangeAStallOnAgreement := by
  refine ⟨fun s f k first last m hears hub served above below low => ?_, fun s f r hears out => ?_,
    fun s f k first last m ms hears hub served few => ?_⟩
  · intro r value stored
    have exec' : exec (.zoneOccupancy f ⟨k, [m]⟩) s = .next ((s.heard f).takeStallMark k m) := by
      refine (State.exec_onFrame_heard hears _).trans (next_congr ?_)
      rw [State.takeReport_taken (hears.classOf_heard.trans hub) (by simp) (by rw [hears.station_heard]; exact served)]
      simp [coveredStalls, forEach, above, below, low, Config.stallCount]
    have named : value = sensedOf m := by cases m <;> rfl
    have put (x : Stall) : stored x = (s.heard f).restall k x := by
      simp only [stored, State.restall, s.heard_stalls]
    have same : (s.heard f).stall k = r := s.stall_heard f k
    have others (j : Nat) : (s.heard f).stall j = s.stall j := s.stall_heard f j
    have seen (differs : r.sensed ≠ .occupied) (second : r.pending = some .occupied) : (s.heard f).takeMark k .occupied =
        ((s.heard f).restall k { r with sensed := .occupied, pending := none }).sensedOccupied k := by
      rw [State.takeMark_occupied low (by rwa [same]) (by rwa [same]), same]
    have gone (differs : r.sensed ≠ .empty) (second : r.pending = some .empty) : (s.heard f).takeMark k .empty =
        ((s.heard f).restall k { r with sensed := .empty, pending := none }).sensedEmpty k := by
      rw [State.takeMark_empty low (by rwa [same]) (by rwa [same]), same]
    have agrees (agree : r.sensed = sensedOf m) : (s.heard f).takeMark k m = (s.heard f).restall k { r with pending := none } := by
      rw [State.takeMark_agrees low (by rwa [same]), same]
    have pends (differs : r.sensed ≠ sensedOf m) (first : r.pending ≠ some m) :
        (s.heard f).takeMark k m = (s.heard f).restall k { r with pending := some m } := by
      rw [State.takeMark_pends low (by rwa [same]) (by rwa [same]), same]
    have once (off : r.recheck = false) := State.takeStallMark_once (s := s.heard f) (k := k) m (by rwa [same])
    have due (on : r.recheck = true) := State.takeStallMark_due (s := s.heard f) (k := k) m (by rwa [same])
    have phantom {t : State} {y : Stall} (h : (s.heard f).Phantom t k y) : s.KeepsSetup t ∧ t.stall k = y ∧
        ⟨.phantomCar, k⟩ ∈ t.events.waiting ∧ t.tickets = s.tickets ∧ ∀ j, j ≠ k → t.stall j = s.stall j :=
      ⟨h.rest.heardSetup, h.stall, h.raised, h.tickets.trans (s.heard_tickets f),
        fun j other => (h.others j other).trans (others j)⟩
    rw [exec', named]
    simp only [put]
    refine ⟨fun off agree => next_congr ((once off).trans (agrees agree)),
      fun off differs first => next_congr ((once off).trans (pends differs first)),
      fun differs second occupied free => ?_, fun off differs second occupied => ?_, fun off differs second empty => ?_,
      fun on agree => ?_, fun on differs first free seen => ?_, fun on differs first rests => ?_⟩
    · subst occupied
      have blocks := State.block_phantom (s.heard f) low { r with sensed := .occupied, pending := none }
      have marked := (seen differs second).trans (State.sensedOccupied_blocks low free)
      have judged : (s.heard f).takeStallMark k .occupied =
          ((s.heard f).restall k { r with sensed := .occupied, pending := none }).block k := by
        rcases Bool.eq_false_or_eq_true r.recheck with on | off
        · rw [due on, marked]
          exact State.recheckStall_judged low (by rw [blocks.stall]; nofun) (by rw [blocks.stall])
        · exact (once off).trans marked
      obtain ⟨setup, stall, raised, tickets, rest⟩ := phantom blocks
      exact ⟨_, next_congr judged, setup, stall, raised, tickets, blocks.dispatch.trans (s.heard_dispatch f),
        blocks.keys.trans (s.heard_keys f), blocks.arbiter.trans (s.heard_arbiter f), blocks.calls.trans (s.heard_calls f), rest⟩
    · subst occupied
      rw [once off, seen differs second]
      exact ⟨fun held => next_congr (State.sensedOccupied_held low held),
        fun occupied => next_congr (State.sensedOccupied_occupied low occupied),
        fun state => next_congr (State.sensedOccupied_rests low state)⟩
    · subst empty
      rw [once off, gone differs second]
      have none (empty : s.unplaced = []) (unwanted : ∀ d ∈ s.tickets, d.restageWanted = false) : (s.heard f).NoneWaits :=
        ⟨by rwa [s.heard_unplaced], by rwa [s.heard_tickets]⟩
      refine ⟨fun state => next_congr (State.sensedEmpty_rests low state),
        fun held => next_congr (State.sensedEmpty_held low held), fun blocked empty unwanted => ?_,
        fun c occupied own found => ⟨fun state => ?_, fun state empty unwanted => ?_⟩⟩
      · have step := State.sensedEmpty_blocked (s := s.heard f) low
          (x := { r with sensed := .empty, pending := Option.none }) blocked (none empty unwanted)
        have taken : (((s.heard f).restall k { r with sensed := .empty, pending := Option.none }).stall k).freeClass =
            Option.none := by
          rw [State.stall_restall _ low]
          exact Stall.freeClass_of_taken (by simp [blocked])
        refine ⟨_, next_congr step, ?_, State.stall_putStall_same _ _ _ low, fun site loaded => ?_, ?_, ?_, fun j other => ?_⟩
        · exact (((s.heard f).keepsRest_restall k _).trans (State.keepsRest_putStall _ k _)).heardSetup
        · refine (State.putStall_rises low taken (Stall.freeClass_of_free
            (r := { r with state := .free, sensed := .empty, pending := Option.none }) rfl loaded)).1.trans ?_
          show (s.heard f).stalls.free.set _ ((s.heard f).stalls.free.get _ + 1) = _
          rw [s.heard_stalls]
        · exact (State.putStall_frame _ _ _).2.2.1.trans (s.heard_tickets f)
        · exact (State.putStall_events low taken).trans (s.heard_events f)
        · exact (State.stall_putStall_ne _ _ _ _ other.symm).trans ((State.stall_restall_ne _ other _).trans (others j))
      all_goals
        have found' : (s.heard f).ticket c.number = some c := by rwa [s.ticket_heard]
        have step := State.sensedEmpty_occupied (s := s.heard f) low
          (x := { r with sensed := .empty, pending := Option.none }) occupied own found'
      · exact next_congr (step.trans (State.emptyUnder_mismatch low state))
      · have departs := step.trans (State.emptyUnder_departs low (none empty unwanted) occupied own found' state)
        obtain ⟨stall, rests, events, ticket, tickets, -⟩ := State.depart_leaves (k := k) low
          (s := (s.heard f).restall k { r with sensed := .empty, pending := Option.none }) (c := c)
          ((State.occupiedBy_iff _ _ _).mpr (by rw [State.stall_restall _ low]; exact ⟨occupied, own⟩)) found'
        have rest := ((s.heard f).keepsRest_restall k { r with sensed := .empty, pending := Option.none }).trans
          ((keepsRest_workKeeps _).depart k c.number (State.KeepsRest.refl _))
        obtain ⟨-, unplaced, issue, keys, dispatch, arbiter, -⟩ :=
          ((s.heard f).restall k { r with sensed := .empty, pending := Option.none }).depart_frame k c.number
        rw [State.stall_restall _ low] at stall ticket
        exact ⟨_, next_congr departs, rest.heardSetup, stall, ticket, events.trans (s.heard_events f),
          dispatch.trans (s.heard_dispatch f), arbiter.trans (s.heard_arbiter f), keys.trans (s.heard_keys f),
          ⟨fun n other => (tickets n other).trans (s.ticket_heard f n), unplaced.trans (s.heard_unplaced f),
            issue.trans (s.heard_issue f)⟩,
          fun j other => (rests j other).trans ((State.stall_restall_ne _ other _).trans (others j))⟩
    · rw [due on, agrees agree]
      refine ⟨fun free occupied => ⟨_, next_congr (State.recheckStall_blocks low free ?_),
        phantom (State.block_phantom _ low _)⟩, fun rests => next_congr (State.recheckStall_clears low ?_)⟩
      · subst occupied
        exact agree
      · refine rests.imp_right fun empty => ?_
        subst empty
        rw [agree]
        nofun
    · rw [due on, pends differs first]
      exact ⟨_, next_congr (State.recheckStall_blocks low free seen), phantom (State.block_phantom _ low _)⟩
    · rw [due on, pends differs first]
      exact next_congr (State.recheckStall_clears low rests)
  · refine (State.exec_onFrame_heard hears _).trans (next_congr (State.takeReport_ignored ?_))
    rwa [hears.classOf_heard, hears.station_heard]
  · have taken (r : ZoneReport) (few : r.marks.length ≤ 32) : (s.heard f).takeReport f.source r = _ :=
      State.takeReport_taken (hears.classOf_heard.trans hub) few (by rw [hears.station_heard]; exact served)
    refine ⟨(State.exec_onFrame_heard hears _).trans (next_congr (taken _ (by simp))), _,
      (State.exec_onFrame_heard hears _).trans (next_congr rfl), ?_⟩
    have rest := (keepsRest_workKeeps (s.heard f)).takeReport f.source ⟨k, [m]⟩ (State.KeepsRest.refl _)
    have hand := (handedFrom_handKeeps (s.heard f)).takeReport f.source ⟨k, [m]⟩ (State.HandedFrom.refl _)
    have one := taken ⟨k, [m]⟩ (by simp)
    generalize (s.heard f).takeReport f.source ⟨k, [m]⟩ = t at rest hand one
    obtain ⟨again, same⟩ := hears.reopened rest hand
    have cls : t.classOf f.source = .sensorHub :=
      (State.classOf_congr (State.hasManager_congr fun a _ _ => hand.permissions a) rest.strap (hand.cls _)).trans
        (hears.classOf_heard.trans hub)
    refine (State.exec_onFrame_heard hears _).trans (Eq.trans (next_congr ?_) (State.exec_onFrame_heard again _).symm)
    rw [same, taken _ (by simp; omega), coveredStalls_cons, State.takeReport_taken cls (by simp; omega)
      ((hand.served _).trans (by rw [hears.station_heard]; exact served)), one]
    exact List.foldl_append ..

end Sys2Proof.Machine
end

section
/-! PROOF of O44: the cabinet scan and what its samples make of a key. -/

namespace Sys2Proof.Machine

open Sys2Proof

/-! ### The scanner (R74, R75) -/

/-- The hooks of a panel, by their positions. -/
theorem hooksOf_eq (p : Nat) : hooksOf p = (List.range 64).map (64 * (p - 1) + ·) := by
  simp only [hooksOf, Config.hooksPerPanel, Nat.mul_comm]

theorem State.unlockBits_length (s : State) (p : Nat) : (s.unlockBits p).length = 64 := by simp [State.unlockBits, hooksOf_eq]

/-- The unlock bits are 1 exactly at the RELEASED hooks. -/
theorem State.unlockBits_get (s : State) (p : Nat) {i : Nat} (low : i < 64) :
    (s.unlockBits p)[i]? = some (decide ((s.hook (64 * (p - 1) + i)).custody = .released)) := by
  simp [State.unlockBits, hooksOf_eq, low, beq_eq_decide]

/-- The configured panels, ascending. -/
theorem configured_panels {n : Nat} (high : n ≤ 9) : (oneTo Config.panelCount).filter (fun p => 1 ≤ p && p ≤ n) = oneTo n := by
  interval_cases n <;> rfl

/-- Selecting the next panel writes the scan record alone. -/
theorem State.selectNext_fields (s : State) : s.selectNext = { s with keys.scan := s.selectNext.keys.scan } := by
  unfold State.selectNext
  split <;> rfl

theorem State.selectNext_scan (s : State) : s.selectNext.keys.scan.interval = s.keys.scan.interval ∧
    s.selectNext.keys.scan.out = s.keys.scan.out ∧ s.selectNext.keys.scan.selected = s.keys.scan.remaining.head? ∧
    s.selectNext.keys.scan.remaining = s.keys.scan.remaining.tail ∧
    ∀ q, s.keys.scan.remaining.head? = some q → s.selectNext.keys.scan.unlock = s.unlockBits q := by
  unfold State.selectNext
  split
  next done => simp [done]
  next p rest remains => simp [remains]

/-! ### A discarded sample (R77, R79) -/

/-- The third discarded sample in a row makes the panel FAULTED. -/
theorem Panel.discardedSample_faulted (r : Panel) : r.discardedSample.state = .faulted ↔ 2 ≤ r.bad := by
  simp only [Panel.discardedSample]
  split
  · simp only [true_iff]
    omega
  · simp only [reduceCtorEq, false_iff]
    omega

theorem State.discardSample_result {s : State} {p : Nat} (low : 1 ≤ p) (high : p ≤ 9) :
    (s.discardSample p).panel p = (s.panel p).discardedSample ∧ (s.discardSample p).keys.hooks = s.keys.hooks ∧
      (s.discardSample p).tickets = s.tickets ∧ s.KeepsSetup (s.discardSample p) ∧
      (s.discardSample p).events.waiting = s.events.waiting ++
        (if 2 ≤ (s.panel p).bad ∧ (s.panel p).state ≠ .faulted then [⟨.panelFault, p⟩] else []) := by
  have faults : (s.panel p).discardedSample.state = .faulted ∧ (s.panel p).state ≠ .faulted ↔
      2 ≤ (s.panel p).bad ∧ (s.panel p).state ≠ .faulted := and_congr_left fun _ => Panel.discardedSample_faulted _
  have panel := nth1_setNth1_same s.keys.panels p (s.panel p).discardedSample Panel.cold low high
  unfold State.discardSample
  dsimp only
  by_cases third : 2 ≤ (s.panel p).bad ∧ (s.panel p).state ≠ .faulted
  · rw [if_pos (faults.mpr third), if_pos third]
    exact ⟨panel, rfl, rfl, ⟨rfl, rfl, rfl, rfl, rfl, rfl, rfl, rfl, rfl, rfl, rfl, rfl, rfl, rfl⟩, rfl⟩
  · rw [if_neg fun f => third (faults.mp f), if_neg third]
    exact ⟨panel, rfl, rfl, ⟨rfl, rfl, rfl, rfl, rfl, rfl, rfl, rfl, rfl, rfl, rfl, rfl, rfl, rfl⟩, (List.append_nil _).symm⟩

/-! ### One hook bit of a good sample (R67, R68, R78) -/

theorem State.setHook_setHook (s : State) (h : Nat) (x y : Hook) : (s.setHook h x).setHook h y = s.setHook h y := by
  simp [State.setHook, setNth, Vector.setIfInBounds_setIfInBounds]

theorem State.setHook_self (s : State) (h : Nat) : s.setHook h (s.hook h) = s := by
  have same : setNth s.keys.hooks h (s.hook h) = s.keys.hooks := by
    by_cases inside : h < Config.hookCount
    · ext j hj
      simp only [setNth, State.hook, nth, Vector.getElem_setIfInBounds, Vector.getElem?_eq_getElem inside, Option.getD_some]
      split
      next same => simp only [same]
      · rfl
    · exact setNth_outside _ _ _ (by omega)
  rw [State.setHook, same]

/-- The hook record with a presence newly accepted. -/
def Hook.accepts (r : Hook) (a : Presence) : Hook := { r with accepted := a, pending := none }

section
variable {s : State} {h : Nat} {bit : Bool}

theorem State.takeHookBit_agrees (same : (s.hook h).accepted = presenceOf bit) :
    s.takeHookBit h bit = s.setHook h { s.hook h with pending := none } := if_pos same

theorem State.takeHookBit_pends (differs : (s.hook h).accepted ≠ presenceOf bit) (first : (s.hook h).pending ≠ some bit) :
    s.takeHookBit h bit = s.setHook h { s.hook h with pending := some bit } := (if_neg differs).trans (if_neg first)

theorem State.takeHookBit_present (differs : (s.hook h).accepted ≠ .present) (second : (s.hook h).pending = some true) :
    s.takeHookBit h true = (s.setHook h ((s.hook h).accepts .present)).keyPresent h :=
  (if_neg differs).trans (if_pos second)

theorem State.takeHookBit_absent (differs : (s.hook h).accepted ≠ .absent) (second : (s.hook h).pending = some false) :
    s.takeHookBit h false = (s.setHook h ((s.hook h).accepts .absent)).keyAbsent h :=
  (if_neg differs).trans (if_pos second)

end

/-- Of the hooks only the one of the bit changes. -/
theorem State.handHook_hook_ne (s : State) {h i : Nat} (other : i ≠ h) : (s.handHook h).hook i = s.hook i := by
  rcases s.handHook_bound h with same | ⟨x, -, -, bound⟩
  · rw [same]
  · rw [bound]
    exact State.hook_setHook_ne s h i _ other.symm

theorem State.setAlert_hook (s : State) (h : Nat) (on : Bool) (i : Nat) : (s.setAlert h on).hook i = s.hook i :=
  congrArg (fun k : Keys => nth k.hooks i Hook.cold) (s.setAlert_frame h on).2.2.2.2.1

theorem State.keyPresent_hook_ne (s : State) {h i : Nat} (other : i ≠ h) : (s.keyPresent h).hook i = s.hook i := by
  have written (r : Hook) : (s.setHook h r).hook i = s.hook i := State.hook_setHook_ne _ _ _ _ other.symm
  unfold State.keyPresent
  dsimp only
  split
  case h_4 => exact (State.setAlert_hook _ _ _ _).trans (written _)
  case h_1 | h_2 | h_3 => exact written _
  all_goals rfl

theorem State.keyAbsent_hook_ne (s : State) {h i : Nat} (other : i ≠ h) : (s.keyAbsent h).hook i = s.hook i := by
  have written (r : Hook) : (s.setHook h r).hook i = s.hook i := State.hook_setHook_ne _ _ _ _ other.symm
  unfold State.keyAbsent
  dsimp only
  split
  case h_1 => exact (State.setAlert_hook _ _ _ _).trans (written _)
  case h_2 => exact written _
  case h_3 => exact (State.handHook_hook_ne _ other).trans (written _)
  all_goals rfl

theorem State.takeHookBit_hook_ne (s : State) {h i : Nat} (bit : Bool) (other : i ≠ h) :
    (s.takeHookBit h bit).hook i = s.hook i := by
  have written (r : Hook) : (s.setHook h r).hook i = s.hook i := State.hook_setHook_ne _ _ _ _ other.symm
  unfold State.takeHookBit
  dsimp only
  split
  · exact written _
  · split
    · split
      exacts [(State.keyPresent_hook_ne _ other).trans (written _), (State.keyAbsent_hook_ne _ other).trans (written _)]
    · exact written _

section
variable {s : State} {h : Nat} {a : Presence} (low : h < 576)
include low

/-- An accepted PRESENT, by the custody of the hook. -/
theorem State.keyPresent_vacant (custody : (s.hook h).custody = .vacant) :
    (s.setHook h ((s.hook h).accepts a)).keyPresent h = (s.setHook h { (s.hook h).accepts a with custody := .found }).raise .keyFound h := by
  simp only [State.keyPresent, State.hook_setHook_same s h _ low, Hook.accepts, custody, State.setHook_setHook]

theorem State.keyPresent_expecting (custody : (s.hook h).custody = .expecting) :
    (s.setHook h ((s.hook h).accepts a)).keyPresent h = s.setHook h { (s.hook h).accepts a with custody := .cabinet } := by
  simp only [State.keyPresent, State.hook_setHook_same s h _ low, Hook.accepts, custody, State.setHook_setHook]

theorem State.keyPresent_out (custody : (s.hook h).custody = .out) :
    (s.setHook h ((s.hook h).accepts a)).keyPresent h = s.setHook h { (s.hook h).accepts a with custody := .cabinet, runner := none } := by
  simp only [State.keyPresent, State.hook_setHook_same s h _ low, Hook.accepts, custody, State.setHook_setHook]

theorem State.keyPresent_missing (custody : (s.hook h).custody = .missing) :
    (s.setHook h ((s.hook h).accepts a)).keyPresent h = (s.setHook h { (s.hook h).accepts a with custody := .cabinet }).setAlert h false := by
  simp only [State.keyPresent, State.hook_setHook_same s h _ low, Hook.accepts, custody, State.setHook_setHook]

theorem State.keyPresent_rests (custody : (s.hook h).custody = .cabinet ∨ (s.hook h).custody = .released ∨ (s.hook h).custody = .found) :
    (s.setHook h ((s.hook h).accepts a)).keyPresent h = s.setHook h ((s.hook h).accepts a) := by
  rcases custody with custody | custody | custody <;>
    simp only [State.keyPresent, State.hook_setHook_same s h _ low, Hook.accepts, custody]

/-- An accepted ABSENT, by the custody of the hook. -/
theorem State.keyAbsent_cabinet (custody : (s.hook h).custody = .cabinet) :
    (s.setHook h ((s.hook h).accepts a)).keyAbsent h = ((s.setHook h { (s.hook h).accepts a with custody := .missing }).setAlert h true).raise .keyMissing h := by
  simp only [State.keyAbsent, State.hook_setHook_same s h _ low, Hook.accepts, custody, State.setHook_setHook]

theorem State.keyAbsent_released (custody : (s.hook h).custody = .released) :
    (s.setHook h ((s.hook h).accepts a)).keyAbsent h = s.setHook h { (s.hook h).accepts a with custody := .out, releaseBy := none } := by
  simp only [State.keyAbsent, State.hook_setHook_same s h _ low, Hook.accepts, custody, State.setHook_setHook]

theorem State.keyAbsent_found (custody : (s.hook h).custody = .found) :
    (s.setHook h ((s.hook h).accepts a)).keyAbsent h = (s.setHook h { (s.hook h).accepts a with custody := .vacant }).handHook h := by
  simp only [State.keyAbsent, State.hook_setHook_same s h _ low, Hook.accepts, custody, State.setHook_setHook]

theorem State.keyAbsent_rests
    (custody : (s.hook h).custody = .vacant ∨ (s.hook h).custody = .expecting ∨ (s.hook h).custody = .out ∨ (s.hook h).custody = .missing) :
    (s.setHook h ((s.hook h).accepts a)).keyAbsent h = s.setHook h ((s.hook h).accepts a) := by
  rcases custody with custody | custody | custody | custody <;>
    simp only [State.keyAbsent, State.hook_setHook_same s h _ low, Hook.accepts, custody]

end

/-- The key alert of the ticket that the hook names. -/
theorem State.setAlert_named {s : State} {h : Nat} {x : Hook} {c : Ticket} (low : h < 576) (own : x.ticket = some c.number) (found : s.ticket c.number = some c) (on : Bool) :
    ((s.setHook h x).setAlert h on).ticket c.number = some { c with keyAlert := on } ∧
      ∀ m, m ≠ c.number → ((s.setHook h x).setAlert h on).ticket m = s.ticket m := by
  have edited : (s.setHook h x).setAlert h on = (s.setHook h x).modifyTicket c.number fun t => { t with keyAlert := on } := by
    simp only [State.setAlert, State.hook_setHook_same s h x low, own]
  rw [edited]
  exact ⟨State.ticket_edit_same (s := s.setHook h x) found _, fun m other => State.ticket_edit_ne (s.setHook h x) other _⟩

/-! ### A good sample (R78, R79) -/

/-- The bits that agree with what is accepted, with nothing pending, change nothing. -/
theorem State.takeHookBits_quiet (bit : Nat → Bool) (hs : List Nat) {s : State}
    (quiet : ∀ i ∈ hs, (s.hook i).pending = none ∧ (s.hook i).accepted = presenceOf (bit i)) :
    forEach hs (fun h s => s.takeHookBit h (bit h)) s = s := by
  induction hs with
  | nil => rfl
  | cons i hs ih =>
    obtain ⟨none, agrees⟩ := quiet i List.mem_cons_self
    have still : s.takeHookBit i (bit i) = s := by
      rw [State.takeHookBit_agrees agrees, ← none]
      exact s.setHook_self i
    rw [forEach_cons, still]
    exact ih fun j mem => quiet j (List.mem_cons_of_mem _ mem)

/-- The panel record a good sample leaves. -/
def Panel.sampled (r : Panel) (x : PanelExchange) : Panel := { r.goodSample with door := doorOf (x.bits.getD 64 false) }

/-- A good sample in which every bit but one agrees is that one bit taken. -/
theorem State.acceptSample_one {s : State} {x : PanelExchange} {p j : Nat} (working : (s.panel p).state ≠ .faulted)
    (inside : j < 64) (quiet : ∀ i, i < 64 → i ≠ j → (s.hook (64 * (p - 1) + i)).pending = none ∧
      (s.hook (64 * (p - 1) + i)).accepted = presenceOf (x.bits.getD (63 - i) false)) :
    s.acceptSample p x = (s.setPanel p ((s.panel p).sampled x)).takeHookBit (64 * (p - 1) + j) (x.bits.getD (63 - j) false) := by
  let bit (h : Nat) : Bool := x.bits.getD (Config.hooksPerPanel - 1 - h % Config.hooksPerPanel) false
  have at' (i : Nat) (low : i < 64) : bit (64 * (p - 1) + i) = x.bits.getD (63 - i) false := by
    simp only [bit, Config.hooksPerPanel, Nat.mul_add_mod, Nat.mod_eq_of_lt low]
  obtain ⟨before, after, split⟩ := List.append_of_mem (List.mem_range.mpr inside)
  have distinct := List.nodup_range (n := 64)
  rw [split] at distinct
  have apart (i : Nat) (mem : i ∈ before ∨ i ∈ after) : i < 64 ∧ i ≠ j := by
    refine ⟨List.mem_range.mp (split ▸ by rcases mem with mem | mem <;> simp [mem]), ?_⟩
    rintro rfl
    rcases mem with mem | mem
    · exact (List.nodup_append.mp distinct).2.2 i mem i List.mem_cons_self rfl
    · exact (List.nodup_cons.mp (List.nodup_append.mp distinct).2.1).1 mem
  have first := State.takeHookBits_quiet bit (before.map (64 * (p - 1) + ·)) (s := s.setPanel p ((s.panel p).sampled x))
    fun h named => by
      obtain ⟨i, mem, rfl⟩ := List.mem_map.mp named
      obtain ⟨low, other⟩ := apart i (.inl mem)
      rw [at' i low]
      exact quiet i low other
  have last := State.takeHookBits_quiet bit (after.map (64 * (p - 1) + ·))
    (s := (s.setPanel p ((s.panel p).sampled x)).takeHookBit (64 * (p - 1) + j) (bit (64 * (p - 1) + j))) fun h named => by
      obtain ⟨i, mem, rfl⟩ := List.mem_map.mp named
      obtain ⟨low, other⟩ := apart i (.inr mem)
      rw [State.takeHookBit_hook_ne _ _ (by omega), at' i low]
      exact quiet i low other
  calc s.acceptSample p x
      = forEach (hooksOf p) (fun h s => s.takeHookBit h (bit h)) (s.setPanel p ((s.panel p).sampled x)) := if_neg working
    _ = _ := by
      rw [hooksOf_eq, split, List.map_append, List.map_cons, forEach, List.foldl_append, ← forEach, ← forEach, forEach_cons,
        first, last, at' j inside]

/-- A sample keeps the setup, whatever its bits. -/
theorem State.acceptSample_keepsSetup (s : State) (p : Nat) (x : PanelExchange) : s.KeepsSetup (s.acceptSample p x) := by
  have work := keepsRest_workKeeps (s.setPanel p ((s.panel p).sampled x))
  let bit (h : Nat) : Bool := x.bits.getD (Config.hooksPerPanel - 1 - h % Config.hooksPerPanel) false
  have taken := forEach_keeps _ (hooksOf p) (fun h s => s.takeHookBit h (bit h)) _ (fun h _ => work.takeHookBit h (bit h))
    (State.KeepsRest.refl _)
  have kept : (s.setPanel p ((s.panel p).sampled x)).KeepsRest (s.acceptSample p x) := by
    unfold State.acceptSample
    dsimp only
    split
    exacts [work.handPanelHooks p taken, taken]
  exact kept.setup

/-! ### One exchange -/

/-- What becomes of the sample of panel `p`, when its bits have been put out. -/
def State.sampleTaken (s : State) (p : Nat) (x : PanelExchange) : State :=
  if s.panelConfigured p then if sampleGood x then s.acceptSample p x else s.discardSample p else s

theorem State.completeExchange_selected {s : State} {p : Nat} (selected : s.keys.scan.selected = some p) (x : PanelExchange) :
    s.completeExchange x = ((s.putOut p x).sampleTaken p x).selectNext := by
  rw [State.completeExchange, selected]
  rfl

theorem State.sampleTaken_keeps (s : State) {p : Nat} (low : 1 ≤ p) (high : p ≤ 9) (x : PanelExchange) :
    s.KeepsSetup (s.sampleTaken p x) ∧ (s.sampleTaken p x).keys.scanSide = s.keys.scanSide := by
  unfold State.sampleTaken
  split
  · split
    · exact ⟨s.acceptSample_keepsSetup p x, s.acceptSample_scanSide p x⟩
    · exact ⟨(State.discardSample_result low high).2.2.2.1, s.discardSample_scanSide p⟩
  · exact ⟨(State.KeepsRest.refl s).setup, rfl⟩

theorem State.putOut_keepsSetup (s : State) (p : Nat) (x : PanelExchange) : s.KeepsSetup (s.putOut p x) :=
  ⟨rfl, rfl, rfl, rfl, rfl, rfl, rfl, rfl, rfl, rfl, rfl, rfl, rfl, rfl⟩

theorem State.selectNext_keepsSetup (s : State) : s.KeepsSetup s.selectNext := by
  rw [s.selectNext_fields]
  exact ⟨rfl, rfl, rfl, rfl, rfl, rfl, rfl, rfl, rfl, rfl, rfl, rfl, rfl, rfl⟩

/-- The latches of the panels after an exchange: those of the panel that ended it in time are the bits put out. -/
theorem State.putOut_latches (s : State) {p : Nat} (x : PanelExchange) (low : 1 ≤ p) (high : p ≤ 9)
    (built : s.keys.scan.unlock.length = 64) :
    nth1 (s.putOut p x).keys.latches p [] = (if exchangeEnded x then s.keys.scan.unlock else nth1 s.keys.latches p []) ∧
      ∀ q, q ≠ p → nth1 (s.putOut p x).keys.latches q [] = nth1 s.keys.latches q [] := by
  simp only [State.putOut]
  split
  · refine ⟨?_, fun q other => nth1_setNth1_ne _ _ _ _ _ other.symm⟩
    rw [nth1_setNth1_same _ _ _ _ low high, bitsTaken_bitsOut _ _ built]
  · exact ⟨rfl, fun _ _ => rfl⟩

/-- The bit of one hook leaves the panels, the scanner and the setup as they are. -/
theorem State.takeHookBit_keeps (s : State) {h : Nat} (bit : Bool) : s.KeepsRest (s.takeHookBit h bit) :=
  (keepsRest_workKeeps s).takeHookBit h bit (State.KeepsRest.refl s)

/-- A VACANT hook of a working panel is bound to the one ticket without a hook. -/
theorem State.handHook_only {s : State} {h : Nat} {c : Ticket} (vacant : (s.hook h).custody = .vacant)
    (configured : s.panelConfigured (panelOf h) = true) (working : (s.panel (panelOf h)).state ≠ .faulted)
    (only : s.tickets.filter (·.hook == none) = [c]) : s.handHook h = s.bindHook h c.number := by
  have fits : s.bindable h = true := by simp [State.bindable, vacant, State.panelBindable, configured, working]
  rw [State.handHook, if_pos fits, only]
  rfl

/-- A VACANT hook stays so when every ticket has its hook. -/
theorem State.handHook_none {s : State} (h : Nat) (bound : ∀ c ∈ s.tickets, c.hook ≠ none) : s.handHook h = s := by
  have none : s.tickets.filter (·.hook == Option.none) = [] :=
    List.filter_eq_nil_iff.mpr fun c mem bare => bound c mem (by simpa using bare)
  rw [State.handHook, none]
  split <;> rfl

/-- Settles O44: the scanner's records, and each hook bit by what is accepted and by the custody of its hook. -/
theorem theCabinetIsScannedAndSampled : Obligations.TheCabinetIsScannedAndSampled := by
  refine ⟨fun s on idle low high => ?_, fun s x p on selected low high built => ?_,
    fun s x p on selected low high configured clocks even => ?_,
    fun s x p j on selected low high configured good working inside quiet => ?_⟩
  · obtain ⟨n, count⟩ : ∃ n, s.params.panelCount = n + 1 := ⟨s.params.panelCount - 1, by omega⟩
    have remaining : (oneTo Config.panelCount).filter s.panelConfigured = 1 :: (oneTo (n + 1)).tail := by
      refine (configured_panels (n := s.params.panelCount) high).trans ?_
      rw [count, oneTo, List.range_succ_eq_map]
      rfl
    have begun : s.beginCycle = { s with keys.scan := {
        interval := s.params.scanInterval, remaining := (oneTo (n + 1)).tail, selected := some 1, unlock := s.unlockBits 1,
        out := s.keys.scan.out } } := by
      rw [State.beginCycle, idle]
      dsimp only
      rw [remaining]
      rfl
    refine ⟨_, next_congr ((State.powered_on on _).trans begun), ?_, rfl, rfl, ?_, s.unlockBits_length 1,
      fun i inside => ?_, rfl, rfl, rfl, rfl, rfl, rfl⟩
    · exact ⟨rfl, rfl, rfl, rfl, rfl, rfl, rfl, rfl, rfl, rfl, rfl, rfl, rfl, rfl⟩
    · show (oneTo (n + 1)).tail.length = _
      rw [List.length_tail, oneTo, List.length_map, List.length_range, count]
    · refine (s.unlockBits_get 1 inside).trans ?_
      simp
  · intro further
    have given : further = furtherClocksGiven x := by
      cases ends : x.endMark <;> simp only [further, furtherClocksGiven, ends, Config.furtherClocks]
    obtain ⟨setup, side⟩ := (s.putOut p x).sampleTaken_keeps low high x
    obtain ⟨own, others⟩ := s.putOut_latches x low high built
    have step := (State.powered_on on fun u : State => u.completeExchange x).trans (State.completeExchange_selected selected x)
    generalize (s.putOut p x).sampleTaken p x = u at *
    have scan : u.keys.scan = (s.putOut p x).keys.scan := congrArg Prod.fst side
    have latches : u.keys.latches = (s.putOut p x).keys.latches := congrArg Prod.snd side
    obtain ⟨interval, out, next, rest, unlock⟩ := u.selectNext_scan
    rw [scan] at interval out next rest unlock
    have kept (q : Nat) : nth1 u.selectNext.keys.latches q [] = nth1 (s.putOut p x).keys.latches q [] := by
      rw [u.selectNext_fields, ← latches]
    refine ⟨_, next_congr step, (s.putOut_keepsSetup p x).trans (setup.trans u.selectNext_keepsSetup), ?_, fun c hc => ?_,
      fun c above below => ?_, fun n ends soon => ?_, fun n ends late => ?_, fun never => ?_, fun q _ _ other => ?_, interval,
      next, rest, fun q comes _ _ => ?_⟩
    · rw [out, given]
      exact length_bitsOut _ x built
    · rw [out]
      exact bitsOut_position _ x built c hc
    · rw [out]
      exact bitsOut_tail _ x built c above (given ▸ below)
    · rw [kept, own, if_pos]
      simpa [exchangeEnded, ends, Config.furtherClocks] using soon
    · rw [kept, own, if_neg]
      simp only [exchangeEnded, ends, Config.furtherClocks, decide_eq_true_eq]
      omega
    · rw [kept, own, if_neg]
      simp [exchangeEnded, never]
    · rw [kept, others q other]
    · have built' : u.selectNext.keys.scan.unlock = u.unlockBits q := unlock q comes
      refine ⟨by rw [built', u.unlockBits_length], fun i inside => ?_⟩
      rw [built', u.unlockBits_get q inside, u.selectNext_fields]
      rfl
  · have discarded : (s.putOut p x).sampleTaken p x = (s.putOut p x).discardSample p := by
      have fits : (s.putOut p x).panelConfigured p = true := by simp [State.panelConfigured, State.putOut, low, configured]
      have bad : sampleGood x = false := by simp [sampleGood, sampleOddParity, even]
      rw [State.sampleTaken, if_pos fits, bad]
      rfl
    have step := (State.powered_on on fun u : State => u.completeExchange x).trans (State.completeExchange_selected selected x)
    rw [discarded] at step
    obtain ⟨panel, hooks, tickets, setup, waiting⟩ := State.discardSample_result (s := s.putOut p x) low high
    have fields := ((s.putOut p x).discardSample p).selectNext_fields
    have keeps := ((s.putOut p x).discardSample p).selectNext_keepsSetup
    generalize (s.putOut p x).discardSample p = u at *
    have panel' : u.selectNext.panel p = (s.panel p).discardedSample := by
      rw [fields]
      exact panel
    refine ⟨_, next_congr step, (s.putOut_keepsSetup p x).trans (setup.trans keeps), ?_, ?_, ?_, ?_, ?_, ?_, ?_⟩
    · rw [fields]
      exact hooks
    · rw [fields]
      exact tickets
    · rw [panel']
      rfl
    · rw [panel']
      rfl
    · rw [panel']
      rfl
    · rw [panel']
      exact (s.panel p).discardedSample_faulted
    · rw [fields]
      exact waiting
  · intro h r bit value
    have last : h < 576 := by simp only [h]; omega
    have own : panelOf h = p := by simp only [h, panelOf, Config.hooksPerPanel]; omega
    let v := (s.putOut p x).setPanel p ((s.panel p).sampled x)
    have fits : v.panelConfigured p = true := by
      simp [v, State.panelConfigured, State.putOut, State.setPanel, low, configured]
    have taken : (s.putOut p x).sampleTaken p x = v.takeHookBit h bit := by
      refine (if_pos fits).trans ((if_pos good).trans ?_)
      exact State.acceptSample_one (s := s.putOut p x) working inside quiet
    have step := (State.powered_on on fun u : State => u.completeExchange x).trans (State.completeExchange_selected selected x)
    have panel : v.panel p = (s.panel p).sampled x := nth1_setNth1_same _ _ _ _ low high
    have works : (v.panel p).state ≠ .faulted := by
      rw [panel]
      simp only [Panel.sampled, Panel.goodSample]
      split
      · nofun
      · exact working
    have named : value = presenceOf bit := rfl
    have before : v.hook h = r := rfl
    have sameEvents : v.events = s.events := rfl
    have sameTickets : v.tickets = s.tickets := rfl
    have same (m : Nat) : v.ticket m = s.ticket m := rfl
    have rest := v.takeHookBit_keeps (h := h) bit
    have others (i : Nat) (other : i ≠ h) : (v.takeHookBit h bit).hook i = s.hook i := v.takeHookBit_hook_ne bit other
    obtain ⟨-, stalls, unplaced, issue, dispatch, arbiter, calls, -⟩ := v.takeHookBit_frame h bit
    have setup : s.KeepsSetup v := (s.putOut_keepsSetup p x).trans
      ⟨rfl, rfl, rfl, rfl, rfl, rfl, rfl, rfl, rfl, rfl, rfl, rfl, rfl, rfl⟩
    have stalls' : v.stalls = s.stalls := rfl
    have unplaced' : v.unplaced = s.unplaced := rfl
    have issue' : v.issue = s.issue := rfl
    have dispatch' : v.dispatch = s.dispatch := rfl
    have arbiter' : v.arbiter = s.arbiter := rfl
    have calls' : v.calls = s.calls := rfl
    rw [taken] at step
    have fields := (v.takeHookBit h bit).selectNext_fields
    have keeps := (v.takeHookBit h bit).selectNext_keepsSetup
    clear_value v value bit r h
    subst named before
    generalize eq : v.takeHookBit h bit = w at *
    have samePanel : w.panel p = (s.panel p).sampled x := (congrArg (fun k => nth1 k p Panel.cold) rest.panels).trans panel
    generalize w.selectNext = t at *
    have hook (i : Nat) : t.hook i = w.hook i := by rw [fields]; rfl
    have panel' : t.panel p = (s.panel p).sampled x := by rw [fields]; exact samePanel
    have events : t.events = w.events := by rw [fields]
    have tickets : t.tickets = w.tickets := by rw [fields]
    have ticket (m : Nat) : t.ticket m = w.ticket m := by rw [fields]; rfl
    have only (n : Nat) (rests : ∀ m, m ≠ n → w.ticket m = s.ticket m) : s.ChangesOnlyTicket t n :=
      ⟨fun m other => (ticket m).trans (rests m other), by rw [fields]; exact unplaced.trans unplaced',
        by rw [fields]; exact issue.trans issue'⟩
    refine ⟨t, next_congr step, setup.trans (rest.setup.trans keeps), fun i other => (hook i).trans (others i other),
      by rw [panel']; rfl, by rw [panel']; rfl, by rw [panel']; rfl, ?_, by rw [fields]; exact stalls.trans stalls',
      by rw [fields]; exact dispatch.trans dispatch', by rw [fields]; exact arbiter.trans arbiter',
      by rw [fields]; exact calls.trans calls', fun agrees => ?_, fun differs first => ?_, fun differs second one => ?_,
      fun differs second zero => ?_⟩
    · rw [panel']
      simp only [Panel.sampled, Panel.goodSample, if_neg working]
      refine if_congr ?_ rfl rfl
      omega
    all_goals
      simp only [hook, events, tickets, ticket]
    · rw [State.takeHookBit_agrees agrees] at eq
      subst eq
      exact ⟨State.hook_setHook_same _ _ _ last, sameEvents, sameTickets⟩
    · rw [State.takeHookBit_pends differs first] at eq
      subst eq
      exact ⟨State.hook_setHook_same _ _ _ last, sameEvents, sameTickets⟩
    · subst one
      rw [State.takeHookBit_present differs second] at eq
      refine ⟨fun custody => ?_, fun custody => ?_, fun custody => ?_, fun custody => ?_, fun custody => ?_⟩
      · rw [State.keyPresent_vacant last custody] at eq
        subst eq
        exact ⟨State.hook_setHook_same _ _ _ last, congrArg (fun e : EventUnit => e.waiting ++ _) sameEvents, sameTickets⟩
      · rw [State.keyPresent_expecting last custody] at eq
        subst eq
        exact ⟨State.hook_setHook_same _ _ _ last, sameEvents, sameTickets⟩
      · rw [State.keyPresent_out last custody] at eq
        subst eq
        exact ⟨State.hook_setHook_same _ _ _ last, sameEvents, sameTickets⟩
      · rw [State.keyPresent_missing last custody] at eq
        subst eq
        refine ⟨(State.setAlert_hook _ _ _ _).trans (State.hook_setHook_same _ _ _ last),
          (State.setAlert_frame _ _ _).2.2.2.2.2.2.2.2.2.1.trans sameEvents, fun c bound found => ?_⟩
        obtain ⟨edited, rests⟩ := State.setAlert_named (s := v)
          (x := { (v.hook h).accepts .present with custody := .cabinet }) last bound ((same _).trans found) false
        exact ⟨edited, only _ fun m other => (rests m other).trans (same m)⟩
      · rw [State.keyPresent_rests last custody] at eq
        subst eq
        exact ⟨State.hook_setHook_same _ _ _ last, sameEvents, sameTickets⟩
    · subst zero
      rw [State.takeHookBit_absent differs second] at eq
      refine ⟨fun custody => ?_, fun custody => ?_, fun custody bound => ?_, fun c custody bare found => ?_, fun custody => ?_⟩
      · rw [State.keyAbsent_cabinet last custody] at eq
        subst eq
        refine ⟨(State.setAlert_hook _ _ _ _).trans (State.hook_setHook_same _ _ _ last), ?_, fun c bound found => ?_⟩
        · refine congrArg (fun e : EventUnit => e.waiting ++ _) ?_
          exact (State.setAlert_frame _ _ _).2.2.2.2.2.2.2.2.2.1.trans sameEvents
        · obtain ⟨edited, rests⟩ := State.setAlert_named (s := v)
            (x := { (v.hook h).accepts .absent with custody := .missing }) last bound ((same _).trans found) true
          exact ⟨edited, only _ fun m other => (rests m other).trans (same m)⟩
      · rw [State.keyAbsent_released last custody] at eq
        subst eq
        exact ⟨State.hook_setHook_same _ _ _ last, sameEvents, sameTickets⟩
      · rw [State.keyAbsent_found last custody,
          State.handHook_none (s := v.setHook h _) _ fun c mem => bound c (sameTickets ▸ mem)] at eq
        subst eq
        exact ⟨State.hook_setHook_same _ _ _ last, sameEvents, sameTickets⟩
      · have vacant := State.hook_setHook_same v h
          { (v.hook h).accepts .absent with custody := .vacant } last
        rw [State.keyAbsent_found last custody, State.handHook_only (c := c)
          (s := v.setHook h { (v.hook h).accepts .absent with custody := .vacant }) (by rw [vacant])
          (by rw [own]; exact fits) (by rw [own]; exact works) ((congrArg _ sameTickets).trans bare)] at eq
        subst eq
        refine ⟨?_, sameEvents, State.ticket_edit_same ?_ _, only _ fun m other => ?_⟩
        · refine (State.hook_setHook_same _ _ _ last).trans ?_
          rw [vacant]
          rfl
        · exact (same _).trans found
        · exact (State.ticket_edit_ne _ other _).trans (same m)
      · rw [State.keyAbsent_rests last custody] at eq
        subst eq
        exact ⟨State.hook_setHook_same _ _ _ last, sameEvents, sameTickets⟩

end Sys2Proof.Machine
end

section
/-! SUPPORT for O55: what the clock reaches, and the course of one tenth. -/

namespace Sys2Proof.Machine

open Sys2Proof

/-! ### Banks -/

/-- A change of every record of a bank, as it reads at any number, where it leaves the value read outside the bank. -/
theorem nth_mapBank_fixed {α : Type} {n : Nat} (v : Vector α n) {f : α → α} {d : α} (fixed : f d = d) (i : Nat) :
    nth (mapBank v f) i d = f (nth v i d) := by
  by_cases inside : i < n
  · exact nth_mapBank v f i d inside
  · rw [nth_outside _ _ _ (by omega), nth_outside _ _ _ (by omega), fixed]

theorem nth1_mapBank_fixed {α : Type} {n : Nat} (v : Vector α n) {f : α → α} {d : α} (fixed : f d = d) (i : Nat) :
    nth1 (mapBank v f) i d = f (nth1 v i d) := by
  cases i with
  | zero => exact fixed.symm
  | succ k => exact nth_mapBank_fixed v fixed k

/-- What holds of every record of a bank holds of the one read, and of the value read outside it. -/
theorem all_nth {α : Type} {n : Nat} {v : Vector α n} {p : α → Bool} (all : v.toList.all p = true) {d : α} (out : p d = true)
    (i : Nat) : p (nth v i d) = true := by
  by_cases inside : i < n
  · have mem : v[i] ∈ v.toList := by simp
    simpa [nth, inside] using List.all_eq_true.mp all _ mem
  · rwa [nth_outside _ _ _ (by omega)]

theorem all_nth1 {α : Type} {n : Nat} {v : Vector α n} {p : α → Bool} (all : v.toList.all p = true) {d : α} (out : p d = true)
    (i : Nat) : p (nth1 v i d) = true := by
  cases i with
  | zero => exact out
  | succ k => exact all_nth all out k

/-- The numbers of the records that a test holds of. -/
theorem mem_numbersWhere {α : Type} {n start : Nat} {v : Vector α n} {p : α → Bool} (d : α) {i : Nat} :
    i ∈ numbersWhere start v p ↔ ∃ j < n, i = start + j ∧ p (nth v j d) = true := by
  simp only [numbersWhere, List.mem_filterMap, Prod.exists, Option.ite_none_right_eq_some, Option.some.injEq]
  constructor
  · rintro ⟨x, k, mem, holds, rfl⟩
    obtain ⟨above, below, same⟩ := List.mem_zipIdx mem
    have inside : k - start < n := by simpa using (by omega : k - start < v.toList.length)
    refine ⟨k - start, inside, by omega, ?_⟩
    rw [same] at holds
    simpa [nth, inside] using holds
  · rintro ⟨j, inside, rfl, holds⟩
    refine ⟨v[j], start + j, ?_, by simpa [nth, inside] using holds, rfl⟩
    exact List.mem_zipIdx_iff_le_and_getElem?_sub.mpr ⟨by omega, by simp [inside]⟩

/-- A bank numbered from 0 in which the value read outside it fails the test. -/
theorem mem_numbersWhere_zero {α : Type} {n : Nat} {v : Vector α n} {p : α → Bool} {d : α} (out : p d = false) {i : Nat} :
    i ∈ numbersWhere 0 v p ↔ p (nth v i d) = true := by
  rw [mem_numbersWhere d]
  constructor
  · rintro ⟨j, -, rfl, holds⟩
    rwa [Nat.zero_add]
  · intro holds
    refine ⟨i, ?_, (Nat.zero_add i).symm, holds⟩
    by_contra outside
    rw [nth_outside _ _ _ (by omega), out] at holds
    cases holds

/-- The same of a bank numbered from 1. -/
theorem mem_numbersWhere_one {α : Type} {n : Nat} {v : Vector α n} {p : α → Bool} {d : α} (out : p d = false) {i : Nat} :
    i ∈ numbersWhere 1 v p ↔ p (nth1 v i d) = true := by
  rw [mem_numbersWhere d]
  constructor
  · rintro ⟨j, -, rfl, holds⟩
    rwa [Nat.add_comm]
  · intro holds
    cases i with
    | zero => exact absurd holds (by simp [nth1, out])
    | succ k =>
      refine ⟨k, ?_, Nat.add_comm k 1, holds⟩
      by_contra outside
      have cold : nth1 v (k + 1) d = d := nth_outside _ _ _ (by omega)
      rw [cold, out] at holds
      cases holds

/-! ### Marks (R181) -/

section
variable (s : State) (hit : SiteTime → Bool)

theorem State.stall_markReached (k : Nat) : (s.markReached hit).stall k =
    { s.stall k with confirmBy := (s.stall k).confirmBy.map (·.mark hit) } :=
  nth_mapBank_fixed s.stalls.records (f := fun r => { r with confirmBy := r.confirmBy.map (·.mark hit) }) rfl k

theorem State.hook_markReached (h : Nat) : (s.markReached hit).hook h =
    { s.hook h with releaseBy := (s.hook h).releaseBy.map (·.mark hit) } :=
  nth_mapBank_fixed s.keys.hooks (f := fun r => { r with releaseBy := r.releaseBy.map (·.mark hit) }) rfl h

theorem State.runner_markReached (b : Nat) : (s.markReached hit).runner b =
    { s.runner b with offerBy := (s.runner b).offerBy.map (·.mark hit) } :=
  nth1_mapBank_fixed s.dispatch.runners (f := fun r => { r with offerBy := r.offerBy.map (·.mark hit) }) rfl b

theorem State.lane_markReached (n : Nat) : (s.markReached hit).lane n =
    { s.lane n with clearingBy := (s.lane n).clearingBy.map (·.mark hit) } :=
  nth1_mapBank_fixed s.arbiter.lanes (f := fun r => { r with clearingBy := r.clearingBy.map (·.mark hit) }) rfl n

theorem State.channel_markReached (k : Nat) : (s.markReached hit).channel k =
    { s.channel k with pulseEnd := (s.channel k).pulseEnd.map (·.mark hit) } :=
  nth_mapBank_fixed s.timers (f := fun c => { c with pulseEnd := c.pulseEnd.map (·.mark hit) }) rfl k

end

/-- A deadline that is not reached takes the mark of the clock. -/
theorem mark_unreached {x : Option Deadline} (waits : isReached x = false) (hit : SiteTime → Bool) :
    x.map (·.mark hit) = x.map fun d => ⟨d.time, hit d.time⟩ := by
  cases x with
  | none => rfl
  | some d =>
    have off : d.reached = false := waits
    simp [Deadline.mark, off]

/-! ### Nothing reached -/

/-- What `Quiet` says of each record. -/
structure State.Unreached (s : State) : Prop where
  stall : ∀ k, isReached (s.stall k).confirmBy = false
  hook : ∀ h, isReached (s.hook h).releaseBy = false
  runner : ∀ b, isReached (s.runner b).offerBy = false
  lane : ∀ n, isReached (s.lane n).clearingBy = false
  ticket : ∀ c ∈ s.tickets, s.isOverdue c = false
  entry : ∀ e ∈ s.calls.schedule, e.reached = false
  pulse : ∀ k, isReached (s.channel k).pulseEnd = false
  due : ∀ k, (s.channel k).due = false

theorem State.Quiet.unreached {s : State} (quiet : s.Quiet) : s.Unreached := by
  obtain ⟨stalls, hooks, runners, lanes, tickets, entries, timers⟩ := quiet
  have channel (k : Nat) : (!isReached (s.channel k).pulseEnd && !(s.channel k).due) = true :=
    all_nth timers (d := Channel.cold) rfl k
  refine ⟨fun k => ?_, fun h => ?_, fun b => ?_, fun n => ?_, fun c mem => ?_, fun e mem => ?_, fun k => ?_, fun k => ?_⟩
  · simpa [State.stall] using all_nth stalls (d := Stall.cold) rfl k
  · simpa [State.hook] using all_nth hooks (d := Hook.cold) rfl h
  · simpa [State.runner] using all_nth1 runners (d := Runner.atStart SiteTime.zero) rfl b
  · simpa [State.lane] using all_nth1 lanes (d := Lane.cold) rfl n
  · simpa using List.all_eq_true.mp tickets c mem
  · simpa using List.all_eq_true.mp entries e mem
  · exact (by simpa using channel k : _ ∧ _).1
  · exact (by simpa using channel k : _ ∧ _).2

theorem numbersWhere_none {α : Type} {n start : Nat} {v : Vector α n} {p : α → Bool} (d : α) (none : ∀ j, p (nth v j d) = false) :
    numbersWhere start v p = [] := by
  refine List.eq_nil_iff_forall_not_mem.mpr fun i mem => ?_
  obtain ⟨j, -, -, holds⟩ := (mem_numbersWhere d).mp mem
  rw [none j] at holds
  cases holds

/-- A loop whose every turn leaves the state as it is leaves it. -/
theorem forEach_same {α σ : Type} (xs : List α) {f : α → σ → σ} {s : σ} (same : ∀ x ∈ xs, f x s = s) : forEach xs f s = s := by
  induction xs with
  | nil => rfl
  | cons x xs ih =>
    rw [forEach_cons, same x List.mem_cons_self]
    exact ih fun y mem => same y (List.mem_cons_of_mem _ mem)

theorem State.takeDue_none {s : State} {k : Nat} (off : (s.channel k).due = false) : s.takeDue k = s := by
  simp [State.takeDue, off]

/-- No ticket overdue, no mark set. -/
theorem State.takeOverdue_none {s : State} (none : ∀ c ∈ s.tickets, s.isOverdue c = false) : s.takeOverdue = s := by
  refine forEach_same _ fun n mem => ?_
  cases found : s.ticket n with
  | none => rw [State.overdueReached, found]
  | some c =>
    obtain rfl : c.number = n := State.ticket_number found
    exact State.overdueReached_waits found (none c (List.mem_of_find?_eq_some found))

/-- In a state in which nothing waits to be taken, nothing is taken. -/
theorem State.Unreached.takeReached {s : State} (h : s.Unreached) : s.takeReached = s := by
  have entries : s.calls.schedule.filter (·.reached) = [] :=
    List.filter_eq_nil_iff.mpr fun e mem => by rw [h.entry e mem]; nofun
  unfold State.takeReached
  rw [numbersWhere_none Stall.cold h.stall, forEach_nil]
  dsimp only
  rw [numbersWhere_none Hook.cold h.hook, forEach_nil,
    numbersWhere_none (p := fun r : Runner => isReached r.offerBy) (Runner.atStart SiteTime.zero) (fun j => h.runner (j + 1)),
    forEach_nil, numbersWhere_none (p := fun r : Lane => isReached r.clearingBy) Lane.cold (fun j => h.lane (j + 1)), forEach_nil,
    State.takeOverdue_none h.ticket, State.releaseAllReached, entries, List.map_nil, forEach_nil,
    numbersWhere_none Channel.cold h.pulse, forEach_nil]
  exact forEach_same _ fun k _ => State.takeDue_none (h.due k)

/-! ### One tenth (R166, R180, R181) -/

/-- What a tenth makes of a channel: it is left as it is, or counts, or takes a step. -/
theorem Channel.tenthPassed_still {c : Channel} (still : c.state ≠ .counting ∨ c.clock = .event) : c.tenthPassed = c :=
  if_pos still

theorem Channel.tenthPassed_within {c : Channel} (counts : c.state = .counting) (timed : c.clock ≠ .event)
    (within : c.elapsed + 1 < c.clock.period) : c.tenthPassed = { c with elapsed := c.elapsed + 1 } := by
  rw [Channel.tenthPassed, if_neg (by tauto), if_pos within]

theorem Channel.tenthPassed_capture {c : Channel} (counts : c.state = .counting) (timed : c.clock ≠ .event)
    (full : c.clock.period ≤ c.elapsed + 1) (mode : c.mode = .capture) :
    c.tenthPassed = { c with elapsed := 0, counter := min 65535 (c.counter + 1) } := by
  rw [Channel.tenthPassed, if_neg (by tauto), if_neg (by omega), mode]

theorem Channel.tenthPassed_down {c : Channel} (counts : c.state = .counting) (timed : c.clock ≠ .event)
    (full : c.clock.period ≤ c.elapsed + 1) (mode : c.mode = .interval ∨ c.mode = .delay ∨ c.mode = .window) :
    c.tenthPassed =
      if c.counter ≤ 1 then { c with elapsed := 0, due := true } else { c with elapsed := 0, counter := c.counter - 1 } := by
  rcases mode with mode | mode | mode <;>
    rw [Channel.tenthPassed, if_neg (by tauto), if_neg (by omega), mode]

/-- A tenth moves no pulse end and no drive. -/
theorem Channel.tenthPassed_output (c : Channel) : c.tenthPassed.pulseEnd = c.pulseEnd ∧ c.tenthPassed.drive = c.drive := by
  unfold Channel.tenthPassed
  split
  · exact ⟨rfl, rfl⟩
  · split
    · exact ⟨rfl, rfl⟩
    · split
      · exact ⟨rfl, rfl⟩
      · exact ⟨rfl, rfl⟩
      · split <;> exact ⟨rfl, rfl⟩

/-- The state after a tenth in which nothing had been reached before. -/
def State.ticked (s : State) : State :=
  let reached := (s.putClock (s.now.plus 1)).markReached (· == s.now.plus 1)
  { reached with timers := mapBank reached.timers Channel.tenthPassed }

theorem State.Unreached.tick {s : State} (h : s.Unreached) : s.tick = s.ticked := by
  rw [State.tick, h.takeReached]
  rfl

theorem State.channel_ticked (s : State) (k : Nat) : s.ticked.channel k =
    ({ s.channel k with pulseEnd := (s.channel k).pulseEnd.map (·.mark (· == s.now.plus 1)) } : Channel).tenthPassed := by
  refine (nth_mapBank_fixed _ (f := Channel.tenthPassed) (d := Channel.cold) (by decide) k).trans ?_
  exact congrArg Channel.tenthPassed (State.channel_markReached (s.putClock (s.now.plus 1)) _ k)

/-- The clock of a day and its last tenth (R180). -/
theorem SiteTime.plus_one (x : SiteTime) : (x.tenth < 863999 → x.plus 1 = ⟨x.day % 65536, x.tenth + 1⟩) ∧
    (x.tenth = 863999 → x.plus 1 = ⟨(x.day + 1) % 65536, 0⟩) := by
  refine ⟨fun within => ?_, fun last => ?_⟩
  · have day : (x.tenth + 1) / 864000 = 0 := by omega
    have tenth : (x.tenth + 1) % 864000 = x.tenth + 1 := by omega
    simp only [SiteTime.plus, Config.dayTenths, Config.dayCount, day, tenth, Nat.add_zero]
  · simp [SiteTime.plus, Config.dayTenths, Config.dayCount, last]

end Sys2Proof.Machine
end

section
/-! SUPPORT for O55: what is taken when the clock has reached it, collection by collection. -/

namespace Sys2Proof.Machine

open Sys2Proof

/-- Where the turns of other elements keep `P`, the turn of `x` reaches `Q` from `P`, and every turn keeps `Q`, the loop
reaches `Q`. -/
theorem forEach_settles {α σ : Type} (P Q : σ → Prop) {xs : List α} {f : α → σ → σ} {x : α} (mem : x ∈ xs) {s : σ}
    (step : ∀ y, y ≠ x → ∀ s, P s → P (f y s)) (hit : ∀ s, P s → Q (f x s)) (keep : ∀ y s, Q s → Q (f y s)) (h : P s) :
    Q (forEach xs f s) := by
  obtain ⟨before, after, rfl, first⟩ := List.eq_append_cons_of_mem mem
  rw [forEach, List.foldl_append, List.foldl_cons]
  have reached := hit _ (forEach_keeps_of_mem P before f s (fun y mem => step y fun same => first (same ▸ mem)) h)
  exact forEach_keeps Q after f _ keep reached

/-- Where every turn but those of `x` keeps `P`, the loop without `x` does. -/
theorem forEach_spares {α σ : Type} (P : σ → Prop) {xs : List α} {f : α → σ → σ} {x : α} (out : x ∉ xs) {s : σ}
    (step : ∀ y, y ≠ x → ∀ s, P s → P (f y s)) (h : P s) : P (forEach xs f s) :=
  forEach_keeps_of_mem P xs f s (fun y mem => step y fun same => out (same ▸ mem)) h

/-! ### The stages -/

/-- The reached confirm deadlines are taken. -/
def State.takeConfirms (s : State) : State :=
  forEach (numbersWhere 0 s.stalls.records (isReached ·.confirmBy)) (fun k s => s.confirmReached k) s

/-- The reached release deadlines are taken. -/
def State.takeReleases (s : State) : State :=
  forEach (numbersWhere 0 s.keys.hooks (isReached ·.releaseBy)) (fun h s => s.releaseReached h) s

/-- The reached offer deadlines are taken. -/
def State.takeOffers (s : State) : State :=
  forEach (numbersWhere 1 s.dispatch.runners (isReached ·.offerBy)) (fun b s => s.offerReached b) s

/-- The reached clearing deadlines are taken. -/
def State.takeClearings (s : State) : State :=
  forEach (numbersWhere 1 s.arbiter.lanes (isReached ·.clearingBy)) (fun n s => s.clearingReached n) s

/-- The reached pulse ends are taken. -/
def State.takePulses (s : State) : State :=
  forEach (numbersWhere 0 s.timers (isReached ·.pulseEnd)) (fun k s => s.pulseReached k) s

theorem State.takeReached_eq (s : State) : s.takeReached = forEach (List.range Config.channelCount) (fun k s => s.takeDue k)
    s.takeConfirms.takeReleases.takeOffers.takeClearings.takeOverdue.releaseAllReached.takePulses := rfl

/-! ### Confirm deadlines (R16) -/

theorem State.confirmReached_waits {s : State} {k : Nat} (waits : isReached (s.stall k).confirmBy = false) :
    s.confirmReached k = s := by
  unfold State.confirmReached
  split
  · rfl
  next d deadline =>
    rw [deadline] at waits
    exact if_neg fun reached => absurd (waits.symm.trans reached) (by decide)

/-- A reached confirm deadline goes, with STALL_MISMATCH at an EMPTY stall. -/
theorem State.confirmReached_taken {s : State} {k : Nat} (reached : isReached (s.stall k).confirmBy = true) :
    s.confirmReached k =
      if (s.stall k).sensed = .empty then (s.restall k { s.stall k with confirmBy := none }).raise .stallMismatch k
      else s.restall k { s.stall k with confirmBy := none } := by
  have low : k < 640 := by
    by_contra outside
    rw [State.stall, nth_outside _ _ _ (by simp only [Config.stallCount]; omega)] at reached
    cases reached
  unfold State.confirmReached
  split
  next none => rw [none] at reached; cases reached
  next d deadline =>
    rw [deadline] at reached
    refine (if_pos reached).trans ?_
    rw [State.putStall_restall (r := { s.stall k with confirmBy := none }) low rfl rfl]

/-- What the taking of the confirm deadlines leaves. -/
structure State.Confirmed (s t : State) : Prop where
  fields : ∃ R W, t = { s with stalls.records := R, events.waiting := W }
  stall : ∀ k, t.stall k = { s.stall k with confirmBy := (s.stall k).confirmBy.filter (!·.reached) }
  raised : ∀ k, isReached (s.stall k).confirmBy = true → (s.stall k).sensed = .empty → ⟨.stallMismatch, k⟩ ∈ t.events.waiting

theorem State.confirmReached_fields (s : State) (k : Nat) :
    ∃ R W, s.confirmReached k = { s with stalls.records := R, events.waiting := s.events.waiting ++ W } := by
  cases reached : isReached (s.stall k).confirmBy with
  | false => exact ⟨s.stalls.records, [], (State.confirmReached_waits reached).trans (by rw [List.append_nil])⟩
  | true =>
    rw [State.confirmReached_taken reached]
    split
    · exact ⟨_, [⟨.stallMismatch, k⟩], rfl⟩
    · exact ⟨_, [], by rw [List.append_nil]; rfl⟩

theorem State.confirmReached_stall {s : State} {k : Nat} (reached : isReached (s.stall k).confirmBy = true) :
    (s.confirmReached k).stall k = { s.stall k with confirmBy := none } := by
  have low : k < 640 := by
    by_contra outside
    rw [State.stall, nth_outside _ _ _ (by simp only [Config.stallCount]; omega)] at reached
    cases reached
  rw [State.confirmReached_taken reached]
  split <;> exact s.stall_restall low _

theorem State.confirmReached_stall_ne (s : State) {k j : Nat} (other : j ≠ k) : (s.confirmReached k).stall j = s.stall j := by
  cases reached : isReached (s.stall k).confirmBy with
  | false => rw [State.confirmReached_waits reached]
  | true =>
    rw [State.confirmReached_taken reached]
    split <;> exact s.stall_restall_ne other _

theorem filter_unreached {x : Option Deadline} (waits : isReached x = false) : x.filter (!·.reached) = x := by
  cases x with
  | none => rfl
  | some d =>
    have off : d.reached = false := waits
    simp [off]

theorem filter_reached {x : Option Deadline} (reached : isReached x = true) : x.filter (!·.reached) = none := by
  cases x with
  | none => rfl
  | some d =>
    have on : d.reached = true := reached
    simp [on]

theorem State.takeConfirms_confirmed (s : State) : s.Confirmed s.takeConfirms := by
  have kept (k : Nat) (t : State) (is : t.stall k = { s.stall k with confirmBy := none }) (j : Nat) :
      (t.confirmReached j).stall k = { s.stall k with confirmBy := none } := by
    by_cases same : k = j
    · subst same
      rw [State.confirmReached_waits (by rw [is]; rfl), is]
    · rw [State.confirmReached_stall_ne _ same, is]
  have others (k j : Nat) (other : j ≠ k) (t : State) (is : t.stall k = s.stall k) : (t.confirmReached j).stall k = s.stall k :=
    (t.confirmReached_stall_ne (Ne.symm other)).trans is
  have listed (k : Nat) : k ∈ numbersWhere 0 s.stalls.records (isReached ·.confirmBy) ↔
      isReached (s.stall k).confirmBy = true := mem_numbersWhere_zero (p := (isReached ·.confirmBy)) (d := Stall.cold) rfl
  refine ⟨?_, fun k => ?_, fun k reached empty => ?_⟩
  · refine forEach_keeps (fun t => ∃ R W, t = { s with stalls.records := R, events.waiting := W }) _ _ s (fun k t held => ?_)
      ⟨_, _, rfl⟩
    obtain ⟨R, W, rfl⟩ := held
    obtain ⟨R', W', step⟩ := State.confirmReached_fields { s with stalls.records := R, events.waiting := W } k
    exact ⟨R', W ++ W', step⟩
  · cases reached : isReached (s.stall k).confirmBy with
    | false =>
      rw [filter_unreached reached]
      exact forEach_spares (fun t => t.stall k = s.stall k) (x := k) (fun mem => by rw [listed, reached] at mem; cases mem)
        (fun j other t is => others k j other t is) rfl
    | true =>
      rw [filter_reached reached]
      refine forEach_settles (fun t => t.stall k = s.stall k) (fun t => t.stall k = { s.stall k with confirmBy := none })
        ((listed k).mpr reached) (fun j other t is => others k j other t is) (fun t is => ?_) (fun j t is => kept k t is j) rfl
      rw [State.confirmReached_stall (by rw [is, reached]), is]
  · refine forEach_settles (fun t => t.stall k = s.stall k) (fun t => ⟨.stallMismatch, k⟩ ∈ t.events.waiting)
      ((listed k).mpr reached) (fun j other t is => others k j other t is) (fun t is => ?_) (fun j t mem => ?_) rfl
    · rw [State.confirmReached_taken (by rw [is, reached]), is, if_pos empty]
      exact List.mem_append_right _ (List.mem_singleton.mpr rfl)
    · obtain ⟨R, W, step⟩ := t.confirmReached_fields j
      rw [step]
      exact List.mem_append_left _ mem

/-! ### Release deadlines (R71) -/

/-- The hook of a key given back by the end of its release window. -/
def Hook.returned (r : Hook) : Hook := { r with custody := .cabinet, runner := none, releaseBy := none }

theorem State.releaseReached_waits {s : State} {h : Nat} (waits : isReached (s.hook h).releaseBy = false) :
    s.releaseReached h = s := by
  unfold State.releaseReached
  dsimp only
  split
  · rfl
  next d deadline =>
    rw [deadline] at waits
    exact if_neg fun both => absurd (waits.symm.trans both.1) (by decide)

theorem State.releaseReached_taken {s : State} {h : Nat} (reached : isReached (s.hook h).releaseBy = true)
    (released : (s.hook h).custody = .released) : s.releaseReached h = s.setHook h (s.hook h).returned := by
  unfold State.releaseReached
  dsimp only
  split
  next none => rw [none] at reached; cases reached
  next d deadline =>
    rw [deadline] at reached
    exact if_pos ⟨reached, released⟩

theorem State.releaseReached_fields (s : State) (h : Nat) : ∃ H, s.releaseReached h = { s with keys.hooks := H } := by
  unfold State.releaseReached
  dsimp only
  split
  · exact ⟨_, rfl⟩
  · split
    exacts [⟨_, rfl⟩, ⟨_, rfl⟩]

theorem State.releaseReached_hook_ne (s : State) {h j : Nat} (other : j ≠ h) : (s.releaseReached h).hook j = s.hook j := by
  unfold State.releaseReached
  dsimp only
  split
  · rfl
  · split
    exacts [State.hook_setHook_ne _ _ _ _ other.symm, rfl]

/-- What the taking of the release deadlines leaves. -/
structure State.KeysBack (s t : State) : Prop where
  fields : ∃ H, t = { s with keys.hooks := H }
  waits : ∀ h, isReached (s.hook h).releaseBy = false → t.hook h = s.hook h
  back : ∀ h, isReached (s.hook h).releaseBy = true → (s.hook h).custody = .released → t.hook h = (s.hook h).returned

theorem State.takeReleases_keysBack (s : State) : s.KeysBack s.takeReleases := by
  have others (h j : Nat) (other : j ≠ h) (t : State) (is : t.hook h = s.hook h) : (t.releaseReached j).hook h = s.hook h :=
    (t.releaseReached_hook_ne (Ne.symm other)).trans is
  have listed (h : Nat) : h ∈ numbersWhere 0 s.keys.hooks (isReached ·.releaseBy) ↔ isReached (s.hook h).releaseBy = true :=
    mem_numbersWhere_zero (p := (isReached ·.releaseBy)) (d := Hook.cold) rfl
  refine ⟨?_, fun h waits => ?_, fun h reached released => ?_⟩
  · refine forEach_keeps (fun t => ∃ H, t = { s with keys.hooks := H }) _ _ s (fun h t held => ?_) ⟨_, rfl⟩
    obtain ⟨H, rfl⟩ := held
    obtain ⟨H', step⟩ := State.releaseReached_fields { s with keys.hooks := H } h
    exact ⟨H', step⟩
  · exact forEach_spares (fun t => t.hook h = s.hook h) (x := h) (fun mem => by rw [listed, waits] at mem; cases mem)
      (fun j other t is => others h j other t is) rfl
  · have low : h < Config.hookCount := by
      by_contra outside
      rw [State.hook, nth_outside _ _ _ (by omega)] at reached
      cases reached
    refine forEach_settles (fun t => t.hook h = s.hook h) (fun t => t.hook h = (s.hook h).returned) ((listed h).mpr reached)
      (fun j other t is => others h j other t is) (fun t is => ?_) (fun j t is => ?_) rfl
    · rw [State.releaseReached_taken (by rw [is, reached]) (by rw [is, released]), is]
      exact State.hook_setHook_same _ _ _ low
    · by_cases same : j = h
      · rw [same, State.releaseReached_waits (by rw [is]; rfl), is]
      · exact (t.releaseReached_hook_ne (Ne.symm same)).trans is

/-! ### Offer deadlines (R96) -/

/-- No listed task of ticket `n` is offered to runner `b`. -/
def State.Unoffered (s : State) (b n : Nat) : Prop := ∀ w ∈ s.dispatch.tasks, w.ticket = n → w.place ≠ .offered b

theorem TasksPaired.of_mem {may : Nat → Prop} {xs ys : List Task} (h : TasksPaired may xs ys) {v : Task} (mem : v ∈ ys) :
    ∃ w ∈ xs, w.PairedTo may v := by
  unfold TasksPaired at h
  induction h with
  | nil => cases mem
  | cons first _ ih =>
    rcases List.mem_cons.mp mem with rfl | mem
    · exact ⟨_, List.mem_cons_self, first⟩
    · obtain ⟨w, mem, pairs⟩ := ih mem
      exact ⟨w, List.mem_cons_of_mem _ mem, pairs⟩

/-- Tasks that were paired with READY runners are not offered to another. -/
theorem State.Unoffered.paired {s t : State} {b n : Nat} (none : s.Unoffered b n) {may : Nat → Prop} (busy : ¬ may b)
    (paired : TasksPaired may s.dispatch.tasks t.dispatch.tasks) : t.Unoffered b n := by
  intro v mem own
  obtain ⟨w, old, -, ticket, -, -, place⟩ := paired.of_mem mem
  rcases place with same | ⟨b', ready, offered⟩
  · rw [same]
    exact none w old (ticket.symm.trans own)
  · rw [offered]
    exact fun same => busy (TaskPlace.offered.inj same ▸ ready)

theorem State.Unoffered.modifyTask {s : State} {b n : Nat} (none : s.Unoffered b n) (m : Nat) :
    (s.modifyTask m fun t => { t with place := .queued }).Unoffered b n := by
  intro v mem own
  obtain ⟨w, old, rfl⟩ := List.mem_map.mp mem
  split_ifs at own ⊢
  · nofun
  · exact none w old own

theorem State.Unoffered.returnOffer {s : State} {b n : Nat} (none : s.Unoffered b n) (b' : Nat) :
    (s.returnOffer b').Unoffered b n := by
  unfold State.returnOffer
  split
  exacts [none, none.modifyTask _]

/-- An offer that ends returns its task. -/
theorem State.returnOffer_unoffered {s : State} {b n : Nat} {kind : TaskKind} (task : (s.runner b).task = some (n, kind)) :
    (s.returnOffer b).Unoffered b n := by
  intro v mem own
  simp only [State.returnOffer, task] at mem
  obtain ⟨w, old, rfl⟩ := List.mem_map.mp mem
  split_ifs at own ⊢ with listed
  · nofun
  · exact absurd own listed

/-- A runner once his offer has expired. -/
def Runner.expired (r : Runner) (n : Nat) : Runner :=
  { r with state := .silent, task := none, offerBy := none, owed := some (.withdraw n) }

/-- The state whose runners are paired when the offer of `b` has expired. -/
def State.offerEnded (s : State) (b : Nat) : State := (s.endOffer b .silent).raise .runnerSilent b

theorem State.expireOffer_ended {s : State} {b : Nat} (offered : (s.runner b).state = .offered) :
    s.expireOffer b = (s.offerEnded b).pair := if_pos offered

theorem State.expireOffer_rests {s : State} {b : Nat} (other : (s.runner b).state ≠ .offered) : s.expireOffer b = s :=
  if_neg other

theorem State.returnOffer_runner (s : State) (b' b : Nat) : (s.returnOffer b').runner b = s.runner b := by
  unfold State.returnOffer
  split <;> rfl

theorem State.offerEnded_runner_ne (s : State) {b b' : Nat} (other : b' ≠ b) : (s.offerEnded b').runner b = s.runner b :=
  (State.runner_setRunner_ne _ _ _ _ other).trans (s.returnOffer_runner b' b)

/-- A runner who is not READY keeps his record when the offer of another runner, or none, ends. -/
theorem State.expireOffer_runner {s : State} {b b' : Nat} (busy : (s.runner b).state ≠ .ready)
    (other : b' ≠ b ∨ (s.runner b).state ≠ .offered) : (s.expireOffer b').runner b = s.runner b := by
  by_cases offered : (s.runner b').state = .offered
  · have ne : b' ≠ b := other.elim id fun out same => out (same ▸ offered)
    rw [State.expireOffer_ended offered, State.runner_pair (by rwa [s.offerEnded_runner_ne ne]), s.offerEnded_runner_ne ne]
  · rw [State.expireOffer_rests offered]

theorem State.Unoffered.expireOffer {s : State} {b n : Nat} (none : s.Unoffered b n) (busy : (s.runner b).state ≠ .ready)
    (out : (s.runner b).state ≠ .offered) (b' : Nat) : (s.expireOffer b').Unoffered b n := by
  by_cases offered : (s.runner b').state = .offered
  · have ne : b' ≠ b := fun same => out (same ▸ offered)
    rw [State.expireOffer_ended offered]
    refine State.Unoffered.paired (s := s.offerEnded b') (none.returnOffer b') (fun ready => busy ?_) (State.pair_tasksPaired _)
    rwa [State.isReady, s.offerEnded_runner_ne ne] at ready
  · rwa [State.expireOffer_rests offered]

theorem State.expireOffer_frame (s : State) (b : Nat) :
    (s.expireOffer b).stalls = s.stalls ∧ (s.expireOffer b).tickets = s.tickets ∧ (s.expireOffer b).keys = s.keys ∧
      (s.expireOffer b).arbiter = s.arbiter ∧ (s.expireOffer b).calls = s.calls ∧
      ∃ more, (s.expireOffer b).events.waiting = s.events.waiting ++ more := by
  by_cases offered : (s.runner b).state = .offered
  · obtain ⟨-, stalls, -, tickets, -, keys, arbiter, calls, -, events, -⟩ := s.endOffer_frame b .silent
    obtain ⟨-, stalls', -, tickets', -, keys', arbiter', calls', -, events', -⟩ := (s.offerEnded b).pair_frame
    rw [State.expireOffer_ended offered]
    exact ⟨stalls'.trans stalls, tickets'.trans tickets, keys'.trans keys, arbiter'.trans arbiter, calls'.trans calls,
      [⟨.runnerSilent, b⟩], (congrArg EventUnit.waiting events').trans
        (congrArg (fun e : EventUnit => e.waiting ++ [⟨.runnerSilent, b⟩]) events)⟩
  · rw [State.expireOffer_rests offered]
    exact ⟨rfl, rfl, rfl, rfl, rfl, [], (List.append_nil _).symm⟩

/-- What the taking of the offer deadlines leaves. -/
structure State.OffersTaken (s t : State) : Prop where
  stalls : t.stalls = s.stalls
  tickets : t.tickets = s.tickets
  keys : t.keys = s.keys
  arbiter : t.arbiter = s.arbiter
  calls : t.calls = s.calls
  waits : ∀ b, (s.runner b).state ≠ .ready → isReached (s.runner b).offerBy = false → t.runner b = s.runner b
  expired : ∀ b n kind, (s.runner b).state = .offered → (s.runner b).task = some (n, kind) →
    isReached (s.runner b).offerBy = true → t.runner b = (s.runner b).expired n ∧ t.Unoffered b n ∧
      ⟨.runnerSilent, b⟩ ∈ t.events.waiting

theorem State.takeOffers_taken (s : State) : s.OffersTaken s.takeOffers := by
  have listed (b : Nat) : b ∈ numbersWhere 1 s.dispatch.runners (isReached ·.offerBy) ↔
      isReached (s.runner b).offerBy = true :=
    mem_numbersWhere_one (p := (isReached ·.offerBy)) (d := Runner.atStart SiteTime.zero) rfl
  have frame := forEach_keeps (fun t : State => t.stalls = s.stalls ∧ t.tickets = s.tickets ∧ t.keys = s.keys ∧
    t.arbiter = s.arbiter ∧ t.calls = s.calls) (numbersWhere 1 s.dispatch.runners (isReached ·.offerBy))
    (fun b s => s.offerReached b) s (fun b t held => by
      obtain ⟨stalls, tickets, keys, arbiter, calls⟩ := held
      obtain ⟨stalls', tickets', keys', arbiter', calls', -⟩ := t.expireOffer_frame b
      unfold State.offerReached
      split
      · exact ⟨stalls'.trans stalls, tickets'.trans tickets, keys'.trans keys, arbiter'.trans arbiter, calls'.trans calls⟩
      · exact ⟨stalls, tickets, keys, arbiter, calls⟩) ⟨rfl, rfl, rfl, rfl, rfl⟩
  have others (b : Nat) (busy : (s.runner b).state ≠ .ready) (b' : Nat) (other : b' ≠ b) (t : State)
      (is : t.runner b = s.runner b) : (t.offerReached b').runner b = s.runner b := by
    unfold State.offerReached
    split
    · rw [State.expireOffer_runner (by rwa [is]) (.inl other), is]
    · exact is
  obtain ⟨stalls, tickets, keys, arbiter, calls⟩ := frame
  refine ⟨stalls, tickets, keys, arbiter, calls, fun b busy waits => ?_, fun b n kind offered task reached => ?_⟩
  · exact forEach_spares (fun t => t.runner b = s.runner b) (x := b) (fun mem => by rw [listed, waits] at mem; cases mem)
      (fun b' other t is => others b busy b' other t is) rfl
  · have inside : 1 ≤ b ∧ b ≤ 32 := by
      by_contra outside
      have cold : s.runner b = Runner.atStart SiteTime.zero := nth1_outside _ _ _ outside
      rw [cold] at reached
      cases reached
    have busy : (s.runner b).state ≠ .ready := by rw [offered]; nofun
    refine forEach_settles (fun t => t.runner b = s.runner b) (fun t => t.runner b = (s.runner b).expired n ∧
      t.Unoffered b n ∧ ⟨.runnerSilent, b⟩ ∈ t.events.waiting) ((listed b).mpr reached)
      (fun b' other t is => others b busy b' other t is) (fun t is => ?_) (fun b' t held => ?_) rfl
    · have ended : (t.offerEnded b).runner b = (s.runner b).expired n := by
        refine (State.runner_setRunner_same _ _ _ inside.1 inside.2).trans ?_
        rw [is, task]
        rfl
      have taken : t.offerReached b = (t.offerEnded b).pair :=
        (if_pos (by rw [is, reached])).trans (State.expireOffer_ended (by rw [is, offered]))
      have silent : ((t.offerEnded b).runner b).state ≠ .ready := by rw [ended]; nofun
      rw [taken]
      refine ⟨(State.runner_pair silent).trans ended, ?_, ?_⟩
      · exact State.Unoffered.paired (s := t.offerEnded b) (State.returnOffer_unoffered (kind := kind) (by rw [is, task])) silent
          (State.pair_tasksPaired _)
      · rw [(t.offerEnded b).pair_frame.2.2.2.2.2.2.2.2.2.1]
        exact List.mem_append_right _ (List.mem_singleton.mpr rfl)
    · obtain ⟨is, none, mem⟩ := held
      have silent : (t.runner b).state = .silent := by rw [is]; rfl
      unfold State.offerReached
      split
      · obtain ⟨-, -, -, -, -, more, waiting⟩ := t.expireOffer_frame b'
        refine ⟨(State.expireOffer_runner (by rw [silent]; nofun) (.inr (by rw [silent]; nofun))).trans is,
          none.expireOffer (by rw [silent]; nofun) (by rw [silent]; nofun) b', ?_⟩
        rw [waiting]
        exact List.mem_append_left _ mem
      · exact ⟨is, none, mem⟩

end Sys2Proof.Machine
end

section
/-! SUPPORT for O55: lanes cleared, overdue tickets, schedule releases and pulses that the clock has reached. -/

namespace Sys2Proof.Machine

open Sys2Proof

/-! ### Clearing deadlines (R122) -/

/-- A lane grant check leaves a lane as it is, or reserves it when it is FREE. -/
theorem State.laneGrantCheck_lane_cases (s : State) (m : Nat) : s.laneGrantCheck.lane m = s.lane m ∨
    (s.lane m).state = .free ∧ ∃ k, s.laneGrantCheck.lane m = { s.lane m with state := .reserved, ticket := some k } := by
  obtain ⟨n, fresh⟩ := Infinite.exists_notMem_finset (s.tickets.map (·.number)).toFinset
  have asks : ∀ t ∈ s.recordsOf n, t.wantsLane = false := fun t mem => by
    obtain ⟨old, own⟩ := State.mem_recordsOf.mp mem
    exact absurd (List.mem_toFinset.mpr (List.mem_map.mpr ⟨t, old, own⟩)) fresh
  exact ((State.serveLanes_spares Config.laneCount asks).2 m).imp_right fun ⟨free, k, _, reserved⟩ => ⟨free, k, reserved⟩

theorem State.clearingReached_waits {s : State} {n : Nat}
    (waits : isReached (s.lane n).clearingBy = false ∨ (s.lane n).state ≠ .clearing) : s.clearingReached n = s := by
  unfold State.clearingReached
  split
  · rfl
  next d deadline =>
    refine if_neg fun both => waits.elim (fun off => ?_) fun out => out both.2
    rw [deadline] at off
    exact absurd (off.symm.trans both.1) (by decide)

theorem State.clearingReached_taken {s : State} {n : Nat} (reached : isReached (s.lane n).clearingBy = true)
    (clearing : (s.lane n).state = .clearing) : s.clearingReached n = s.freeLane n := by
  unfold State.clearingReached
  split
  next none => rw [none] at reached; cases reached
  next d deadline =>
    rw [deadline] at reached
    exact if_pos ⟨reached, clearing⟩

/-- A lane at rest is freed, whatever the lane grant check makes of it. -/
theorem State.clearingReached_cases (s : State) (n : Nat) : s.clearingReached n = s ∨ s.clearingReached n = s.freeLane n := by
  unfold State.clearingReached
  split
  · exact .inl rfl
  · split
    exacts [.inr rfl, .inl rfl]

theorem State.freeLane_lane_ne (s : State) {n m : Nat} (other : n ≠ m) (taken : (s.lane m).state ≠ .free) :
    (s.freeLane n).lane m = s.lane m := by
  have same := State.lane_setLane_ne s n m { state := .free, ticket := none, turnbackHold := false, clearingBy := none } other
  exact (State.laneGrantCheck_lane (by rwa [same])).trans same

/-- What the taking of the clearing deadlines leaves. -/
structure State.LanesCleared (s t : State) : Prop where
  stalls : t.stalls = s.stalls
  keys : t.keys = s.keys
  dispatch : t.dispatch = s.dispatch
  events : t.events = s.events
  schedule : t.calls.schedule = s.calls.schedule
  waits : ∀ n, (s.lane n).state ≠ .free → isReached (s.lane n).clearingBy = false → t.lane n = s.lane n
  freed : ∀ n, (s.lane n).state = .clearing → isReached (s.lane n).clearingBy = true →
    (t.lane n).clearingBy = none ∧ ((t.lane n).state = .free ∨ (t.lane n).state = .reserved)
  records : ∀ m, (∀ c ∈ s.recordsOf m, c.wantsLane = false) → t.recordsOf m = s.recordsOf m

theorem State.takeClearings_cleared (s : State) : s.LanesCleared s.takeClearings := by
  have listed (n : Nat) : n ∈ numbersWhere 1 s.arbiter.lanes (isReached ·.clearingBy) ↔
      isReached (s.lane n).clearingBy = true :=
    mem_numbersWhere_one (p := (isReached ·.clearingBy)) (d := Lane.cold) rfl
  have frame := forEach_keeps (fun t : State => t.stalls = s.stalls ∧ t.keys = s.keys ∧ t.dispatch = s.dispatch ∧
    t.events = s.events ∧ t.calls.schedule = s.calls.schedule)
    (numbersWhere 1 s.arbiter.lanes (isReached ·.clearingBy)) (fun n s => s.clearingReached n) s (fun n t held => by
      obtain ⟨stalls, keys, dispatch, events, schedule⟩ := held
      let v := t.setLane n { state := .free, ticket := none, turnbackHold := false, clearingBy := none }
      obtain ⟨-, stalls', -, -, keys', dispatch', -, events', -, -, schedule', -⟩ := v.laneGrantCheck_frame
      rcases t.clearingReached_cases n with same | freed
      · rw [same]
        exact ⟨stalls, keys, dispatch, events, schedule⟩
      · rw [freed]
        exact ⟨stalls'.trans stalls, keys'.trans keys, dispatch'.trans dispatch, events'.trans events,
          schedule'.trans schedule⟩) ⟨rfl, rfl, rfl, rfl, rfl⟩
  have others (n : Nat) (taken : (s.lane n).state ≠ .free) (m : Nat) (other : m ≠ n) (t : State) (is : t.lane n = s.lane n) :
      (t.clearingReached m).lane n = s.lane n := by
    rcases t.clearingReached_cases m with same | freed
    · rw [same, is]
    · rw [freed, State.freeLane_lane_ne t other (by rwa [is]), is]
  obtain ⟨stalls, keys, dispatch, events, schedule⟩ := frame
  refine ⟨stalls, keys, dispatch, events, schedule, fun n taken waits => ?_, fun n clearing reached => ?_, fun m asks => ?_⟩
  · exact forEach_spares (fun t => t.lane n = s.lane n) (x := n) (fun mem => by rw [listed, waits] at mem; cases mem)
      (fun m other t is => others n taken m other t is) rfl
  · have inside : 1 ≤ n ∧ n ≤ 6 := by
      by_contra outside
      have cold : s.lane n = Lane.cold := nth1_outside _ _ _ outside
      rw [cold] at reached
      cases reached
    refine forEach_settles (fun t => t.lane n = s.lane n) (fun t => (t.lane n).clearingBy = none ∧
      ((t.lane n).state = .free ∨ (t.lane n).state = .reserved)) ((listed n).mpr reached)
      (fun m other t is => others n (by rw [clearing]; nofun) m other t is) (fun t is => ?_) (fun m t held => ?_) rfl
    · rw [State.clearingReached_taken (by rw [is, reached]) (by rw [is, clearing])]
      have free := State.lane_setLane_same t n { state := .free, ticket := none, turnbackHold := false, clearingBy := none }
        inside.1 inside.2
      rcases State.laneGrantCheck_lane_cases _ n with same | ⟨-, k, reserved⟩
      · exact ⟨(congrArg Lane.clearingBy same).trans (congrArg Lane.clearingBy free),
          .inl ((congrArg Lane.state same).trans (congrArg Lane.state free))⟩
      · exact ⟨(congrArg Lane.clearingBy reserved).trans (congrArg Lane.clearingBy free), .inr (congrArg Lane.state reserved)⟩
    · obtain ⟨none, state⟩ := held
      by_cases same : m = n
      · rw [same, State.clearingReached_waits (.inl (by rw [none]; rfl))]
        exact ⟨none, state⟩
      · rcases t.clearingReached_cases m with rests | freed
        · rw [rests]
          exact ⟨none, state⟩
        · have set := State.lane_setLane_ne t m n { state := .free, ticket := .none, turnbackHold := false, clearingBy := .none } same
          rw [freed]
          rcases State.laneGrantCheck_lane_cases (t.setLane m _) n with rests | ⟨-, k, reserved⟩
          · have kept := rests.trans set
            exact ⟨(congrArg Lane.clearingBy kept).trans none, by rw [State.freeLane, kept]; exact state⟩
          · exact ⟨(congrArg Lane.clearingBy reserved).trans ((congrArg Lane.clearingBy set).trans none),
              .inr (congrArg Lane.state reserved)⟩
  · refine forEach_keeps (fun t => t.recordsOf m = s.recordsOf m) _ _ s (fun n t is => ?_) rfl
    rcases t.clearingReached_cases n with same | freed
    · rw [same, is]
    · rw [freed]
      exact (State.serveLanes_spares Config.laneCount
        (s := t.setLane n { state := .free, ticket := none, turnbackHold := false, clearingBy := none })
        (fun c mem => asks c (is ▸ mem))).1.trans is

/-! ### Overdue deadlines (R58) -/

theorem State.isOverdue_congr {s t : State} (params : t.params = s.params) (clock : t.now = s.now) (c : Ticket) :
    t.isOverdue c = s.isOverdue c := by
  simp only [State.isOverdue, State.overdueAt, params, clock]

theorem State.overdueReached_cases (s : State) (n : Nat) : s.overdueReached n = s ∨
    ∃ c, s.ticket n = some c ∧ s.isOverdue c = true := by
  cases found : s.ticket n with
  | none => exact .inl (by rw [State.overdueReached, found])
  | some c =>
    obtain rfl := State.ticket_number found
    cases over_ : s.isOverdue c with
    | false => exact .inl (State.overdueReached_waits found over_)
    | true => exact .inr ⟨c, rfl, over_⟩

theorem State.overdueReached_frame (s : State) (n : Nat) :
    (s.overdueReached n).stalls = s.stalls ∧ (s.overdueReached n).keys = s.keys ∧
      (s.overdueReached n).dispatch = s.dispatch ∧ (s.overdueReached n).arbiter = s.arbiter ∧
      (s.overdueReached n).calls = s.calls ∧ (∀ m, m ≠ n → (s.overdueReached n).ticket m = s.ticket m) ∧
      (∀ e ∈ s.events.waiting, e ∈ (s.overdueReached n).events.waiting) := by
  rcases s.overdueReached_cases n with same | ⟨c, found, over_⟩
  · rw [same]
    exact ⟨rfl, rfl, rfl, rfl, rfl, fun _ _ => rfl, fun _ mem => mem⟩
  · obtain rfl := State.ticket_number found
    obtain ⟨-, waiting, stalls, calls, keys, dispatch, arbiter, tickets, -⟩ := State.overdueReached_taken found over_
    exact ⟨stalls, keys, dispatch, arbiter, calls, tickets, fun e mem => by rw [waiting]; exact List.mem_append_left _ mem⟩

/-- What the taking of the overdue deadlines leaves. -/
structure State.OverdueTaken (s t : State) : Prop where
  stalls : t.stalls = s.stalls
  keys : t.keys = s.keys
  dispatch : t.dispatch = s.dispatch
  arbiter : t.arbiter = s.arbiter
  calls : t.calls = s.calls
  rests : ∀ c, s.ticket c.number = some c → s.isOverdue c = false → t.ticket c.number = some c
  marked : ∀ c, s.ticket c.number = some c → s.isOverdue c = true →
    t.ticket c.number = some { c with overdue := true, overduePending := false } ∧ ⟨.curbOverdue, c.number⟩ ∈ t.events.waiting

theorem State.takeOverdue_taken (s : State) : s.OverdueTaken s.takeOverdue := by
  have frame := forEach_keeps (fun t : State => t.stalls = s.stalls ∧ t.keys = s.keys ∧ t.dispatch = s.dispatch ∧
    t.arbiter = s.arbiter ∧ t.calls = s.calls) (s.tickets.map (·.number)) (fun n s => s.overdueReached n) s
    (fun n t held => by
      obtain ⟨stalls, keys, dispatch, arbiter, calls⟩ := held
      obtain ⟨stalls', keys', dispatch', arbiter', calls', -⟩ := t.overdueReached_frame n
      exact ⟨stalls'.trans stalls, keys'.trans keys, dispatch'.trans dispatch, arbiter'.trans arbiter, calls'.trans calls⟩)
    ⟨rfl, rfl, rfl, rfl, rfl⟩
  have work := keepsRest_workKeeps s
  have judged (t : State) (rest : s.KeepsRest t) (c : Ticket) : t.isOverdue c = s.isOverdue c :=
    State.isOverdue_congr rest.params rest.clock c
  have others (c : Ticket) (n : Nat) (other : n ≠ c.number) (t : State)
      (held : t.ticket c.number = some c ∧ s.KeepsRest t) :
      (t.overdueReached n).ticket c.number = some c ∧ s.KeepsRest (t.overdueReached n) := by
    obtain ⟨-, -, -, -, -, tickets, -⟩ := t.overdueReached_frame n
    exact ⟨(tickets _ (Ne.symm other)).trans held.1, work.overdueReached n held.2⟩
  obtain ⟨stalls, keys, dispatch, arbiter, calls⟩ := frame
  refine ⟨stalls, keys, dispatch, arbiter, calls, fun c found waits => ?_, fun c found over_ => ?_⟩
  · refine (forEach_keeps (fun t => t.ticket c.number = some c ∧ s.KeepsRest t) _ _ s (fun n t held => ?_)
      ⟨found, State.KeepsRest.refl s⟩).1
    by_cases same : n = c.number
    · rw [same, State.overdueReached_waits held.1 (by rw [judged t held.2, waits])]
      exact held
    · exact others c n same t held
  · have mem : c.number ∈ s.tickets.map (·.number) := List.mem_map.mpr ⟨c, List.mem_of_find?_eq_some found, rfl⟩
    refine forEach_settles (fun t => t.ticket c.number = some c ∧ s.KeepsRest t) (fun t =>
      t.ticket c.number = some { c with overdue := true, overduePending := false } ∧
        ⟨.curbOverdue, c.number⟩ ∈ t.events.waiting) mem (fun n other t held => others c n other t held)
      (fun t held => ?_) (fun n t held => ?_) ⟨found, State.KeepsRest.refl s⟩
    · obtain ⟨ticket, waiting, -⟩ := State.overdueReached_taken held.1 (by rw [judged t held.2, over_])
      exact ⟨ticket, by rw [waiting]; exact List.mem_append_right _ (List.mem_singleton.mpr rfl)⟩
    · obtain ⟨ticket, raised⟩ := held
      obtain ⟨-, -, -, -, -, tickets, waiting⟩ := t.overdueReached_frame n
      refine ⟨?_, waiting _ raised⟩
      by_cases same : n = c.number
      · rw [same, State.overdueReached_waits (c := { c with overdue := true, overduePending := false }) ticket]
        · exact ticket
        · exact Bool.eq_false_iff.mpr fun over_ => by simpa using ((State.isOverdue_iff _ _).mp over_).2.1
      · exact (tickets _ (Ne.symm same)).trans ticket

/-! ### Release times (R130) -/

theorem State.Unoffered.makeTask {s : State} {b n : Nat} (none : s.Unoffered b n) (busy : (s.runner b).state ≠ .ready)
    (kind : TaskKind) (m : Nat) (age : SiteTime) :
    (s.makeTask kind m age).Unoffered b n ∧ (s.makeTask kind m age).runner b = s.runner b := by
  have listed (place : TaskPlace) (free : place ≠ .offered b) : State.Unoffered
      { s with dispatch.tasks := s.dispatch.tasks ++ [{ kind, ticket := m, age, declined := [], place }] } b n := by
    intro w mem own
    rcases List.mem_append.mp mem with mem | mem
    · exact none w mem own
    · rw [List.mem_singleton.mp mem]
      exact free
  unfold State.makeTask
  split
  · exact ⟨(listed .queued nofun).paired busy (State.pair_tasksPaired _), State.runner_pair busy⟩
  · exact ⟨listed .backlog nofun, rfl⟩

theorem State.makeTask_busy {s : State} {b : Nat} (busy : (s.runner b).state ≠ .ready) (kind : TaskKind) (m : Nat)
    (age : SiteTime) : (s.makeTask kind m age).runner b = s.runner b := by
  unfold State.makeTask
  split
  exacts [State.runner_pair busy, rfl]

/-- The tasks and runners of a call are those of its FETCH task made. -/
theorem State.callParked_dispatch (s : State) (c : Ticket) (time : SiteTime) :
    ∃ u : State, u.dispatch = s.dispatch ∧ s.callParked c time = u.makeTask .fetch c.number time := by
  refine ⟨_, ?_, rfl⟩
  obtain ⟨-, -, -, -, -, dispatch, -⟩ := State.moveTicket_frame ((s.unschedule c.number).modifyTicket c.number fun k =>
    { k with calledAt := some time, promise := (s.unschedule c.number).quoteAt c time }) c.number .called
  exact dispatch

/-- What the release of schedule entries leaves, when each names another SCHEDULED ticket. -/
structure State.EntriesReleased (s t : State) (ys : List Nat) : Prop where
  clock : t.now = s.now
  stalls : t.stalls = s.stalls
  keys : t.keys = s.keys
  arbiter : t.arbiter = s.arbiter
  tickets : ∀ m, m ∉ ys → t.ticket m = s.ticket m
  called : ∀ y ∈ ys, (t.ticket y).map (fun c => (c.state, c.calledAt)) = some (.called, some s.now)
  tasks : ∀ y ∈ ys, ∃ w ∈ t.dispatch.tasks, w.ticket = y ∧ w.kind = .fetch ∧ w.age = s.now
  kept : ∀ w ∈ s.dispatch.tasks, ∃ v ∈ t.dispatch.tasks, v.kind = w.kind ∧ v.ticket = w.ticket ∧ v.age = w.age
  raised : ∀ y ∈ ys, ⟨.scheduleRelease, y⟩ ∈ t.events.waiting
  waiting : ∀ e ∈ s.events.waiting, e ∈ t.events.waiting
  schedule : t.calls.schedule = s.calls.schedule.filter (fun e => decide (e.ticket ∉ ys))
  runners : ∀ b, (s.runner b).state ≠ .ready → t.runner b = s.runner b
  unoffered : ∀ b n, (s.runner b).state ≠ .ready → s.Unoffered b n → t.Unoffered b n

theorem State.EntriesReleased.refl (s : State) : s.EntriesReleased s [] :=
  ⟨rfl, rfl, rfl, rfl, fun _ _ => rfl, nofun, nofun, fun w mem => ⟨w, mem, rfl, rfl, rfl⟩, nofun, fun _ mem => mem,
    by simp, fun _ _ => rfl, fun _ _ _ none => none⟩

theorem State.releaseEntry_released {s : State} {c : Ticket} (found : s.ticket c.number = some c)
    (state : c.state = .scheduled) : s.EntriesReleased (s.releaseEntry c.number) [c.number] := by
  have from_ := State.callParked_from (s := s.unschedule c.number) found (by rw [state]; rfl) s.now
  have released : s.releaseEntry c.number =
      ((s.unschedule c.number).callParked c s.now).raise .scheduleRelease c.number := by
    rw [State.releaseEntry, found]
    dsimp only
    rw [State.callTicket_rests (.inr state)]
  have clock := ((keepsRest_workKeeps s).releaseEntry c.number (State.KeepsRest.refl s)).clock
  obtain ⟨v, dispatch, made⟩ := (s.unschedule c.number).callParked_dispatch c s.now
  have runner (b : Nat) : v.runner b = s.runner b := State.runner_congr (s := s.unschedule c.number) dispatch b
  rw [released] at clock ⊢
  generalize (s.unschedule c.number).callParked c s.now = u at *
  refine ⟨clock, from_.stalls, from_.keys, from_.arbiter, fun m out => from_.only.1 m (by simpa using out), fun y mem => ?_,
    fun y mem => ?_, from_.kept, fun y mem => ?_, fun e mem => ?_, ?_, fun b busy => ?_, fun b n busy none => ?_⟩
  · obtain rfl := List.mem_singleton.mp mem
    exact (congrArg (Option.map _) from_.ticket).trans rfl
  · obtain rfl := List.mem_singleton.mp mem
    exact from_.made
  · obtain rfl := List.mem_singleton.mp mem
    exact List.mem_append_right _ (List.mem_singleton.mpr rfl)
  · refine List.mem_append_left _ ?_
    rwa [from_.events]
  · refine from_.schedule.trans ?_
    simp only [State.unschedule, List.filter_filter, Bool.and_self, List.mem_singleton]
    refine List.filter_congr fun e _ => ?_
    simp only [bne, decide_not, beq_eq_decide]
  · show u.runner b = _
    rw [made, State.makeTask_busy (by rwa [runner]), runner]
  · show u.Unoffered b n
    rw [made]
    refine (State.Unoffered.makeTask ?_ (by rwa [runner]) _ _ _).1
    rw [State.Unoffered, dispatch]
    exact none

theorem State.EntriesReleased.trans {s t u : State} {xs ys : List Nat} (h : s.EntriesReleased t xs) (h' : t.EntriesReleased u ys)
    (apart : ∀ x ∈ xs, x ∉ ys) : s.EntriesReleased u (xs ++ ys) := by
  have busy (b : Nat) (out : (s.runner b).state ≠ .ready) : (t.runner b).state ≠ .ready := by rwa [h.runners b out]
  refine ⟨h'.clock.trans h.clock, h'.stalls.trans h.stalls, h'.keys.trans h.keys, h'.arbiter.trans h.arbiter, fun m out => ?_,
    fun y mem => ?_, fun y mem => ?_, fun w mem => ?_, fun y mem => ?_, fun e mem => h'.waiting e (h.waiting e mem), ?_,
    fun b out => (h'.runners b (busy b out)).trans (h.runners b out),
    fun b n out none => h'.unoffered b n (busy b out) (h.unoffered b n out none)⟩
  · rw [List.mem_append, not_or] at out
    exact (h'.tickets m out.2).trans (h.tickets m out.1)
  · rcases List.mem_append.mp mem with mem | mem
    · rw [h'.tickets y (apart y mem)]
      exact h.called y mem
    · rw [h'.called y mem, h.clock]
  · rcases List.mem_append.mp mem with mem | mem
    · obtain ⟨w, mem, ticket, kind, age⟩ := h.tasks y mem
      obtain ⟨v, mem, kind', ticket', age'⟩ := h'.kept w mem
      exact ⟨v, mem, ticket'.trans ticket, kind'.trans kind, age'.trans age⟩
    · rw [← h.clock]
      exact h'.tasks y mem
  · obtain ⟨v, mem, kind, ticket, age⟩ := h.kept w mem
    obtain ⟨v', mem', kind', ticket', age'⟩ := h'.kept v mem
    exact ⟨v', mem', kind'.trans kind, ticket'.trans ticket, age'.trans age⟩
  · rcases List.mem_append.mp mem with mem | mem
    · exact h'.waiting _ (h.raised y mem)
    · exact h'.raised y mem
  · rw [h'.schedule, h.schedule, List.filter_filter]
    refine List.filter_congr fun e _ => ?_
    simp only [List.mem_append, not_or, Bool.decide_and, Bool.and_comm]

theorem State.releaseEntries_released (ys : List Nat) {s : State} (once : ys.Nodup)
    (waits : ∀ y ∈ ys, (s.ticket y).map (·.state) = some .scheduled) :
    s.EntriesReleased (forEach ys (fun n s => s.releaseEntry n) s) ys := by
  induction ys generalizing s with
  | nil => exact State.EntriesReleased.refl s
  | cons y ys ih =>
    obtain ⟨out, rest⟩ := List.nodup_cons.mp once
    obtain ⟨c, found, state⟩ := Option.map_eq_some_iff.mp (waits y List.mem_cons_self)
    obtain rfl := State.ticket_number found
    have first := State.releaseEntry_released found state
    refine first.trans (ih rest fun z mem => ?_) (fun x mem => by rwa [List.mem_singleton.mp mem])
    rw [first.tickets z (by simp only [List.mem_singleton]; rintro rfl; exact out mem)]
    exact waits z (List.mem_cons_of_mem _ mem)

/-- A release moves no key, whatever ticket its entry names. -/
theorem State.releaseEntry_keys (s : State) (n : Nat) : (s.releaseEntry n).keys = s.keys := by
  cases found : s.ticket n with
  | none => rw [State.releaseEntry, found]; rfl
  | some c =>
    obtain rfl := State.ticket_number found
    rw [State.releaseEntry, found]
    exact (State.callTicket_frame (s := s.unschedule c.number) found s.now).1

/-! ### Pulse ends (R171) -/

/-- What the taking of the pulse ends leaves. -/
structure State.PulsesEnded (s t : State) : Prop where
  fields : ∃ T, t = { s with timers := T }
  channel : ∀ k, t.channel k =
    if isReached (s.channel k).pulseEnd then { s.channel k with drive := false, pulseEnd := none } else s.channel k

theorem State.takePulses_ended (s : State) : s.PulsesEnded s.takePulses := by
  have others (k j : Nat) (other : j ≠ k) (t : State) (is : t.channel k = s.channel k) :
      (t.pulseReached j).channel k = s.channel k := by
    unfold State.pulseReached
    split
    · exact (State.channel_setChannel_ne _ _ _ _ other).trans is
    · exact is
  have listed (k : Nat) : k ∈ numbersWhere 0 s.timers (isReached ·.pulseEnd) ↔ isReached (s.channel k).pulseEnd = true :=
    mem_numbersWhere_zero (p := (isReached ·.pulseEnd)) (d := Channel.cold) rfl
  refine ⟨?_, fun k => ?_⟩
  · refine forEach_keeps (fun t => ∃ T, t = { s with timers := T }) _ _ s (fun k t held => ?_) ⟨_, rfl⟩
    obtain ⟨T, rfl⟩ := held
    unfold State.pulseReached
    split
    exacts [⟨_, rfl⟩, ⟨_, rfl⟩]
  · split
    next reached =>
      have low : k < Config.channelCount := by
        by_contra outside
        rw [State.channel, nth_outside _ _ _ (by omega)] at reached
        cases reached
      refine forEach_settles (fun t => t.channel k = s.channel k)
        (fun t => t.channel k = { s.channel k with drive := false, pulseEnd := none }) ((listed k).mpr reached)
        (fun j other t is => others k j other t is) (fun t is => ?_) (fun j t is => ?_) rfl
      · rw [State.pulseReached, is, if_pos reached]
        refine (State.channel_setChannel_same _ _ _ low).trans ?_
        rw [is]
      · by_cases same : j = k
        · rw [same, State.pulseReached, is]
          exact is
        · unfold State.pulseReached
          split
          · exact (State.channel_setChannel_ne _ _ _ _ same).trans is
          · exact is
    next waits =>
      exact forEach_spares (fun t => t.channel k = s.channel k) (x := k) (fun mem => waits ((listed k).mp mem))
        (fun j other t is => others k j other t is) rfl

end Sys2Proof.Machine
end

section
/-! PROOF of O55: SET_CLOCK and one tenth of the time base. -/

namespace Sys2Proof.Machine

open Sys2Proof

/-! ### Marks that SET_CLOCK sets (R181, R182) -/

section
variable {x : Option Deadline} (waits : isReached x = false) {hit : SiteTime → Bool}
include waits

theorem isReached_mark : isReached (x.map (·.mark hit)) = true ↔ ∃ d, x = some d ∧ hit d.time = true := by
  rw [mark_unreached waits]
  cases x <;> simp [isReached]

/-- A deadline that the clock does not come to stands as it stood. -/
theorem mark_missed (missed : ∀ d, x = some d → hit d.time = false) : x.map (·.mark hit) = x := by
  rw [mark_unreached waits]
  cases x with
  | none => rfl
  | some d =>
    have off : d.reached = false := waits
    rw [Option.map_some, missed d rfl, ← off]

theorem filter_mark : (x.map (·.mark hit)).filter (!·.reached) = x.filter fun d => !hit d.time := by
  rw [mark_unreached waits]
  cases x with
  | none => rfl
  | some d =>
    have off : d.reached = false := waits
    cases passed : hit d.time
    · simp only [Option.map_some, Option.filter, passed, Bool.not_false, if_true]
      rw [← off]
    · simp [Option.filter, passed]

end

/-! ### The stages together -/

/-- The states that the taking of all that the clock has reached in `m` goes through, where no step of a channel is due. -/
structure State.Stages (m A B C D E F G : State) : Prop where
  confirmed : m.Confirmed A
  keysBack : A.KeysBack B
  offers : B.OffersTaken C
  cleared : C.LanesCleared D
  overdue : D.OverdueTaken E
  released : E.releaseAllReached = F
  pulses : F.PulsesEnded G
  taken : m.takeReached = G
  restD : m.KeepsRest D
  rest : m.KeepsRest F
  fromA : ∀ e ∈ A.events.waiting, e ∈ F.events.waiting
  fromC : ∀ e ∈ C.events.waiting, e ∈ F.events.waiting
  fromE : ∀ e ∈ E.events.waiting, e ∈ F.events.waiting

theorem State.HandedFrom.waiting {s t : State} (h : s.HandedFrom t) : ∀ e ∈ s.events.waiting, e ∈ t.events.waiting := by
  obtain ⟨more, waiting, -⟩ := h.events
  rw [waiting]
  exact fun e mem => List.mem_append_left _ mem

theorem State.takeOffers_keeps {P : State → Prop} (h : HandKeeps P) {s : State} (hs : P s) : P s.takeOffers :=
  forEach_keeps P _ _ s (fun b _ ht => by unfold State.offerReached; split; exacts [h.expireOffer b ht, ht]) hs

theorem State.takeClearings_keeps {P : State → Prop} (h : HandKeeps P) {s : State} (hs : P s) : P s.takeClearings :=
  forEach_keeps P _ _ s (fun n _ => h.clearingReached n) hs

theorem State.takeReached_stages {m : State} (due : ∀ k, (m.channel k).due = false) :
    ∃ A B C D E F G, State.Stages m A B C D E F G := by
  have confirmed := m.takeConfirms_confirmed
  have work := (keepsRest_workKeeps m).toHandKeeps
  have restA : m.KeepsRest m.takeConfirms := forEach_keeps m.KeepsRest _ _ m (fun k _ => work.confirmReached k) (State.KeepsRest.refl m)
  have taken := m.takeReached_eq
  generalize m.takeConfirms = A at *
  have keysBack := A.takeReleases_keysBack
  have restB : m.KeepsRest A.takeReleases := forEach_keeps m.KeepsRest _ _ A (fun h _ => work.releaseReached h) restA
  have handB := forEach_keeps A.HandedFrom (numbersWhere 0 A.keys.hooks (isReached ·.releaseBy)) (fun h s => s.releaseReached h)
    A (fun h _ => (handedFrom_handKeeps A).releaseReached h) (State.HandedFrom.refl A)
  rw [← State.takeReleases] at handB
  generalize A.takeReleases = B at *
  have offers := B.takeOffers_taken
  have restC := State.takeOffers_keeps work restB
  have handC := State.takeOffers_keeps (handedFrom_handKeeps A) handB
  generalize B.takeOffers = C at *
  have cleared := C.takeClearings_cleared
  have restD := State.takeClearings_keeps work restC
  have handD := State.takeClearings_keeps (handedFrom_handKeeps A) handC
  have handD' := State.takeClearings_keeps (handedFrom_handKeeps C) (State.HandedFrom.refl C)
  generalize C.takeClearings = D at *
  have overdue := D.takeOverdue_taken
  have restE := work.takeOverdue restD
  have handE := (handedFrom_handKeeps A).takeOverdue handD
  have handE' := (handedFrom_handKeeps C).takeOverdue handD'
  generalize D.takeOverdue = E at *
  have rest := work.releaseAllReached restE
  have handF := (handedFrom_handKeeps A).releaseAllReached handE
  have handF' := (handedFrom_handKeeps C).releaseAllReached handE'
  have handF'' := (handedFrom_handKeeps E).releaseAllReached (State.HandedFrom.refl E)
  generalize released : E.releaseAllReached = F at *
  have pulses := F.takePulses_ended
  generalize F.takePulses = G at *
  have channel (k : Nat) : (G.channel k).due = false := by
    rw [pulses.channel, show F.channel k = m.channel k from congrArg (nth · k Channel.cold) rest.timers]
    split <;> exact due k
  exact ⟨A, B, C, D, E, F, G, confirmed, keysBack, offers, cleared, overdue, released, pulses,
    taken.trans (forEach_same _ fun k _ => State.takeDue_none (channel k)), restD, rest, handF.waiting, handF'.waiting,
    handF''.waiting⟩

/-! ### SET_CLOCK (R182) -/

/-- The state whose reached deadlines a later SET_CLOCK takes. -/
def State.passedTo (s : State) (t : SiteTime) : State := (s.putClock t).markReached fun d => s.now.before d && d.notAfter t

theorem State.setClock_later {s : State} {t : SiteTime} (h : s.Unreached) (later : s.now.before t = true) :
    s.setClock t = (s.passedTo t).takeReached := by
  rw [State.setClock, h.takeReached]
  exact if_pos later

theorem State.setClock_back {s : State} {t : SiteTime} (h : s.Unreached) (back : s.now.before t = false) :
    s.setClock t = s.putClock t := by
  rw [State.setClock, h.takeReached]
  exact if_neg (by rw [back]; nofun)

theorem State.Unreached.heard {s : State} (h : s.Unreached) (f : From) : (s.heard f).Unreached := by
  rw [s.heard_eq f]
  exact ⟨h.stall, h.hook, h.runner, h.lane, h.ticket, h.entry, h.pulse, h.due⟩

/-! ### Schedule entries that the clock passes (R130, R182) -/

/-- The schedule with the marks that the clock sets. -/
def markEntries (hit : SiteTime → Bool) (l : List ScheduleEntry) : List ScheduleEntry :=
  l.map fun e => { e with reached := e.reached || hit e.release }

/-- The tickets of the entries marked as reached, in list order. -/
def passedTickets (hit : SiteTime → Bool) (l : List ScheduleEntry) : List Nat :=
  ((markEntries hit l).filter (·.reached)).map (·.ticket)

section
variable {l : List ScheduleEntry} (unreached : ∀ e ∈ l, e.reached = false) (hit : SiteTime → Bool)
include unreached

theorem mem_passedTickets {y : Nat} : y ∈ passedTickets hit l ↔ ∃ e ∈ l, hit e.release = true ∧ e.ticket = y := by
  simp only [passedTickets, markEntries, List.mem_map, List.mem_filter]
  constructor
  · rintro ⟨-, ⟨⟨e, mem, rfl⟩, reached⟩, rfl⟩
    exact ⟨e, mem, by simpa [unreached e mem] using reached, rfl⟩
  · rintro ⟨e, mem, passed, rfl⟩
    exact ⟨_, ⟨⟨e, mem, rfl⟩, by simp [passed]⟩, rfl⟩

theorem markEntries_rest (once : (l.map (·.ticket)).Nodup) :
    (markEntries hit l).filter (fun e => decide (e.ticket ∉ passedTickets hit l)) = l.filter fun e => !hit e.release := by
  have stays : ∀ e ∈ l, (e.ticket ∉ passedTickets hit l ↔ hit e.release = false) := fun e mem => by
    rw [mem_passedTickets unreached hit]
    refine ⟨fun out => ?_, fun off => ?_⟩
    · by_contra on
      exact out ⟨e, mem, by simpa using on, rfl⟩
    · rintro ⟨e', mem', passed, same⟩
      rw [eq_of_key once mem' mem same, off] at passed
      cases passed
  rw [markEntries, List.filter_map]
  calc (l.filter _).map _
      = (l.filter fun e => !hit e.release).map fun e => { e with reached := e.reached || hit e.release } := by
        congr 1
        refine List.filter_congr fun e mem => ?_
        have both := stays e mem
        simp only [Function.comp, both]
        cases hit e.release <;> rfl
    _ = l.filter fun e => !hit e.release := by
        refine (List.map_congr_left fun e mem => ?_).trans (List.map_id _)
        obtain ⟨mem, off⟩ := List.mem_filter.mp mem
        have off : hit e.release = false := by simpa using off
        show { e with reached := e.reached || hit e.release } = e
        rw [off, Bool.or_false]

end

theorem passedTickets_nodup {l : List ScheduleEntry} (once : (l.map (·.ticket)).Nodup) (hit : SiteTime → Bool) :
    (passedTickets hit l).Nodup := by
  have same : (markEntries hit l).map (·.ticket) = l.map (·.ticket) := by simp [markEntries, Function.comp_def]
  refine List.Nodup.sublist (List.Sublist.map _ List.filter_sublist) ?_
  rwa [same]

/-- The time lies after the clock and not after `t`. -/
def State.passes (s : State) (t d : SiteTime) : Bool := s.now.before d && d.notAfter t

/-- What `passedTo` makes of the records: marks where the clock passes a deadline, and no other change. -/
structure State.MarkedFrom (s m : State) (t : SiteTime) (hit : SiteTime → Bool) : Prop where
  now : m.now = t
  stall : ∀ k, m.stall k = { s.stall k with confirmBy := (s.stall k).confirmBy.map (·.mark hit) }
  free : m.stalls.free = s.stalls.free
  hook : ∀ h, m.hook h = { s.hook h with releaseBy := (s.hook h).releaseBy.map (·.mark hit) }
  runner : ∀ b, m.runner b = { s.runner b with offerBy := (s.runner b).offerBy.map (·.mark hit) }
  lane : ∀ n, m.lane n = { s.lane n with clearingBy := (s.lane n).clearingBy.map (·.mark hit) }
  channel : ∀ k, m.channel k = { s.channel k with pulseEnd := (s.channel k).pulseEnd.map (·.mark hit) }
  schedule : m.calls.schedule = markEntries hit s.calls.schedule
  tickets : m.tickets = s.tickets
  params : m.params = s.params
  estimates : m.calls.estimates = s.calls.estimates
  flags : m.events.flags = s.events.flags

theorem State.passedTo_marked (s : State) (f : From) (t : SiteTime) :
    s.MarkedFrom ((s.heard f).passedTo t) t (s.passes t) := by
  have is : (s.heard f).passedTo t = ((s.heard f).putClock t).markReached (s.passes t) := by
    rw [State.passedTo, s.now_heard]
    rfl
  rw [is, s.heard_eq f]
  generalize (s.heard f).links = links
  exact ⟨rfl, fun k => State.stall_markReached _ _ k, rfl, fun h => State.hook_markReached _ _ h,
    fun b => State.runner_markReached _ _ b, fun n => State.lane_markReached _ _ n,
    fun k => State.channel_markReached _ _ k, rfl, rfl, rfl, rfl, rfl⟩

/-- Settles O55: SET_CLOCK takes what it passes, stage by stage, and a tenth marks what it comes to. -/
theorem theClockIsSetAndTicks : Obligations.TheClockIsSetAndTicks := by
  refine ⟨fun s f day tenth manages days => ?_, fun s on quiet => ?_⟩
  · have request {u : State} {o : Answer} (taken : (s.heard f).requestClock ⟨day, tenth⟩ = (u, o)) :
        exec (.setClock f (.fields ⟨day, tenth⟩)) s = .next ((s.heard f).replied f .setClock o (.clock ⟨day, tenth⟩) u) :=
      manages.request (fun x s => s.requestClock x) taken
    have fits (low : tenth < 864000) : (s.heard f).requestClock ⟨day, tenth⟩ = ((s.heard f).setClock ⟨day, tenth⟩, .done) :=
      if_pos ⟨days, low⟩
    refine ⟨fun high => request (if_neg fun both => ?_), fun low quiet back => ?_, fun low quiet later => ?_,
      fun low quiet later distinct once scheduled => ?_⟩
    · exact absurd both.2 (Nat.not_lt.mpr high)
    · refine request ((fits low).trans ?_)
      rw [State.setClock_back (quiet.unreached.heard f) (by rwa [s.now_heard])]
      rfl
    all_goals
      have h := quiet.unreached
      have step := request ((fits low).trans (congrArg (·, Answer.done)
        (State.setClock_later (h.heard f) (by rwa [s.now_heard]))))
      have marked := s.passedTo_marked f ⟨day, tenth⟩
      generalize (s.heard f).passedTo ⟨day, tenth⟩ = m at step marked
      obtain ⟨A, B, C, D, E, F, G, stages⟩ := State.takeReached_stages (m := m) fun k => by rw [marked.channel]; exact h.due k
      rw [stages.taken] at step
      have rest := stages.rest
      obtain ⟨T, pulsed⟩ := stages.pulses.fields
      obtain ⟨R, W, stored⟩ := stages.confirmed.fields
      obtain ⟨H, released⟩ := stages.keysBack.fields
      have channel (k : Nat) : F.channel k = m.channel k := congrArg (nth · k Channel.cold) rest.timers
      have keys : F.keys = B.keys := by
        rw [← stages.released]
        refine (forEach_keeps (fun v : State => v.keys = E.keys) _ _ E (fun n v is => (v.releaseEntry_keys n).trans is) rfl).trans ?_
        exact stages.overdue.keys.trans (stages.cleared.keys.trans stages.offers.keys)
      have hook (x : Nat) : G.hook x = B.hook x := by
        rw [pulsed]
        exact congrArg (fun k : Keys => nth k.hooks x Hook.cold) keys
      have before (x : Nat) : A.hook x = { s.hook x with releaseBy := (s.hook x).releaseBy.map (·.mark (s.passes ⟨day, tenth⟩)) } := by
        rw [stored]
        exact marked.hook x
    · refine ⟨_, step, ?_, fun k inside => ?_, fun x d inside state deadline after by_ => ?_, ?_, ?_⟩
      · show G.now = _
        rw [pulsed]
        exact rest.clock.trans marked.now
      · have is : G.channel k = _ := stages.pulses.channel k
        rw [channel, marked.channel] at is
        show (G.channel k).counter = _ ∧ (G.channel k).state = _ ∧ (G.channel k).elapsed = _
        rw [is]
        split <;> exact ⟨rfl, rfl, rfl⟩
      · have is := stages.keysBack.back x (by
          rw [before, isReached_mark (h.hook x)]
          exact ⟨_, deadline, by simp [State.passes, after, by_]⟩) (by rw [before]; exact state)
        show (G.hook x).custody = _ ∧ (G.hook x).runner = _ ∧ (G.hook x).releaseBy = _
        rw [hook, is]
        exact ⟨rfl, rfl, rfl⟩
      · show G.calls.estimates = _
        rw [pulsed]
        exact rest.estimates.trans marked.estimates
      · show G.events.flags = _
        rw [pulsed]
        exact rest.flags.trans marked.flags
    · intro passed waits
      obtain ⟨once', mem, rests⟩ : (passedTickets (s.passes ⟨day, tenth⟩) s.calls.schedule).Nodup ∧ _ ∧ _ :=
        ⟨passedTickets_nodup once _, fun y => mem_passedTickets h.entry (s.passes ⟨day, tenth⟩) (y := y),
          markEntries_rest h.entry (s.passes ⟨day, tenth⟩) once⟩
      have ticketsC : C.tickets = s.tickets := by
        rw [stages.offers.tickets, released, stored]
        exact marked.tickets
      have arbiterC : C.arbiter = m.arbiter := by
        rw [stages.offers.arbiter, released, stored]
      have callsC : C.calls = m.calls := by
        rw [stages.offers.calls, released, stored]
      have dispatchB : B.dispatch = m.dispatch := by rw [released, stored]
      have stallsE : E.stalls = A.stalls := by
        rw [stages.overdue.stalls, stages.cleared.stalls, stages.offers.stalls, released]
      -- The ticket of a number, if it asks for no lane, as it stands when the lanes are cleared.
      have ticketD (c : Ticket) (found : s.ticket c.number = some c) (asks : c.wantsLane = false) :
          D.ticket c.number = some c := by
        have records := State.recordsOf_congr ticketsC c.number
        refine (State.ticket_of_records (stages.cleared.records _ fun d listed => ?_)).trans
          ((State.ticket_congr ticketsC _).trans found)
        obtain ⟨old, own⟩ := State.mem_recordsOf.mp listed
        rw [eq_of_key (key := (·.number)) distinct (ticketsC ▸ old) (List.mem_of_find?_eq_some found) own]
        exact asks
      have judged (c : Ticket) : D.isOverdue c = true ↔ c.state = .atCurb ∧ c.overduePending = true ∧
          ∃ d, c.atCurbAt = some d ∧ (d.plusSeconds (60 * s.params.curbHold)).notAfter ⟨day, tenth⟩ = true := by
        rw [State.isOverdue_iff, stages.restD.params, marked.params, show D.now = ⟨day, tenth⟩ from
          stages.restD.clock.trans marked.now]
      have entriesE : E.calls.schedule = markEntries (s.passes ⟨day, tenth⟩) s.calls.schedule := by
        rw [stages.overdue.calls, stages.cleared.schedule, callsC, marked.schedule]
      have entries : E.EntriesReleased F (passedTickets (s.passes ⟨day, tenth⟩) s.calls.schedule) := by
        rw [← stages.released, State.releaseAllReached, entriesE]
        refine State.releaseEntries_released _ once' fun y listed => ?_
        obtain ⟨e, old, -, rfl⟩ := (mem y).mp listed
        obtain ⟨c, found, state⟩ := Option.map_eq_some_iff.mp (scheduled e old)
        obtain own := State.ticket_number found
        rw [← own] at found ⊢
        have kept := stages.overdue.rests c (ticketD c found (by simp [Ticket.wantsLane, state]))
          (Bool.eq_false_iff.mpr fun over_ => by simpa [state] using ((judged c).mp over_).1)
        rw [kept]
        exact congrArg some state
      have clockE : E.now = ⟨day, tenth⟩ := entries.clock.symm.trans (rest.clock.trans marked.now)
      have raised {e : Event} (listed : e ∈ F.events.waiting) : e ∈ G.events.waiting := by
        rw [pulsed]
        exact listed
      have stalls : G.stalls = A.stalls := by
        rw [pulsed]
        exact entries.stalls.trans stallsE
      have runnerB (b : Nat) : B.runner b = _ := (State.runner_congr dispatchB b).trans (marked.runner b)
      have runnerE (b : Nat) : E.runner b = C.runner b :=
        State.runner_congr (stages.overdue.dispatch.trans stages.cleared.dispatch) b
      have runner (b : Nat) (busy : (C.runner b).state ≠ .ready) : G.runner b = C.runner b := by
        rw [pulsed]
        exact (entries.runners b (by rwa [runnerE])).trans (runnerE b)
      have laneC (n : Nat) : C.lane n = _ := (State.lane_congr arbiterC n).trans (marked.lane n)
      have lane (n : Nat) : G.lane n = D.lane n := by
        rw [pulsed]
        exact State.lane_congr (entries.arbiter.trans stages.overdue.arbiter) n
      refine ⟨_, step, fun k => ?_, ?_, fun k d deadline past empty => ?_, fun x missed => ?_,
        fun b n kind d offered task deadline past => ?_, fun b busy missed => ?_, fun n d clearing deadline past => ?_,
        fun n taken missed => ?_, fun c d found state pending came => ?_, ?_, fun e old past => ?_, fun k inside missed => ?_,
        fun k d inside deadline past => ?_, ?_⟩
      · refine (State.stall_congr stalls k).trans ((stages.confirmed.stall k).trans ?_)
        rw [marked.stall, filter_mark (h.stall k)]
        rfl
      · refine (congrArg StallMap.free stalls).trans ?_
        rw [stored]
        exact marked.free
      · refine raised (stages.fromA _ (stages.confirmed.raised k ?_ (by rw [marked.stall]; exact empty)))
        rw [marked.stall, isReached_mark (h.stall k)]
        exact ⟨d, deadline, past⟩
      · have still : A.hook x = s.hook x := by rw [before, mark_missed (hit := s.passes ⟨day, tenth⟩) (h.hook x) missed]
        exact (hook x).trans ((stages.keysBack.waits x (by rw [still]; exact h.hook x)).trans still)
      · obtain ⟨expired, none, told⟩ := stages.offers.expired b n kind (by rw [runnerB]; exact offered)
          (by rw [runnerB]; exact task) (by
            rw [runnerB, isReached_mark (h.runner b)]
            exact ⟨d, deadline, past⟩)
        have silent : (C.runner b).state = .silent := by rw [expired]; rfl
        refine ⟨(runner b (by rw [silent]; nofun)).trans (expired.trans ?_), raised (stages.fromC _ told), fun w own => ?_⟩
        · rw [runnerB]
          rfl
        · have free : E.Unoffered b n := by
            rw [State.Unoffered, stages.overdue.dispatch, stages.cleared.dispatch]
            exact none
          have listed := entries.unoffered b n (by rw [runnerE, silent]; nofun) free
          have own : F.task n = some w := by
            rw [pulsed] at own
            exact own
          exact listed w (List.mem_of_find?_eq_some own) (by simpa using List.find?_some own)
      · have still : B.runner b = s.runner b := by rw [runnerB, mark_missed (hit := s.passes ⟨day, tenth⟩) (h.runner b) missed]
        have same := stages.offers.waits b (by rw [still]; exact busy) (by rw [still]; exact h.runner b)
        exact (runner b (by rw [same, still]; exact busy)).trans (same.trans still)
      · obtain ⟨none, state⟩ := stages.cleared.freed n (by rw [laneC]; exact clearing) (by
          rw [laneC, isReached_mark (h.lane n)]
          exact ⟨d, deadline, past⟩)
        show (G.lane n).clearingBy = _ ∧ ((G.lane n).state = _ ∨ (G.lane n).state = _)
        rw [lane]
        exact ⟨none, state⟩
      · have still : C.lane n = s.lane n := by rw [laneC, mark_missed (hit := s.passes ⟨day, tenth⟩) (h.lane n) missed]
        exact (lane n).trans ((stages.cleared.waits n (by rw [still]; exact taken) (by rw [still]; exact h.lane n)).trans still)
      · have foundD := ticketD c found (by simp [Ticket.wantsLane, state])
        have foreign : c.number ∉ passedTickets (s.passes ⟨day, tenth⟩) s.calls.schedule := fun listed => by
          obtain ⟨e, old, -, own⟩ := (mem _).mp listed
          have waits := scheduled e old
          rw [own, found, Option.map_some, state] at waits
          cases waits
        have ticket : G.ticket c.number = E.ticket c.number := by
          rw [pulsed]
          exact entries.tickets _ foreign
        refine ⟨fun past => ?_, fun early => ?_⟩
        · obtain ⟨edited, told⟩ := stages.overdue.marked c foundD ((judged c).mpr ⟨state, pending, d, came, past⟩)
          exact ⟨ticket.trans edited, raised (stages.fromE _ told)⟩
        · refine ticket.trans (stages.overdue.rests c foundD (Bool.eq_false_iff.mpr fun over_ => ?_))
          obtain ⟨-, -, d', came', past⟩ := (judged c).mp over_
          rw [Option.some.inj (came'.symm.trans came), early] at past
          cases past
      · show G.calls.schedule = _
        rw [pulsed]
        refine entries.schedule.trans ?_
        rw [entriesE]
        exact rests
      · have listed := (mem e.ticket).mpr ⟨e, old, past, rfl⟩
        have called := entries.called _ listed
        have tasks := entries.tasks _ listed
        rw [clockE] at called tasks
        refine ⟨?_, ?_, raised (entries.raised _ listed)⟩
        · show (G.ticket e.ticket).map _ = _
          rw [pulsed]
          exact called
        · show ∃ w ∈ G.dispatch.tasks, _
          rw [pulsed]
          exact tasks
      · have still : F.channel k = s.channel k := by rw [channel, marked.channel, mark_missed (hit := s.passes ⟨day, tenth⟩) (h.pulse k) missed]
        refine (stages.pulses.channel k).trans ?_
        rw [still, h.pulse k]
        rfl
      · refine (stages.pulses.channel k).trans ?_
        rw [channel, marked.channel, if_pos ((isReached_mark (hit := s.passes ⟨day, tenth⟩) (h.pulse k)).mpr ⟨d, deadline, past⟩)]
      · exact congrArg (fun r : Station => r.manageReply.map fun r => (r.code, r.outcome))
          (State.station_setStation_same _ _ _ manages.1.address.1 manages.1.address.2)
  · have h := quiet.unreached
    intro mark
    have step : exec .clockTick s = .next s.ticked := next_congr ((if_pos on).trans h.tick)
    let now := s.now.plus 1
    have marks {x : Option Deadline} (waits : isReached x = false) : x.map (·.mark (· == now)) = mark now x := by
      rw [mark_unreached waits]
      simp only [mark, beq_eq_decide]
    have stall (k : Nat) : s.ticked.stall k = { s.stall k with confirmBy := mark now (s.stall k).confirmBy } := by
      rw [← marks (h.stall k)]
      exact State.stall_markReached (s.putClock now) _ k
    have channel (k : Nat) : s.ticked.channel k =
        ({ s.channel k with pulseEnd := mark now (s.channel k).pulseEnd } : Channel).tenthPassed := by
      rw [← marks (h.pulse k)]
      exact s.channel_ticked k
    refine ⟨_, step, (SiteTime.plus_one s.now).1, (SiteTime.plus_one s.now).2, rfl, rfl, rfl, rfl,
      fun k => (congrArg Stall.state (stall k)).trans rfl, stall, fun x => ?_, fun b => ?_, fun n => ?_, fun k => ?_, ?_, rfl, rfl, rfl, rfl, rfl,
      rfl, fun k inside => ?_⟩
    · show _ = { s.hook x with releaseBy := mark now (s.hook x).releaseBy }
      rw [← marks (h.hook x)]
      exact State.hook_markReached (s.putClock now) _ x
    · show _ = { s.runner b with offerBy := mark now (s.runner b).offerBy }
      rw [← marks (h.runner b)]
      exact State.runner_markReached (s.putClock now) _ b
    · show _ = { s.lane n with clearingBy := mark now (s.lane n).clearingBy }
      rw [← marks (h.lane n)]
      exact State.lane_markReached (s.putClock now) _ n
    · rw [channel]
      exact Channel.tenthPassed_output _
    · refine List.map_congr_left fun e mem => ?_
      show { e with reached := e.reached || (e.release == now) } = _
      rw [h.entry e mem, Bool.false_or, beq_eq_decide]
      rfl
    · intro period
      have same : period = (s.channel k).clock.period := by
        simp only [period]
        cases (s.channel k).clock <;> rfl
      have due := h.due k
      rw [channel, same]
      generalize mark now (s.channel k).pulseEnd = ends
      generalize s.channel k = c at *
      refine ⟨fun still => ?_, fun counts timed => ⟨fun within => ?_, fun full mode => ?_, fun full mode => ?_⟩⟩
      · rw [Channel.tenthPassed_still (c := { c with pulseEnd := ends }) still]
        exact ⟨rfl, rfl, rfl, due⟩
      · rw [Channel.tenthPassed_within (c := { c with pulseEnd := ends }) counts timed within]
        exact ⟨rfl, rfl, due⟩
      · rw [Channel.tenthPassed_capture (c := { c with pulseEnd := ends }) counts timed full mode]
        exact ⟨rfl, rfl⟩
      · rw [Channel.tenthPassed_down (c := { c with pulseEnd := ends }) counts timed full mode]
        split
        next last => exact ⟨rfl, fun more => absurd last (by simp only; omega), fun _ => rfl⟩
        next more => exact ⟨rfl, fun _ => ⟨rfl, due⟩, fun last => absurd last more⟩

end Sys2Proof.Machine
end

section
/-! SUPPORT for the obligation about starts: the state that the blocks of a retained start leave, and what all the work that
they hand on keeps of it. -/

namespace Sys2Proof.Machine

open Sys2Proof

/-! ### Boards owed again (R143, R144) -/

theorem mapBank_id {α : Type} {n : Nat} (v : Vector α n) : mapBank v id = v := by
  rcases v with ⟨⟨l⟩, size⟩
  simp [mapBank]

/-- A change of station records that leaves what is loaded and what is owed but for the boards. -/
structure OwesBoards (f : Station → Station) : Prop where
  record : KeepsRecord f
  owed : KeepsOwed f

theorem OwesBoards.id : OwesBoards id := ⟨fun _ => ⟨rfl, rfl, rfl, rfl, rfl, rfl⟩, fun _ => ⟨rfl, rfl, rfl, rfl⟩⟩

theorem State.mapStations_id (s : State) : s.mapStations id = s := by
  rw [State.mapStations, mapBank_id]

theorem State.mapStations_twice (s : State) (f g : Station → Station) :
    (s.mapStations f).mapStations g = s.mapStations (g ∘ f) := by
  simp [State.mapStations, mapBank]

theorem State.oweVacancy_owes (s : State) : ∃ f, OwesBoards f ∧ s.oweVacancy = s.mapStations f :=
  ⟨_, ⟨fun r => by split <;> simp, fun r => by split <;> simp⟩, rfl⟩

theorem State.boardSince_owes (s before : State) : ∃ f, OwesBoards f ∧ s.boardSince before = s.mapStations f := by
  unfold State.boardSince
  split
  · exact ⟨id, .id, s.mapStations_id.symm⟩
  · exact ⟨_, ⟨fun r => by split <;> simp, fun r => by split <;> simp⟩, rfl⟩

/-! ### The blocks of a retained start, but for the boards owed (R203) -/

/-- The stall map after a retained start that frees the stalls `freed` (R20). -/
def State.stallsAtStart (s : State) (freed : List Nat) : StallMap :=
  let records := forEach freed (fun k v => setNth v k
    { nth v k Stall.cold with state := .free, ticket := none, confirmed := false }) (mapBank s.stalls.records s.stallAtStart)
  { records := records, free := freeCounts records.toList }

/-- The state that the blocks of a retained start leave, before a board is owed. -/
def State.blocksAtStart (s : State) (strap : Fin 16) : State :=
  let swept : State := { s.startEdges strap with stalls := (s.startEdges strap).stallsAtStart s.freedTargets }
  swept.startTickets.startKeys.startDispatch.startArbiter.startBoard

theorem State.startStalls_owes (s : State) (freed : List Nat) :
    ∃ f, OwesBoards f ∧ s.startStalls freed = { s with stalls := s.stallsAtStart freed }.mapStations f := by
  unfold State.startStalls
  dsimp only
  split
  · exact ⟨id, .id, (State.mapStations_id _).symm⟩
  · exact State.oweVacancy_owes _

theorem State.startBlocks_owes (s : State) (strap : Fin 16) :
    ∃ f, OwesBoards f ∧ s.startBlocks strap = (s.blocksAtStart strap).mapStations f := by
  obtain ⟨f, owes, swept⟩ := (s.startEdges strap).startStalls_owes s.freedTargets
  obtain ⟨g, owes', board⟩ := State.boardSince_owes
    (((s.startEdges strap).startStalls s.freedTargets).startTickets.startKeys.startDispatch.startArbiter.startBoard) s
  refine ⟨g ∘ f, ⟨fun r => ?_, fun r => ?_⟩, ?_⟩
  · obtain ⟨h1, h2, h3, h4, h5, h6⟩ := owes.record r
    obtain ⟨g1, g2, g3, g4, g5, g6⟩ := owes'.record (f r)
    exact ⟨g1.trans h1, g2.trans h2, g3.trans h3, g4.trans h4, g5.trans h5, g6.trans h6⟩
  · obtain ⟨h1, h2, h3, h4⟩ := owes.owed r
    obtain ⟨g1, g2, g3, g4⟩ := owes'.owed (f r)
    exact ⟨g1.trans h1, g2.trans h2, g3.trans h3, g4.trans h4⟩
  · rw [State.startBlocks, board, swept]
    exact (s.blocksAtStart strap).mapStations_twice f g

/-! ### What the work after the blocks keeps (R164, R179, R194) -/

/-- The edges of the controller in state `t` are those a retained start from `s` leaves. -/
structure State.EdgesAtStart (s : State) (strap : Fin 16) (t : State) : Prop where
  waiting : t.pending = s.pending
  params : t.params = s.params
  power : t.power = s.power
  estimates : t.calls.estimates = s.calls.estimates
  clock : t.now = s.now
  issue : t.issue = s.issue
  masks : t.events.masks = s.events.masks
  routes : t.events.routes = s.events.routes
  flags : t.events.flags = Vector.replicate _ false
  latches : t.events.latches = Vector.replicate _ none
  passTable : t.links.passTable = s.links.passTable
  strap : t.links.strap = strap
  curb : t.links.curb = PortState.cold
  deck : t.links.deck = PortState.cold
  timers : t.timers = mapBank s.timers Channel.atStart
  lifts : t.arbiter.lifts = Vector.replicate _ Lift.cold
  stations : ∃ f, OwesBoards f ∧ t.links.stations = mapBank (mapBank s.links.stations Station.atStart) f

theorem State.EdgesAtStart.marked {s t : State} {strap : Fin 16} (h : s.EdgesAtStart strap t) {f : Station → Station}
    (owes : OwesBoards f) : s.EdgesAtStart strap (t.mapStations f) where
  __ := h
  stations := by
    obtain ⟨g, owes', is⟩ := h.stations
    refine ⟨f ∘ g, ⟨fun r => ?_, fun r => ?_⟩, ?_⟩
    · obtain ⟨h1, h2, h3, h4, h5, h6⟩ := owes'.record r
      obtain ⟨g1, g2, g3, g4, g5, g6⟩ := owes.record (g r)
      exact ⟨g1.trans h1, g2.trans h2, g3.trans h3, g4.trans h4, g5.trans h5, g6.trans h6⟩
    · obtain ⟨h1, h2, h3, h4⟩ := owes'.owed r
      obtain ⟨g1, g2, g3, g4⟩ := owes.owed (g r)
      exact ⟨g1.trans h1, g2.trans h2, g3.trans h3, g4.trans h4⟩
    · rw [State.mapStations, is]
      simp [mapBank]

theorem edgesAtStart_tableKeeps (s : State) (strap : Fin 16) : TableKeeps (s.EdgesAtStart strap) where
  dispatch _ hs := { hs with }
  board _ hs := { hs with }
  raised _ _ _ hs := { hs with }
  marks _ record owed hs := hs.marked ⟨record, owed⟩
  putStall k r _ hs := State.putStall_of_writes (P := s.EdgesAtStart strap) (fun _ hs => { hs with }) (fun _ hs => { hs with })
    (fun {u} hs => by
      obtain ⟨f, owes, is⟩ := u.oweVacancy_owes
      exact is ▸ hs.marked owes) k r hs
  tickets _ _ hs := { hs with }
  unplaced _ _ hs := { hs with }
  hooks _ hs := { hs with }
  lanes _ hs := { hs with }
  schedule _ hs := { hs with }

theorem State.blocksAtStart_edges (s : State) (strap : Fin 16) : s.EdgesAtStart strap (s.blocksAtStart strap) := by
  constructor
  case stations => exact ⟨id, .id, (mapBank_id _).symm⟩
  all_goals rfl

theorem TableKeeps.bindVacant {P : State → Prop} (h : TableKeeps P) {s : State} (hs : P s) : P s.bindVacant :=
  forEach_keeps P _ _ s (fun p _ => h.handPanelHooks p) hs

theorem State.retainedStart_edges (s : State) (strap : Fin 16) : s.EdgesAtStart strap (s.retainedStart strap) := by
  have keeps := edgesAtStart_tableKeeps s strap
  obtain ⟨f, owes, started⟩ := s.startBlocks_owes strap
  have blocks : s.EdgesAtStart strap (s.startBlocks strap) := started ▸ (s.blocksAtStart_edges strap).marked owes
  have handed := keeps.attemptUnplaced (forEach_keeps _ s.freedTargets (fun k s => s.handOn k) _ (fun k _ => keeps.handOn k) blocks)
  exact keeps.takeOverdue (keeps.releaseAllReached (keeps.schedule _ (keeps.laneGrantCheck (keeps.bindVacant handed))))

/-! ### Nobody on duty, and no key away (R82, R84, R104) -/

/-- No runner is on duty, no task is offered or held, and no hook is RELEASED or OUT. -/
structure State.Dormant (now : SiteTime) (t : State) : Prop where
  runners : ∀ b, 1 ≤ b → b ≤ 32 → t.runner b = Runner.atStart now
  places : ∀ w ∈ t.dispatch.tasks, w.place = .queued ∨ w.place = .backlog
  hooks : ∀ h, h < 576 → (t.hook h).custody ≠ .released ∧ (t.hook h).custody ≠ .out

section

variable {now : SiteTime} {t : State}

theorem State.Dormant.of_eq (h : t.Dormant now) {u : State} (dispatch : u.dispatch = t.dispatch) (keys : u.keys = t.keys) :
    u.Dormant now where
  runners b low high := (State.runner_congr dispatch b).trans (h.runners b low high)
  places w mem := h.places w (dispatch ▸ mem)
  hooks k low := by
    rw [State.hook, keys]
    exact h.hooks k low

theorem State.Dormant.of_tasks (h : t.Dormant now) {u : State} (runners : u.dispatch.runners = t.dispatch.runners)
    (places : ∀ w ∈ u.dispatch.tasks, w.place = .queued ∨ w.place = .backlog) (keys : u.keys = t.keys) : u.Dormant now where
  runners b low high := by rw [State.runner, runners]; exact h.runners b low high
  places := places
  hooks k low := by
    rw [State.hook, keys]
    exact h.hooks k low

/-- Nobody is READY, so that a pairing does nothing (R91). -/
theorem State.Dormant.pair (h : t.Dormant now) : t.pair = t := by
  have none : badges.any t.offerable = false := by
    rw [List.any_eq_false]
    intro b mem
    obtain ⟨low, high⟩ := mem_badges.mp mem
    simp [State.offerable, h.runners b low high, Runner.atStart]
  exact forEach_same _ fun n _ => by simp [State.pairTask, none]

theorem State.Dormant.makeTask (h : t.Dormant now) (kind : TaskKind) (n : Nat) (age : SiteTime) :
    (t.makeTask kind n age).Dormant now := by
  have listed {place : TaskPlace} (free : place = .queued ∨ place = .backlog) : State.Dormant now
      { t with dispatch.tasks := t.dispatch.tasks ++ [{ kind, ticket := n, age, declined := [], place }] } :=
    h.of_tasks rfl (fun w mem => by
      rcases List.mem_append.mp mem with old | new
      · exact h.places w old
      · rw [List.mem_singleton.mp new]
        exact free) rfl
  unfold State.makeTask
  dsimp only
  split
  · have queued := listed (place := .queued) (.inl rfl)
    rw [queued.pair]
    exact queued
  · exact (listed (place := .backlog) (.inr rfl)).of_eq rfl rfl

theorem State.Dormant.promote (h : t.Dormant now) : t.promote.Dormant now := by
  unfold State.promote
  split
  · split
    · exact h
    next w first =>
      have promoted : State.Dormant now ((t.modifyTask w.ticket fun t => { t with place := .queued }).modifyTicket w.ticket
          fun k => { k with backlog := false }) := h.of_tasks rfl (fun v mem => by
        obtain ⟨x, old, rfl⟩ := List.mem_map.mp mem
        split
        exacts [.inl rfl, h.places x old]) rfl
      rw [promoted.pair]
      exact promoted
  · exact h

theorem State.Dormant.withdrawTask (h : t.Dormant now) (n : Nat) : (t.withdrawTask n).Dormant now := by
  have dropped : (t.dropTask n).Dormant now := h.of_tasks rfl (fun w mem => h.places w (List.mem_filter.mp mem).1) rfl
  unfold State.withdrawTask
  split
  · exact h
  next w own =>
    rcases h.places w (List.mem_of_find?_eq_some own) with place | place <;> simp only [place]
    exacts [dropped.promote, dropped.of_eq rfl rfl]

theorem State.Dormant.moveTicket (h : t.Dormant now) (n : Nat) (x : TicketState) : (t.moveTicket n x).Dormant now := by
  obtain ⟨-, -, -, -, keys, dispatch, -⟩ := t.moveTicket_frame n x
  exact h.of_eq dispatch keys

theorem State.Dormant.hold (h : t.Dormant now) (k n : Nat) : (t.hold k n).Dormant now := by
  obtain ⟨-, -, -, -, keys, dispatch, -⟩ := t.hold_frame k n
  exact h.of_eq dispatch keys

theorem State.Dormant.attemptTicket (h : t.Dormant now) (n : Nat) : (t.attemptTicket n).Dormant now := by
  unfold State.attemptTicket
  split
  · exact h
  · split
    · exact h
    next c _ k second _ =>
      have listed : State.Dormant now { t with unplaced := t.unplaced.filter (· != n) } := h.of_eq rfl rfl
      exact ((((listed.hold k n).of_eq (u := State.bindStall _ n k second) rfl rfl).moveTicket n .assigned).makeTask .park n _)

theorem State.Dormant.attemptUnplaced (h : t.Dormant now) : t.attemptUnplaced.Dormant now :=
  forEach_keeps (State.Dormant now) _ _ t (fun n _ held => held.attemptTicket n) h

theorem State.Dormant.handOn (h : t.Dormant now) (k : Nat) : (t.handOn k).Dormant now := by
  have placed := h.attemptUnplaced
  unfold State.handOn
  generalize t.attemptUnplaced = u at *
  unfold State.lookRestage
  split
  · split
    · split
      · exact placed
      next c _ =>
        exact (((placed.hold k c.number).of_eq (u := (u.hold k c.number).modifyTicket c.number fun t => { t with target := some k })
          rfl rfl).moveTicket c.number .restaging).makeTask .restage c.number u.now
    · exact placed
  · exact placed

theorem State.Dormant.toPodium (h : t.Dormant now) (n : Nat) : (t.toPodium n).Dormant now := by
  have edited : (t.modifyTicket n fun k => { k with lane := some 0, calledAt := some t.now }).Dormant now := h.of_eq rfl rfl
  exact edited.moveTicket n .atCurb

theorem State.Dormant.uncommitted (h : t.Dormant now) (c : Ticket) : (t.uncommitted c).Dormant now := by
  have withdrawn := h.withdrawTask c.number
  unfold State.uncommitted
  split
  · exact withdrawn
  next k _ =>
    have freed : State.Dormant now (((t.withdrawTask c.number).releaseStall k c.number).modifyTicket c.number
        fun t => { t with stall := none }) := by
      obtain ⟨-, -, -, -, keys, dispatch, -⟩ := (t.withdrawTask c.number).releaseStall_frame k c.number
      exact withdrawn.of_eq dispatch keys
    split
    exacts [freed.handOn k, freed]

theorem State.Dormant.callTicket (h : t.Dormant now) (c : Ticket) (time : SiteTime) : (t.callTicket c time).1.Dormant now := by
  by_cases called : c.isCalled
  · rwa [State.callTicket_isCalled called]
  · rcases c.callable_cases called with rests | ⟨states, pending⟩ | state | ⟨state, pending⟩
    · rw [State.callTicket_rests rests]
      have edited : State.Dormant now ((t.unschedule c.number).modifyTicket c.number fun k =>
        { k with calledAt := some time, promise := (t.unschedule c.number).quoteAt c time }) := h.of_eq rfl rfl
      exact (edited.moveTicket c.number .called).makeTask .fetch c.number time
    · rw [State.callTicket_pending time states pending]
      exact h.of_eq rfl rfl
    · rw [State.callTicket_unplaced time state]
      exact (h.of_eq (u := { t with unplaced := t.unplaced.filter (· != c.number) }) rfl rfl).toPodium c.number
    · rw [State.callTicket_assigned time state pending]
      exact (h.uncommitted c).toPodium c.number

theorem State.Dormant.releaseEntry (h : t.Dormant now) (n : Nat) : (t.releaseEntry n).Dormant now := by
  have cleared : (t.unschedule n).Dormant now := h.of_eq rfl rfl
  unfold State.releaseEntry
  split
  exacts [cleared, (cleared.callTicket _ _).of_eq rfl rfl]

theorem State.Dormant.handHook (h : t.Dormant now) (k : Nat) : (t.handHook k).Dormant now := by
  unfold State.handHook
  split
  · split
    · exact h
    next c _ =>
      refine { runners := h.runners, places := h.places, hooks := fun j low => ?_ }
      by_cases same : k = j
      · subst same
        rw [show (t.bindHook k c.number).hook k = _ from State.hook_setHook_same _ _ _ low]
        simp
      · rw [show (t.bindHook k c.number).hook j = t.hook j from State.hook_setHook_ne _ _ _ _ same]
        exact h.hooks j low
  · exact h

theorem State.Dormant.bindVacant (h : t.Dormant now) : t.bindVacant.Dormant now :=
  forEach_keeps (State.Dormant now) _ _ t (fun _ _ held =>
    forEach_keeps (State.Dormant now) _ _ _ (fun k _ held => held.handHook k) held) h

theorem State.Dormant.laneGrantCheck (h : t.Dormant now) : t.laneGrantCheck.Dormant now := by
  obtain ⟨-, -, -, -, keys, dispatch, -⟩ := t.laneGrantCheck_frame
  exact h.of_eq dispatch keys

theorem State.Dormant.siteClockCheck (h : t.Dormant now) : t.siteClockCheck.Dormant now :=
  forEach_keeps (State.Dormant now) _ _ _ (fun n u held => by
      obtain ⟨-, keys, dispatch, -⟩ := u.overdueReached_frame n
      exact held.of_eq dispatch keys)
    (forEach_keeps (State.Dormant now) _ _ _ (fun n _ held => held.releaseEntry n) (h.of_eq rfl rfl))

end

theorem Hook.atStart_custody (r : Hook) : r.atStart.custody ≠ .released ∧ r.atStart.custody ≠ .out := by
  unfold Hook.atStart
  split <;> simp_all

theorem State.blocksAtStart_dormant (s : State) (strap : Fin 16) : (s.blocksAtStart strap).Dormant s.now where
  runners b low high := by
    obtain ⟨i, rfl⟩ : ∃ i, b = i + 1 := ⟨b - 1, by omega⟩
    have inside : i < Config.runnerCount := by simp only [Config.runnerCount]; omega
    simp [State.runner, nth1, nth, State.blocksAtStart, State.startBoard, State.startArbiter, State.startDispatch, inside]
    rfl
  places w mem := by
    rcases List.mem_append.mp mem with first | late
    · have made := (sortBy_perm _ _).mem_iff.mp (List.mem_of_mem_take first)
      obtain ⟨c, -, is⟩ := List.mem_filterMap.mp made
      unfold taskAtStart at is
      split at is <;> simp only [Option.some.injEq, reduceCtorEq] at is <;> subst is <;> exact .inl rfl
    · obtain ⟨v, -, rfl⟩ := List.mem_map.mp late
      exact .inr rfl
  hooks h low := by
    rw [show (s.blocksAtStart strap).hook h = (s.hook h).atStart from nth_mapBank _ _ _ _ low]
    exact (s.hook h).atStart_custody

theorem State.retainedStart_dormant (s : State) (strap : Fin 16) : (s.retainedStart strap).Dormant s.now := by
  obtain ⟨f, -, started⟩ := s.startBlocks_owes strap
  have blocks : (s.startBlocks strap).Dormant s.now := started ▸ (s.blocksAtStart_dormant strap).of_eq rfl rfl
  have handed := forEach_keeps (State.Dormant s.now) s.freedTargets (fun k s => s.handOn k) _ (fun k _ held => held.handOn k) blocks
  exact handed.attemptUnplaced.bindVacant.laneGrantCheck.siteClockCheck

/-- What every retained start keeps and clears. -/
theorem State.retainedStart_from (s : State) (strap : Fin 16) : s.RetainedFrom (s.retainedStart strap) := by
  have edges := s.retainedStart_edges strap
  have dormant := s.retainedStart_dormant strap
  generalize s.retainedStart strap = t at *
  obtain ⟨f, owes, stations⟩ := edges.stations
  exact {
    waiting := edges.waiting, params := edges.params, estimates := edges.estimates, clock := edges.clock, issue := edges.issue,
    masks := edges.masks, routes := edges.routes, passTable := edges.passTable
    flags := fun k low => by simp [State.flag, edges.flags, nth, low]
    latches := fun n low => by simp [edges.latches, nth, low]
    stations := fun a low high => by
      obtain ⟨i, rfl⟩ : ∃ i, a = i + 1 := ⟨a - 1, by omega⟩
      have is : t.station (i + 1) = f (s.station (i + 1)).atStart := by
        rw [State.station, stations]
        exact (nth_mapBank _ _ _ _ high).trans (congrArg f (nth_mapBank _ _ _ _ high))
      rw [is]
      obtain ⟨segment, cls, permissions, served, presence, silent⟩ := owes.record (s.station (i + 1)).atStart
      obtain ⟨order, notice, service, -⟩ := owes.owed (s.station (i + 1)).atStart
      exact ⟨presence, silent, segment, cls, permissions, served, service, order, notice⟩
    ports := ⟨edges.curb, edges.deck⟩
    channels := fun k low => by
      rw [State.channel, edges.timers]
      exact nth_mapBank _ _ _ _ low
    runners := dormant.runners
    lifts := fun l low high => by
      obtain ⟨i, rfl⟩ : ∃ i, l = i + 1 := ⟨l - 1, by omega⟩
      have inside : i < Config.liftCount := high
      simp [State.lift, edges.lifts, nth1, nth, inside]
    hooks := dormant.hooks }

end Sys2Proof.Machine
end

section
/-! PROOFS of the obligation about starts: the memory that decides, and the tables that a retained start makes. -/

namespace Sys2Proof.Machine

open Sys2Proof

/-! ### Banks written record by record -/

theorem nth1_forEach_setNth1 {α : Type} {n : Nat} (f : Nat → α) (d : α) {xs : List Nat} (v : Vector α n) {i : Nat} (mem : i ∈ xs)
    (low : 1 ≤ i) (high : i ≤ n) : nth1 (forEach xs (fun j v => setNth1 v j (f j)) v) i d = f i :=
  forEach_settles (fun _ => True) (fun v : Vector α n => nth1 v i d = f i) mem (fun _ _ _ _ => trivial)
    (fun v _ => nth1_setNth1_same v i (f i) d low high) (fun j v held => by
      by_cases same : j = i
      · subst same
        exact nth1_setNth1_same v j (f j) d low high
      · rwa [nth1_setNth1_ne _ _ _ _ _ same]) trivial

/-! ### The tickets (R62, R63, R82) -/

/-- A ticket after a retained start, but for its backlog flag. -/
def State.ticketAtStart (s : State) (c : Ticket) : Ticket :=
  { c.atStart s.now with keyAlert := c.keyAlert || c.hook.any fun h => (s.hook h).custody == .out }

theorem Ticket.stateAtStart_curb (c : Ticket) : c.stateAtStart = .atCurb ↔ c.state = .atCurb := by
  unfold Ticket.stateAtStart
  cases c.state <;> simp <;> split <;> simp

theorem Ticket.atStart_mapsTo (c : Ticket) (now : SiteTime) : c.MapsTo (c.atStart now) := by
  constructor
  case kept => rintro (h | h | h | h | h | h | h) <;> simp [Ticket.atStart, Ticket.stateAtStart, h]
  case parking => intro h; simp [Ticket.atStart, Ticket.stateAtStart, h]
  case restaging => intro h; cases pending : c.callPending <;> simp [Ticket.atStart, Ticket.stateAtStart, h, pending]
  case fetching => intro h; cases bound : c.stall.isSome <;> simp [Ticket.atStart, Ticket.stateAtStart, h, bound]
  case driven => rintro (h | h) <;> simp [Ticket.atStart, Ticket.stateAtStart, h]

theorem Ticket.MapsTo.congr {c d e : Ticket} (h : c.MapsTo d) (state : e.state = d.state) (verify : e.verify = d.verify) :
    c.MapsTo e := by
  constructor <;> rw [state, verify]
  exacts [h.kept, h.parking, h.restaging, h.fetching, h.driven]

theorem Ticket.MapsTo.kept_eq {c : Ticket} {now : SiteTime} {out backlog : Bool} {d : Ticket}
    (is : d = { c.atStart now with keyAlert := c.keyAlert || out, backlog := backlog }) : d = c.kept d now out := by
  subst is
  simp only [Ticket.kept, Ticket.atStart, c.stateAtStart_curb]

/-- The ticket, flagged when it has a task among `late` (R89). -/
def Ticket.flaggedBy (late : List Task) (t : Ticket) : Ticket :=
  if late.any (·.ticket == t.number) then { t with backlog := true } else t

theorem Ticket.flaggedBy_eq (late : List Task) (t : Ticket) :
    t.flaggedBy late = { t with backlog := t.backlog || late.any (·.ticket == t.number) } := by
  unfold Ticket.flaggedBy
  split
  next named => rw [named, Bool.or_true]
  next named => rw [Bool.eq_false_iff.mpr named, Bool.or_false]

/-- The state after the first four blocks of a retained start. -/
def State.keyedAtStart (s : State) (strap : Fin 16) : State :=
  State.startKeys (State.startTickets
    { s.startEdges strap with stalls := (s.startEdges strap).stallsAtStart s.freedTargets })

/-- The tasks of a retained start in order, before their places. -/
def State.dueAtStart (s : State) (strap : Fin 16) : List Task :=
  sortBy (fun a b => earlier (a.age, a.ticket) (b.age, b.ticket)) ((s.keyedAtStart strap).tickets.filterMap taskAtStart)

/-- The tasks that a retained start puts in the backlog. -/
def State.lateAtStart (s : State) (strap : Fin 16) : List Task :=
  ((s.dueAtStart strap).drop 64).map fun t => { t with place := .backlog }

theorem State.alerted_eq (s : State) (c : Ticket) : (if s.hookOut c then { c with keyAlert := true } else c) =
    { c with keyAlert := c.keyAlert || c.hook.any fun h => (s.hook h).custody == .out } := by
  have out : s.hookOut c = c.hook.any fun h => (s.hook h).custody == .out := by
    unfold State.hookOut
    cases c.hook <;> rfl
  rw [out]
  split
  next gone => rw [gone, Bool.or_true]
  next here => rw [Bool.eq_false_iff.mpr here, Bool.or_false]

theorem State.keyedAtStart_tickets (s : State) (strap : Fin 16) :
    (s.keyedAtStart strap).tickets = s.tickets.map s.ticketAtStart :=
  List.map_map.trans (List.map_congr_left fun c _ => s.alerted_eq (c.atStart s.now))

theorem State.blocksAtStart_tickets (s : State) (strap : Fin 16) :
    (s.blocksAtStart strap).tickets = s.tickets.map fun c => (s.ticketAtStart c).flaggedBy (s.lateAtStart strap) := by
  have flagged : (s.blocksAtStart strap).tickets = (s.keyedAtStart strap).tickets.map (Ticket.flaggedBy (s.lateAtStart strap)) :=
    rfl
  rw [flagged, s.keyedAtStart_tickets, List.map_map]
  rfl

theorem State.mem_blocksAtStart {s : State} {strap : Fin 16} {d : Ticket} :
    d ∈ (s.blocksAtStart strap).tickets ↔ ∃ c ∈ s.tickets, (s.ticketAtStart c).flaggedBy (s.lateAtStart strap) = d := by
  rw [s.blocksAtStart_tickets, List.mem_map]

/-! ### The tasks (R104) -/

theorem taskAtStart_eq_some {k : Ticket} {w : Task} (h : taskAtStart k = some w) :
    w.place = .queued ∧ w.declined = [] ∧ k.number = w.ticket ∧ (w.kind = .park ∧ k.state = .assigned ∧ w.age = k.arrived ∨
      w.kind = .fetch ∧ k.state = .called ∧ w.age = k.calledAt.getD SiteTime.zero) := by
  unfold taskAtStart at h
  split at h <;> simp only [Option.some.injEq, reduceCtorEq] at h <;> subst h <;> simp_all

theorem State.mem_dueAtStart {s : State} {strap : Fin 16} {w : Task} :
    w ∈ s.dueAtStart strap ↔ ∃ c ∈ s.tickets, taskAtStart (s.ticketAtStart c) = some w := by
  rw [State.dueAtStart, (sortBy_perm _ _).mem_iff, List.mem_filterMap, s.keyedAtStart_tickets]
  simp

theorem State.blocksAtStart_tasks (s : State) (strap : Fin 16) :
    (s.blocksAtStart strap).dispatch.tasks = (s.dueAtStart strap).take 64 ++ s.lateAtStart strap := rfl

/-- Every task of a retained start is one of those due, in its place. -/
theorem State.due_of_started {s : State} {strap : Fin 16} {w : Task} (mem : w ∈ (s.blocksAtStart strap).dispatch.tasks) :
    ∃ v ∈ s.dueAtStart strap, w = { v with place := w.place } := by
  rcases List.mem_append.mp (s.blocksAtStart_tasks strap ▸ mem) with first | late
  · exact ⟨w, List.mem_of_mem_take first, rfl⟩
  · obtain ⟨v, old, rfl⟩ := List.mem_map.mp late
    exact ⟨v, List.mem_of_mem_drop old, rfl⟩

theorem State.due_queued {s : State} {strap : Fin 16} {w : Task} (mem : w ∈ s.dueAtStart strap) : w.place = .queued := by
  obtain ⟨c, -, is⟩ := State.mem_dueAtStart.mp mem
  exact (taskAtStart_eq_some is).1

theorem State.started_backlog_iff {s : State} {strap : Fin 16} {w : Task} :
    w ∈ (s.blocksAtStart strap).dispatch.tasks ∧ w.place = .backlog ↔ w ∈ s.lateAtStart strap := by
  rw [s.blocksAtStart_tasks, List.mem_append]
  constructor
  · rintro ⟨first | late, backlog⟩
    · rw [State.due_queued (List.mem_of_mem_take first)] at backlog
      cases backlog
    · exact late
  · intro late
    obtain ⟨v, -, rfl⟩ := List.mem_map.mp late
    exact ⟨.inr late, rfl⟩

theorem State.started_places {s : State} {strap : Fin 16} {i : Nat} {w : Task}
    (at_ : (s.blocksAtStart strap).dispatch.tasks[i]? = some w) : w.place = if i < 64 then .queued else .backlog := by
  rw [s.blocksAtStart_tasks, List.getElem?_append] at at_
  split at at_
  next inside =>
    have early : i < 64 := by
      rw [List.length_take] at inside
      omega
    rw [if_pos early]
    exact State.due_queued (List.mem_of_mem_take (List.mem_of_getElem? at_))
  next outside =>
    obtain ⟨v, mem, rfl⟩ := List.mem_map.mp (List.mem_of_getElem? at_)
    have long : 64 ≤ (s.dueAtStart strap).length := by
      by_contra short
      rw [List.drop_eq_nil_of_le (by omega)] at mem
      cases mem
    rw [List.length_take] at outside
    rw [if_neg (by omega)]

theorem State.started_order (s : State) (strap : Fin 16) :
    (s.blocksAtStart strap).dispatch.tasks.Pairwise fun v w => earlier (w.age, w.ticket) (v.age, v.ticket) = false := by
  have sorted : (s.dueAtStart strap).Pairwise fun v w => earlierKey (v.age, v.ticket) ≤ earlierKey (w.age, w.ticket) :=
    sortBy_sorted (key := fun t : Task => earlierKey (t.age, t.ticket)) (fun _ _ => earlier_iff _ _) _
  have keys : ((s.blocksAtStart strap).dispatch.tasks.map fun w => (w.age, w.ticket)) =
      (s.dueAtStart strap).map fun w => (w.age, w.ticket) := by
    rw [s.blocksAtStart_tasks, List.map_append, State.lateAtStart, List.map_map]
    conv_rhs => rw [← List.take_append_drop 64 (s.dueAtStart strap), List.map_append]
    rfl
  have ordered (l : List Task) : (l.map fun w => (w.age, w.ticket)).Pairwise (fun a b => earlier b a = false) ↔
      l.Pairwise fun v w => earlier (w.age, w.ticket) (v.age, v.ticket) = false := List.pairwise_map
  rw [← ordered, keys, ordered]
  exact sorted.imp fun le => Bool.eq_false_iff.mpr fun before => absurd ((earlier_iff _ _).mp before) (not_lt.mpr le)

/-! ### The stalls (R20) -/

theorem State.heldTarget_iff (s : State) (k : Nat) : s.heldTarget k (s.stall k) = true ↔ s.HeldAsTarget k := by
  unfold State.heldTarget State.HeldAsTarget
  cases own : (s.stall k).ticket with
  | none => simp
  | some n => cases found : s.ticket n <;> simp [found]

theorem State.mem_freedTargets {s : State} {k : Nat} : k ∈ s.freedTargets ↔ k < 640 ∧ s.HeldAsTarget k := by
  rw [← s.heldTarget_iff]
  simp only [State.freedTargets, List.mem_filterMap, Prod.exists, Option.ite_none_right_eq_some, Option.some.injEq,
    List.mem_zipIdx_iff_getElem?]
  constructor
  · rintro ⟨r, j, at_, held, rfl⟩
    obtain ⟨inside, is⟩ := List.getElem?_eq_some_iff.mp at_
    have low : j < 640 := by simpa using inside
    have same : s.stall j = r := by simpa [State.stall, nth, low] using is
    exact ⟨low, same ▸ held⟩
  · rintro ⟨low, held⟩
    exact ⟨s.stall k, k, by simp [State.stall, nth, low], held, rfl⟩

theorem State.HeldAsTarget.low {s : State} {k : Nat} (h : s.HeldAsTarget k) : k < 640 := by
  by_contra outside
  have cold : s.stall k = Stall.cold := nth_outside _ _ _ (not_lt.mp outside)
  have held := h.1
  rw [cold] at held
  cases held

theorem State.blocksAtStart_stall (s : State) (strap : Fin 16) (k : Nat) :
    (s.HeldAsTarget k → (s.blocksAtStart strap).stall k =
      { s.stallKept k with state := .free, ticket := none, confirmed := false }) ∧
    (¬ s.HeldAsTarget k → (s.blocksAtStart strap).stall k = s.stallKept k) := by
  have swept : nth (mapBank s.stalls.records s.stallAtStart) k Stall.cold = s.stallKept k := nth_mapBank_fixed _ rfl k
  have other (j : Nat) (ne : j ≠ k) (v : Vector Stall Config.stallCount) (is : nth v k Stall.cold = s.stallKept k) :
      nth (setNth v j { nth v j Stall.cold with state := .free, ticket := none, confirmed := false }) k Stall.cold =
        s.stallKept k := (nth_setNth_ne _ _ _ _ _ ne).trans is
  refine ⟨fun held => ?_, fun out => forEach_spares (fun v : Vector Stall Config.stallCount => nth v k Stall.cold = s.stallKept k)
    (fun mem => out (State.mem_freedTargets.mp mem).2) other swept⟩
  have low : k < Config.stallCount := held.low
  refine forEach_settles (fun v : Vector Stall Config.stallCount => nth v k Stall.cold = s.stallKept k)
    (fun v : Vector Stall Config.stallCount => nth v k Stall.cold =
      { s.stallKept k with state := .free, ticket := none, confirmed := false })
    (State.mem_freedTargets.mpr ⟨low, held⟩) other (fun v is => ?_) (fun j v is => ?_) swept
  · rw [nth_setNth_same _ _ _ _ low, is]
  · by_cases same : j = k
    · subst same
      rw [nth_setNth_same _ _ _ _ low, is]
    · rw [nth_setNth_ne _ _ _ _ _ same, is]

theorem State.blocksAtStart_counts (s : State) (strap : Fin 16) : (s.blocksAtStart strap).FreeCountsRight := by
  rw [State.freeCountsRight_iff]
  exact PerSize.get_freeCounts _

/-! ### The lanes (R126) -/

/-- What `laterAtCurb` compares: the later at-curb time, then the lower number. -/
def curbKey (t : Ticket) : (ℕ ×ₗ ℕ)ᵒᵈ ×ₗ ℕ := toLex (OrderDual.toDual (t.atCurbAt.getD SiteTime.zero).key, t.number)

theorem laterAtCurb_iff (a b : Ticket) : laterAtCurb a b = true ↔ curbKey a < curbKey b := by
  simp [laterAtCurb, curbKey, Prod.Lex.toLex_lt_toLex, SiteTime.before_iff, SiteTime.key_injective.eq_iff]

theorem State.blocksAtStart_lane (s : State) (strap : Fin 16) {n : Nat} (low : 1 ≤ n) (high : n ≤ 6) :
    (s.blocksAtStart strap).lane n = (s.blocksAtStart strap).laneAtStart n :=
  nth1_forEach_setNth1 (s.blocksAtStart strap).laneAtStart Lane.cold s.arbiter.lanes
    (by simp only [laneNumbers, oneTo, Config.laneCount, List.mem_map, List.mem_range]; exact ⟨n - 1, by omega, by omega⟩) low high

/-- A lane that some AT_CURB ticket has goes to the one that came last. -/
theorem State.laneAtStart_taken {s : State} {n : Nat} (taken : ∃ d ∈ s.tickets, d.state = .atCurb ∧ d.lane = some n) :
    ∃ d ∈ s.tickets, d.state = .atCurb ∧ d.lane = some n ∧
      s.laneAtStart n = { Lane.cold with state := .occupied, ticket := some d.number } ∧
      ∀ e ∈ s.tickets, e.state = .atCurb → e.lane = some n →
        (d.atCurbAt.getD SiteTime.zero).before (e.atCurbAt.getD SiteTime.zero) = false := by
  have mem_iff (d : Ticket) : d ∈ s.tickets.filter (fun t => t.state == .atCurb && t.lane == some n) ↔
      d ∈ s.tickets ∧ d.state = .atCurb ∧ d.lane = some n := by simp
  cases first : firstBy laterAtCurb (s.tickets.filter fun t => t.state == .atCurb && t.lane == some n) with
  | none =>
    obtain ⟨d, own⟩ := taken
    have empty := firstBy_eq_none_iff.mp first
    exact absurd ((mem_iff d).mpr own) (by simp [empty])
  | some d =>
    obtain ⟨mem, least⟩ := firstBy_least laterAtCurb_iff first
    obtain ⟨own, curb, lane⟩ := (mem_iff d).mp mem
    refine ⟨d, own, curb, lane, by rw [State.laneAtStart, first], fun e other curb' lane' => ?_⟩
    have le := least e ((mem_iff e).mpr ⟨other, curb', lane'⟩)
    have judged : laterAtCurb e d = false := Bool.eq_false_iff.mpr fun later => absurd ((laterAtCurb_iff _ _).mp later) (not_lt.mpr le)
    exact (Bool.or_eq_false_iff.mp judged).1

theorem State.laneAtStart_free {s : State} {n : Nat} (free : ∀ d ∈ s.tickets, d.state = .atCurb → d.lane ≠ some n) :
    s.laneAtStart n = Lane.cold := by
  have empty : s.tickets.filter (fun t => t.state == .atCurb && t.lane == some n) = [] :=
    List.filter_eq_nil_iff.mpr fun d mem own => by
      obtain ⟨curb, lane⟩ : d.state = .atCurb ∧ d.lane = some n := by simpa using own
      exact free d mem curb lane
  rw [State.laneAtStart, empty]
  rfl

/-! ### The tables together -/

theorem Hook.atStart_other {r : Hook} (held : r.custody ≠ .released) (here : r.custody ≠ .out) :
    r.atStart = { r with accepted := .unknown, pending := none } := by
  unfold Hook.atStart
  cases custody : r.custody <;> simp_all

theorem State.blocksAtStart_hook (s : State) (strap : Fin 16) (h : Nat) : (s.blocksAtStart strap).hook h = (s.hook h).atStart :=
  nth_mapBank_fixed _ rfl h

theorem State.blocksAtStart_tables (s : State) (strap : Fin 16) : s.RetainedTables (s.blocksAtStart strap) where
  tickets := by
    refine ⟨by rw [s.blocksAtStart_tickets, List.length_map], fun i c at_ => ⟨(s.ticketAtStart c).flaggedBy (s.lateAtStart strap),
      by rw [s.blocksAtStart_tickets, List.getElem?_map, at_]; rfl, ?_⟩⟩
    rw [Ticket.flaggedBy_eq]
    refine ⟨(c.atStart_mapsTo s.now).congr rfl rfl, Ticket.MapsTo.kept_eq rfl, ?_⟩
    simp only [State.ticketAtStart, Ticket.atStart, Bool.false_or, List.any_eq_true, beq_iff_eq]
    constructor
    · rintro ⟨w, late, named⟩
      obtain ⟨mem, backlog⟩ := State.started_backlog_iff.mpr late
      exact ⟨w, mem, named, backlog⟩
    · rintro ⟨w, mem, named, backlog⟩
      exact ⟨w, State.started_backlog_iff.mp ⟨mem, backlog⟩, named⟩
  unplaced := rfl
  schedule := rfl
  freed k := (s.blocksAtStart_stall strap k).1
  stalls k := (s.blocksAtStart_stall strap k).2
  counts := s.blocksAtStart_counts strap
  released h custody := by
    rw [s.blocksAtStart_hook]
    simp only [Hook.atStart, custody]
  out h custody := by
    rw [s.blocksAtStart_hook]
    simp only [Hook.atStart, custody]
  hooks h held here := by rw [s.blocksAtStart_hook, Hook.atStart_other held here]
  panels p := by
    cases p with
    | zero => rfl
    | succ i =>
      by_cases inside : i < Config.panelCount
      · simp only [State.panel, nth1, nth, State.blocksAtStart, State.startBoard, State.startArbiter, State.startDispatch,
          State.startKeys, Vector.getElem?_replicate, inside, if_true, Option.getD_some]
      · exact nth_outside _ _ _ (not_lt.mp inside)
  tasks w mem := by
    obtain ⟨v, due, is⟩ := State.due_of_started mem
    obtain ⟨c, old, made⟩ := State.mem_dueAtStart.mp due
    obtain ⟨-, declined, number, kinds⟩ := taskAtStart_eq_some made
    refine ⟨by rw [is]; exact declined, _, State.mem_blocksAtStart.mpr ⟨c, old, rfl⟩, ?_⟩
    rw [Ticket.flaggedBy_eq, is]
    exact ⟨number, kinds⟩
  tasked d mem states := by
    obtain ⟨c, old, rfl⟩ := State.mem_blocksAtStart.mp mem
    rw [Ticket.flaggedBy_eq] at states ⊢
    have due : ∃ w, taskAtStart (s.ticketAtStart c) = some w ∧ w.ticket = (s.ticketAtStart c).number ∧
        w.kind = if (s.ticketAtStart c).state = .assigned then .park else .fetch := by
      rcases states with state | state <;> change (s.ticketAtStart c).state = _ at state <;>
        simp [taskAtStart, state]
    obtain ⟨w, made, ticket, kind⟩ := due
    have mem := State.mem_dueAtStart (strap := strap).mpr ⟨c, old, made⟩
    rw [← List.take_append_drop 64 (s.dueAtStart strap), List.mem_append] at mem
    rw [s.blocksAtStart_tasks]
    rcases mem with first | late
    · exact ⟨w, List.mem_append_left _ first, ticket, kind⟩
    · exact ⟨_, List.mem_append_right _ (List.mem_map_of_mem late), ticket, kind⟩
  places i w := State.started_places
  taskOrder := s.started_order strap
  freeLanes n free := by
    by_cases inside : 1 ≤ n ∧ n ≤ 6
    · rw [s.blocksAtStart_lane strap inside.1 inside.2, State.laneAtStart_free free]
    · exact nth1_outside _ _ _ (by simp only [Config.laneCount]; omega)
  takenLanes n low high taken := by
    rw [s.blocksAtStart_lane strap low high]
    exact State.laneAtStart_taken taken
  board e := by
    refine (sortBy_perm _ _).mem_iff.trans ?_
    simp only [List.mem_map, List.mem_filter, beq_iff_eq]
    constructor
    · rintro ⟨d, ⟨mem, curb⟩, rfl⟩
      exact ⟨d, mem, curb, rfl⟩
    · rintro ⟨d, mem, curb, rfl⟩
      exact ⟨d, ⟨mem, curb⟩, rfl⟩
  boardOrder := (sortBy_sorted (key := fun e : BoardEntry => earlierKey (e.time, e.ticket)) (fun _ _ => earlier_iff _ _) _).imp
    fun le => Bool.eq_false_iff.mpr fun before => absurd ((earlier_iff _ _).mp before) (not_lt.mpr le)
  events := rfl

/-! ### Nothing handed on (R203) -/

/-- A property of the tickets that a retained start leaves untouched. -/
theorem State.started_all {s : State} {strap : Fin 16} {p : Ticket → Prop} (all : ∀ c ∈ s.tickets, p c)
    (kept : ∀ c late, p c → p ((s.ticketAtStart c).flaggedBy late)) : ∀ d ∈ (s.blocksAtStart strap).tickets, p d := by
  intro d mem
  obtain ⟨c, old, rfl⟩ := State.mem_blocksAtStart.mp mem
  exact kept c _ (all c old)

theorem State.isOverdue_started (s : State) (late : List Task) (c : Ticket) :
    s.isOverdue ((s.ticketAtStart c).flaggedBy late) = s.isOverdue c := by
  rw [Ticket.flaggedBy_eq]
  simp only [State.isOverdue, State.overdueAt, State.ticketAtStart, Ticket.atStart, c.stateAtStart_curb]

theorem State.siteClockCheck_quiet {s : State} (ahead : ∀ e ∈ s.calls.schedule, e.reached = false ∧ s.now.before e.release = true)
    (waits : ∀ c ∈ s.tickets, s.isOverdue c = false) : s.siteClockCheck = s := by
  have marked : s.calls.schedule.map (fun e => { e with reached := e.reached || e.release.notAfter s.now }) = s.calls.schedule := by
    refine (List.map_congr_left fun e mem => ?_).trans (List.map_id _)
    obtain ⟨unmarked, later⟩ := ahead e mem
    simp only [unmarked, SiteTime.notAfter, later, Bool.not_true, Bool.or_false, id_eq]
    exact congrArg (fun x => { e with reached := x }) unmarked.symm
  have none : s.calls.schedule.filter (·.reached) = [] :=
    List.filter_eq_nil_iff.mpr fun e mem => by simp [(ahead e mem).1]
  unfold State.siteClockCheck
  rw [marked]
  change s.releaseAllReached.takeOverdue = s
  rw [State.releaseAllReached, none]
  exact State.takeOverdue_none waits

/-- With nothing to hand on, a retained start is its blocks. -/
theorem State.NothingHandedOn.retainedStart {s : State} (h : s.NothingHandedOn) (strap : Fin 16) :
    s.retainedStart strap = s.startBlocks strap := by
  obtain ⟨empty, tickets, unconfigured, ahead⟩ := h
  obtain ⟨f, -, started⟩ := s.startBlocks_owes strap
  have wishes : ∀ d ∈ (s.blocksAtStart strap).tickets, d.restageWanted = false :=
    State.started_all (fun c mem => (tickets c mem).1) fun c late h => by rw [Ticket.flaggedBy_eq]; exact h
  have hooks : ∀ d ∈ (s.blocksAtStart strap).tickets, d.hook ≠ none :=
    State.started_all (fun c mem => (tickets c mem).2.1) fun c late h => by rw [Ticket.flaggedBy_eq]; exact h
  have waits : ∀ d ∈ (s.blocksAtStart strap).tickets, s.isOverdue d = false :=
    State.started_all (fun c mem => (tickets c mem).2.2) fun c late h => (s.isOverdue_started late c).trans h
  have quiet : ((s.blocksAtStart strap).mapStations f).NoneWaits := ⟨empty, wishes⟩
  have lanes : ((s.blocksAtStart strap).mapStations f).freeLanes = [] :=
    List.filter_eq_nil_iff.mpr fun n _ => by
      have out : ((s.blocksAtStart strap).mapStations f).laneConfigured n = false := unconfigured n
      simp [out]
  unfold State.retainedStart
  rw [started]
  dsimp only
  rw [forEach_same _ fun k _ => quiet.handOn k, State.attemptUnplaced_quiet quiet.1,
    show ((s.blocksAtStart strap).mapStations f).bindVacant = (s.blocksAtStart strap).mapStations f from
      forEach_same _ fun p _ => forEach_same _ fun k _ => State.handHook_none k hooks,
    State.laneGrantCheck_idle (.inl lanes)]
  exact State.siteClockCheck_quiet ahead waits

theorem State.retainedStart_tables (s : State) (strap : Fin 16) (h : s.NothingHandedOn) :
    s.RetainedTables (s.retainedStart strap) := by
  obtain ⟨f, -, started⟩ := s.startBlocks_owes strap
  rw [h.retainedStart, started]
  exact { s.blocksAtStart_tables strap with }

theorem State.retainedStart_manageReply (s : State) (strap : Fin 16) (a : Nat) :
    ((s.retainedStart strap).station a).manageReply = none := by
  by_cases inside : 1 ≤ a ∧ a ≤ 60
  · obtain ⟨i, rfl⟩ : ∃ i, a = i + 1 := ⟨a - 1, by omega⟩
    obtain ⟨f, owes, stations⟩ := (s.retainedStart_edges strap).stations
    have is : (s.retainedStart strap).station (i + 1) = f (s.station (i + 1)).atStart := by
      rw [State.station, stations]
      exact (nth_mapBank _ _ _ _ inside.2).trans (congrArg f (nth_mapBank _ _ _ _ inside.2))
    rw [is, (owes.owed _).2.2.2]
    rfl
  · rw [State.station_outside inside]
    rfl

/-! ### RESTART (R202) -/

/-- The station records that a start keeps are those of `s`. -/
abbrev State.SameLoads (s u : State) : Prop := ∀ a, (u.station a).segment = (s.station a).segment ∧
  (u.station a).cls = (s.station a).cls ∧ (u.station a).permissions = (s.station a).permissions ∧
  (u.station a).served = (s.station a).served

theorem State.RetainedFrom.of_links {s t : State} {L : Links} (pass : L.passTable = s.links.passTable)
    (loads : s.SameLoads { s with links := L }) (h : State.RetainedFrom { s with links := L } t) : s.RetainedFrom t where
  __ := h
  passTable := h.passTable.trans pass
  stations a low high := by
    obtain ⟨presence, silent, segment, cls, permissions, served, rest⟩ := h.stations a low high
    obtain ⟨segment', cls', permissions', served'⟩ := loads a
    exact ⟨presence, silent, segment.trans segment', cls.trans cls', permissions.trans permissions', served.trans served', rest⟩

theorem State.RetainedTables.of_links {s t : State} {L : Links} (h : State.RetainedTables { s with links := L } t) :
    s.RetainedTables t := { h with }

/-- What a retained start made still holds with one management reply set again. -/
theorem State.RetainedFrom.keepingReply {s t : State} (h : s.RetainedFrom t) {a : Nat} (low : 1 ≤ a) (high : a ≤ 60)
    (r : Option ManageSlot) : s.RetainedFrom (t.setStation a { t.station a with manageReply := r }) where
  __ := h
  stations b low' high' := by
    by_cases same : a = b
    · subst same
      rw [State.station_setStation_same _ _ _ low high]
      exact h.stations a low' high'
    · rw [State.station_setStation_ne _ _ _ _ same]
      exact h.stations b low' high'

theorem State.RetainedTables.setStation {s t : State} (h : s.RetainedTables t) (a : Nat) (r : Station) :
    s.RetainedTables (t.setStation a r) := { h with }

/-- The slot that holds the reply to a RESTART (R202). -/
def State.restartSlot (s : State) (a : Nat) : ManageSlot :=
  { code := .restart, outcome := .done, record := .empty, latch := none, overrun := (s.station a).manageReply.isSome
    commissioning := s.commissioning a }

/-- The state in which an admitted RESTART starts the controller again: its reply owed. -/
def State.restarting (s : State) (f : From) : State :=
  (s.heard f).oweManage f.source ((s.heard f).commissioning f.source) .restart .done .empty none

theorem State.Manages.restart {s : State} {f : From} (h : s.Manages f) (strap : Fin 16) :
    exec (.restart f strap) s = .next ((s.restarting f).restartKeeping f.source strap) := by
  obtain ⟨hears, desk, on⟩ := h
  refine next_congr ((s.onFrame_heard f _ hears).trans ?_)
  have admitted : (s.heard f).admitManage f.source .restart (.fields ()) (fun _ => ManageRecord.empty)
      (fun _ s => (s, Answer.done, none)) = s.restarting f := by
    simp [State.admitManage, hears.classOf_heard, desk, hears.permissionsOf_heard, on, State.restarting]
  dsimp only
  rw [admitted]
  exact if_pos ⟨hears.classOf_heard.trans desk, by rw [hears.permissionsOf_heard, on]⟩

theorem State.Manages.restarting {s : State} {f : From} (h : s.Manages f) :
    s.restarting f = { s with links := (s.restarting f).links } ∧ (s.restarting f).links.passTable = s.links.passTable ∧
      s.SameLoads (s.restarting f) ∧ ((s.restarting f).station f.source).manageReply = some (s.restartSlot f.source) := by
  obtain ⟨hears, -, -⟩ := h
  obtain ⟨first, last⟩ := hears.address
  have own : (s.restarting f).station f.source =
      { (s.heard f).station f.source with manageReply := some ((s.heard f).restartSlot f.source) } :=
    State.station_setStation_same _ _ _ first last
  refine ⟨?_, ?_, fun a => ?_, ?_⟩
  · rw [State.restarting, State.oweManage, State.setStation]
    rw [s.heard_eq f]
  · exact (s.heard_keepsSetup f).2.2.2.2.2.2.2.2.2.2.1
  · by_cases same : f.source = a
    · subst same
      rw [show (s.restarting f).station f.source = _ from own, hears.station_heard]
      exact ⟨rfl, rfl, rfl, rfl⟩
    · rw [show (s.restarting f).station a = _ from State.station_setStation_ne _ _ _ _ same,
        show (s.heard f).station a = _ from State.station_setStation_ne _ _ _ _ same]
      rw [show (s.setPort f.port _).station a = s.station a from State.station_setPort ..]
      exact ⟨rfl, rfl, rfl, rfl⟩
  · rw [own, State.restartSlot, hears.station_heard, hears.commissioning_heard]
    rfl

/-- Settles O4: a power-on by what the memory holds, and RESTART as a retained start that keeps its reply. -/
theorem startsFollowTheMemory : Obligations.StartsFollowTheMemory := by
  refine ⟨fun s strap off invalid => ?_, fun s strap off written kept => ?_, fun s f strap manages => ?_⟩
  · have lost : s.power.valid = false := by rcases invalid with h | h <;> simp [Power.valid, h]
    refine next_congr ?_
    simp [State.powerUp, off, lost, State.coldStart]
  · have started : exec (.powerOn strap) s = .next ({ s with power.main := true }.retainedStart strap) :=
      next_congr (by simp [State.powerUp, off, Power.valid, written, kept])
    have edges := State.retainedStart_edges { s with power.main := true } strap
    have from_ := State.retainedStart_from { s with power.main := true } strap
    refine ⟨_, started, { from_ with }, fun none => ?_, (congrArg Power.main edges.power).trans rfl, edges.strap,
      State.retainedStart_manageReply _ strap⟩
    exact { State.retainedStart_tables { s with power.main := true } strap none with }
  · obtain ⟨first, last⟩ := manages.1.address
    obtain ⟨fields, pass, loads, reply⟩ := manages.restarting
    have from_ := (s.restarting f).retainedStart_from strap
    have tables := (s.restarting f).retainedStart_tables strap
    have unowed := (s.restarting f).retainedStart_manageReply strap
    have started : exec (.restart f strap) s = .next (((s.restarting f).retainedStart strap).setStation f.source
      { ((s.restarting f).retainedStart strap).station f.source with
        manageReply := ((s.restarting f).station f.source).manageReply }) := manages.restart strap
    generalize (s.restarting f).retainedStart strap = t at *
    rw [reply] at started
    generalize (s.restarting f).links = L at *
    rw [fields] at from_ loads tables
    refine ⟨_, started, (State.RetainedFrom.of_links pass loads from_).keepingReply first last _,
      fun none => (tables none).of_links.setStation _ _, ?_, fun a other => ?_⟩
    · rw [State.station_setStation_same _ _ _ first last]
      rfl
    · rw [State.station_setStation_ne _ _ _ _ (Ne.symm other)]
      exact unowed a

end Sys2Proof.Machine
end

section
/-! SUPPORT for the obligation about changed parameters: the loads that hand something on, a listed ticket placed, and the
panels of a new panel count (R65, R199). -/

namespace Sys2Proof.Machine

open Sys2Proof

/-! ### The loads (R198, R199) -/

theorem Params.read_number {p : Params} {k n low high : Nat} (kind : paramKind k = some (.number low high)) (least : low ≤ n)
    (most : n ≤ high) : p.read ⟨k, .number n⟩ = some (p.storeNumber k n, false) := by
  have same : clampTo low high n = n := by
    rw [clampTo_eq (by omega), if_neg (by omega), if_neg (by omega)]
  simp [Params.read, kind, same]

theorem Params.read_flag {p : Params} {k : Nat} (kind : paramKind k = some .flag) (b : Bool) :
    p.read ⟨k, .flag (.value b)⟩ = some (p.storeFlag k b, false) := by
  simp [Params.read, kind, Sent.get?]

theorem State.loadParams_hands {s : State} {x : ParamFields} {p : Params} (read : s.params.read x = some (p, false))
    (panels : x.number ≠ 25) (changed : p ≠ s.params) :
    s.loadParams x = ({ s with params := p }.paramChanged x.number, .done) := by
  simp [State.loadParams, read, panels, changed, clampedOr]

/-- A load whose hand-on does nothing stores its parameter, whether it changes or not. -/
theorem State.loadParams_idle {s : State} {x : ParamFields} {p : Params} (read : s.params.read x = some (p, false))
    (panels : x.number ≠ 25) (idle : { s with params := p }.paramChanged x.number = { s with params := p }) :
    s.loadParams x = ({ s with params := p }, .done) := by
  by_cases same : p = s.params
  · exact State.loadParams_stores read (.inl same)
  · rw [State.loadParams_hands read panels same, idle]

theorem State.paramChanged_reserve (s : State) {k : Nat} (low : 12 ≤ k) (high : k ≤ 15) : s.paramChanged k = s.attemptUnplaced := by
  interval_cases k <;> rfl

theorem State.paramChanged_lift (s : State) {l : Nat} (low : 1 ≤ l) (high : l ≤ 4) :
    s.paramChanged (35 + l) = if s.liftConfigured l then s.liftConfiguredNow l else s := by
  interval_cases l <;> rfl

theorem State.paramChanged_lane (s : State) {n : Nat} (low : 1 ≤ n) (high : n ≤ 6) :
    s.paramChanged (39 + n) = if s.laneConfigured n then s.laneGrantCheck else s.laneUnconfigured n := by
  interval_cases n <;> rfl

theorem Params.storeFlag_lift (p : Params) {l : Nat} (low : 1 ≤ l) (high : l ≤ 4) (b : Bool) :
    p.storeFlag (35 + l) b = { p with liftConfigured := setNth1 p.liftConfigured l b } := by
  interval_cases l <;> rfl

theorem Params.storeFlag_lane (p : Params) {n : Nat} (low : 1 ≤ n) (high : n ≤ 6) (b : Bool) :
    p.storeFlag (39 + n) b = { p with laneConfigured := setNth1 p.laneConfigured n b } := by
  interval_cases n <;> rfl

/-! ### A listed ticket placed (R29, R33) -/

theorem State.recordsOf_makeTask (s : State) (kind : TaskKind) (m : Nat) (age : SiteTime) (n : Nat) :
    ∀ d ∈ (s.makeTask kind m age).recordsOf n, ∃ c ∈ s.recordsOf n, d.state = c.state := by
  intro d mem
  unfold State.makeTask at mem
  dsimp only at mem
  split at mem
  · rw [State.recordsOf_congr (State.pair_frame _).2.2.2.1] at mem
    exact ⟨d, mem, rfl⟩
  · rw [State.recordsOf_edit _ m n fun k => { k with backlog := true }] at mem
    split at mem
    · obtain ⟨c, old, rfl⟩ := List.mem_map.mp mem
      exact ⟨c, old, rfl⟩
    · exact ⟨d, mem, rfl⟩

/-- The list is empty, and every record of ticket `n` is ASSIGNED. -/
structure State.Placed (n : Nat) (t : State) : Prop where
  empty : t.unplaced = []
  assigned : ∀ d ∈ t.recordsOf n, d.state = .assigned

section

variable {n : Nat} {t : State}

theorem State.Placed.of_eq (h : t.Placed n) {u : State} (unplaced : u.unplaced = t.unplaced) (tickets : u.tickets = t.tickets) :
    u.Placed n := ⟨unplaced.trans h.empty, State.recordsOf_congr tickets n ▸ h.assigned⟩

/-- A change of tickets that takes no record of `n` out of ASSIGNED. -/
theorem State.Placed.edit (h : t.Placed n) {m : Nat} {f : Ticket → Ticket} (number : ∀ d, (f d).number = d.number)
    (state : m ≠ n ∨ ∀ d, (f d).state = d.state) : (t.modifyTicket m f).Placed n := by
  refine ⟨h.empty, ?_⟩
  rw [t.recordsOf_edit m n f number]
  split
  next same =>
    intro d mem
    obtain ⟨c, old, rfl⟩ := List.mem_map.mp mem
    exact (state.resolve_left (not_not.mpr same.symm) c).trans (h.assigned c old)
  next => exact h.assigned

theorem State.Placed.moveTicket (h : t.Placed n) {m : Nat} (other : m ≠ n) (x : TicketState) : (t.moveTicket m x).Placed n :=
  ⟨(t.moveTicket_frame m x).2.2.1.trans h.empty, by rw [t.recordsOf_move_ne (Ne.symm other)]; exact h.assigned⟩

theorem State.Placed.makeTask (h : t.Placed n) (kind : TaskKind) (m : Nat) (age : SiteTime) : (t.makeTask kind m age).Placed n :=
  ⟨(t.makeTask_frame kind m age).2.2.1.trans h.empty, fun d mem => by
    obtain ⟨c, old, same⟩ := t.recordsOf_makeTask kind m age n d mem
    exact same.trans (h.assigned c old)⟩

theorem State.Placed.hold (h : t.Placed n) (k m : Nat) : (t.hold k m).Placed n := by
  obtain ⟨-, unplaced, tickets, -⟩ := t.hold_frame k m
  exact h.of_eq unplaced tickets

theorem State.Placed.lookRestage (h : t.Placed n) (k : Nat) : (t.lookRestage k).Placed n := by
  unfold State.lookRestage
  split
  · split
    · split
      · exact h
      next c chosen =>
        obtain ⟨mem, may⟩ := List.mem_filter.mp (firstBy_mem chosen)
        have other : c.number ≠ n := fun own => by
          have assigned := h.assigned c (State.mem_recordsOf.mpr ⟨mem, own⟩)
          simp [State.restageable, assigned] at may
        exact (((h.hold k c.number).edit (f := fun t => { t with target := some k }) (fun _ => rfl) (.inl other)).moveTicket
          other .restaging).makeTask .restage c.number t.now
    · exact h
  · exact h

theorem State.Placed.release (h : t.Placed n) (k m : Nat) : (t.release k m).Placed n := by
  obtain ⟨-, unplaced, tickets, -⟩ := t.releaseStall_frame k m
  have released : (t.releaseStall k m).Placed n := h.of_eq unplaced tickets
  unfold State.release
  split
  · rw [State.handOn, State.attemptUnplaced_quiet released.empty]
    exact released.lookRestage k
  · exact h

theorem State.Placed.replaceTicket (h : t.Placed n) (lift : Option Nat) (m : Nat) : (t.replaceTicket lift m).Placed n := by
  unfold State.replaceTicket
  split
  · exact h
  · split
    · split
      · exact h
      next k second _ =>
        have bound : (t.bindStall m k second).Placed n := (h.hold k m).edit (fun _ => rfl) (.inr fun _ => rfl)
        dsimp only
        split
        · exact bound
        · split
          exacts [bound, bound.release _ _]
    · exact h

theorem State.Placed.replaceAll (h : t.Placed n) (lift : Option Nat) : (t.replaceAll lift).Placed n :=
  forEach_keeps (State.Placed n) _ _ t (fun m _ held => held.replaceTicket lift m) h

/-- The one listed ticket finds a stall, is ASSIGNED to it, and leaves the list empty. -/
theorem State.attemptUnplaced_places {c : Ticket} {k : Nat} {second : Bool} (listed : t.unplaced = [n])
    (found : t.ticket n = some c) (placed : t.placement c false = some (k, second)) :
    t.attemptUnplaced.Placed n ∧
      (t.attemptUnplaced.ticket n).map (fun d => (d.state, d.stall)) = some (.assigned, some k) ∧
      t.attemptUnplaced.heldFor k n = true := by
  have one : t.attemptUnplaced = { t with unplaced := [] }.assign n k second c.arrived := by
    rw [State.attemptUnplaced, listed]
    show t.attemptTicket n = _
    simp only [State.attemptTicket, found, placed, listed]
    simp
  obtain ⟨site, may, -⟩ := State.choose_takes_cheapest (State.placement_some placed).1
  obtain ⟨low, -, free, -⟩ := may
  let bind (t : Ticket) : Ticket := { t with stall := some k, restageWanted := second }
  let u := (State.hold { t with unplaced := [] } k n).modifyTicket n bind
  obtain ⟨-, unplaced, tickets, -⟩ := State.hold_frame { t with unplaced := [] } k n
  obtain ⟨-, stalls', unplaced', -⟩ := u.moveTicket_frame n .assigned
  obtain ⟨-, stalls'', -⟩ := (u.moveTicket n .assigned).makeTask_frame .park n c.arrived
  have edited : u.ticket n = some (bind c) := State.ticket_edit_same ((State.ticket_congr tickets n).trans found) bind
  have entered := State.ticket_entered edited (x := .assigned) (by decide)
  have moved : (u.moveTicket n .assigned).Placed n := by
    refine ⟨unplaced'.trans unplaced, fun d mem => ?_⟩
    rw [u.recordsOf_move, if_pos rfl] at mem
    obtain ⟨e, -, rfl⟩ := List.mem_map.mp mem
    rw [Ticket.enter_of_ne (by decide)]
  have held : ((u.moveTicket n .assigned).makeTask .park n c.arrived).stall k =
      { t.stall k with state := .held, ticket := some n, confirmed := false, recheck := false } := by
    have put : State.hold { t with unplaced := [] } k n = State.putStall { t with unplaced := [] } k
        { t.stall k with state := .held, ticket := some n, confirmed := false, recheck := false } := if_pos free
    rw [State.stall_congr (stalls''.trans stalls')]
    exact (congrArg (fun v : State => v.stall k) put).trans (State.stall_putStall_same _ _ _ low)
  rw [one]
  refine ⟨moved.makeTask .park n c.arrived, ?_, ?_⟩
  · exact (congrArg (Option.map _)
      ((State.makeTask_ticket (u.moveTicket n .assigned) .park n c.arrived).trans (congrArg _ entered))).trans rfl
  · rw [State.heldFor, show State.stall (State.assign _ n k second c.arrived) k = _ from held]
    simp

end

/-! ### Panels set up and dropped (R65) -/

/-- Two loops that agree where a property holds which their turns keep. -/
theorem forEach_congr_of {α σ : Type} (P : σ → Prop) {xs : List α} {f g : α → σ → σ} {s : σ} (keep : ∀ x s, P s → P (g x s))
    (same : ∀ x s, P s → f x s = g x s) (h : P s) : forEach xs f s = forEach xs g s := by
  induction xs generalizing s with
  | nil => rfl
  | cons x xs ih =>
    rw [forEach_cons, forEach_cons, same x s h]
    exact ih (keep x s h)

/-- A hook of a panel that is dropped. -/
def Hook.dropped (r : Hook) : Hook := { r with custody := .vacant, accepted := .unknown, pending := none }

theorem State.unconfigurePanel_eq (s : State) (p : Nat) : s.unconfigurePanel p =
    (forEach (hooksOf p) (fun h t => t.setHook h (t.hook h).dropped) s).setPanel p Panel.cold := rfl

theorem State.hook_setPanel (s : State) (p : Nat) (r : Panel) (h : Nat) : (s.setPanel p r).hook h = s.hook h := rfl

theorem State.unconfigurePanel_fields (s : State) (p : Nat) :
    ∃ H, s.unconfigurePanel p = { s with keys.hooks := H, keys.panels := setNth1 s.keys.panels p Panel.cold } := by
  obtain ⟨H, is⟩ := forEach_keeps (fun t : State => ∃ H, t = { s with keys.hooks := H }) (hooksOf p)
    (fun h s => s.setHook h { s.hook h with custody := .vacant, accepted := .unknown, pending := none }) s
    (fun h t held => by
      obtain ⟨H, rfl⟩ := held
      exact ⟨_, rfl⟩) ⟨_, rfl⟩
  exact ⟨H, by rw [State.unconfigurePanel, is]; rfl⟩

theorem mem_panels {p : Nat} : p ∈ oneTo Config.panelCount ↔ 1 ≤ p ∧ p ≤ 9 := by
  simp only [oneTo, List.mem_map, List.mem_range, Config.panelCount]
  constructor
  · rintro ⟨i, low, rfl⟩
    omega
  · rintro ⟨low, high⟩
    exact ⟨p - 1, by omega, by omega⟩

theorem mem_hooksOf_iff {p h : Nat} (first : 1 ≤ p) : h ∈ hooksOf p ↔ p = h / 64 + 1 := by
  refine ⟨fun mem => ?_, mem_hooksOf⟩
  rw [hooksOf_eq] at mem
  obtain ⟨i, low, rfl⟩ := List.mem_map.mp mem
  have low := List.mem_range.mp low
  omega

theorem State.unconfigurePanel_hook (s : State) {p h : Nat} (first : 1 ≤ p) (low : h < 576) :
    (s.unconfigurePanel p).hook h = if p = h / 64 + 1 then (s.hook h).dropped else s.hook h := by
  have other (j : Nat) (ne : j ≠ h) (t : State) (is : t.hook h = s.hook h) : (t.setHook j (t.hook j).dropped).hook h = s.hook h :=
    (State.hook_setHook_ne _ _ _ _ ne).trans is
  rw [s.unconfigurePanel_eq, State.hook_setPanel]
  split
  next own =>
    refine forEach_settles (fun t : State => t.hook h = s.hook h) (fun t : State => t.hook h = (s.hook h).dropped)
      ((mem_hooksOf_iff first).mpr own) other (fun t is => ?_) (fun j t is => ?_) rfl
    · exact (State.hook_setHook_same _ _ _ low).trans (congrArg Hook.dropped is)
    · by_cases same : j = h
      · subst same
        exact (State.hook_setHook_same _ _ _ low).trans (by rw [is]; rfl)
      · exact (State.hook_setHook_ne _ _ _ _ same).trans is
  next away => exact forEach_spares (fun t : State => t.hook h = s.hook h) (fun mem => away ((mem_hooksOf_iff first).mp mem)) other rfl

/-- What a new panel count makes of one panel, when every ticket has its hook. -/
def State.followCount (s : State) (old n p : Nat) : State :=
  if p ≤ n ∧ old < p then s.setPanel p Panel.cold else if n < p ∧ p ≤ old then s.unconfigurePanel p else s

theorem State.followCount_fields (s : State) (old n p : Nat) :
    ∃ H P, s.followCount old n p = { s with keys.hooks := H, keys.panels := P } := by
  unfold State.followCount
  split
  · exact ⟨_, _, rfl⟩
  · split
    · obtain ⟨H, is⟩ := s.unconfigurePanel_fields p
      exact ⟨_, _, is⟩
    · exact ⟨_, _, rfl⟩

theorem State.followCount_panel (s : State) {old n p q : Nat} (low : 1 ≤ q) (high : q ≤ 9) : (s.followCount old n p).panel q =
    if p = q ∧ (p ≤ n ∧ old < p ∨ n < p ∧ p ≤ old) then Panel.cold else s.panel q := by
  have written (t : State) (panels : t.keys.panels = setNth1 s.keys.panels p Panel.cold) :
      t.panel q = if p = q then Panel.cold else s.panel q := by
    rw [State.panel, panels]
    split
    next same =>
      subst same
      exact nth1_setNth1_same _ _ _ _ low high
    next other => exact nth1_setNth1_ne _ _ _ _ _ other
  unfold State.followCount
  split
  next added => simp [written (s.setPanel p Panel.cold) rfl, added]
  next kept =>
    split
    next gone =>
      obtain ⟨H, is⟩ := s.unconfigurePanel_fields p
      simp [written (s.unconfigurePanel p) (by rw [is]), gone]
    next stays => simp [kept, stays]

theorem State.followCount_hook (s : State) {old n p h : Nat} (first : 1 ≤ p) (low : h < 576) : (s.followCount old n p).hook h =
    if p = h / 64 + 1 ∧ n < p ∧ p ≤ old then (s.hook h).dropped else s.hook h := by
  unfold State.followCount
  split
  next added => rw [if_neg (by omega)]; rfl
  next =>
    split
    next gone => simp only [s.unconfigurePanel_hook first low, gone, and_self, and_true]
    next stays => rw [if_neg fun own => stays own.2]

/-- What a new panel count leaves, when every ticket has its hook. -/
theorem State.storePanelCount_result {s : State} (bound : ∀ c ∈ s.tickets, c.hook ≠ none) (n : Nat) :
    (∃ H P, s.storePanelCount n = { s with params.panelCount := n, keys.hooks := H, keys.panels := P }) ∧
    (∀ p, 1 ≤ p → p ≤ 9 → (s.storePanelCount n).panel p =
      if (p ≤ n ∧ s.params.panelCount < p) ∨ (n < p ∧ p ≤ s.params.panelCount) then Panel.cold else s.panel p) ∧
    ∀ h, h < 576 → (s.storePanelCount n).hook h =
      if 64 * n ≤ h ∧ h < 64 * s.params.panelCount then (s.hook h).dropped else s.hook h := by
  have steps : s.storePanelCount n = forEach (oneTo Config.panelCount) (fun p s' => s'.followCount s.params.panelCount n p)
      { s with params.panelCount := n } := by
    refine forEach_congr_of (fun t : State => t.tickets = s.tickets) (fun p t same => ?_) (fun p t same => ?_) rfl
    · obtain ⟨H, P, is⟩ := t.followCount_fields s.params.panelCount n p
      rw [is]
      exact same
    · unfold State.followCount
      split
      · exact forEach_same _ fun k _ => State.handHook_none k fun c mem => bound c (same ▸ (show c ∈ t.tickets from mem))
      · rfl
  rw [steps]
  refine ⟨?_, fun p low high => ?_, fun h low => ?_⟩
  · refine forEach_keeps (fun t : State => ∃ H P, t = { s with params.panelCount := n, keys.hooks := H, keys.panels := P }) _ _ _
      (fun p t held => ?_) ⟨_, _, rfl⟩
    obtain ⟨H, P, rfl⟩ := held
    obtain ⟨H', P', is⟩ := State.followCount_fields
      { s with params.panelCount := n, keys.hooks := H, keys.panels := P } s.params.panelCount n p
    exact ⟨H', P', is⟩
  · refine forEach_settles (fun t : State => t.panel p = s.panel p) (fun t : State => t.panel p = _) (mem_panels.mpr ⟨low, high⟩) (fun q other t is => ?_)
      (fun t is => ?_) (fun q t is => ?_) rfl
    · rw [t.followCount_panel low high, if_neg fun own => other own.1, is]
    · rw [t.followCount_panel low high, is]
      simp
    · rw [t.followCount_panel low high, is]
      split
      next own => obtain ⟨rfl, moves⟩ := own; rw [if_pos moves]
      next => rfl
  · have mem : h / 64 + 1 ∈ oneTo Config.panelCount := mem_panels.mpr ⟨by omega, by omega⟩
    have moves : n < h / 64 + 1 ∧ h / 64 + 1 ≤ s.params.panelCount ↔ 64 * n ≤ h ∧ h < 64 * s.params.panelCount := by omega
    have turn (q : Nat) (from_ : q ∈ oneTo Config.panelCount) (t : State) :
        (t.followCount s.params.panelCount n q).hook h =
          if q = h / 64 + 1 ∧ n < q ∧ q ≤ s.params.panelCount then (t.hook h).dropped else t.hook h :=
      t.followCount_hook (mem_panels.mp from_).1 low
    by_cases goes : 64 * n ≤ h ∧ h < 64 * s.params.panelCount
    · rw [if_pos goes]
      refine forEach_reaches (fun t : State => t.hook h = s.hook h ∨ t.hook h = (s.hook h).dropped)
        (fun t : State => t.hook h = (s.hook h).dropped) mem (fun q from_ t is => ?_) (fun t is => ?_) (fun q from_ t is => ?_)
        (.inl rfl)
      · rw [turn q from_]
        split
        · rcases is with is | is <;> rw [is] <;> exact .inr rfl
        · exact is
      · rw [turn _ mem, if_pos ⟨rfl, moves.mpr goes⟩]
        rcases is with is | is
        · rw [is]
        · rw [is]
          rfl
      · rw [turn q from_, is]
        split <;> rfl
    · rw [if_neg goes]
      refine forEach_keeps_of_mem (fun t : State => t.hook h = s.hook h) _ _ _ (fun q from_ t is => ?_) rfl
      rw [turn q from_, if_neg, is]
      rintro ⟨rfl, inside⟩
      exact goes (moves.mp inside)

end Sys2Proof.Machine
end

section
/-! PROOF of O50: what a changed parameter hands on. -/

namespace Sys2Proof.Machine

open Sys2Proof

/-! ### A lift's flag set (R23, R109, R117) -/

theorem State.liftConfigured_stored (s : State) (p : Params) {l : Nat} (low : 1 ≤ l) (high : l ≤ 4) (b : Bool) :
    State.liftConfigured { s with params := p.storeFlag (35 + l) b } l = b := by
  rw [State.liftConfigured, p.storeFlag_lift low high]
  exact nth1_setNth1_same _ _ _ _ low high

theorem State.laneConfigured_stored (s : State) (p : Params) {n : Nat} (low : 1 ≤ n) (high : n ≤ 6) (b : Bool) (m : Nat) :
    State.laneConfigured { s with params := p.storeFlag (39 + n) b } m =
      if n = m then b else nth1 p.laneConfigured m false := by
  rw [State.laneConfigured, p.storeFlag_lane low high]
  split
  next same =>
    subst same
    exact nth1_setNth1_same _ _ _ _ low high
  next other => exact nth1_setNth1_ne _ _ _ _ _ other

theorem State.passage_lift (s : State) (l : Nat) (before : Bool) (m : Nat) : (s.passage l before).lift m = s.lift m := by
  refine State.lift_congr ?_ m
  unfold State.passage
  split
  · exact (State.becameServiceable_frame s).2.2.2.1
  · rfl

/-- A grant check that finds no waiting tenure leaves the state. -/
theorem State.grantCheck_empty {t : State} {l : Nat} (empty : (t.lift l).queue = []) : t.grantCheck l = t :=
  State.grantCheck_idle (.inr (.inr (.inr (by rw [empty]; rfl))))

/-- A grant check of a configured, IDLE lift without a tenure grants the one waiting tenure that qualifies. -/
theorem State.grantCheck_one {t : State} {l : Nat} {w : Tenure} (low : 1 ≤ l) (high : l ≤ 4) (on : t.liftConfigured l = true)
    (idle : (t.lift l).state = .idle) (free : (t.lift l).current = none) (one : (t.lift l).queue = [w])
    (may : t.tenureQualifies l w = true) : (t.grantCheck l).lift l = { t.lift l with
      state := .busy, queue := [], current := some { w with state := .granted }, orderOwed := true } := by
  have queue : (t.lift l).queue.filter (t.tenureQualifies l) = [w] := by rw [one, List.filter_cons_of_pos may, List.filter_nil]
  obtain ⟨v, ahead, choice⟩ := chooseTenure_isSome (parked := (t.lift l).parkedLevel) (skip := t.params.parkSkip) (l := [w])
    (List.cons_ne_nil _ _)
  obtain ⟨behind, split, -⟩ := chooseTenure_some choice
  obtain rfl : v = w := by
    have mem : v ∈ [w] := by simp [split]
    exact List.mem_singleton.mp mem
  have granted : t.grantCheck l = t.grant l v ahead := by
    simp only [State.grantCheck, queue, choice]
    exact if_pos ⟨on, idle, free⟩
  rw [granted, (State.grant_result low high v ahead).1, one]
  simp [queueAfter]

/-- A lift that is neither IDLE nor BUSY is set to be configured, and nothing happens. -/
theorem State.liftConfiguredNow_rests {t : State} {l : Nat} (notIdle : (t.lift l).state ≠ .idle)
    (notBusy : (t.lift l).state ≠ .busy) : t.liftConfiguredNow l = t := by
  have out : t.serviceable l = false := by simp [State.serviceable, notIdle, notBusy]
  rw [State.liftConfiguredNow, State.grantCheck_idle (.inr (.inl notIdle)), State.passage, out]
  rfl

/-- An IDLE lift without tenures is set to be configured: the one listed ticket that its stalls can take is ASSIGNED. -/
theorem State.liftConfiguredNow_places {t : State} {l n k : Nat} {c : Ticket} {second : Bool} (on : t.liftConfigured l = true)
    (idle : (t.lift l).state = .idle) (empty : (t.lift l).queue = []) (listed : t.unplaced = [n])
    (found : t.ticket n = some c) (placed : t.placement c false = some (k, second)) :
    (t.liftConfiguredNow l).unplaced = [] ∧ ((t.liftConfiguredNow l).ticket n).map (·.state) = some .assigned := by
  have now : t.liftConfiguredNow l = t.attemptUnplaced.replaceAll none := by
    have serviceable : t.serviceable l = true := by simp [State.serviceable, on, idle]
    rw [State.liftConfiguredNow, State.grantCheck_empty empty, State.passage, serviceable]
    rfl
  obtain ⟨assigned, ticket, -⟩ := State.attemptUnplaced_places listed found placed
  have kept := assigned.replaceAll none
  have numbers : (t.attemptUnplaced.replaceAll none).numbers = t.attemptUnplaced.numbers :=
    (workKeeps_numbers t.attemptUnplaced.numbers).replaceAll none rfl
  rw [now]
  generalize t.attemptUnplaced.replaceAll none = u at *
  refine ⟨kept.empty, ?_⟩
  have open_ : n ∈ u.numbers := by
    rw [numbers]
    cases own : t.attemptUnplaced.ticket n with
    | none => rw [own] at ticket; cases ticket
    | some d => exact List.mem_map.mpr ⟨d, List.mem_of_find?_eq_some own, State.ticket_number own⟩
  cases own : u.ticket n with
  | none =>
    obtain ⟨d, mem, named⟩ := List.mem_map.mp open_
    exact absurd named (by simpa using List.find?_eq_none.mp own d mem)
  | some d =>
    exact congrArg some (kept.assigned d (State.mem_recordsOf.mpr ⟨List.mem_of_find?_eq_some own, State.ticket_number own⟩))

/-! ### A lane's flag (R119, R123) -/

/-- A FREE lane whose flag is set is the only FREE one, and every ticket's choice. -/
theorem State.laneFor_stored {s : State} {n : Nat} (low : 1 ≤ n) (high : n ≤ 6) (free : (s.lane n).state = .free)
    (others : s.freeLanes = []) (c : Ticket) :
    State.laneFor { s with params := s.params.storeFlag (39 + n) true } c = some n := by
  have only (m : Nat) : m ∈ State.freeLanes { s with params := s.params.storeFlag (39 + n) true } ↔ m = n := by
    rw [State.mem_freeLanes, s.laneConfigured_stored _ low high]
    constructor
    · rintro ⟨inside, on, stands⟩
      by_contra other
      rw [if_neg (Ne.symm other)] at on
      have mem : m ∈ s.freeLanes := State.mem_freeLanes.mpr ⟨inside, on, stands⟩
      simp [others] at mem
    · rintro rfl
      exact ⟨⟨low, high⟩, if_pos rfl, free⟩
  generalize State.mk .. = u at *
  cases found : u.laneFor c with
  | some m => rw [(only m).mp (State.laneFor_mem found)]
  | none =>
    unfold State.laneFor at found
    split at found
    · cases found
    · have mem := (only n).mpr rfl
      rw [List.head?_eq_none_iff.mp found] at mem
      cases mem

/-- A lane whose flag is cleared is FREE for no ticket, and no other lane becomes so. -/
theorem State.freeLanes_cleared {s t : State} {n : Nat} (off : t.laneConfigured n = false) (others : s.freeLanes = [])
    (flags : ∀ m, m ≠ n → t.laneConfigured m = s.laneConfigured m) (lanes : ∀ m, m ≠ n → t.lane m = s.lane m) :
    t.freeLanes = [] := by
  refine List.eq_nil_iff_forall_not_mem.mpr fun m mem => ?_
  obtain ⟨inside, on, free⟩ := State.mem_freeLanes.mp mem
  have other : m ≠ n := fun same => by rw [same, off] at on; cases on
  rw [flags m other] at on
  rw [lanes m other] at free
  have old : m ∈ s.freeLanes := State.mem_freeLanes.mpr ⟨inside, on, free⟩
  simp [others] at old

theorem State.loseLane_rest (s : State) (n : Nat) : (s.loseLane n).stalls = s.stalls ∧ (s.loseLane n).keys = s.keys ∧
    (s.loseLane n).dispatch = s.dispatch := by
  unfold State.loseLane
  split
  · dsimp only
    split <;> simp [State.moveTicket_frame]
  · simp

/-- A reservation of a lane whose flag is cleared is cancelled. -/
theorem State.laneUnconfigured_result {s : State} {n : Nat} {c : Ticket} (low : 1 ≤ n) (high : n ≤ 6)
    (reserved : (s.lane n).state = .reserved) (holds : (s.lane n).ticket = some c.number) (found : s.ticket c.number = some c)
    (off : s.laneConfigured n = false) (others : s.freeLanes = []) :
    (s.laneUnconfigured n).lane n = { s.lane n with state := .free, ticket := none } ∧
      (s.laneUnconfigured n).ticket c.number = some c.laneLost ∧ (s.laneUnconfigured n).stalls = s.stalls ∧
      (s.laneUnconfigured n).keys = s.keys ∧ (s.laneUnconfigured n).dispatch = s.dispatch := by
  obtain ⟨arbiter, params⟩ := s.loseLane_frame n
  obtain ⟨stalls, keys, dispatch⟩ := s.loseLane_rest n
  have ticket := State.loseLane_ticket reserved holds found
  have cancelled : s.laneUnconfigured n = ((s.loseLane n).setLane n { s.lane n with state := .free, ticket := none }).laneGrantCheck :=
    if_pos reserved
  have same (m : Nat) : (s.loseLane n).laneConfigured m = s.laneConfigured m := by
    rw [State.laneConfigured, params]
    rfl
  have none : ((s.loseLane n).setLane n { s.lane n with state := .free, ticket := Option.none }).freeLanes = [] :=
    State.freeLanes_cleared ((same n).trans off) others (fun m _ => same m) fun m other =>
      (State.lane_setLane_ne _ _ _ _ (Ne.symm other)).trans (State.lane_congr arbiter m)
  rw [cancelled, State.laneGrantCheck_idle (.inl none)]
  exact ⟨State.lane_setLane_same _ _ _ low high, ticket, stalls, keys, dispatch⟩

/-! ### A reserve, a curb hold and a panel count (R33, R58, R65) -/

theorem State.panelCountBusy_free {s : State} {n : Nat} (first : 1 ≤ n)
    (free : ∀ h, 64 * n ≤ h → h < 64 * s.params.panelCount → (s.hook h).isBound = false) : s.panelCountBusy n = false := by
  rw [State.panelCountBusy, List.any_eq_false]
  intro p _
  simp only [State.panelConfigured, Bool.and_eq_true, decide_eq_true_eq, List.any_eq_true, not_and, not_exists]
  rintro ⟨over_, -, most⟩ h mem
  obtain ⟨i, low, rfl⟩ := List.mem_map.mp (hooksOf_eq p ▸ mem)
  have low := List.mem_range.mp low
  rw [free _ (by omega) (by omega)]
  simp

theorem State.loadParams_panels {s : State} {n : Nat} (low : 1 ≤ n) (high : n ≤ 9) (free : s.panelCountBusy n = false)
    (other : n ≠ s.params.panelCount) : s.loadParams ⟨25, .number n⟩ = (s.storePanelCount n, .done) := by
  have read : s.params.read ⟨25, .number n⟩ = some ({ s.params with panelCount := n }, false) := Params.read_number rfl low high
  have changed : { s.params with panelCount := n } ≠ s.params := fun same => other (congrArg Params.panelCount same)
  simp [State.loadParams, read, changed, free, clampedOr]

section

variable {s : State} {f : From} {k : Nat} {v : ParamValue} {p : Params}

theorem State.Manages.loads (manages : s.Manages f) {x : ParamFields} {t : State} {o : Answer}
    (taken : (s.heard f).loadParams x = (t, o)) :
    exec (.loadParams f (.fields x)) s = .next ((s.heard f).replied f .loadParams o (.param x) t) :=
  manages.request (code := .loadParams) (form := .param) (fun x s => s.loadParams x) taken

/-- A changed parameter is stored and handed on. -/
theorem State.Manages.hands (manages : s.Manages f) (read : s.params.read ⟨k, v⟩ = some (p, false)) (panels : k ≠ 25)
    (changed : p ≠ s.params) : exec (.loadParams f (.fields ⟨k, v⟩)) s =
      .next ((s.heard f).replied f .loadParams .done (.param ⟨k, v⟩) ({ s.heard f with params := p }.paramChanged k)) :=
  manages.loads (State.loadParams_hands (by rwa [s.heard_params]) panels (by rwa [s.heard_params]))

/-- A parameter whose hand-on does nothing is stored. -/
theorem State.Manages.idles (manages : s.Manages f) (read : s.params.read ⟨k, v⟩ = some (p, false)) (panels : k ≠ 25)
    (idle : { s.heard f with params := p }.paramChanged k = { s.heard f with params := p }) :
    exec (.loadParams f (.fields ⟨k, v⟩)) s =
      .next ((s.heard f).replied f .loadParams .done (.param ⟨k, v⟩) { s.heard f with params := p }) :=
  manages.loads (State.loadParams_idle (by rwa [s.heard_params]) panels idle)

/-- A lift's flag set: the lift is handed on as configured. -/
theorem State.Manages.setsLift (manages : s.Manages f) {l : Nat} (low : 1 ≤ l) (high : l ≤ 4) (off : s.liftConfigured l = false) :
    exec (.loadParams f (.fields ⟨35 + l, .flag (.value true)⟩)) s = .next ((s.heard f).replied f .loadParams .done
      (.param ⟨35 + l, .flag (.value true)⟩)
      (State.liftConfiguredNow { s.heard f with params := s.params.storeFlag (35 + l) true } l)) := by
  have on := (s.heard f).liftConfigured_stored s.params low high true
  refine (manages.hands (Params.read_flag (by interval_cases l <;> rfl) true) (by omega) fun same => ?_).trans ?_
  · have still := s.liftConfigured_stored s.params low high true
    rw [same] at still
    exact Bool.false_ne_true (off.symm.trans still)
  · rw [State.paramChanged_lift _ low high, if_pos on]

/-- A lane's flag set or cleared: the lane is handed on as it is configured. -/
theorem State.Manages.setsLane (manages : s.Manages f) {n : Nat} (low : 1 ≤ n) (high : n ≤ 6) {b : Bool}
    (other : s.laneConfigured n = !b) :
    exec (.loadParams f (.fields ⟨39 + n, .flag (.value b)⟩)) s = .next ((s.heard f).replied f .loadParams .done
      (.param ⟨39 + n, .flag (.value b)⟩) (if b then State.laneGrantCheck { s.heard f with params := s.params.storeFlag (39 + n) b }
        else State.laneUnconfigured { s.heard f with params := s.params.storeFlag (39 + n) b } n)) := by
  have on := ((s.heard f).laneConfigured_stored s.params low high b n).trans (if_pos rfl)
  refine (manages.hands (Params.read_flag (by interval_cases n <;> rfl) b) (by omega) fun same => ?_).trans ?_
  · have still := (s.laneConfigured_stored s.params low high b n).trans (if_pos rfl)
    rw [same] at still
    exact Bool.not_ne_self b (other.symm.trans still)
  · rw [State.paramChanged_lane _ low high, on]

end

/-- Settles O50: what is stored, and what each kind of parameter hands on. -/
theorem parameterChangesAreHandedOn : Obligations.ParameterChangesAreHandedOn := by
  intro s f manages
  refine ⟨fun k n low high most changed => ?_, fun n low high other => ?_, fun n low high few other unbound hooked => ?_,
    fun l low high => ?_, fun n low high => ?_⟩
  · have run := manages.hands (Params.read_number (low := 0) (high := 63) (by interval_cases k <;> rfl) (Nat.zero_le n) most)
      (by omega) changed
    rw [State.paramChanged_reserve _ low high] at run
    refine ⟨fun empty => ?_, fun c stall second listed found placed => ?_⟩
    · rw [State.attemptUnplaced_quiet (by exact (s.heard_unplaced f).trans empty)] at run
      exact run
    · obtain ⟨assigned, ticket, held⟩ := State.attemptUnplaced_places (t := { s.heard f with params := s.params.storeNumber k n })
        ((s.heard_unplaced f).trans listed) ((s.ticket_heard f _).trans found) placed
      exact ⟨_, run, (State.attemptUnplaced_frame _).2.2.2.2.2.1, assigned.empty, ticket, held⟩
  · have run := manages.hands (k := 18) (Params.read_number (low := 1) (high := 30) rfl low high) (by decide)
      (fun same => other (congrArg Params.curbHold same))
    have taken := State.takeOverdue_taken { s.heard f with params := { s.params with curbHold := n } }
    have judged (c : Ticket) := State.isOverdue_iff { s.heard f with params := { s.params with curbHold := n } } c
    have rest := (keepsRest_workKeeps _).takeOverdue (State.KeepsRest.refl { s.heard f with params := { s.params with curbHold := n } })
    have now : State.now { s.heard f with params := { s.params with curbHold := n } } = s.now := s.now_heard f
    simp only [now] at judged
    refine ⟨_, run, rest.params, taken.stalls.trans (s.heard_stalls f), taken.keys.trans (s.heard_keys f),
      taken.calls.trans (s.heard_calls f), fun c d found curb pending at_ over_ => ?_, fun c found waits => ?_⟩
    · exact taken.marked c ((s.ticket_heard f _).trans found) ((judged c).mpr ⟨curb, pending, d, at_, over_⟩)
    · refine taken.rests c ((s.ticket_heard f _).trans found) (Bool.eq_false_iff.mpr fun over_ => ?_)
      obtain ⟨curb, pending, d, at_, past⟩ := (judged c).mp over_
      rcases waits with away | done | ahead
      · exact away curb
      · simp [pending] at done
      · exact absurd past (by simp [ahead d at_])
  · have free : (s.heard f).panelCountBusy n = false :=
      State.panelCountBusy_free low fun h above below => by
        rw [s.heard_params] at below
        rw [s.hook_heard]
        exact unbound h above below
    have taken : (s.heard f).loadParams ⟨25, .number n⟩ = ((s.heard f).storePanelCount n, .done) :=
      State.loadParams_panels low high free (by rwa [s.heard_params])
    obtain ⟨⟨H, P, is⟩, panels, hooks⟩ := State.storePanelCount_result (s := s.heard f) (by rwa [s.heard_tickets]) n
    rw [s.heard_params] at panels hooks
    refine ⟨_, manages.loads taken, ?_, ?_, ?_, fun p low' high' => (panels p low' high').trans ?_,
      fun h low' => (hooks h low').trans ?_⟩
    · exact (congrArg State.params is).trans (by rw [s.heard_params])
    · exact (congrArg State.tickets is).trans (s.heard_tickets f)
    · exact (congrArg State.events is).trans (s.heard_events f)
    · rw [s.panel_heard]
      rfl
    · rw [s.hook_heard]
      rfl
  · have lift (b : Bool) : State.lift { s.heard f with params := s.params.storeFlag (35 + l) b } l = s.lift l := s.lift_heard f l
    have on := (s.heard f).liftConfigured_stored s.params low high true
    refine ⟨manages.idles (Params.read_flag (by interval_cases l <;> rfl) false) (by omega) ?_, fun off notIdle notBusy => ?_,
      fun w off idle free one up => ⟨_, manages.setsLift low high off, ?_⟩,
      fun c stall second off idle empty listed found placed => ⟨_, manages.setsLift low high off, ?_⟩⟩
    · have off := (s.heard f).liftConfigured_stored s.params low high false
      rw [State.paramChanged_lift _ low high, if_neg (by rw [off]; decide)]
    · rw [manages.setsLift low high off, State.liftConfiguredNow_rests (by rwa [lift]) (by rwa [lift])]
    · have granted := State.grantCheck_one low high on (by rwa [lift]) (by rwa [lift]) ((congrArg _ (lift true)).trans one)
        (by simp [State.tenureQualifies, up])
      rw [lift] at granted
      exact (State.passage_lift _ l false l).trans granted
    · exact State.liftConfiguredNow_places on (by rwa [lift]) (by rwa [lift]) ((s.heard_unplaced f).trans listed)
        ((s.ticket_heard f _).trans found) placed
  · have on (b : Bool) : State.laneConfigured { s.heard f with params := s.params.storeFlag (39 + n) b } n = b :=
      ((s.heard f).laneConfigured_stored s.params low high b n).trans (if_pos rfl)
    have lane (b : Bool) (m : Nat) : State.lane { s.heard f with params := s.params.storeFlag (39 + n) b } m = s.lane m :=
      s.lane_heard f m
    have tickets (b : Bool) : State.tickets { s.heard f with params := s.params.storeFlag (39 + n) b } = s.tickets :=
      s.heard_tickets f
    have flags (k : ParamValue) {b : Bool} (is : k = .flag (.value b)) :
        s.params.read ⟨39 + n, k⟩ = some (s.params.storeFlag (39 + n) b, false) :=
      is ▸ Params.read_flag (by interval_cases n <;> rfl) b
    have heardLanes : (s.heard f).freeLanes = s.freeLanes := State.freeLanes_congr (s.heard_arbiter f) (s.heard_params f)
    refine ⟨fun none => manages.idles (flags _ rfl) (by omega) ?_, fun c off free others one found => ?_,
      fun other => manages.idles (flags _ rfl) (by omega) ?_, fun c set reserved holds found others => ?_⟩
    · rw [State.paramChanged_lane _ low high, if_pos (on true)]
      exact State.laneGrantCheck_idle (.inr (by rw [State.NoLaneRequest, tickets]; exact none))
    · have run := manages.setsLane low high (b := true) off
      have oldest : State.oldestRequest { s.heard f with params := s.params.storeFlag (39 + n) true } = some c := by
        rw [State.oldestRequest, tickets, one]
        rfl
      have choice := State.laneFor_stored (s := s.heard f) low high (by rwa [s.lane_heard]) (heardLanes.trans others) c
      rw [s.heard_params] at choice
      have wants : c.wantsLane = true := (List.mem_filter.mp (one ▸ List.mem_singleton.mpr rfl : c ∈ s.tickets.filter _)).2
      obtain ⟨given, ticket⟩ := State.laneGrantCheck_serves oldest choice ((s.ticket_heard f _).trans found)
      exact ⟨_, run, congrArg Lane.state given, congrArg Lane.ticket given,
        (congrArg (Option.map _) ticket).trans (congrArg some (c.reserved_fields wants n))⟩
    · rw [State.paramChanged_lane _ low high, if_neg (by rw [on]; decide), State.laneUnconfigured, if_neg (by rwa [lane])]
    · have run := manages.setsLane low high (b := false) set
      have none : State.freeLanes { s.heard f with params := s.params.storeFlag (39 + n) false } = [] :=
        State.freeLanes_cleared (on false) others (fun m other => ((s.heard f).laneConfigured_stored s.params low high false m).trans
          (if_neg (Ne.symm other))) fun m _ => lane false m
      obtain ⟨freed, ticket, stalls, keys, dispatch⟩ := State.laneUnconfigured_result low high ((congrArg _ (lane false n)).trans reserved)
        ((congrArg _ (lane false n)).trans holds) ((s.ticket_heard f _).trans found) (on false) none
      rw [lane] at freed
      exact ⟨_, run, freed, ticket, stalls.trans (s.heard_stalls f), keys.trans (s.heard_keys f),
        dispatch.trans (s.heard_dispatch f)⟩

end Sys2Proof.Machine
end

section
/-! SUPPORT for O7, second half. Who stands where: the table of what the tickets, lists, hooks, stalls and lifts say of each
ticket number, its writes, and when it is sound. -/

namespace Sys2Proof.Machine

open Sys2Proof

/-! ### The table and the view of a number -/

/-- Who stands where: the footing of every open ticket, the two lists, the ticket and the claim of every hook and stall, and
the tickets of each lift's tenures. -/
structure Table where
  tickets : List (Nat × Footing)
  unplaced : List Nat
  schedule : List Nat
  hooks : Nat → Option Nat × Bool
  stalls : Nat → Option Nat × StallState
  riders : Nat → List (Option Nat)

/-- The table of a state. -/
def State.table (s : State) : Table where
  tickets := s.tickets.map fun t => (t.number, t.footing)
  unplaced := s.unplaced
  schedule := s.calls.schedule.map (·.ticket)
  hooks h := ((s.hook h).ticket, (s.hook h).custody.loose)
  stalls k := ((s.stall k).ticket, (s.stall k).state.claim)
  riders l := (s.lift l).tenures.map (·.ticket)

/-- What the table says of one ticket number. -/
structure View where
  footing : Option Footing
  listed : Prop
  scheduled : Prop
  hooks : Nat → Prop
  held : Nat → Prop
  occupied : Nat → Prop
  rides : Prop

/-- The footing of the ticket of a number. -/
def Table.footing (T : Table) (n : Nat) : Option Footing := (T.tickets.find? (·.1 == n)).map (·.2)

/-- The tickets that have a tenure, once for each. -/
def Table.riding (T : Table) : List Nat := liftNumbers.flatMap fun l => (T.riders l).filterMap id

/-- The view of a number. -/
def Table.view (T : Table) (n : Nat) : View where
  footing := T.footing n
  listed := n ∈ T.unplaced
  scheduled := n ∈ T.schedule
  hooks h := (T.hooks h).1 = some n
  held k := T.stalls k = (some n, .held)
  occupied k := T.stalls k = (some n, .occupied)
  rides := n ∈ T.riding

/-! ### When the table is sound -/

/-- The ticket has stall `k` HELD for it. -/
def Footing.holds (c : Footing) (k : Nat) : Prop :=
  c.stall = some k ∧ (c.state = .assigned ∨ c.state = .parking) ∨ c.target = some k ∧ c.state = .restaging

/-- The ticket's car stands in stall `k`. -/
def Footing.fills (c : Footing) (k : Nat) : Prop := c.stall = some k ∧
  (c.state = .parked ∨ c.state = .scheduled ∨ c.state = .restaging ∨ c.state = .fetching)

/-- The ticket has a bound stall and a target as its state asks. -/
def Footing.bound (c : Footing) : Prop :=
  (c.stall ≠ none → c.state = .assigned ∨ c.state = .parking ∨ c.state = .parked ∨ c.state = .scheduled ∨
    c.state = .restaging ∨ c.state = .fetching) ∧
  (c.state = .assigned ∨ c.state = .parking → c.stall ≠ none) ∧ (c.target ≠ none ↔ c.state = .restaging)

/-- The ticket may have a tenure. -/
def Footing.mayRide (c : Footing) : Prop :=
  c.state = .parking ∨ (c.state = .fetching ∨ c.state = .restaging ∨ c.state = .descending) ∧ c.stall = none

/-- The records name the number as its ticket asks, and not at all where it has none. -/
structure View.Right (v : View) : Prop where
  listed : v.listed ↔ ∃ c, v.footing = some c ∧ c.state = .unplaced
  scheduled : v.scheduled ↔ ∃ c, v.footing = some c ∧ c.state = .scheduled
  hooks : ∀ h, v.hooks h ↔ ∃ c, v.footing = some c ∧ c.hook = some h
  held : ∀ k, v.held k ↔ ∃ c, v.footing = some c ∧ c.holds k
  occupied : ∀ k, v.occupied k ↔ ∃ c, v.footing = some c ∧ c.fills k
  bound : ∀ c, v.footing = some c → c.bound
  rides : v.rides → ∃ c, v.footing = some c ∧ c.mayRide

/-- Each number and entry stands once, and a hook or stall names a ticket exactly as its claim says. -/
structure Table.Shape (T : Table) : Prop where
  numbers : (T.tickets.map (·.1)).Nodup
  unplaced : T.unplaced.Nodup
  schedule : T.schedule.Nodup
  hooks : ∀ h, (T.hooks h).1 = none ↔ (T.hooks h).2 = true
  stalls : ∀ k, (T.stalls k).1 ≠ none ↔ (T.stalls k).2 = .held ∨ (T.stalls k).2 = .occupied
  riding : T.riding.Nodup

/-- The table is sound but for the numbers of `E`, whose views are those of `v`. -/
structure State.Sound (E : Nat → Prop) (v : Nat → View) (s : State) : Prop where
  shape : s.table.Shape
  right : ∀ n, ¬ E n → (s.table.view n).Right
  own : ∀ n, E n → s.table.view n = v n

/-! ### The records of the tickets are right when the table is sound -/

theorem State.footing_table (s : State) (n : Nat) : s.table.footing n = (s.ticket n).map (·.footing) := by
  simp only [Table.footing, State.table, State.ticket, List.find?_map, Option.map_map]
  rfl

theorem State.riding_table (s : State) : s.table.riding = s.tenureTickets := by
  simp [Table.riding, State.table, State.tenureTickets, liftNumbers, List.filterMap_map]

theorem StallState.claim_held {x : StallState} : x.claim = .held ↔ x = .held := by cases x <;> simp [StallState.claim]

theorem StallState.claim_occupied {x : StallState} : x.claim = .occupied ↔ x = .occupied := by
  cases x <;> simp [StallState.claim]

theorem Custody.loose_iff {x : Custody} : x.loose = true ↔ x = .vacant ∨ x = .found := by cases x <;> simp [Custody.loose]

theorem State.view_held (s : State) (n k : Nat) : (s.table.view n).held k ↔ s.heldFor k n = true := by
  simp [Table.view, State.table, State.heldFor, StallState.claim_held, and_comm]

theorem State.view_occupied (s : State) (n k : Nat) : (s.table.view n).occupied k ↔ s.occupiedBy k n = true := by
  simp [Table.view, State.table, State.occupiedBy, StallState.claim_occupied, and_comm]

/-- A state's ticket has a property of its footing. -/
theorem State.exists_footing (s : State) (n : Nat) (p : Footing → Prop) :
    (∃ c, (s.table.view n).footing = some c ∧ p c) ↔ ∃ c, s.ticket n = some c ∧ p c.footing := by
  simp only [Table.view, s.footing_table]
  cases s.ticket n <;> simp

theorem Ticket.state_map {o : Option Ticket} {x : TicketState} (own : ∀ y : TicketState, y.phase = x ↔ y = x) :
    (∃ c, o = some c ∧ c.footing.state = x) ↔ o.map (·.state) = some x := by
  cases o <;> simp [Ticket.footing, own]

theorem Ticket.holds_iff {c : Ticket} {k : Nat} : c.footing.holds k ↔
    c.stall = some k ∧ (c.state = .assigned ∨ c.state = .parking) ∨ c.target = some k ∧ c.state = .restaging := by
  unfold Footing.holds Ticket.footing
  cases c.state <;> simp [TicketState.phase]

theorem Ticket.fills_iff {c : Ticket} {k : Nat} : c.footing.fills k ↔ c.stall = some k ∧
    (c.state = .parked ∨ c.state = .scheduled ∨ c.state = .called ∨ c.state = .restaging ∨ c.state = .fetching) := by
  unfold Footing.fills Ticket.footing
  cases c.state <;> simp [TicketState.phase]

theorem Ticket.bound_iff {c : Ticket} : c.footing.bound ↔
    (c.stall ≠ none → c.state = .assigned ∨ c.state = .parking ∨ c.state = .parked ∨ c.state = .scheduled
      ∨ c.state = .called ∨ c.state = .restaging ∨ c.state = .fetching)
    ∧ (c.state = .assigned ∨ c.state = .parking → c.stall ≠ none) ∧ (c.target ≠ none ↔ c.state = .restaging) := by
  unfold Footing.bound Ticket.footing
  cases c.state <;> simp [TicketState.phase]

theorem Ticket.mayRide_iff {c : Ticket} : c.footing.mayRide ↔ c.state = .parking
    ∨ (c.state = .fetching ∨ c.state = .restaging ∨ c.state = .descending) ∧ c.stall = none := by
  unfold Footing.mayRide Ticket.footing
  cases c.state <;> simp [TicketState.phase]

/-- With distinct numbers a ticket of the table is the one its number finds. -/
theorem State.ticket_of_distinct {s : State} (distinct : (s.tickets.map (·.number)).Nodup) {c : Ticket} (mem : c ∈ s.tickets) :
    s.ticket c.number = some c := by
  rw [State.ticket, List.find?_eq_some_iff_append]
  obtain ⟨xs, ys, split⟩ := List.append_of_mem mem
  refine ⟨by simp, xs, ys, split, fun d before => ?_⟩
  rw [split, List.map_append, List.nodup_append] at distinct
  obtain ⟨-, -, apart⟩ := distinct
  simpa using apart _ (List.mem_map_of_mem before) _ (List.mem_map_of_mem (List.mem_cons_self ..))

/-- The obligation's invariant, read from the table. -/
theorem State.recordsRight_iff (s : State) : s.RecordsRight ↔ s.table.Shape ∧ ∀ n, (s.table.view n).Right := by
  have numbers : s.table.tickets.map (·.1) = s.tickets.map (·.number) := by simp [State.table]
  have unplaced (n : Nat) : (∃ c, (s.table.view n).footing = some c ∧ c.state = .unplaced) ↔
      (s.ticket n).map (·.state) = some .unplaced :=
    (s.exists_footing n _).trans (Ticket.state_map fun y => by cases y <;> simp [TicketState.phase])
  have scheduled (n : Nat) : (∃ c, (s.table.view n).footing = some c ∧ c.state = .scheduled) ↔
      (s.ticket n).map (·.state) = some .scheduled :=
    (s.exists_footing n _).trans (Ticket.state_map fun y => by cases y <;> simp [TicketState.phase])
  have hooks (n h : Nat) : (∃ c, (s.table.view n).footing = some c ∧ c.hook = some h) ↔
      (s.ticket n).bind (·.hook) = some h := by
    rw [s.exists_footing]
    cases s.ticket n <;> simp [Ticket.footing]
  constructor
  · intro r
    refine ⟨⟨numbers ▸ r.numbers, r.unplaced.1, r.schedule.1, fun h => ?_, fun k => ?_, s.riding_table ▸ r.tenures.1⟩,
      fun n => ⟨?_, ?_, fun h => ?_, fun k => ?_, fun k => ?_, fun c found => ?_, fun mem => ?_⟩⟩
    · exact (r.hooks h).2.trans Custody.loose_iff.symm
    · exact (r.named k).trans (or_congr StallState.claim_held.symm StallState.claim_occupied.symm)
    · exact (r.unplaced.2 n).trans (unplaced n).symm
    · exact (r.schedule.2 n).trans (scheduled n).symm
    · exact ((r.hooks h).1 n).trans (hooks n h).symm
    · rw [s.view_held, r.held, s.exists_footing]
      simp only [Ticket.holds_iff]
    · rw [s.view_occupied, r.occupied, s.exists_footing]
      simp only [Ticket.fills_iff]
    · rw [show (s.table.view n).footing = s.table.footing n from rfl, s.footing_table] at found
      obtain ⟨d, open_, rfl⟩ := Option.map_eq_some_iff.mp found
      exact Ticket.bound_iff.mpr (r.bound d (List.mem_of_find?_eq_some open_))
    · rw [s.exists_footing]
      simp only [Ticket.mayRide_iff]
      exact r.tenures.2 n (s.riding_table ▸ mem)
  · rintro ⟨shape, right⟩
    have distinct : (s.tickets.map (·.number)).Nodup := numbers ▸ shape.numbers
    refine ⟨distinct, ⟨shape.unplaced, fun n => (right n).listed.trans (unplaced n)⟩,
      ⟨shape.schedule, fun n => (right n).scheduled.trans (scheduled n)⟩,
      fun h => ⟨fun n => ((right n).hooks h).trans (hooks n h), (shape.hooks h).trans Custody.loose_iff⟩,
      fun k => (shape.stalls k).trans (or_congr StallState.claim_held StallState.claim_occupied), fun k n => ?_, fun k n => ?_,
      fun c mem => ?_, s.riding_table ▸ shape.riding, fun n mem => ?_⟩
    · rw [← s.view_held, (right n).held, s.exists_footing]
      simp only [Ticket.holds_iff]
    · rw [← s.view_occupied, (right n).occupied, s.exists_footing]
      simp only [Ticket.fills_iff]
    · refine Ticket.bound_iff.mp ((right c.number).bound _ ?_)
      rw [show (s.table.view c.number).footing = s.table.footing c.number from rfl, s.footing_table,
        State.ticket_of_distinct distinct mem]
      rfl
    · obtain ⟨c, open_, rides⟩ := (s.exists_footing n _).mp ((right n).rides (show n ∈ s.table.riding from s.riding_table ▸ mem))
      exact ⟨c, open_, Ticket.mayRide_iff.mp rides⟩

/-! ### The writes of the table -/

/-- The footing of a number's ticket changes. -/
def Table.edit (T : Table) (n : Nat) (g : Footing → Footing) : Table :=
  { T with tickets := T.tickets.map fun c => if c.1 = n then (c.1, g c.2) else c }

/-- A stall's ticket and claim change. -/
def Table.putStall (T : Table) (k : Nat) (x : Option Nat × StallState) : Table :=
  { T with stalls := Function.update T.stalls k x }

/-- A hook's ticket and claim change. -/
def Table.putHook (T : Table) (h : Nat) (x : Option Nat × Bool) : Table :=
  { T with hooks := Function.update T.hooks h x }

/-- The tickets of a lift's tenures change. -/
def Table.putRiders (T : Table) (l : Nat) (xs : List (Option Nat)) : Table :=
  { T with riders := Function.update T.riders l xs }

/-- A number's view with its footing changed. -/
@[simp] def View.edit (v : View) (g : Footing → Footing) : View := { v with footing := v.footing.map g }

theorem Table.footing_edit (T : Table) (n : Nat) (g : Footing → Footing) (m : Nat) :
    (T.edit n g).footing m = if m = n then (T.footing m).map g else T.footing m := by
  have same : ((fun c : Nat × Footing => c.1 == m) ∘ fun c => if c.1 = n then (c.1, g c.2) else c) = fun c => c.1 == m := by
    funext c
    simp only [Function.comp_apply]
    split <;> rfl
  simp only [Table.footing, Table.edit, List.find?_map, same, Option.map_map]
  cases found : T.tickets.find? (fun c => c.1 == m) with
  | none => simp
  | some c =>
    have number : c.1 = m := by simpa using List.find?_some found
    by_cases own : m = n <;> simp [number, own]

theorem Table.view_edit_same (T : Table) (n : Nat) (g : Footing → Footing) : (T.edit n g).view n = (T.view n).edit g := by
  have footing : (T.edit n g).footing n = (T.footing n).map g := by rw [T.footing_edit, if_pos rfl]
  simp only [Table.view, View.edit, footing]
  rfl

theorem Table.view_edit_ne (T : Table) {n m : Nat} (g : Footing → Footing) (other : m ≠ n) : (T.edit n g).view m = T.view m := by
  have footing : (T.edit n g).footing m = T.footing m := by rw [T.footing_edit, if_neg other]
  simp only [Table.view, footing]
  rfl

theorem Table.view_putStall (T : Table) (k : Nat) (x : Option Nat × StallState) (n : Nat) : (T.putStall k x).view n =
    { T.view n with held := fun j => if j = k then x = (some n, .held) else (T.view n).held j
                    occupied := fun j => if j = k then x = (some n, .occupied) else (T.view n).occupied j } := by
  have at_ (j : Nat) : (T.putStall k x).stalls j = if j = k then x else T.stalls j := Function.update_apply ..
  simp only [Table.view, at_]
  congr 1 <;> (funext j; split <;> rfl)

/-- A number's view with stall `k` claimed as `x` says: HELD, OCCUPIED, or not at all. -/
@[simp] def View.claim (v : View) (k : Nat) (x : StallState) : View :=
  { v with held := fun j => if j = k then x = .held else v.held j
           occupied := fun j => if j = k then x = .occupied else v.occupied j }

theorem Table.view_claim (T : Table) (k n : Nat) (x : StallState) : (T.putStall k (some n, x)).view n = (T.view n).claim k x := by
  rw [T.view_putStall]
  simp [View.claim]

theorem Table.view_unclaim (T : Table) (k n : Nat) (x : StallState) : (T.putStall k (none, x)).view n = (T.view n).claim k .free := by
  rw [T.view_putStall]
  simp [View.claim]

theorem Table.view_putHook (T : Table) (h : Nat) (x : Option Nat × Bool) (n : Nat) : (T.putHook h x).view n =
    { T.view n with hooks := fun j => if j = h then x.1 = some n else (T.view n).hooks j } := by
  have at_ (j : Nat) : (T.putHook h x).hooks j = if j = h then x else T.hooks j := Function.update_apply ..
  simp only [Table.view, at_]
  congr 1
  funext j
  split <;> rfl

/-- The tenures of one lift stand apart from those of the others. -/
theorem Table.riding_split (T : Table) {l : Nat} (lift : l ∈ liftNumbers) : ∃ rest : List Nat,
    T.riding.Perm ((T.riders l).filterMap id ++ rest) ∧
      ∀ xs, (T.putRiders l xs).riding.Perm (xs.filterMap id ++ rest) := by
  have all : liftNumbers = [1, 2, 3, 4] := by decide
  have at_ (xs : List (Option Nat)) (j : Nat) : (T.putRiders l xs).riders j = if j = l then xs else T.riders j :=
    Function.update_apply ..
  refine ⟨(liftNumbers.filter (· != l)).flatMap fun j => (T.riders j).filterMap id, ?_, fun xs => ?_⟩
  all_goals
    rw [List.perm_iff_count]
    intro n
    rw [all] at lift ⊢
    simp only [List.mem_cons, List.not_mem_nil, or_false] at lift
    obtain rfl | rfl | rfl | rfl := lift <;>
      simp only [Table.riding, all, at_, List.flatMap_cons, List.flatMap_nil, List.filter_cons, List.filter_nil, List.count_append,
        List.count_nil] <;> simp <;> omega

/-! ### Moves of one number -/

/-- From one table to the other only the records of one number moved, and the shape is kept. -/
structure Table.Moves (n : Nat) (T U : Table) : Prop where
  shape : T.Shape → U.Shape
  others : ∀ m, m ≠ n → U.view m = T.view m

theorem Table.Moves.refl (n : Nat) (T : Table) : Table.Moves n T T := ⟨id, fun _ _ => rfl⟩

theorem Table.Moves.trans {n : Nat} {T U V : Table} (one : Table.Moves n T U) (two : Table.Moves n U V) : Table.Moves n T V :=
  ⟨fun shape => two.shape (one.shape shape), fun m other => (two.others m other).trans (one.others m other)⟩

theorem Table.moves_edit (T : Table) (n : Nat) (g : Footing → Footing) : Table.Moves n T (T.edit n g) where
  shape shape := { shape with
    numbers := by
      have same : (T.edit n g).tickets.map (·.1) = T.tickets.map (·.1) := by
        simp only [Table.edit, List.map_map]
        congr 1
        funext c
        simp only [Function.comp_apply]
        split <;> rfl
      exact same ▸ shape.numbers }
  others _ other := T.view_edit_ne g other

theorem Table.moves_putStall (T : Table) {n k : Nat} {x : Option Nat × StallState} (old : ∀ m, (T.stalls k).1 = some m → m = n)
    (new : ∀ m, x.1 = some m → m = n) (claim : x.1 ≠ none ↔ x.2 = .held ∨ x.2 = .occupied) :
    Table.Moves n T (T.putStall k x) where
  shape shape := { shape with
    stalls := fun j => by
      rw [show (T.putStall k x).stalls j = if j = k then x else T.stalls j from Function.update_apply ..]
      split
      exacts [claim, shape.stalls j] }
  others m other := by
    rw [T.view_putStall]
    have here (y : StallState) : x ≠ (some m, y) := fun same => other (new m (by rw [same]))
    have there (y : StallState) : T.stalls k ≠ (some m, y) := fun same => other (old m (by rw [same]))
    simp only [Table.view]
    congr 1 <;> (funext j; split <;> simp_all)

theorem Table.moves_putHook (T : Table) {n h : Nat} {x : Option Nat × Bool} (old : ∀ m, (T.hooks h).1 = some m → m = n)
    (new : ∀ m, x.1 = some m → m = n) (claim : x.1 = none ↔ x.2 = true) : Table.Moves n T (T.putHook h x) where
  shape shape := { shape with
    hooks := fun j => by
      rw [show (T.putHook h x).hooks j = if j = h then x else T.hooks j from Function.update_apply ..]
      split
      exacts [claim, shape.hooks j] }
  others m other := by
    rw [T.view_putHook]
    have here : x.1 ≠ some m := fun same => other (new m same)
    have there : (T.hooks h).1 ≠ some m := fun same => other (old m same)
    simp only [Table.view]
    congr 1
    funext j
    split <;> simp_all

theorem Table.moves_unplaced (T : Table) {n : Nat} {l : List Nat} (distinct : T.unplaced.Nodup → l.Nodup)
    (same : ∀ m, m ≠ n → (m ∈ l ↔ m ∈ T.unplaced)) : Table.Moves n T { T with unplaced := l } where
  shape shape := { shape with unplaced := distinct shape.unplaced }
  others m other := congrArg (fun p => { T.view m with listed := p }) (propext (same m other))

theorem Table.moves_schedule (T : Table) {n : Nat} {l : List Nat} (distinct : T.schedule.Nodup → l.Nodup)
    (same : ∀ m, m ≠ n → (m ∈ l ↔ m ∈ T.schedule)) : Table.Moves n T { T with schedule := l } where
  shape shape := { shape with schedule := distinct shape.schedule }
  others m other := congrArg (fun p => { T.view m with scheduled := p }) (propext (same m other))

theorem Table.moves_riders (T : Table) {n l : Nat} {xs : List (Option Nat)}
    (distinct : T.riding.Nodup → (T.putRiders l xs).riding.Nodup)
    (same : ∀ m, m ≠ n → (m ∈ (T.putRiders l xs).riding ↔ m ∈ T.riding)) : Table.Moves n T (T.putRiders l xs) where
  shape shape := { shape with riding := distinct shape.riding }
  others m other := congrArg (fun p => { T.view m with rides := p }) (propext (same m other))

theorem Table.moves_drop (T : Table) (n : Nat) : Table.Moves n T { T with tickets := T.tickets.filter (·.1 != n) } where
  shape shape := { shape with numbers := shape.numbers.sublist (List.filter_sublist.map _) }
  others m other := by
    have footing : Table.footing { T with tickets := T.tickets.filter (·.1 != n) } m = T.footing m := by
      simp only [Table.footing, List.find?_filter]
      congr 2
      funext c
      by_cases same : c.1 = m <;> simp [same, other]
    simp only [Table.view, footing]
    rfl

theorem Table.footing_drop (T : Table) (n : Nat) :
    Table.footing { T with tickets := T.tickets.filter (·.1 != n) } n = none := by
  simp [Table.footing, List.find?_filter]

/-! ### Soundness carried over -/

variable {E : Nat → Prop} {v : Nat → View} {s t : State}

/-- The table is sound and nobody is left out. -/
abbrev State.Right (s : State) : Prop := s.Sound (fun _ => False) State.reset.table.view

theorem State.right_iff (s : State) : s.Right ↔ s.RecordsRight :=
  Iff.trans ⟨fun hs => ⟨hs.shape, fun n => hs.right n fun h => h⟩, fun ⟨shape, right⟩ => ⟨shape, fun n _ => right n, nofun⟩⟩
    s.recordsRight_iff.symm

theorem State.Sound.of_table (hs : s.Sound E v) (same : t.table = s.table) : t.Sound E v :=
  ⟨same ▸ hs.shape, same ▸ hs.right, same ▸ hs.own⟩

/-- A move of a number that counts keeps the table sound when the number's own view is right after it. -/
theorem State.Sound.moved {n : Nat} (hs : s.Sound E v) (moves : Table.Moves n s.table t.table) (counts : ¬ E n)
    (own : (t.table.view n).Right) : t.Sound E v where
  shape := moves.shape hs.shape
  right m out := by
    by_cases same : m = n
    · exact same ▸ own
    · rw [moves.others m same]
      exact hs.right m out
  own m out := by
    rw [moves.others m fun same => counts (same ▸ out)]
    exact hs.own m out

/-- A move leaves out the number it moves. -/
theorem State.Sound.leave {n : Nat} {w : Nat → View} (hs : s.Sound (fun _ => False) v) (moves : Table.Moves n s.table t.table)
    (own : t.table.view n = w n) : t.Sound (· = n) w where
  shape := moves.shape hs.shape
  right m out := by
    rw [moves.others m out]
    exact hs.right m fun h => h
  own m same := by rw [same]; exact own

/-- A move brings the number that was left out back in. -/
theorem State.Sound.back {n : Nat} {w : Nat → View} (hs : s.Sound (· = n) w) (moves : Table.Moves n s.table t.table)
    (own : (t.table.view n).Right) : t.Sound (fun _ => False) v where
  shape := moves.shape hs.shape
  right m _ := by
    by_cases same : m = n
    · exact same ▸ own
    · rw [moves.others m same]
      exact hs.right m same
  own _ out := out.elim

end Sys2Proof.Machine
end

section
/-! SUPPORT for O7, continued: what each write of the model writes in the table, and that all the others leave it. -/

namespace Sys2Proof.Machine

open Sys2Proof

/-! ### The writes of the model -/

/-- The table is read from the tickets, the lists, the hooks, the stalls and the lifts alone. -/
theorem State.table_congr {s t : State} (tickets : t.tickets = s.tickets) (unplaced : t.unplaced = s.unplaced)
    (schedule : t.calls.schedule = s.calls.schedule) (hooks : t.keys.hooks = s.keys.hooks)
    (stalls : t.stalls.records = s.stalls.records) (lifts : t.arbiter.lifts = s.arbiter.lifts) : t.table = s.table := by
  simp only [State.table, State.hook, State.stall, State.lift, tickets, unplaced, schedule, hooks, stalls, lifts]

/-- The footing of a ticket that enters a state. -/
@[simp] def Footing.enter (c : Footing) (x : TicketState) : Footing := { c with state := x.phase }

theorem Ticket.enter_footing (t : Ticket) (x : TicketState) (now : SiteTime) :
    (t.enter x now).footing = t.footing.enter x := by
  simp only [Ticket.enter, Ticket.footing, Footing.enter]
  split <;> rfl

theorem State.table_modify (s : State) (n : Nat) {f : Ticket → Ticket} (g : Footing → Footing)
    (foot : ∀ t, (f t).footing = g t.footing := by exact fun _ => rfl) (number : ∀ t, (f t).number = t.number := by exact fun _ => rfl) :
    (s.modifyTicket n f).table = s.table.edit n g := by
  simp only [State.table, State.modifyTicket, Table.edit, List.map_map]
  congr 1
  refine List.map_congr_left fun t _ => ?_
  by_cases own : t.number = n <;> simp [own, foot, number]

theorem State.table_move (s : State) (n : Nat) (x : TicketState) :
    (s.moveTicket n x).table = s.table.edit n (·.enter x) := by
  obtain ⟨-, stalls, unplaced, -, keys, -, arbiter, schedule, -⟩ := s.moveTicket_frame n x
  rw [← s.table_modify n _ (fun t => t.enter_footing x s.now) fun t => t.enter_number x s.now]
  exact State.table_congr (s.moveTicket_tickets n x) unplaced schedule (congrArg _ keys) (congrArg _ stalls) (congrArg _ arbiter)

theorem State.table_putStall (s : State) {k : Nat} (low : k < Config.stallCount) (r : Stall) :
    (s.putStall k r).table = s.table.putStall k (r.ticket, r.state.claim) := by
  obtain ⟨-, unplaced, tickets, -, keys, -, arbiter, calls, -⟩ := s.putStall_frame k r
  simp only [State.table, Table.putStall, State.hook, State.lift, unplaced, tickets, keys, arbiter, calls]
  congr 1
  funext j
  by_cases same : k = j
  · rw [← same, State.stall_putStall_same s k r low, Function.update_self]
  · rw [State.stall_putStall_ne s k j r same, Function.update_of_ne fun h => same h.symm]

theorem State.putStall_beyond (s : State) {k : Nat} (r : Stall) (high : ¬ k < Config.stallCount) : s.putStall k r = s := by
  rw [State.putStall, if_neg high]

theorem State.table_setHook (s : State) {h : Nat} (low : h < Config.hookCount) (r : Hook) :
    (s.setHook h r).table = s.table.putHook h (r.ticket, r.custody.loose) := by
  simp only [State.table, Table.putHook]
  congr 1
  funext j
  by_cases same : h = j
  · rw [← same, State.hook_setHook_same s h r low, Function.update_self]
  · rw [State.hook_setHook_ne s h j r same, Function.update_of_ne fun h => same h.symm]

theorem State.table_setLift (s : State) {l : Nat} (lift : l ∈ liftNumbers) (r : Lift) :
    (s.setLift l r).table = s.table.putRiders l (r.tenures.map (·.ticket)) := by
  obtain ⟨low, high⟩ := mem_liftNumbers.mp lift
  simp only [State.table, Table.putRiders]
  congr 1
  funext j
  by_cases same : l = j
  · rw [← same, State.lift_setLift_same s l r low high, Function.update_self]
  · rw [State.lift_setLift_ne s l j r same, Function.update_of_ne fun h => same h.symm]

theorem State.setLift_beyond (s : State) {l : Nat} (r : Lift) (out : l ∉ liftNumbers) : s.setLift l r = s := by
  rw [State.setLift, setNth1_outside _ _ _ (fun fits => out (mem_liftNumbers.mpr fits))]

/-! ### The writes that leave the table -/

/-- A write of what stands there already. -/
theorem Table.putStall_self (T : Table) (k : Nat) : T.putStall k (T.stalls k) = T := by
  simp [Table.putStall]

theorem Table.putHook_self (T : Table) (h : Nat) : T.putHook h (T.hooks h) = T := by
  simp [Table.putHook]

theorem Table.putRiders_self (T : Table) (l : Nat) : T.putRiders l (T.riders l) = T := by
  simp [Table.putRiders]

theorem State.table_stallMarks (s : State) (k : Nat) (r : Stall) (ticket : r.ticket = (s.stall k).ticket)
    (claim : r.state.claim = (s.stall k).state.claim) : (s.putStall k r).table = s.table := by
  by_cases low : k < Config.stallCount
  · rw [s.table_putStall low, ticket, claim]
    exact s.table.putStall_self k
  · rw [s.putStall_beyond r low]

theorem State.table_hookMarks (s : State) (h : Nat) (r : Hook) (ticket : r.ticket = (s.hook h).ticket)
    (loose : r.custody.loose = (s.hook h).custody.loose) : (s.setHook h r).table = s.table := by
  by_cases low : h < Config.hookCount
  · rw [s.table_setHook low, ticket, loose]
    exact s.table.putHook_self h
  · rw [State.setHook, setNth_outside _ _ _ (by omega)]

theorem State.table_liftMarks (s : State) (l : Nat) (r : Lift) (same : r.tenures.map (·.ticket) = (s.lift l).tenures.map (·.ticket)) :
    (s.setLift l r).table = s.table := by
  by_cases lift : l ∈ liftNumbers
  · rw [s.table_setLift lift, same]
    exact s.table.putRiders_self l
  · rw [s.setLift_beyond r lift]

/-- What a change of every record leaves of each is read as before. -/
theorem read_mapBank {α β : Type} {n : Nat} (v : Vector α n) {f : α → α} (g : α → β) (same : ∀ r, g (f r) = g r) (i : Nat) (d : α) :
    g (nth (mapBank v f) i d) = g (nth v i d) := by
  by_cases low : i < n
  · rw [nth_mapBank _ _ _ _ low, same]
  · rw [nth_outside _ _ _ (by omega), nth_outside _ _ _ (by omega)]

/-- Every write that leaves the records of who stands where leaves the table. -/
theorem table_edgeKeeps (T : Table) : EdgeKeeps fun s => s.table = T where
  dispatch _ hs := hs
  board _ hs := hs
  notes f same foot hs := by
    rw [← hs]
    simp only [State.table, List.map_map]
    congr 1
    refine List.map_congr_left fun t mem => ?_
    simp [(same t).1, foot t mem]
  stallMarks k r _ ticket claim hs := (State.table_stallMarks _ k r ticket claim).trans hs
  hookMarks h r ticket loose hs := (State.table_hookMarks _ h r ticket loose).trans hs
  liftMarks l r same hs := (State.table_liftMarks _ l r same).trans hs
  lanes _ hs := hs
  waiting _ hs := hs
  stations _ _ hs := hs
  loadedStall k r _ _ ticket claim hs := (State.table_stallMarks _ k r ticket claim).trans hs
  markedStalls {s} f same ticket hs := by
    rw [← hs]
    simp only [State.table]
    congr 1
    funext k
    exact read_mapBank s.stalls.records (fun r => (r.ticket, r.state.claim)) (fun r => by rw [ticket r, (same r).1]) k Stall.cold
  markedHooks {s} f same hs := by
    rw [← hs]
    simp only [State.table]
    congr 1
    funext k
    exact read_mapBank s.keys.hooks (fun r => (r.ticket, r.custody.loose)) (fun r => by rw [(same r).1, (same r).2]) k Hook.cold
  markedEntries {s} f same hs := by
    rw [← hs]
    have entries : (s.calls.schedule.map f).map (·.ticket) = s.calls.schedule.map (·.ticket) := by simp [same]
    simp only [State.table, entries]
    rfl
  setPanel _ _ _ hs := hs
  panels _ _ hs := hs
  scan _ hs := hs
  cabinet _ hs := hs
  setChannel _ _ _ hs := hs
  timers _ _ hs := hs
  fed _ _ hs := hs
  events _ _ hs := hs
  clock _ _ _ hs := hs
  setPort p r _ hs := by
    rw [← hs]
    cases p <;> rfl
  passTable _ hs := hs
  strap _ hs := hs
  params _ _ hs := hs
  pending _ hs := hs
  power _ hs := hs

/-- A property that the table decides is kept by every write that leaves the table. -/
theorem edgeKeeps_of_table {P : State → Prop} (decides : ∀ s t : State, t.table = s.table → P s → P t) : EdgeKeeps P := by
  have edge (s : State) : EdgeKeeps fun u => u.table = s.table := table_edgeKeeps s.table
  exact {
    dispatch := fun {s} d hs => decides s _ ((edge s).dispatch d rfl) hs
    board := fun {s} x hs => decides s _ ((edge s).board x rfl) hs
    notes := fun {s} f same foot hs => decides s _ ((edge s).notes f same foot rfl) hs
    stallMarks := fun {s} k r site ticket claim hs => decides s _ ((edge s).stallMarks k r site ticket claim rfl) hs
    hookMarks := fun {s} k r ticket loose hs => decides s _ ((edge s).hookMarks k r ticket loose rfl) hs
    liftMarks := fun {s} l r same hs => decides s _ ((edge s).liftMarks l r same rfl) hs
    lanes := fun {s} v hs => decides s _ ((edge s).lanes v rfl) hs
    waiting := fun {s} x hs => decides s _ ((edge s).waiting x rfl) hs
    stations := fun {s} v fits hs => decides s _ ((edge s).stations v fits rfl) hs
    loadedStall := fun {s} k r low right ticket claim hs => decides s _ ((edge s).loadedStall k r low right ticket claim rfl) hs
    markedStalls := fun {s} f same ticket hs => decides s _ ((edge s).markedStalls f same ticket rfl) hs
    markedHooks := fun {s} f same hs => decides s _ ((edge s).markedHooks f same rfl) hs
    markedEntries := fun {s} f same hs => decides s _ ((edge s).markedEntries f same rfl) hs
    setPanel := fun {s} p r fits hs => decides s _ ((edge s).setPanel p r fits rfl) hs
    panels := fun {s} v fits hs => decides s _ ((edge s).panels v fits rfl) hs
    scan := fun {s} x hs => decides s _ ((edge s).scan x rfl) hs
    cabinet := fun {s} x hs => decides s _ ((edge s).cabinet x rfl) hs
    setChannel := fun {s} k c rest hs => decides s _ ((edge s).setChannel k c rest rfl) hs
    timers := fun {s} f rest hs => decides s _ ((edge s).timers f rest rfl) hs
    fed := fun {s} target sample hs => decides s _ ((edge s).fed target sample rfl) hs
    events := fun {s} e same hs => decides s _ ((edge s).events e same rfl) hs
    clock := fun {s} t day tenth hs => decides s _ ((edge s).clock t day tenth rfl) hs
    setPort := fun {s} p r fits hs => decides s _ ((edge s).setPort p r fits rfl) hs
    passTable := fun {s} x hs => decides s _ ((edge s).passTable x rfl) hs
    strap := fun {s} x hs => decides s _ ((edge s).strap x rfl) hs
    params := fun {s} p right hs => decides s _ ((edge s).params p right rfl) hs
    pending := fun {s} x hs => decides s _ ((edge s).pending x rfl) hs
    power := fun {s} x hs => decides s _ ((edge s).power x rfl) hs }

/-- Soundness is kept by every write that leaves the table. -/
theorem sound_edgeKeeps (E : Nat → Prop) (v : Nat → View) : EdgeKeeps (State.Sound E v) :=
  edgeKeeps_of_table fun _ _ same hs => hs.of_table same

/-! ### Lanes -/

/-- With distinct numbers, the tickets of the table with the number of one of them are that one. -/
theorem State.same_of_distinct {s : State} (distinct : (s.tickets.map (·.number)).Nodup) {c d : Ticket} (mem : c ∈ s.tickets)
    (mem' : d ∈ s.tickets) (same : d.number = c.number) : d = c := by
  have one := State.ticket_of_distinct distinct mem
  rw [← same, State.ticket_of_distinct distinct mem'] at one
  exact Option.some.inj one

/-- The property is kept by the writes that leave the table, and tells that the numbers are distinct. -/
structure LaneKeeps (P : State → Prop) : Prop extends MarkKeeps P where
  distinct : ∀ {s : State}, P s → (s.tickets.map (·.number)).Nodup

namespace LaneKeeps

variable {P : State → Prop} {s : State} (h : LaneKeeps P)
include h

/-- A ticket of the table changes its state within a phase. -/
theorem moveOwn {t : Ticket} (mem : t ∈ s.tickets) (x : TicketState) (same : t.state.phase = x.phase) (hs : P s) :
    P (s.moveTicket t.number x) :=
  h.moveWithin _ _ (fun _ mem' number => State.same_of_distinct (h.distinct hs) mem mem' number ▸ same) hs

theorem reserveLane (n : Nat) {t : Ticket} (mem : t ∈ s.tickets) (hs : P s) : P (s.reserveLane n t) := by
  have reserved := h.note t.number (f := fun t => { t with lane := some n }) (h.lanes (setNth1 s.arbiter.lanes n
    { s.lane n with state := .reserved, ticket := some t.number }) hs)
  unfold State.reserveLane
  dsimp only
  split
  next staged =>
    refine h.moveWithin _ _ (fun d mem' number => ?_) reserved
    simp only [State.modifyTicket, State.setLane, List.mem_map] at mem'
    obtain ⟨c, old, rfl⟩ := mem'
    have own : c.number = t.number := by
      split at number
      exacts [‹_›, number]
    rw [State.same_of_distinct (h.distinct hs) mem old own]
    simp [staged, TicketState.phase]
  · exact reserved

theorem serveLanes (fuel : Nat) (hs : P s) : P (s.serveLanes fuel) := by
  induction fuel generalizing s with
  | zero => exact hs
  | succ fuel ih =>
    unfold State.serveLanes
    split
    · exact hs
    next found =>
      split
      exacts [hs, ih (h.reserveLane _ (State.oldestRequest_mem found).1 hs)]

theorem laneGrantCheck (hs : P s) : P s.laneGrantCheck := h.serveLanes _ hs

theorem freeLane (n : Nat) (hs : P s) : P (s.freeLane n) := h.laneGrantCheck (h.lanes _ hs)

theorem cancelLane (n : Nat) (hs : P s) : P (s.cancelLane n) := by
  refine forEach_keeps P _ _ s (fun l t ht => ?_) hs
  dsimp only
  split
  exacts [h.note n (h.lanes _ ht), ht]

theorem vacateLanes (n : Nat) (hs : P s) : P (s.vacateLanes n) := by
  refine forEach_keeps P _ _ s (fun l t ht => ?_) hs
  dsimp only
  split
  exacts [h.lanes _ ht, ht]

theorem loseLane (n : Nat) (hs : P s) : P (s.loseLane n) := by
  unfold State.loseLane
  split
  next t _ named =>
    obtain ⟨m, -, found⟩ := Option.bind_eq_some_iff.mp named
    have mem := List.mem_of_find?_eq_some found
    dsimp only
    split
    next toCurb => exact h.note _ (h.moveOwn mem _ (by rw [toCurb]; rfl) hs)
    · exact h.note _ hs
  · exact hs

theorem laneAbsent (n : Nat) (hs : P s) : P (s.laneAbsent n) := h.laneGrantCheck (h.lanes _ (h.loseLane n hs))

theorem laneUnconfigured (n : Nat) (hs : P s) : P (s.laneUnconfigured n) := by
  unfold State.laneUnconfigured
  split
  exacts [h.laneGrantCheck (h.lanes _ (h.loseLane n hs)), hs]

theorem blockLane (n : Nat) (hold : Bool) (hs : P s) : P (s.blockLane n hold) := h.raise _ _ nofun (h.lanes _ hs)

theorem laneTurnback (n : Nat) (t : Ticket) (hs : P s) : P (s.laneTurnback n t) :=
  h.laneGrantCheck (h.raise _ _ nofun (h.note _ (h.lanes _ hs)))

end LaneKeeps

theorem State.table_numbers (s : State) : s.table.tickets.map (·.1) = s.tickets.map (·.number) := by simp [State.table]

theorem State.Sound.distinct {E : Nat → Prop} {v : Nat → View} {s : State} (hs : s.Sound E v) :
    (s.tickets.map (·.number)).Nodup := s.table_numbers ▸ hs.shape.numbers

/-- Soundness is kept by the lanes. -/
theorem sound_laneKeeps (E : Nat → Prop) (v : Nat → View) : LaneKeeps (State.Sound E v) where
  toMarkKeeps := (sound_edgeKeeps E v).toMarkKeeps
  distinct := State.Sound.distinct

end Sys2Proof.Machine
end

section
/-! SUPPORT for O7, continued: the placing of tickets and the hand-on of a stall keep the table sound (R8, R29, R33, R101). -/

namespace Sys2Proof.Machine

open Sys2Proof

/-! ### The view of an open ticket -/

/-- The records name the number as a footing asks. -/
structure View.Fits (v : View) (c : Footing) : Prop where
  listed : v.listed ↔ c.state = .unplaced
  scheduled : v.scheduled ↔ c.state = .scheduled
  hooks : ∀ h, v.hooks h ↔ c.hook = some h
  held : ∀ k, v.held k ↔ c.holds k
  occupied : ∀ k, v.occupied k ↔ c.fills k
  bound : c.bound
  rides : v.rides → c.mayRide

theorem View.Right.fits {v : View} (right : v.Right) {c : Footing} (found : v.footing = some c) : v.Fits c where
  listed := by simpa [found] using right.listed
  scheduled := by simpa [found] using right.scheduled
  hooks h := by simpa [found] using right.hooks h
  held k := by simpa [found] using right.held k
  occupied k := by simpa [found] using right.occupied k
  bound := right.bound c found
  rides := by simpa [found] using right.rides

theorem View.Fits.right {v : View} {c : Footing} (fits : v.Fits c) (found : v.footing = some c) : v.Right where
  listed := by simpa [found] using fits.listed
  scheduled := by simpa [found] using fits.scheduled
  hooks h := by simpa [found] using fits.hooks h
  held k := by simpa [found] using fits.held k
  occupied k := by simpa [found] using fits.occupied k
  bound d same := by
    rw [found] at same
    exact Option.some.inj same ▸ fits.bound
  rides := by simpa [found] using fits.rides

theorem State.view_footing {s : State} {n : Nat} {t : Ticket} (found : s.ticket n = some t) :
    (s.table.view n).footing = some t.footing := by
  rw [show (s.table.view n).footing = s.table.footing n from rfl, s.footing_table, found]
  rfl

/-- What a move of an open ticket that counts leaves of it. -/
theorem State.Sound.fits {E : Nat → Prop} {v : Nat → View} {s : State} (hs : s.Sound E v) {n : Nat} (counts : ¬ E n) {t : Ticket}
    (found : s.ticket n = some t) : (s.table.view n).Fits t.footing := (hs.right n counts).fits (State.view_footing found)

/-- A stall without a claim names no ticket. -/
theorem State.Sound.idle {E : Nat → Prop} {v : Nat → View} {s : State} (hs : s.Sound E v) {k : Nat}
    (free : (s.stall k).state.claim = .free) : s.table.stalls k = (none, .free) := by
  have named : ¬ (s.stall k).ticket ≠ none := fun some' => by
    have claim : (s.stall k).state.claim = .held ∨ (s.stall k).state.claim = .occupied := (hs.shape.stalls k).mp some'
    rw [free] at claim
    simp at claim
  simp only [State.table, free, not_not.mp named]

/-! ### Holds and bound stalls -/

/-- The footing of a ticket bound to a stall. -/
@[simp] def Footing.bind (c : Footing) (k : Nat) : Footing := { c with stall := some k }

theorem State.table_hold (s : State) {k : Nat} (free : (s.stall k).state = .free) (n : Nat) :
    (s.hold k n).table = s.table.putStall k (some n, .held) := by
  have low : k < Config.stallCount := by
    by_contra high
    rw [State.stall, nth_outside _ _ _ (by omega)] at free
    cases free
  rw [State.hold]
  rw [if_pos free, s.table_putStall low]
  rfl

theorem State.table_assign (s : State) {k : Nat} (free : (s.stall k).state = .free) (n : Nat) (second : Bool) (age : SiteTime) :
    (s.assign n k second age).table = ((s.table.putStall k (some n, .held)).edit n (·.bind k)).edit n (·.enter .assigned) := by
  have same := (table_edgeKeeps ((s.bindStall n k second).moveTicket n .assigned).table).makeTask .park n age rfl
  refine Eq.trans same ?_
  rw [State.table_move, State.bindStall, State.table_modify _ n (·.bind k), s.table_hold free]

/-- The footing of a ticket that has a restage target. -/
@[simp] def Footing.aim (c : Footing) (k : Nat) : Footing := { c with target := some k }

/-- An UNPLACED ticket that is bound to an idle stall and leaves the list is ASSIGNED as the records say. -/
theorem View.Fits.assigned {v : View} {c : Footing} (fits : View.Fits { v with listed := True } c) (state : c.state = .unplaced)
    (unlisted : ¬ v.listed) (k : Nat) :
    View.Fits (((v.claim k .held).edit (·.bind k)).edit (·.enter .assigned)) ((c.bind k).enter .assigned) := by
  obtain ⟨_, stall, target, hook⟩ := c
  obtain rfl : _ = TicketState.unplaced := state
  obtain ⟨-, scheduled, hooks, held, occupied, bound, rides⟩ := fits
  simp only [Footing.holds, Footing.fills, Footing.bound, Footing.mayRide] at held occupied bound rides
  constructor
  case hooks => exact hooks
  all_goals simp_all [TicketState.phase, Footing.holds, Footing.fills, Footing.bound, Footing.mayRide, eq_comm]

/-- A PARKED ticket with an idle stall for its target is RESTAGING as the records say. -/
theorem View.Fits.restaging {v : View} {c : Footing} (fits : v.Fits c) (state : c.state = .parked) {k : Nat}
    (idle : ¬ v.occupied k) :
    View.Fits (((v.claim k .held).edit (·.aim k)).edit (·.enter .restaging)) ((c.aim k).enter .restaging) := by
  obtain ⟨_, stall, target, hook⟩ := c
  obtain rfl : _ = TicketState.parked := state
  obtain ⟨listed, scheduled, hooks, held, occupied, bound, rides⟩ := fits
  simp only [Footing.holds, Footing.fills, Footing.bound, Footing.mayRide] at held occupied bound rides
  constructor
  case hooks => exact hooks
  case occupied =>
    intro j
    by_cases same : j = k <;> simp_all [TicketState.phase, Footing.fills]
  all_goals simp_all [TicketState.phase, Footing.holds, Footing.bound, Footing.mayRide, eq_comm]

/-! ### The hand-on of a stall (R8, R33, R101) -/

section

variable {E : Nat → Prop} {v : Nat → View} {s : State} {n k : Nat} {t : Ticket}

theorem State.placement_free {second : Bool} (found : s.placement t false = some (k, second)) : (s.stall k).state = .free := by
  obtain ⟨chosen, -⟩ := State.placement_some found
  obtain ⟨c, mem, rfl, eligible, -⟩ := State.choose_some chosen
  obtain ⟨-, record, -⟩ := (s.mem_candidates c).mp mem
  simp only [State.eligible, Candidate.isOwn, Bool.false_and, Bool.or_false, Bool.and_eq_true, beq_iff_eq] at eligible
  rw [← record]
  exact eligible.1.1.1.1

theorem Table.moves_hold {T : Table} (free : T.stalls k = (none, .free)) (n : Nat) :
    Table.Moves n T (T.putStall k (some n, .held)) := T.moves_putStall (by simp [free]) (by simp) (by simp)

/-- An idle stall is occupied by nobody. -/
theorem Table.not_occupied {T : Table} (free : T.stalls k = (none, .free)) (n : Nat) : ¬ (T.view n).occupied k := by
  simp [Table.view, free]

theorem State.Sound.attemptTicket (hs : s.Sound E v) (counts : ¬ E n) (listed : n ∈ s.unplaced) :
    (s.attemptTicket n).Sound E v := by
  unfold State.attemptTicket
  split
  · exact hs
  next t found =>
    split
    · exact hs
    next k second placed =>
      have free : (s.stall k).state = .free := State.placement_free placed
      have fits := hs.fits counts found
      have idle := hs.idle (k := k) (by rw [free]; rfl)
      have table := State.table_assign (s := { s with unplaced := s.unplaced.filter (· != n) }) free n second t.arrived
      have unlisting : Table.Moves n s.table (State.table { s with unplaced := s.unplaced.filter (· != n) }) :=
        s.table.moves_unplaced (fun nodup => nodup.filter _) fun m other => by simp [State.table, other]
      refine hs.moved (n := n) ?_ counts ?_
      · rw [table]
        have holding := Table.moves_hold (T := State.table { s with unplaced := s.unplaced.filter (· != n) }) idle n
        exact ((unlisting.trans holding).trans (Table.moves_edit _ _ _)).trans (Table.moves_edit _ _ _)
      · rw [table, Table.view_edit_same, Table.view_edit_same, Table.view_claim]
        refine (View.Fits.assigned (c := t.footing) ?_ (fits.listed.mp listed) ?_ k).right ?_
        · have same : (s.table.view n).listed = True := eq_true listed
          rw [← same]
          exact fits
        · simp [Table.view, State.table]
        · exact congrArg (fun o => (o.map (·.bind k)).map (·.enter .assigned)) (State.view_footing found)

theorem State.attemptTicket_unplaced (s : State) (n : Nat) :
    (s.attemptTicket n).unplaced = s.unplaced ∨ (s.attemptTicket n).unplaced = s.unplaced.filter (· != n) := by
  unfold State.attemptTicket
  split
  · exact .inl rfl
  · split
    · exact .inl rfl
    next placed =>
      exact .inr (congrArg Table.unplaced (State.table_assign (s := { s with unplaced := s.unplaced.filter (· != n) })
        (State.placement_free placed) n _ _))

/-- What a pass keeps of what is still to come. -/
theorem forEach_rest {α σ : Type} (Q : List α → σ → Prop) (f : α → σ → σ) (step : ∀ x xs s, Q (x :: xs) s → Q xs (f x s))
    {xs : List α} {s : σ} (hs : Q xs s) : Q [] (forEach xs f s) := by
  induction xs generalizing s with
  | nil => exact hs
  | cons x xs ih => exact ih (step x xs s hs)

theorem State.Sound.attemptUnplaced (hs : s.Sound E v) (quiet : ∀ m, E m → ¬ (v m).listed) : s.attemptUnplaced.Sound E v := by
  refine (forEach_rest (fun xs (u : State) => u.Sound E v ∧ xs.Nodup ∧ ∀ m ∈ xs, m ∈ u.unplaced) _ ?_
    ⟨hs, hs.shape.unplaced, fun m mem => mem⟩).1
  rintro n xs u ⟨hu, nodup, waiting⟩
  have listed : n ∈ u.unplaced := waiting n (List.mem_cons_self ..)
  obtain ⟨out, nodup⟩ := List.nodup_cons.mp nodup
  refine ⟨hu.attemptTicket (fun left => quiet n left ?_) listed, nodup, fun m mem => ?_⟩
  · rw [← hu.own n left]
    exact listed
  · have still := waiting m (List.mem_cons_of_mem _ mem)
    have other : m ≠ n := fun same => out (same ▸ mem)
    rcases u.attemptTicket_unplaced n with same | same <;> simp [same, still, other]

theorem State.table_beginRestage (free : (s.stall k).state = .free) (n : Nat) :
    (s.beginRestage n k).table = ((s.table.putStall k (some n, .held)).edit n (·.aim k)).edit n (·.enter .restaging) := by
  have same := (table_edgeKeeps (((s.hold k n).modifyTicket n fun t => { t with target := some k }).moveTicket n
    .restaging).table).makeTask .restage n s.now rfl
  refine Eq.trans same ?_
  rw [State.table_move, State.table_modify _ n (·.aim k), s.table_hold free]

theorem State.Sound.beginRestage (hs : s.Sound E v) (counts : ¬ E n) (found : s.ticket n = some t) (state : t.state = .parked)
    (free : (s.stall k).state = .free) : (s.beginRestage n k).Sound E v := by
  have idle := hs.idle (k := k) (by rw [free]; rfl)
  refine hs.moved (n := n) ?_ counts ?_
  · rw [State.table_beginRestage free]
    exact ((Table.moves_hold idle n).trans (Table.moves_edit _ _ _)).trans (Table.moves_edit _ _ _)
  · rw [State.table_beginRestage free, Table.view_edit_same, Table.view_edit_same, Table.view_claim]
    refine ((hs.fits counts found).restaging ?_ (Table.not_occupied idle n)).right ?_
    · simp [Ticket.footing, state, TicketState.phase]
    · exact congrArg (fun o => (o.map (·.aim k)).map (·.enter .restaging)) (State.view_footing found)

/-- The hand-on of a stall touches no number that is left out, while those are neither listed nor parked. -/
abbrev LeftQuiet (E : Nat → Prop) (v : Nat → View) : Prop :=
  ∀ m, E m → ¬ (v m).listed ∧ ∀ c, (v m).footing = some c → c.state ≠ .parked

theorem State.Sound.lookRestage (hs : s.Sound E v) (quiet : LeftQuiet E v) (k : Nat) : (s.lookRestage k).Sound E v := by
  unfold State.lookRestage
  split
  next site free _ =>
    split
    · split
      · exact hs
      next t chosen =>
        obtain ⟨mem, may⟩ := List.mem_filter.mp (firstBy_mem chosen)
        have parked : t.state = .parked := by
          simp only [State.restageable, Bool.and_eq_true, beq_iff_eq] at may
          exact may.1.1.1
        have found := State.ticket_of_distinct hs.distinct mem
        refine hs.beginRestage (fun left => ?_) found parked free
        refine (quiet _ left).2 t.footing ?_ (by simp [Ticket.footing, parked, TicketState.phase])
        rw [← hs.own _ left]
        exact State.view_footing found
    · exact hs
  · exact hs

theorem State.Sound.handOn (hs : s.Sound E v) (quiet : LeftQuiet E v) (k : Nat) : (s.handOn k).Sound E v :=
  (hs.attemptUnplaced fun m left => (quiet m left).1).lookRestage quiet k

end

end Sys2Proof.Machine
end

section
/-! SUPPORT for O7, continued: departures, sensors, restages and re-placements keep the table sound (R7, R13, R36, R37, R102). -/

namespace Sys2Proof.Machine

open Sys2Proof

variable {s : State} {n k : Nat} {t : Ticket}

/-! ### With nobody left out -/

theorem State.Sound.with_none {v : Nat → View} (hs : s.Sound (fun _ => False) v) : s.Right := ⟨hs.shape, hs.right, nofun⟩

/-- A move keeps the table sound when the number's own view is right after it. -/
theorem State.Right.moved {u : State} (hs : s.Right) (moves : Table.Moves n s.table u.table) (own : (u.table.view n).Right) :
    u.Right := State.Sound.moved hs moves (fun h => h) own

theorem State.Right.fits (hs : s.Right) (found : s.ticket n = some t) : (s.table.view n).Fits t.footing :=
  State.Sound.fits hs (fun h => h) found

theorem State.Right.handOn (hs : s.Right) (k : Nat) : (s.handOn k).Right := State.Sound.handOn hs nofun k

theorem State.Right.attemptUnplaced (hs : s.Right) : s.attemptUnplaced.Right := State.Sound.attemptUnplaced hs nofun

/-- A number stands aside with the view it has. -/
theorem State.Right.aside (hs : s.Right) (n : Nat) : s.Sound (· = n) fun _ => s.table.view n :=
  State.Sound.leave hs (Table.Moves.refl n _) rfl

/-- The duties leave the table sound. -/
theorem right_edgeKeeps : EdgeKeeps State.Right := sound_edgeKeeps _ _

theorem right_laneKeeps : LaneKeeps State.Right := sound_laneKeeps _ _

/-! ### Stalls given up -/

/-- The footing of a ticket without a bound stall. -/
@[simp] def Footing.leave (c : Footing) : Footing := { c with stall := none }

theorem State.held_low (held : s.heldFor k n = true) : k < Config.stallCount := by
  by_contra high
  simp [State.heldFor, State.stall, nth_outside _ _ _ (Nat.le_of_not_lt high), Stall.cold] at held

theorem State.occupied_low (occupied : s.occupiedBy k n = true) : k < Config.stallCount := by
  by_contra high
  simp [State.occupiedBy, State.stall, nth_outside _ _ _ (Nat.le_of_not_lt high), Stall.cold] at occupied

theorem State.table_releaseStall (held : s.heldFor k n = true) :
    (s.releaseStall k n).table = s.table.putStall k (none, .free) := by
  rw [State.releaseStall, if_pos held, s.table_putStall (State.held_low held)]
  rfl

theorem State.table_freeOccupied (low : k < Config.stallCount) (recheck : Bool) :
    (s.freeOccupied k recheck).table = s.table.putStall k (none, .free) := by
  rw [State.freeOccupied, s.table_putStall low]
  rfl

theorem State.table_depart (occupied : s.occupiedBy k n = true) :
    (s.depart k n).table = (s.table.putStall k (none, .free)).edit n Footing.leave := by
  rw [State.depart, if_pos occupied]
  dsimp only
  rw [State.table_modify _ n Footing.leave, State.table_freeOccupied (State.occupied_low occupied)]

theorem Table.moves_free {T : Table} {x : StallState} (old : T.stalls k = (some n, x)) :
    Table.Moves n T (T.putStall k (none, .free)) := T.moves_putStall (by simp [old, eq_comm]) (by simp) (by simp)

theorem State.stalls_held (held : s.heldFor k n = true) : s.table.stalls k = (some n, .held) := (s.view_held n k).mpr held

theorem State.stalls_occupied (occupied : s.occupiedBy k n = true) : s.table.stalls k = (some n, .occupied) :=
  (s.view_occupied n k).mpr occupied

/-- A FETCHING or RESTAGING ticket whose car leaves its stall stands as the records say. -/
theorem View.Fits.departed {v : View} {c : Footing} (fits : v.Fits c) (state : c.state = .fetching ∨ c.state = .restaging)
    (stall : c.stall = some k) (apart : ¬ v.held k) : View.Fits ((v.claim k .free).edit Footing.leave) c.leave := by
  obtain ⟨state', stall', target, hook⟩ := c
  obtain rfl : stall' = some k := stall
  obtain ⟨listed, scheduled, hooks, held, occupied, bound, rides⟩ := fits
  simp only [Footing.holds, Footing.fills, Footing.bound, Footing.mayRide] at held occupied bound rides
  refine ⟨listed, scheduled, hooks, fun j => ?held, fun j => ?occupied, ?bound, ?rides⟩
  case held =>
    have old := held j
    by_cases same : j = k <;> obtain rfl | rfl := state <;> simp_all [Footing.holds]
  case occupied =>
    have old := occupied j
    by_cases same : j = k <;> simp_all [Footing.fills, eq_comm]
  case bound => exact ⟨nofun, fun h => by obtain rfl | rfl := state <;> simp at h, bound.2.2⟩
  case rides =>
    obtain rfl | rfl := state <;> simp [Footing.mayRide]

theorem State.Right.depart (hs : s.Right) (found : s.ticket n = some t) (occupied : s.occupiedBy k n = true)
    (state : t.state = .fetching ∨ t.state = .restaging) :
    (s.depart k n).Right ∧ ((s.depart k n).table.view n).footing = some t.footing.leave := by
  have fits := hs.fits found
  have stands : s.table.stalls k = (some n, .occupied) := State.stalls_occupied occupied
  obtain ⟨stall, -⟩ := (fits.occupied k).mp stands
  have view : (s.depart k n).table.view n = ((s.table.view n).claim k .free).edit Footing.leave := by
    rw [State.table_depart occupied, Table.view_edit_same, Table.view_unclaim]
  have footing : ((s.depart k n).table.view n).footing = some t.footing.leave := by
    rw [view]
    exact congrArg (Option.map Footing.leave) (State.view_footing found)
  refine ⟨hs.moved (n := n) ?_ ?_, footing⟩
  · rw [State.table_depart occupied]
    exact (Table.moves_free stands).trans (Table.moves_edit _ _ _)
  · refine View.Fits.right ?_ footing
    rw [view]
    refine fits.departed (by obtain state | state := state <;> simp [Ticket.footing, state, TicketState.phase]) stall ?_
    simp [Table.view, stands]

/-! ### Sensors -/

/-- The ticket that a stall names, found under its own number. -/
theorem State.own_of_bind {o : Option Nat} (named : o.bind s.ticket = some t) : o = some t.number ∧ s.ticket t.number = some t := by
  obtain ⟨m, some', found⟩ := Option.bind_eq_some_iff.mp named
  rw [State.ticket_number found]
  exact ⟨some', found⟩

theorem State.Right.emptyUnder (hs : s.Right) (k : Nat) (found : s.ticket t.number = some t) : (s.emptyUnder k t).Right := by
  have mismatch : ((s.putStall k { s.stall k with confirmed := false }).raise .stallMismatch k).Right :=
    right_edgeKeeps.raise _ _ (right_edgeKeeps.stallMarks _ _ rfl rfl rfl hs)
  unfold State.emptyUnder
  split
  · exact mismatch
  · exact mismatch
  · exact mismatch
  next fetching =>
    split
    next stands => exact (hs.depart found stands (.inl fetching)).1.handOn k
    · exact hs
  next restaging =>
    split
    next stands => exact (hs.depart found stands.2 (.inr restaging)).1.handOn k
    · exact hs
  · exact hs

theorem State.Right.sensedEmpty (hs : s.Right) (k : Nat) : (s.sensedEmpty k).Right := by
  unfold State.sensedEmpty
  dsimp only
  split
  · exact right_edgeKeeps.stallMarks _ _ rfl rfl rfl hs
  · split
    · exact hs
    next named => exact hs.emptyUnder k (State.own_of_bind named).2
  next blocked => exact (right_edgeKeeps.stallMarks k { s.stall k with state := .free } rfl rfl (by rw [blocked]; rfl) hs).handOn k
  · exact hs
  · exact hs
  · exact hs

/-! ### Restages and re-placements -/

theorem State.Right.restageTicket (hs : s.Right) (found : s.ticket t.number = some t) (k : Nat) : (s.restageTicket t k).1.Right := by
  unfold State.restageTicket
  split
  next parked _ =>
    split
    · exact hs
    next free =>
      split
      · exact (State.Sound.beginRestage hs (fun h => h) found parked (not_not.mp free)).with_none
      · exact hs
  · exact hs

/-- An ASSIGNED ticket bound anew to an idle stall, its old one given up, stands as the records say. -/
theorem View.Fits.rebound {v : View} {c : Footing} (fits : v.Fits c) (state : c.state = .assigned) {old : Nat}
    (stall : c.stall = some old) (other : old ≠ k) :
    View.Fits (((v.claim k .held).edit (·.bind k)).claim old .free) (c.bind k) := by
  obtain ⟨_, stall', target, hook⟩ := c
  obtain rfl : stall' = some old := stall
  obtain rfl : _ = TicketState.assigned := state
  obtain ⟨listed, scheduled, hooks, held, occupied, bound, rides⟩ := fits
  simp only [Footing.holds, Footing.fills, Footing.bound, Footing.mayRide] at held occupied bound rides
  refine ⟨listed, scheduled, hooks, fun j => ?held, fun j => ?occupied, ?bound, ?rides⟩
  case held =>
    have before := held j
    by_cases same : j = k <;> by_cases gone : j = old <;> simp_all [Footing.holds, eq_comm]
  case occupied =>
    have before := occupied j
    by_cases same : j = k <;> by_cases gone : j = old <;> simp_all [Footing.fills]
  case bound => simpa [Footing.bound] using bound.2.2
  case rides => simpa [Footing.mayRide] using rides

/-- A placement of a ticket anew finds a FREE stall or its own. -/
theorem State.placement_own {second : Bool} (found : s.placement t true = some (k, second)) :
    (s.stall k).state = .free ∨ s.heldFor k t.number = true := by
  obtain ⟨chosen, -⟩ := State.placement_some found
  obtain ⟨c, mem, rfl, eligible, -⟩ := State.choose_some chosen
  obtain ⟨-, record, -⟩ := (s.mem_candidates c).mp mem
  simp only [State.eligible, Candidate.isOwn, Bool.true_and, Bool.and_eq_true, Bool.or_eq_true, record] at eligible
  simpa [State.heldFor] using eligible.1.1.1.1

theorem State.Right.replaceTicket (hs : s.Right) (lift : Option Nat) (n : Nat) : (s.replaceTicket lift n).Right := by
  unfold State.replaceTicket
  split
  · exact hs
  next t found =>
    have number := State.ticket_number found
    split
    next may =>
      have assigned : t.state = .assigned := by
        simp only [State.replaceable, Bool.and_eq_true, beq_iff_eq] at may
        exact may.1.1
      have fits := hs.fits found
      have state : t.footing.state = .assigned := by simp [Ticket.footing, assigned, TicketState.phase]
      split
      · exact hs
      next k second placed =>
        dsimp only
        split
        next unbound => exact absurd unbound (fits.bound.2.1 (.inl state))
        next old stall =>
          have holds : s.table.stalls old = (some n, .held) := (fits.held old).mpr (.inl ⟨stall, .inl state⟩)
          rcases State.placement_own placed with free | own
          · have idle := hs.idle (k := k) (by rw [free]; rfl)
            have other : old ≠ k := fun same => by simp [← same, holds] at idle
            have table : (s.bindStall n k second).table = (s.table.putStall k (some n, .held)).edit n (·.bind k) := by
              rw [State.bindStall, State.table_modify _ n (·.bind k), s.table_hold free]
            have still : (s.bindStall n k second).table.stalls old = (some n, .held) := by
              rw [table]
              exact (Function.update_of_ne other _ _).trans holds
            have held : (s.bindStall n k second).heldFor old n = true := (State.view_held _ n old).mp still
            rw [if_neg other, State.release, if_pos held]
            refine State.Right.handOn (hs.moved (n := n) ?_ ?_) old
            · rw [State.table_releaseStall held]
              refine Table.Moves.trans ?_ (Table.moves_free still)
              rw [table]
              exact (Table.moves_hold idle n).trans (Table.moves_edit _ _ _)
            · rw [State.table_releaseStall held, Table.view_unclaim, table, Table.view_edit_same, Table.view_claim]
              exact (fits.rebound state stall other).right (congrArg (Option.map fun c : Footing => c.bind k)
                (State.view_footing found))
          · have bound : t.stall = some k := by
              obtain ⟨bound, -⟩ | ⟨-, restaging⟩ := (fits.held k).mp ((s.view_held n k).mpr (number ▸ own))
              · exact bound
              · rw [state] at restaging
                cases restaging
            have kept : s.hold k n = s := by
              have held := own
              simp only [State.heldFor, Bool.and_eq_true, beq_iff_eq] at held
              rw [State.hold, if_neg (by simp [held.1])]
            rw [if_pos (Option.some.inj (stall.symm.trans bound)), State.bindStall, kept]
            refine right_edgeKeeps.noteTicket n _ (fun _ => ⟨rfl, rfl⟩) (fun d mem same => ?_) hs
            rw [State.same_of_distinct hs.distinct (List.mem_of_find?_eq_some found) mem (same.trans number.symm)]
            simp [Ticket.footing, bound]
    · exact hs

theorem State.Right.replaceAll (hs : s.Right) (lift : Option Nat) : (s.replaceAll lift).Right :=
  forEach_keeps State.Right _ _ s (fun n _ hu => State.Right.replaceTicket hu lift n) hs

theorem State.Right.becameServiceable (hs : s.Right) : s.becameServiceable.Right := hs.attemptUnplaced.replaceAll none

end Sys2Proof.Machine
end

section
/-! SUPPORT for O7, continued: the lifts and lanes keep the table sound (R107 to R116, R119 to R123). -/

namespace Sys2Proof.Machine

open Sys2Proof

variable {s : State} {n l : Nat} {t : Ticket}

/-! ### Tickets that change their state alone -/

/-- A footing asks the same of the records as another. -/
structure Footing.AsksAs (c d : Footing) : Prop where
  unplaced : c.state = .unplaced ↔ d.state = .unplaced
  scheduled : c.state = .scheduled ↔ d.state = .scheduled
  hook : c.hook = d.hook
  holds : ∀ k, c.holds k ↔ d.holds k
  fills : ∀ k, c.fills k ↔ d.fills k
  bound : c.bound → d.bound

theorem View.Fits.asksAs {v : View} {c d : Footing} (fits : v.Fits c) (same : c.AsksAs d) (rides : v.rides → d.mayRide) :
    v.Fits d where
  listed := fits.listed.trans same.unplaced
  scheduled := fits.scheduled.trans same.scheduled
  hooks h := same.hook ▸ fits.hooks h
  held k := (fits.held k).trans (same.holds k)
  occupied k := (fits.occupied k).trans (same.fills k)
  bound := same.bound fits.bound
  rides := rides

/-- A ticket enters a state that asks the same of the records. -/
theorem State.Sound.move {E : Nat → Prop} {v : Nat → View} (hs : s.Sound E v) (counts : ¬ E n) (found : s.ticket n = some t)
    (x : TicketState) (same : t.footing.AsksAs (t.footing.enter x)) (rides : (s.table.view n).rides → (t.footing.enter x).mayRide) :
    (s.moveTicket n x).Sound E v := by
  refine hs.moved (n := n) ?_ counts ?_
  · rw [State.table_move]
    exact Table.moves_edit _ _ _
  · rw [State.table_move, Table.view_edit_same]
    refine View.Fits.right (c := t.footing.enter x) ?_ (congrArg (Option.map fun c : Footing => c.enter x) (State.view_footing found))
    have fits := (hs.fits counts found).asksAs same rides
    exact ⟨fits.listed, fits.scheduled, fits.hooks, fits.held, fits.occupied, fits.bound, fits.rides⟩

theorem State.Right.move (hs : s.Right) (found : s.ticket n = some t) (x : TicketState)
    (same : t.footing.AsksAs (t.footing.enter x)) (rides : (s.table.view n).rides → (t.footing.enter x).mayRide) :
    (s.moveTicket n x).Right := State.Sound.move hs (fun h => h) found x same rides

/-- A ticket without a bound stall that is neither listed nor scheduled nor on a restage asks for no record but its hook. -/
theorem Footing.asksAs_enter {c : Footing} {x : TicketState} (stall : c.stall = none)
    (old : c.state = .fetching ∨ c.state = .descending) (new : x.phase = .fetching ∨ x.phase = .descending ∨ x.phase = .atCurb) :
    c.AsksAs (c.enter x) := by
  obtain ⟨_, _, target, hook⟩ := c
  obtain rfl : _ = none := stall
  refine ⟨?_, ?_, rfl, fun k => ?_, fun k => ?_, ?_⟩
  all_goals
    obtain rfl | rfl := old <;> obtain new | new | new := new <;>
      simp [new, Footing.holds, Footing.fills, Footing.bound]

/-! ### Who rides -/

theorem State.view_rides (s : State) (n : Nat) : (s.table.view n).rides ↔ s.hasTenure n = true := by
  rw [show (s.table.view n).rides = (n ∈ s.table.riding) from rfl, s.riding_table]
  simp [State.tenureTickets, State.hasTenure, Lift.hasTenure, liftNumbers]

/-- The tickets of a lift's tenures. -/
def Lift.tickets (r : Lift) : List Nat := r.tenures.filterMap (·.ticket)

theorem Lift.tickets_filterMap (r : Lift) : (r.tenures.map (·.ticket)).filterMap id = r.tickets := by
  simp [Lift.tickets, List.filterMap_map]

/-- The tenures of one lift change, and with them who rides. -/
theorem State.riding_setLift (s : State) (lift : l ∈ liftNumbers) (r : Lift) : ∃ rest : List Nat,
    s.table.riding.Perm ((s.lift l).tickets ++ rest) ∧ (s.setLift l r).table.riding.Perm (r.tickets ++ rest) := by
  obtain ⟨rest, old, new⟩ := s.table.riding_split lift
  refine ⟨rest, ?_, ?_⟩
  · rw [← Lift.tickets_filterMap]
    exact old
  · rw [s.table_setLift lift, ← Lift.tickets_filterMap]
    exact new _

/-- A lift whose tenures name the tickets in another order, or with tenures without one. -/
theorem State.Sound.reorder {E : Nat → Prop} {v : Nat → View} (hs : s.Sound E v) (r : Lift)
    (same : r.tickets.Perm (s.lift l).tickets) :
    (s.setLift l r).Sound E v ∧ ∀ n, (s.setLift l r).table.view n = s.table.view n := by
  by_cases lift : l ∈ liftNumbers
  · obtain ⟨rest, old, new⟩ := s.riding_setLift lift r
    have perm : (s.setLift l r).table.riding.Perm s.table.riding := new.trans ((same.append_right rest).trans old.symm)
    rw [s.table_setLift lift] at perm
    have moves (n : Nat) : Table.Moves n s.table (s.setLift l r).table := by
      rw [s.table_setLift lift]
      exact s.table.moves_riders perm.symm.nodup fun m _ => perm.mem_iff
    have view (n : Nat) : (s.setLift l r).table.view n = s.table.view n := (moves (n + 1)).others n (by omega)
    exact ⟨⟨(moves 0).shape hs.shape, fun n out => view n ▸ hs.right n out, fun n out => (view n).trans (hs.own n out)⟩, view⟩
  · rw [s.setLift_beyond r lift]
    exact ⟨hs, fun _ => rfl⟩

theorem State.Right.reorder (hs : s.Right) (r : Lift) (same : r.tickets.Perm (s.lift l).tickets) : (s.setLift l r).Right :=
  (State.Sound.reorder hs r same).1

/-- A tenure's ticket is gone from its lift: it rides no more, and nothing else changes. -/
theorem State.unride (nodup : s.table.riding.Nodup) (lift : l ∈ liftNumbers) (r : Lift)
    (gone : (s.lift l).tickets.Perm (n :: r.tickets)) : Table.Moves n s.table (s.setLift l r).table ∧
      (s.setLift l r).table.view n = { s.table.view n with rides := False } := by
  obtain ⟨rest, old, new⟩ := s.riding_setLift lift r
  have perm : s.table.riding.Perm (n :: (s.setLift l r).table.riding) :=
    old.trans ((gone.append_right rest).trans (new.symm.cons n))
  obtain ⟨out, nodup⟩ := List.nodup_cons.mp (perm.nodup nodup)
  rw [s.table_setLift lift r] at perm nodup out ⊢
  refine ⟨s.table.moves_riders (fun _ => nodup) fun m other => by rw [perm.mem_iff, List.mem_cons, or_iff_right other], ?_⟩
  exact congrArg (fun p => { s.table.view n with rides := p }) (propext (iff_false_intro out))

theorem State.Right.unride (hs : s.Right) (lift : l ∈ liftNumbers) (r : Lift) (gone : (s.lift l).tickets.Perm (n :: r.tickets)) :
    (s.setLift l r).Right ∧ (s.setLift l r).table.view n = { s.table.view n with rides := False } := by
  obtain ⟨moves, view⟩ := State.unride hs.shape.riding lift r gone
  refine ⟨hs.moved moves ?_, view⟩
  rw [view]
  obtain ⟨listed, scheduled, hooks, held, occupied, bound, -⟩ := hs.right n fun h => h
  exact ⟨listed, scheduled, hooks, held, occupied, bound, False.elim⟩

theorem State.lift_beyond (s : State) (out : l ∉ liftNumbers) : s.lift l = Lift.cold := by
  rw [State.lift]
  cases l with
  | zero => rfl
  | succ i =>
    refine nth_outside _ _ _ ?_
    have high := mt mem_liftNumbers.mpr out
    simp only [Config.liftCount]
    omega

theorem State.rides_of_tenure (lift : l ∈ liftNumbers) {w : Tenure} (mem : w ∈ (s.lift l).tenures) (named : w.ticket = some n) :
    (s.table.view n).rides := by
  rw [s.view_rides, State.hasTenure, List.any_eq_true]
  exact ⟨l, lift, List.any_eq_true.mpr ⟨w, mem, by simp [named]⟩⟩

/-! ### Lift grants (R108 to R111) -/

/-- No number that is left out rides. -/
abbrev LeftOff (E : Nat → Prop) (v : Nat → View) : Prop := ∀ m, E m → ¬ (v m).rides

theorem State.Sound.tellGrant {E : Nat → Prop} {v : Nat → View} (hs : s.Sound E v) (off : LeftOff E v) (w : Tenure)
    (rides : ∀ n, w.ticket = some n → (s.table.view n).rides) : (s.tellGrant w).Sound E v := by
  unfold State.tellGrant
  split
  · exact hs
  next k named =>
    obtain ⟨ticket, found⟩ := State.own_of_bind named
    have counts : ¬ E k.number := fun left => off _ left (hs.own _ left ▸ rides _ ticket)
    split
    next grants =>
      have state : k.footing.state = .fetching := by simp [Ticket.footing, grants.1, TicketState.phase]
      have stall : k.footing.stall = none := by
        obtain parking | ⟨-, stall⟩ := (hs.fits counts found).rides (rides _ ticket)
        · rw [state] at parking
          cases parking
        · exact stall
      refine (sound_laneKeeps E v).laneGrantCheck ?_
      have noted : (s.modifyTicket k.number fun k => { k with laneRequest := some (k.laneRequest.getD s.now) }).Sound E v :=
        (sound_edgeKeeps E v).note _ hs
      refine noted.move counts (State.ticket_edit_same found _) .descending (Footing.asksAs_enter stall (.inl state) (.inr (.inl rfl)))
        fun _ => .inr ⟨.inr (.inr rfl), stall⟩
    · exact hs

theorem State.Sound.grantCheck {E : Nat → Prop} {v : Nat → View} (hs : s.Sound E v) (off : LeftOff E v) (l : Nat) :
    (s.grantCheck l).Sound E v := by
  unfold State.grantCheck
  dsimp only
  split
  next free =>
    have lift : l ∈ liftNumbers := by
      by_contra out
      simp [s.lift_beyond out, Lift.cold] at free
    split
    · exact hs
    next w passed chosen =>
      have mem : w ∈ (s.lift l).queue := by
        obtain ⟨behind, split, -⟩ := chooseTenure_some chosen
        refine (List.mem_filter.mp (?_ : w ∈ (s.lift l).queue.filter (s.tenureQualifies l))).1
        rw [split]
        simp
      have tickets : (((s.lift l).queue.erase w).map fun w =>
          if passed.contains w then { w with passes := w.passes + 1 } else w).filterMap (·.ticket) =
          ((s.lift l).queue.erase w).filterMap (·.ticket) := by
        rw [List.filterMap_map]
        refine List.filterMap_congr fun x _ => ?_
        simp only [Function.comp_apply]
        split <;> rfl
      have moved := hs.reorder (l := l) { s.lift l with
          queue := ((s.lift l).queue.erase w).map fun w => if passed.contains w then { w with passes := w.passes + 1 } else w
          current := some { w with state := .granted }, state := .busy } (by
        simp only [Lift.tickets, Lift.tenures, free.2.2, Option.toList_some, Option.toList_none, List.append_nil, List.filterMap_append,
          tickets]
        refine List.perm_append_comm.trans ?_
        rw [← List.filterMap_append]
        exact (List.perm_cons_erase mem).symm.filterMap (·.ticket))
      obtain ⟨moved, view⟩ := moved
      unfold State.grant
      refine State.Sound.tellGrant ((sound_edgeKeeps E v).raise _ _ ((sound_edgeKeeps E v).setOrder l moved)) off w fun n named => ?_
      rw [(table_edgeKeeps _).raise .liftGrant l ((table_edgeKeeps _).setOrder l rfl)]
      rw [view n]
      exact State.rides_of_tenure lift (List.mem_append_left _ mem) named
  · exact hs

theorem State.Right.grantCheck (hs : s.Right) (l : Nat) : (s.grantCheck l).Right := State.Sound.grantCheck hs nofun l

theorem State.Right.stagingFell (hs : s.Right) (lift : Option Nat) : (s.stagingFell lift).Right := by
  unfold State.stagingFell
  split
  exacts [hs, hs.grantCheck _]

/-! ### The ride (R112, R113) -/

theorem State.Right.tellTurnback (hs : s.Right) (o : Option Nat) : (s.tellTurnback o).Right := by
  unfold State.tellTurnback
  split
  · exact hs
  next t named =>
    obtain ⟨-, found⟩ := State.own_of_bind named
    split
    next descending =>
      have state : t.footing.state = .descending := by simp [Ticket.footing, descending, TicketState.phase]
      have stall : t.footing.stall = none := by
        by_contra bound
        have state' := (hs.fits found).bound.1 bound
        simp [state] at state'
      exact right_laneKeeps.laneGrantCheck (right_laneKeeps.cancelLane _ (hs.move found .fetching
        (Footing.asksAs_enter stall (.inr state) (.inl rfl)) fun _ => .inr ⟨.inl rfl, stall⟩))
    · exact hs

theorem State.Right.turnBack (hs : s.Right) {w : Tenure} (current : (s.lift l).current = some w) (x : LiftState) :
    (s.turnBack l w x).Right := by
  unfold State.turnBack
  refine State.Right.tellTurnback (hs.reorder _ ?_) _
  simp only [Lift.tickets, Lift.tenures, current, Option.toList_some, Option.toList_none, List.append_nil]
  split
  next none => simp [none]
  next n named =>
    refine ((insertBy_perm tenureBefore _ _).filterMap _).trans ?_
    rw [List.filterMap_append]
    simpa [named] using (List.perm_append_singleton n _).symm

theorem State.Right.passage (hs : s.Right) (l : Nat) (before : Bool) : (s.passage l before).Right := by
  unfold State.passage
  split
  exacts [hs.becameServiceable, hs]

theorem State.Right.recover (hs : s.Right) (l : Nat) : (s.recover l).Right := by
  unfold State.recover
  refine ((?_ : State.Right _).passage l _).grantCheck l
  split
  · exact right_edgeKeeps.liftMarks l _ rfl hs
  next current =>
    split
    exacts [right_edgeKeeps.liftMarks l _ rfl hs, hs.turnBack current _]

theorem State.Right.liftIdle (hs : s.Right) (l level : Nat) : (s.liftIdle l level).Right := by
  have parked : (s.setParked l level).Right := right_edgeKeeps.setParked l level hs
  unfold State.liftIdle
  dsimp only
  split
  · exact hs
  · exact parked.recover l
  · exact parked.recover l
  · exact parked
  · split
    · exact State.Right.grantCheck (right_edgeKeeps.liftMarks l { (s.setParked l level).lift l with state := .idle } rfl parked) l
    · split
      exacts [right_edgeKeeps.setOrder l parked, parked]

theorem State.Right.liftObstructed (hs : s.Right) (l : Nat) : (s.liftObstructed l).Right := by
  unfold State.liftObstructed
  split
  next current =>
    split
    exacts [(hs.turnBack current _).grantCheck l, hs]
  · exact hs

theorem State.Right.tellUnloaded (hs : s.Right) (o : Option Nat) (off : ∀ n, o = some n → ¬ (s.table.view n).rides) :
    (s.tellUnloaded o).Right := by
  unfold State.tellUnloaded
  split
  · exact hs
  next t named =>
    obtain ⟨ticket, found⟩ := State.own_of_bind named
    split
    next descending =>
      have state : t.footing.state = .descending := by simp [Ticket.footing, descending, TicketState.phase]
      have stall : t.footing.stall = none := by
        by_contra bound
        have state' := (hs.fits found).bound.1 bound
        simp [state] at state'
      refine hs.move found _ (Footing.asksAs_enter stall (.inr state) (.inr (.inr ?_))) fun rides => absurd rides (off _ ticket)
      split <;> rfl
    · exact hs

theorem State.Right.liftUnloaded (hs : s.Right) (l : Nat) : (s.liftUnloaded l).Right := by
  unfold State.liftUnloaded
  split
  next w _ current =>
    have lift : l ∈ liftNumbers := by
      by_contra out
      simp [s.lift_beyond out, Lift.cold] at current
    refine State.Right.grantCheck (State.Right.tellUnloaded (right_edgeKeeps.raise _ _ ?_) _ fun n named => ?_) l
    · cases named : w.ticket with
      | none => exact hs.reorder _ (by simp [Lift.tickets, Lift.tenures, current, named])
      | some n => exact (hs.unride (n := n) lift _ (by simp [Lift.tickets, Lift.tenures, current, named])).1
    · have view := (hs.unride (n := n) lift { s.lift l with current := none, parkedLevel := w.toLevel, state := .idle } (by
        simp [Lift.tickets, Lift.tenures, current, named])).2
      rw [(table_edgeKeeps _).raise .liftDone l rfl, view]
      exact id
  · exact hs

/-! ### Faults and absence (R115) -/

theorem State.Right.liftLost (hs : s.Right) (l : Nat) (x : LiftState) : (s.liftLost l x).Right := by
  have lost : (((s.setLift l { s.lift l with state := x }).clearOrder l).raise .liftFault l).Right :=
    right_edgeKeeps.raise _ _ (right_edgeKeeps.clearOrder l (right_edgeKeeps.liftMarks l _ rfl hs))
  unfold State.liftLost
  dsimp only
  split
  exacts [lost.replaceAll _, lost]

theorem State.Right.liftFaulted (hs : s.Right) (l : Nat) : (s.liftFaulted l).Right := by
  unfold State.liftFaulted
  split
  exacts [hs, hs, hs.liftLost l _]

theorem State.Right.handAbsence (hs : s.Right) (a : Nat) (cls : StationClass) (served : Option Served) :
    (s.handAbsence a cls served).Right := by
  unfold State.handAbsence
  split
  · exact right_edgeKeeps.hubAbsent _ _ hs
  · unfold State.liftStationAbsent
    split
    exacts [hs.liftLost _ _, hs]
  · exact right_laneKeeps.laneAbsent _ hs
  · exact right_edgeKeeps.baseLost a hs
  · exact hs

/-! ### Curb lanes (R120, R121) -/

theorem State.Right.laneOccupied (hs : s.Right) (n : Nat) : (s.laneOccupied n).Right := by
  unfold State.laneOccupied
  dsimp only
  split
  · exact right_laneKeeps.blockLane _ _ hs
  · split
    · exact hs
    next t named =>
      obtain ⟨-, found⟩ := State.own_of_bind named
      have mem := List.mem_of_find?_eq_some found
      split
      next toCurb =>
        have occupied : (s.setLane n { s.lane n with state := .occupied }).Right := right_edgeKeeps.lanes _ hs
        exact State.Right.stagingFell (right_edgeKeeps.raise _ _ (right_laneKeeps.moveOwn
          (s := s.setLane n { s.lane n with state := .occupied }) (t := t) mem .atCurb (by rw [toCurb]; rfl) occupied)) _
      · exact right_laneKeeps.laneTurnback _ _ hs
      · exact hs
  exacts [hs, hs, right_laneKeeps.blockLane _ _ hs, right_laneKeeps.blockLane _ _ hs]

end Sys2Proof.Machine
end

section
/-! SUPPORT for O7, continued: the hooks, the closing of a ticket and its arrival keep the table sound (R40, R41, R57, R66, R72). -/

namespace Sys2Proof.Machine

open Sys2Proof

variable {s u : State} {n h : Nat} {t : Ticket}

/-! ### Hooks -/

/-- The footing of a ticket with a hook. -/
@[simp] def Footing.hang (c : Footing) (h : Nat) : Footing := { c with hook := some h }

/-- A number's view with hook `h` its own, or not. -/
@[simp] def View.hang (v : View) (h : Nat) (own : Prop) : View := { v with hooks := fun j => if j = h then own else v.hooks j }

theorem Table.view_hang (T : Table) (h n : Nat) : (T.putHook h (some n, false)).view n = (T.view n).hang h True := by
  rw [T.view_putHook]
  simp [View.hang]

theorem Table.view_unhang (T : Table) (h n : Nat) : (T.putHook h (none, true)).view n = (T.view n).hang h False := by
  rw [T.view_putHook]
  simp [View.hang]

theorem Table.moves_hang {T : Table} (free : (T.hooks h).1 = none) (n : Nat) : Table.Moves n T (T.putHook h (some n, false)) :=
  T.moves_putHook (by simp [free]) (by simp) (by simp)

theorem Table.moves_unhang {T : Table} (own : ∀ m, (T.hooks h).1 = some m → m = n) : Table.Moves n T (T.putHook h (none, true)) :=
  T.moves_putHook own (by simp) (by simp)

theorem View.Fits.hang {v : View} {c : Footing} (fits : v.Fits c) (bare : c.hook = none) (h : Nat) :
    View.Fits ((v.hang h True).edit (·.hang h)) (c.hang h) := by
  obtain ⟨listed, scheduled, hooks, held, occupied, bound, rides⟩ := fits
  refine ⟨listed, scheduled, fun j => ?_, held, occupied, bound, rides⟩
  have old := hooks j
  by_cases same : j = h <;> simp_all [eq_comm]

/-- A hook that belongs to no ticket. -/
theorem State.Sound.loose {E : Nat → Prop} {v : Nat → View} (hs : s.Sound E v) (loose : (s.hook h).custody.loose = true) :
    (s.table.hooks h).1 = none := (hs.shape.hooks h).mpr loose

theorem State.table_bindHook (low : h < Config.hookCount) (n : Nat) :
    (s.bindHook h n).table = (s.table.putHook h (some n, false)).edit n (·.hang h) := by
  rw [State.bindHook, State.table_modify _ n (·.hang h), s.table_setHook low]
  rfl

theorem State.bindable_loose (may : s.bindable h = true) : (s.hook h).custody.loose = true := by
  simp only [State.bindable, Bool.and_eq_true, beq_iff_eq] at may
  rw [may.1]
  rfl

theorem State.Right.handHook (hs : s.Right) (low : h < Config.hookCount) : (s.handHook h).Right := by
  unfold State.handHook
  split
  next may =>
    split
    · exact hs
    next t chosen =>
      obtain ⟨mem, bare⟩ := List.mem_filter.mp (firstBy_mem chosen)
      have found := State.ticket_of_distinct hs.distinct mem
      refine hs.moved (n := t.number) ?_ ?_
      · rw [State.table_bindHook low]
        exact (Table.moves_hang (hs.loose (State.bindable_loose may)) _).trans (Table.moves_edit _ _ _)
      · rw [State.table_bindHook low, Table.view_edit_same, Table.view_hang]
        exact ((hs.fits found).hang (beq_iff_eq.mp bare) h).right
          (congrArg (Option.map fun c : Footing => c.hang h) (State.view_footing found))
  · exact hs

/-- The hook of an open ticket. -/
theorem State.Right.hook_low (hs : s.Right) (found : s.ticket n = some t) (hook : t.hook = some h) :
    (s.hook h).ticket = some n ∧ h < Config.hookCount := by
  have named : (s.hook h).ticket = some n := ((hs.fits found).hooks h).mpr hook
  refine ⟨named, ?_⟩
  by_contra high
  rw [State.hook, nth_outside _ _ _ (by omega)] at named
  cases named

/-- A ticket that leaves its hook for another stands as the records say. -/
theorem View.Fits.rehang {v : View} {c : Footing} (fits : v.Fits c) {f : Nat} (hook : c.hook = some f) (other : f ≠ h) :
    View.Fits (((v.hang h True).edit (·.hang h)).hang f False) (c.hang h) := by
  obtain ⟨listed, scheduled, hooks, held, occupied, bound, rides⟩ := fits
  refine ⟨listed, scheduled, fun j => ?_, held, occupied, bound, rides⟩
  have old := hooks j
  by_cases same : j = h <;> by_cases gone : j = f <;> simp_all [eq_comm]

theorem State.Right.rebind (hs : s.Right) (found : s.ticket t.number = some t) (h : Nat) : (s.rebind h t).1.Right := by
  have fits := hs.fits found
  unfold State.rebind
  extract_lets settled kept bound
  split
  · exact hs
  next may =>
    have free : (s.hook h).custody = .found := not_not.mp fun lost => may (.inl lost)
    have loose := hs.loose (h := h) (by rw [free]; rfl)
    have low : h < Config.hookCount := by
      by_contra high
      rw [State.hook, nth_outside _ _ _ (by omega)] at free
      cases free
    have table : bound.table = (s.table.putHook h (some t.number, false)).edit t.number (·.hang h) := by
      simp only [bound]
      rw [State.table_modify _ t.number (·.hang h), s.table_setHook low]
      rfl
    clear_value bound
    have moves : Table.Moves t.number s.table bound.table := by
      rw [table]
      exact (Table.moves_hang loose _).trans (Table.moves_edit _ _ _)
    have footing := congrArg (Option.map fun c : Footing => c.hang h) (State.view_footing found)
    split
    next bare =>
      refine State.Right.moved hs (u := bound) moves ?_
      rw [table, Table.view_edit_same, Table.view_hang]
      exact (fits.hang bare h).right footing
    next f hook =>
      obtain ⟨named, low'⟩ := hs.hook_low found hook
      have other : f ≠ h := fun same => by
        rw [same] at named
        simp [State.table, named] at loose
      have own : (bound.table.hooks f).1 = some t.number := by
        rw [table]
        exact (congrArg Prod.fst (Function.update_of_ne other _ _)).trans named
      extract_lets r cleared
      have same : cleared.table = bound.table := by
        simp only [cleared]
        split
        exacts [(table_edgeKeeps _).note _ rfl, rfl]
      have view : (bound.table.putHook f (none, true)).view t.number =
          (((s.table.view t.number).hang h True).edit (·.hang h)).hang f False := by
        rw [Table.view_unhang, table, Table.view_edit_same, Table.view_hang]
      have moved : (cleared.setHook f { r with custody := .vacant, ticket := none, runner := none }).Right := by
        refine hs.moved (n := t.number) ?_ ?_
        · rw [cleared.table_setHook low', same]
          exact moves.trans (Table.moves_unhang fun m named => Option.some.inj (named.symm.trans own))
        · rw [cleared.table_setHook low', same]
          dsimp only [Custody.loose]
          rw [view]
          exact (fits.rehang hook other).right footing
      exact moved.handHook low'

/-! ### A number beside the table -/

/-- The table is sound but for number `n`, whose view is `w`. -/
abbrev State.Beside (n : Nat) (w : View) (s : State) : Prop := s.Sound (· = n) fun _ => w

theorem State.Beside.shift {w w' : View} (hs : s.Beside n w) (moves : Table.Moves n s.table u.table) (view : u.table.view n = w') :
    u.Beside n w' where
  shape := moves.shape hs.shape
  right m out := by
    rw [moves.others m out]
    exact hs.right m out
  own m same := by rw [same]; exact view

theorem State.Beside.rejoin {w : View} (hs : s.Beside n w) (right : w.Right) : s.Right :=
  State.Sound.back hs (Table.Moves.refl n _) (by rw [hs.own n rfl]; exact right)

/-! ### Tickets that close (R57, R66) -/

/-- No record but its hook names the number. -/
structure View.Gone (v : View) (hook : Option Nat) : Prop where
  listed : ¬ v.listed
  scheduled : ¬ v.scheduled
  hooks : ∀ h, v.hooks h ↔ hook = some h
  held : ∀ k, ¬ v.held k
  occupied : ∀ k, ¬ v.occupied k
  rides : ¬ v.rides

theorem View.Right.gone {v : View} (right : v.Right) (closed : v.footing = none) : v.Gone none where
  listed := by simp [right.listed, closed]
  scheduled := by simp [right.scheduled, closed]
  hooks h := by simp [right.hooks h, closed]
  held k := by simp [right.held k, closed]
  occupied k := by simp [right.occupied k, closed]
  rides rides := by simpa [closed] using right.rides rides

theorem View.Gone.right {v : View} (gone : v.Gone none) (closed : v.footing = none) : v.Right where
  listed := by simp [gone.listed, closed]
  scheduled := by simp [gone.scheduled, closed]
  hooks h := by simp [gone.hooks h, closed]
  held k := by simp [gone.held k, closed]
  occupied k := by simp [gone.occupied k, closed]
  bound := by simp [closed]
  rides rides := (gone.rides rides).elim

/-- A ticket AT_CURB, alone or with its lane to come, that rides no more has no record but its hook. -/
theorem View.Fits.gone {v : View} {c : Footing} (fits : v.Fits c) (state : c.state = .atCurb) : v.Gone c.hook := by
  obtain ⟨_, stall, target, hook⟩ := c
  obtain rfl : _ = TicketState.atCurb := state
  obtain ⟨listed, scheduled, hooks, held, occupied, bound, rides⟩ := fits
  simp only [Footing.holds, Footing.fills, Footing.bound, Footing.mayRide] at held occupied bound rides
  constructor
  case hooks => exact hooks
  all_goals simp_all

theorem State.leaveGroup_table (s : State) (t : Ticket) : (s.leaveGroup t).table = s.table := by
  have same (f : Ticket → Ticket) (kept : ∀ k, (f k).number = k.number ∧ (f k).footing = k.footing) :
      State.table { s with tickets := s.tickets.map f } = s.table := by
    simp only [State.table, List.map_map]
    congr 1
    exact List.map_congr_left fun k _ => Prod.ext (kept k).1 (kept k).2
  unfold State.leaveGroup
  split
  · rfl
  · refine same _ fun k => ?_
    repeat' split
    all_goals exact ⟨rfl, rfl⟩

theorem State.dropTicket_table (s : State) (n : Nat) :
    (s.dropTicket n).table = { s.table with tickets := s.table.tickets.filter (·.1 != n) } := by
  have same := (table_edgeKeeps (State.table { s.leaveBoard n with tickets := s.tickets.filter (·.number != n) })).boardSince s rfl
  refine Eq.trans same ?_
  simp only [State.table, List.filter_map]
  rfl

/-- The record of a number that no other record names is freed. -/
theorem State.Beside.drop {w : View} (hs : s.Beside n w) (gone : w.Gone none)
    (table : u.table = { s.table with tickets := s.table.tickets.filter (·.1 != n) }) : u.Right := by
  have view : u.table.view n = { w with footing := none } := by
    rw [table, ← hs.own n rfl]
    simp only [Table.view, Table.footing_drop]
    rfl
  refine State.Sound.back hs (n := n) (table ▸ Table.moves_drop _ n) ?_
  rw [view]
  exact View.Gone.right ⟨gone.listed, gone.scheduled, gone.hooks, gone.held, gone.occupied, gone.rides⟩ rfl

/-- The hook of a number that no other record names is unbound. -/
theorem State.Beside.unbind {w : View} (hs : s.Beside n w) (gone : w.Gone (some h)) :
    h < Config.hookCount ∧ (s.unbindHook h).Beside n (w.hang h False) ∧ (w.hang h False).Gone none := by
  have named : (s.hook h).ticket = some n := by
    have own : w.hooks h := (gone.hooks h).mpr rfl
    rwa [← hs.own n rfl] at own
  have low : h < Config.hookCount := by
    by_contra high
    rw [State.hook, nth_outside _ _ _ (by omega)] at named
    cases named
  have table : (s.unbindHook h).table = s.table.putHook h (none, true) := by
    have loose : (if (s.hook h).accepted = .present then Custody.found else .vacant).loose = true := by split <;> rfl
    rw [State.unbindHook, s.table_setHook low]
    exact congrArg (fun x => s.table.putHook h (none, x)) loose
  refine ⟨low, hs.shift ?_ ?_, ⟨gone.listed, gone.scheduled, fun j => ?_, gone.held, gone.occupied, gone.rides⟩⟩
  · rw [table]
    exact Table.moves_unhang fun m own => Option.some.inj (own.symm.trans named)
  · rw [table, Table.view_unhang, hs.own n rfl]
  · have old := gone.hooks j
    by_cases same : j = h <;> simp_all [eq_comm]

theorem State.Beside.closeTicket {w : View} (hs : s.Beside t.number w) (gone : w.Gone t.hook) : (s.closeTicket t).Right := by
  have freed {u : State} {x : View} (hu : u.Beside t.number x) (bare : x.Gone none) :
      (((u.leaveGroup t).vacateLanes t.number).dropTicket t.number).Right := by
    have left : (u.leaveGroup t).Beside t.number x := hu.of_table (u.leaveGroup_table t)
    have vacated := (sound_laneKeeps _ _).vacateLanes t.number left
    exact State.Beside.drop vacated bare (State.dropTicket_table _ _)
  unfold State.closeTicket
  cases hook : t.hook with
  | none => exact freed hs (hook ▸ gone)
  | some h =>
    obtain ⟨low, unbound, bare⟩ := hs.unbind (hook ▸ gone)
    exact (freed unbound bare).handHook low

theorem State.Right.closeTicket (hs : s.Right) (found : s.ticket t.number = some t) (state : t.state = .atCurb) :
    (s.closeTicket t).Right :=
  State.Beside.closeTicket (hs.aside t.number) ((hs.fits found).gone (by simp [Ticket.footing, state, TicketState.phase]))

/-! ### Tickets that arrive (R40, R41, R44) -/

/-- A number that no record names yet has a new ticket, UNPLACED but not listed. -/
structure View.Fresh (v : View) (c : Footing) : Prop where
  fits : View.Fits { v with listed := True } c
  unlisted : ¬ v.listed
  footing : v.footing = some c
  state : c.state = .unplaced

theorem View.Gone.fresh {v : View} (gone : v.Gone none) :
    View.Fresh { v with footing := some ⟨.unplaced, none, none, none⟩ } ⟨.unplaced, none, none, none⟩ where
  fits := ⟨by simp, by simp [gone.scheduled], gone.hooks, by simp [gone.held, Footing.holds],
    by simp [gone.occupied, Footing.fills], by simp [Footing.bound], fun rides => (gone.rides rides).elim⟩
  unlisted := gone.listed
  footing := rfl
  state := rfl

theorem View.Fresh.gone {v : View} {c : Footing} (fresh : v.Fresh c) : v.Gone c.hook := by
  obtain ⟨⟨-, scheduled, hooks, held, occupied, bound, rides⟩, unlisted, -, state⟩ := fresh
  obtain ⟨_, stall, target, hook⟩ := c
  obtain rfl : _ = TicketState.unplaced := state
  simp only [Footing.holds, Footing.fills, Footing.bound, Footing.mayRide] at held occupied bound rides
  constructor
  case hooks => exact hooks
  all_goals simp_all

theorem Table.moves_append (T : Table) {c : Footing} (fresh : T.footing n = none) :
    Table.Moves n T { T with tickets := T.tickets ++ [(n, c)] } where
  shape shape := { shape with
    numbers := by
      rw [List.map_append, List.nodup_append]
      refine ⟨shape.numbers, by simp, fun m mem x own => ?_⟩
      rintro rfl
      obtain ⟨d, inside, rfl⟩ := List.mem_map.mp mem
      simp only [Table.footing, Option.map_eq_none_iff, List.find?_eq_none] at fresh
      simp at own
      simpa [own] using fresh d inside }
  others m other := by
    have footing : Table.footing { T with tickets := T.tickets ++ [(n, c)] } m = T.footing m := by
      simp only [Table.footing, List.find?_append]
      simp [Ne.symm other]
    simp only [Table.view, footing]
    rfl

theorem Table.view_append (T : Table) {c : Footing} (fresh : T.footing n = none) :
    Table.view { T with tickets := T.tickets ++ [(n, c)] } n = { T.view n with footing := some c } := by
  have footing : Table.footing { T with tickets := T.tickets ++ [(n, c)] } n = some c := by
    simp only [Table.footing, Option.map_eq_none_iff] at fresh
    simp [Table.footing, List.find?_append, fresh]
  simp only [Table.view, footing]
  rfl

/-- The number has a new ticket, and all other numbers stand right. -/
def State.New (n : Nat) (s : State) : Prop := ∃ w c, s.Beside n w ∧ w.Fresh c

theorem State.New.bindLowest (hs : s.New n) (bare : (s.ticket n).bind (·.hook) = none) : (s.bindLowest n).New n := by
  obtain ⟨w, c, hs, fresh⟩ := hs
  unfold State.bindLowest
  split
  · exact ⟨w, c, hs, fresh⟩
  next h chosen =>
    have may := List.find?_some chosen
    have low : h < Config.hookCount := List.mem_range.mp (List.mem_of_find?_eq_some chosen)
    have hook : c.hook = none := by
      have footing := fresh.footing
      rw [← hs.own n rfl, show (s.table.view n).footing = s.table.footing n from rfl, s.footing_table] at footing
      obtain ⟨t, found, rfl⟩ := Option.map_eq_some_iff.mp footing
      simpa [found, Ticket.footing] using bare
    refine ⟨(w.hang h True).edit (·.hang h), c.hang h, hs.shift ?_ ?_, ?_⟩
    · rw [State.table_bindHook low]
      exact (Table.moves_hang (hs.loose (State.bindable_loose may)) n).trans (Table.moves_edit _ _ _)
    · rw [State.table_bindHook low, Table.view_edit_same, Table.view_hang, hs.own n rfl]
    · exact ⟨fresh.fits.hang hook h, fresh.unlisted, congrArg (Option.map fun c : Footing => c.hang h) fresh.footing, fresh.state⟩

theorem State.New.removeTicket (hs : s.New n) : (s.removeTicket n).Right := by
  obtain ⟨w, c, hs, fresh⟩ := hs
  have hook : (s.ticket n).bind (·.hook) = c.hook := by
    have footing := fresh.footing
    rw [← hs.own n rfl, show (s.table.view n).footing = s.table.footing n from rfl, s.footing_table] at footing
    obtain ⟨t, found, rfl⟩ := Option.map_eq_some_iff.mp footing
    simp [found, Ticket.footing]
  have table (u : State) : State.table { u with tickets := u.tickets.filter (·.number != n) } =
      { u.table with tickets := u.table.tickets.filter (·.1 != n) } := by
    simp only [State.table, List.filter_map]
    rfl
  have gone := fresh.gone
  unfold State.removeTicket
  rw [hook]
  cases own : c.hook with
  | none => exact hs.drop (own ▸ gone) (table s)
  | some h =>
    obtain ⟨low, unbound, bare⟩ := hs.unbind (own ▸ gone)
    exact State.Right.handHook (unbound.drop bare (table _)) low

theorem State.New.list (hs : s.New n) : State.Right { s with unplaced := s.unplaced ++ [n] } := by
  obtain ⟨w, c, hs, fresh⟩ := hs
  have out : n ∉ s.unplaced := by
    have unlisted := fresh.unlisted
    rwa [← hs.own n rfl] at unlisted
  refine State.Sound.back hs (n := n) (s.table.moves_unplaced (fun nodup => ?_) fun m other => ?_) ?_
  · rw [List.nodup_append]
    exact ⟨nodup, by simp, fun a mem b own same => out (by simp_all [State.table])⟩
  · simp [State.table, other]
  · have view : (State.table { s with unplaced := s.unplaced ++ [n] }).view n = { w with listed := True } := by
      rw [← hs.own n rfl]
      exact congrArg (fun p => { s.table.view n with listed := p }) (eq_true (List.mem_append_right _ (List.mem_cons_self ..)))
    rw [view]
    exact fresh.fits.right fresh.footing

theorem State.New.placeNew (hs : s.New n) (now : SiteTime) : (s.placeNew n now).state.Right := by
  unfold State.placeNew
  split
  next k second placed =>
    obtain ⟨t, -, placed⟩ := Option.bind_eq_some_iff.mp placed
    have free : (s.stall k).state = .free := State.placement_free placed
    obtain ⟨w, c, hs, fresh⟩ := hs
    have idle := hs.idle (k := k) (by rw [free]; rfl)
    refine right_edgeKeeps.raise _ _ (State.Sound.back hs (n := n) ?_ ?_)
    · rw [s.table_assign free]
      exact ((Table.moves_hold idle n).trans (Table.moves_edit _ _ _)).trans (Table.moves_edit _ _ _)
    · rw [s.table_assign free, Table.view_edit_same, Table.view_edit_same, Table.view_claim, hs.own n rfl]
      exact (fresh.fits.assigned fresh.state fresh.unlisted k).right
        (congrArg (fun o => (o.map fun c : Footing => c.bind k).map fun c : Footing => c.enter .assigned) fresh.footing)
  · split
    · exact right_edgeKeeps.raise _ _ (right_edgeKeeps.raise _ _ hs.list)
    · exact hs.removeTicket

theorem State.Right.takeArrive (hs : s.Right) (a : Nat) (f : ArriveFields) : (s.takeArrive a f).state.Right := by
  unfold State.takeArrive
  split
  · exact hs
  next q _ =>
    split
    · exact right_edgeKeeps.raise _ _ hs
    next room =>
      have unused : s.ticket s.issued = none := s.ticket_issued (Nat.not_le.mp room)
      have fresh : s.table.footing s.issued = none := by rw [s.footing_table, unused]; rfl
      have table : State.table { s with issue := nextNumber s.issued, tickets := s.tickets ++ [newTicket s.issued q s.now] } =
          { s.table with tickets := s.table.tickets ++ [(s.issued, ⟨.unplaced, none, none, none⟩)] } := by
        simp only [State.table, List.map_append]
        rfl
      have made : State.New s.issued { s with issue := nextNumber s.issued, tickets := s.tickets ++ [newTicket s.issued q s.now] } := by
        refine ⟨_, _, State.Beside.shift (hs.aside s.issued) ?_ ?_, ((hs.right s.issued fun h => h).gone fresh).fresh⟩
        · rw [table]
          exact Table.moves_append _ fresh
        · rw [table, Table.view_append _ fresh]
      refine State.New.placeNew (made.bindLowest ?_) s.now
      have own : (newTicket s.issued q s.now).number = s.issued := rfl
      simp only [State.ticket] at unused ⊢
      rw [List.find?_append, unused]
      simp [newTicket]

end Sys2Proof.Machine
end

section
/-! SUPPORT for O7, continued: calls, the schedule, cancels and groups keep the table sound (R50, R54, R127 to R133). -/

namespace Sys2Proof.Machine

open Sys2Proof

variable {s u : State} {n k : Nat} {t : Ticket}

/-! ### Tickets put AT_CURB by a call -/

theorem View.Gone.atCurb {v : View} {c : Footing} (gone : v.Gone c.hook) (stall : c.stall = none) (target : c.target = none) :
    View.Fits (v.edit (·.enter .atCurb)) (c.enter .atCurb) where
  listed := by simp [gone.listed, TicketState.phase]
  scheduled := by simp [gone.scheduled, TicketState.phase]
  hooks := gone.hooks
  held k := by simp [gone.held, Footing.holds, TicketState.phase]
  occupied k := by simp [gone.occupied, Footing.fills, TicketState.phase]
  bound := by simp [Footing.bound, TicketState.phase, stall, target]
  rides rides := (gone.rides rides).elim

theorem State.table_toPodium (s : State) (n : Nat) : (s.toPodium n).table = s.table.edit n (·.enter .atCurb) := by
  rw [State.toPodium, State.table_move]
  exact congrArg (Table.edit · n _) ((table_edgeKeeps s.table).note n rfl)

theorem State.Beside.toPodium {w : View} {c : Footing} (hs : s.Beside n w) (footing : w.footing = some c) (gone : w.Gone c.hook)
    (stall : c.stall = none) (target : c.target = none) : (s.toPodium n).Right := by
  refine State.Sound.back hs (n := n) ?_ ?_
  · rw [s.table_toPodium]
    exact Table.moves_edit _ _ _
  · rw [s.table_toPodium, Table.view_edit_same, hs.own n rfl]
    exact (gone.atCurb stall target).right (congrArg (Option.map fun c : Footing => c.enter .atCurb) footing)

/-- An UNPLACED ticket taken from the list has no record but its hook. -/
theorem View.Fits.unlisted {v : View} {c : Footing} (fits : v.Fits c) (state : c.state = .unplaced) :
    View.Gone { v with listed := False } c.hook ∧ c.stall = none ∧ c.target = none := by
  obtain ⟨_, stall, target, hook⟩ := c
  obtain rfl : _ = TicketState.unplaced := state
  obtain ⟨listed, scheduled, hooks, held, occupied, bound, rides⟩ := fits
  simp only [Footing.holds, Footing.fills, Footing.bound, Footing.mayRide] at held occupied bound rides
  refine ⟨?_, by simpa using bound.1, by simpa using bound.2.2⟩
  constructor
  case hooks => exact hooks
  all_goals simp_all

/-- An ASSIGNED ticket whose hold is given up has no record but its hook. -/
theorem View.Fits.unassigned {v : View} {c : Footing} (fits : v.Fits c) (state : c.state = .assigned) (stall : c.stall = some k) :
    View.Gone ((v.claim k .free).edit Footing.leave) c.hook ∧ c.target = none := by
  obtain ⟨_, stall', target, hook⟩ := c
  obtain rfl : _ = TicketState.assigned := state
  obtain rfl : stall' = some k := stall
  obtain ⟨listed, scheduled, hooks, held, occupied, bound, rides⟩ := fits
  simp only [Footing.holds, Footing.fills, Footing.bound, Footing.mayRide] at held occupied bound rides
  refine ⟨?_, by simpa using bound.2.2⟩
  constructor
  case hooks => exact hooks
  case held =>
    intro j
    by_cases same : j = k <;> simp_all [eq_comm]
  case occupied =>
    intro j
    by_cases same : j = k <;> simp_all
  all_goals simp_all

theorem State.table_unlist (s : State) (n : Nat) :
    State.table { s with unplaced := s.unplaced.filter (· != n) } = { s.table with unplaced := s.table.unplaced.filter (· != n) } :=
  rfl

theorem State.Right.unlist (hs : s.Right) (n : Nat) :
    State.Beside n { s.table.view n with listed := False } { s with unplaced := s.unplaced.filter (· != n) } := by
  refine State.Beside.shift (hs.aside n) ?_ ?_
  · rw [s.table_unlist]
    exact s.table.moves_unplaced (fun nodup => nodup.filter _) fun m other => by simp [other]
  · rw [s.table_unlist]
    exact congrArg (fun p => { s.table.view n with listed := p }) 
      (propext (show n ∈ s.unplaced.filter (· != n) ↔ False by simp))

/-! ### Tickets called from their stalls -/

/-- A PARKED or SCHEDULED ticket out of the schedule is PARKED or CALLED as the records say. -/
theorem View.Fits.unscheduled {v : View} {c : Footing} {p : Prop} (fits : View.Fits { v with scheduled := p } c)
    (state : c.state = .parked ∨ c.state = .scheduled) {x : TicketState} (new : x.phase = .parked) :
    View.Fits (View.edit { v with scheduled := False } (·.enter x)) (c.enter x) := by
  obtain ⟨_, stall, target, hook⟩ := c
  obtain ⟨listed, -, hooks, held, occupied, bound, rides⟩ := fits
  simp only [Footing.holds, Footing.fills, Footing.bound, Footing.mayRide] at held occupied bound rides
  constructor
  case hooks => exact hooks
  all_goals obtain rfl | rfl := state <;> simp_all [Footing.holds, Footing.fills, Footing.bound, Footing.mayRide]

theorem State.table_unschedule (s : State) (n : Nat) :
    (s.unschedule n).table = { s.table with schedule := s.table.schedule.filter (· != n) } := by
  simp only [State.table, State.unschedule, List.filter_map]
  rfl

theorem Table.moves_unschedule (T : Table) (n : Nat) : Table.Moves n T { T with schedule := T.schedule.filter (· != n) } :=
  T.moves_schedule (fun nodup => nodup.filter _) fun m other => by simp [other]

theorem Table.view_unschedule (T : Table) (n : Nat) :
    Table.view { T with schedule := T.schedule.filter (· != n) } n = { T.view n with scheduled := False } :=
  congrArg (fun p => { T.view n with scheduled := p }) (by simp)

/-- A ticket out of the schedule enters PARKED or CALLED. -/
theorem State.Beside.enterUnscheduled {w : View} {c : Footing} {p : Prop} (hs : s.Beside n w)
    (fits : View.Fits { w with scheduled := p } c) (footing : w.footing = some c) (state : c.state = .parked ∨ c.state = .scheduled)
    {x : TicketState} (new : x.phase = .parked)
    (table : u.table = Table.edit { s.table with schedule := s.table.schedule.filter (· != n) } n (·.enter x)) : u.Right := by
  refine State.Sound.back hs (n := n) ?_ ?_
  · rw [table]
    exact (Table.moves_unschedule _ n).trans (Table.moves_edit _ _ _)
  · rw [table, Table.view_edit_same, Table.view_unschedule, hs.own n rfl]
    exact (fits.unscheduled state new).right (congrArg (Option.map fun c : Footing => c.enter x) footing)

theorem State.table_callParked (s : State) (t : Ticket) (time : SiteTime) : (s.callParked t time).table =
    Table.edit { s.table with schedule := s.table.schedule.filter (· != t.number) } t.number (·.enter .called) := by
  unfold State.callParked
  rw [(table_edgeKeeps _).makeTask .fetch t.number time rfl, State.table_move, ← s.table_unschedule]
  exact congrArg (Table.edit · _ _) ((table_edgeKeeps (s.unschedule t.number).table).note t.number rfl)

theorem Ticket.footing_state {x : TicketState} (state : t.state = x) : t.footing.state = x.phase := by rw [← state]; rfl

theorem State.Right.enterUnscheduled (hs : s.Right) (found : s.ticket n = some t) (state : t.state = .parked ∨ t.state = .scheduled)
    {x : TicketState} (new : x.phase = .parked)
    (table : u.table = Table.edit { s.table with schedule := s.table.schedule.filter (· != n) } n (·.enter x)) : u.Right :=
  State.Beside.enterUnscheduled (hs.aside n) (p := (s.table.view n).scheduled) (hs.fits found) (State.view_footing found)
    (state.imp Ticket.footing_state Ticket.footing_state) new table

theorem State.Right.callTicket (hs : s.Right) (found : s.ticket t.number = some t) (time : SiteTime) :
    (s.callTicket t time).1.Right := by
  have fits := hs.fits found
  have footing := State.view_footing found
  unfold State.callTicket
  split
  next unplaced =>
    obtain ⟨gone, stall, target⟩ := fits.unlisted (Ticket.footing_state unplaced)
    exact State.Beside.toPodium (hs.unlist t.number) footing gone stall target
  next assigned =>
    split
    · exact hs
    · have state : t.footing.state = .assigned := Ticket.footing_state assigned
      have withdrawn : (s.withdrawTask t.number).table = s.table := (table_edgeKeeps _).withdrawTask t.number rfl
      dsimp only
      split
      next unbound => exact absurd unbound (fits.bound.2.1 (.inl state))
      next k stall =>
        have holds : s.table.stalls k = (some t.number, .held) := (fits.held k).mpr (.inl ⟨stall, .inl state⟩)
        have held : (s.withdrawTask t.number).heldFor k t.number = true := (State.view_held _ _ _).mp (by rw [withdrawn]; exact holds)
        obtain ⟨gone, target⟩ := fits.unassigned state stall
        have table : (((s.withdrawTask t.number).releaseStall k t.number).modifyTicket t.number fun t =>
            { t with stall := none }).table = (s.table.putStall k (none, .free)).edit t.number Footing.leave := by
          rw [State.table_modify _ t.number Footing.leave, State.table_releaseStall held, withdrawn]
        have freed : State.Beside t.number (((s.table.view t.number).claim k .free).edit Footing.leave)
            (((s.withdrawTask t.number).releaseStall k t.number).modifyTicket t.number fun t => { t with stall := none }) := by
          refine State.Beside.shift (hs.aside t.number) ?_ ?_
          · rw [table]
            exact (Table.moves_free holds).trans (Table.moves_edit _ _ _)
          · rw [table, Table.view_edit_same, Table.view_unclaim]
        rw [if_pos held]
        have left : (((s.table.view t.number).claim k .free).edit Footing.leave).footing = some t.footing.leave :=
          congrArg (Option.map Footing.leave) footing
        refine State.Beside.toPodium (freed.handOn ?_ k) left gone rfl target
        rintro m rfl
        refine ⟨gone.listed, fun c own => ?_⟩
        rw [left] at own
        rw [← Option.some.inj own]
        simp [state]
  · split
    exacts [hs, right_edgeKeeps.note _ hs]
  · split
    exacts [hs, right_edgeKeeps.note _ hs]
  next parked => exact hs.enterUnscheduled found (.inl parked) rfl (s.table_callParked t time)
  next scheduled => exact hs.enterUnscheduled found (.inr scheduled) rfl (s.table_callParked t time)
  all_goals exact hs

theorem State.Right.groupCall (hs : s.Right) (found : s.ticket t.number = some t) (g place : Nat) : (s.groupCall t g place).1.Right := by
  refine forEach_keeps (fun acc : State × Nat => acc.1.Right) _ _ _ (fun n acc ha => ?_) (hs.callTicket found _)
  unfold callMember
  split
  · exact ha
  next member =>
    split
    exacts [ha.callTicket (State.ticket_number member ▸ member) _, ha]

theorem State.Right.requestCall (hs : s.Right) (f : CallFields) : (s.requestCall f).state.Right := by
  unfold State.requestCall
  split
  next named _ =>
    have found := CommandKeeps.own_of_named named
    unfold State.takeCall
    split
    exacts [hs.groupCall found _ _, hs.callTicket found _]
  · exact hs

/-! ### The schedule (R127, R128, R130) -/

theorem State.Right.releaseEntry (hs : s.Right) (n : Nat) : (s.releaseEntry n).Right := by
  have idle (out : ¬ (s.table.view n).scheduled) : (s.unschedule n).table = s.table := by
    rw [s.table_unschedule, List.filter_eq_self.mpr fun m mem => by simpa using fun same : m = n => out (same ▸ mem)]
  unfold State.releaseEntry
  split
  next unknown =>
    refine State.Sound.of_table hs (idle fun scheduled => ?_)
    obtain ⟨c, footing, -⟩ := (hs.right n fun h => h).scheduled.mp scheduled
    rw [show (s.table.view n).footing = s.table.footing n from rfl, s.footing_table, unknown] at footing
    cases footing
  next t found =>
    refine right_edgeKeeps.raise _ _ ?_
    have number := State.ticket_number found
    by_cases scheduled : t.state = .scheduled
    · have called : (s.unschedule n).callTicket t s.now = ((s.unschedule n).callParked t s.now, .done) := by
        simp only [State.callTicket, scheduled]
      rw [called]
      refine hs.enterUnscheduled found (.inr scheduled) (x := .called) rfl ?_
      rw [State.table_callParked, number, s.table_unschedule]
      simp [List.filter_filter]
    · refine State.Right.callTicket (State.Sound.of_table hs (idle fun entry => scheduled ?_)) (number ▸ found) s.now
      have state := (hs.fits found).scheduled.mp entry
      simp only [Ticket.footing] at state
      cases own : t.state <;> simp_all [TicketState.phase]

/-- A ticket that is SCHEDULED, with an entry or without one yet. -/
theorem State.Beside.enterSchedule {w : View} {c : Footing} {p : Prop} (hs : s.Beside n w)
    (fits : View.Fits { w with scheduled := p } c) (footing : w.footing = some c) (state : c.state = .scheduled) (requested : SiteTime) :
    (s.enterSchedule n requested).Right := by
  unfold State.enterSchedule
  extract_lets release cleared entry calls made
  have right : made.Right := by
    have perm : (made.calls.schedule.map (·.ticket)).Perm (n :: (s.calls.schedule.map (·.ticket)).filter (· != n)) := by
      refine ((insertBy_perm releaseBefore _ _).map _).trans ?_
      simp only [cleared, entry, State.unschedule, List.map_cons, List.filter_map]
      exact List.Perm.refl _
    refine State.Sound.back hs (n := n) (t := made) (s.table.moves_schedule (fun nodup => ?_) fun m other => ?_) ?_
    · exact perm.symm.nodup (List.nodup_cons.mpr ⟨by simp, nodup.filter _⟩)
    · rw [perm.mem_iff]
      simp [State.table, other]
    · have view : made.table.view n = { w with scheduled := True } := by
        rw [← hs.own n rfl]
        exact congrArg (fun p => { s.table.view n with scheduled := p }) (eq_true (perm.mem_iff.mpr (List.mem_cons_self ..)))
      rw [view]
      exact View.Fits.right ⟨fits.listed, by simp [state], fits.hooks, fits.held, fits.occupied, fits.bound, fits.rides⟩ footing
  split
  exacts [right.releaseEntry n, right]

theorem State.Right.scheduleTicket (hs : s.Right) (found : s.ticket t.number = some t) (requested : SiteTime) :
    (s.scheduleTicket t requested).1.Right := by
  have fits := hs.fits found
  have footing := State.view_footing found
  unfold State.scheduleTicket
  split
  next parked =>
    split
    · have moved : State.Beside t.number ((s.table.view t.number).edit (·.enter .scheduled)) (s.moveTicket t.number .scheduled) := by
        refine State.Beside.shift (hs.aside t.number) ?_ ?_
        · rw [State.table_move]
          exact Table.moves_edit _ _ _
        · rw [State.table_move, Table.view_edit_same]
      refine State.Beside.enterSchedule (p := True) moved (c := t.footing.enter .scheduled) ?_
        (congrArg (Option.map fun c : Footing => c.enter .scheduled) footing) rfl requested
      have state : t.footing.state = .parked := Ticket.footing_state parked
      obtain ⟨listed, -, hooks, held, occupied, bound, rides⟩ := fits
      simp only [Footing.holds, Footing.fills, Footing.bound, Footing.mayRide, state] at held occupied bound rides
      constructor
      case hooks => exact hooks
      all_goals simp_all [Footing.holds, Footing.fills, Footing.bound, Footing.mayRide, TicketState.phase]
    · exact hs
  next scheduled =>
    exact State.Beside.enterSchedule (hs.aside t.number) (p := (s.table.view t.number).scheduled) fits footing
      (Ticket.footing_state scheduled) requested
  all_goals exact hs

/-! ### Cancels and groups -/

/-- Where the table is the same an open ticket has the same footing. -/
theorem State.found_of_table (same : u.table = s.table) (found : s.ticket n = some t) :
    ∃ c, u.ticket n = some c ∧ c.footing = t.footing := by
  have footing : u.table.footing n = some t.footing := by rw [same, s.footing_table, found]; rfl
  rw [u.footing_table] at footing
  exact Option.map_eq_some_iff.mp footing

theorem Table.edit_id (T : Table) (n : Nat) : T.edit n id = T := by simp [Table.edit]

theorem State.Right.cancelTicket (hs : s.Right) (found : s.ticket t.number = some t) : (s.cancelTicket t).1.Right := by
  unfold State.cancelTicket
  split
  next scheduled =>
    refine hs.enterUnscheduled found (.inr scheduled) (x := .parked) rfl ?_
    rw [State.table_move, s.table_unschedule]
  next called =>
    have parked : (t.footing.enter .parked) = t.footing := by simp [Ticket.footing, called, TicketState.phase]
    obtain ⟨c, open_, footing⟩ := State.found_of_table ((table_edgeKeeps _).withdrawTask t.number rfl) found
    have withdrawn : (s.withdrawTask t.number).Right := right_edgeKeeps.withdrawTask t.number hs
    refine right_edgeKeeps.note _ (withdrawn.move open_ .parked ?_ fun rides => ?_)
    · rw [footing, parked]
      exact ⟨.rfl, .rfl, rfl, fun _ => .rfl, fun _ => .rfl, id⟩
    · rw [footing, parked, ← footing]
      exact (withdrawn.fits open_).rides rides
  · split
    exacts [right_edgeKeeps.note _ (right_edgeKeeps.note _ hs), hs]
  · split
    exacts [right_edgeKeeps.note _ (right_edgeKeeps.note _ hs), hs]
  · split
    exacts [right_edgeKeeps.note _ (right_edgeKeeps.note _ hs), hs]
  all_goals exact hs

theorem State.Right.linkGroup (hs : s.Right) (g : Nat) : (s.linkGroup t g).1.Right := by
  unfold State.linkGroup
  split
  · exact hs
  · exact State.Sound.of_table hs (s.leaveGroup_table t)
  · exact hs
  · dsimp only
    split
    · exact hs
    · exact State.Sound.of_table hs ((s.table_modify t.number id).trans (Table.edit_id _ _))

end Sys2Proof.Machine
end

section
/-! SUPPORT for O7, continued: the runners' steps keep the table sound (R46 to R53, R94, R107, R114). -/

namespace Sys2Proof.Machine

open Sys2Proof

variable {s u : State} {n k l b : Nat} {t : Ticket}

/-! ### Tenures filed and let go (R107, R114) -/

theorem State.Right.fileTenure (hs : s.Right) (found : s.ticket n = some t) (may : t.footing.mayRide) (off : s.hasTenure n = false)
    (badge l : Nat) (direction : Direction) (fromLevel toLevel : Nat) :
    (s.fileTenure n badge l direction fromLevel toLevel).1.Right := by
  unfold State.fileTenure
  dsimp only
  split
  · exact hs
  next served =>
    split
    · exact hs
    · have lift : l ∈ liftNumbers := by
        by_contra out
        have none : s.servedLevels l = [] := nth1_outside _ _ _ (fun fits => out (mem_liftNumbers.mpr fits))
        simp [none] at served
      refine State.Right.grantCheck (right_edgeKeeps.note _ ?_) l
      have fits := hs.fits found
      have out : n ∉ s.table.riding := fun mem => by
        rw [(s.view_rides n).mp mem] at off
        cases off
      obtain ⟨rest, old, new⟩ := s.riding_setLift lift { s.lift l with
        queue := insertBy tenureBefore { ticket := some n, runner := some badge, direction, fromLevel, toLevel, state := .waiting,
                                         requested := s.now, passes := 0 } (s.lift l).queue }
      have perm := new.trans ((?_ : List.Perm _ (n :: (s.lift l).tickets ++ rest)).trans (old.symm.cons n))
      · rw [s.table_setLift lift] at perm
        refine hs.moved (n := n) ?_ ?_
        · rw [s.table_setLift lift]
          exact s.table.moves_riders (fun nodup => perm.symm.nodup (List.nodup_cons.mpr ⟨out, nodup⟩)) fun m other => by
            rw [perm.mem_iff, List.mem_cons, or_iff_right other]
        · rw [s.table_setLift lift]
          exact View.Fits.right (c := t.footing) ⟨fits.listed, fits.scheduled, fits.hooks, fits.held, fits.occupied, fits.bound,
            fun _ => may⟩ (State.view_footing found)
      · refine List.Perm.append_right rest ?_
        simp only [Lift.tickets, Lift.tenures, List.filterMap_append]
        exact ((insertBy_perm tenureBefore _ _).filterMap _).append_right _

/-- The tickets of a lift once a number is gone from its queue. -/
theorem Lift.tickets_unqueued {r : Lift} (nodup : r.tickets.Nodup) (queued : r.queue.any (·.ticket == some n) = true) :
    r.tickets.Perm (n :: Lift.tickets { r with queue := r.queue.filter (·.ticket != some n) }) := by
  obtain ⟨w, mem, named⟩ := List.any_eq_true.mp queued
  have inside : n ∈ r.queue.filterMap (·.ticket) := List.mem_filterMap.mpr ⟨w, mem, beq_iff_eq.mp named⟩
  have filtered : (r.queue.filter (·.ticket != some n)).filterMap (·.ticket) = (r.queue.filterMap (·.ticket)).erase n := by
    simp only [Lift.tickets, Lift.tenures, List.filterMap_append, List.nodup_append] at nodup
    rw [List.Nodup.erase_eq_filter nodup.1, List.filterMap_filter, List.filter_filterMap]
    refine List.filterMap_congr fun x _ => ?_
    cases x.ticket with
    | none => simp
    | some m => by_cases same : m = n <;> simp [same, Option.filter]
  simp only [Lift.tickets, Lift.tenures, List.filterMap_append, filtered]
  exact (List.perm_cons_erase inside).append_right _

/-- Number `n` of view `w` has let go of its tenure, or has it on one of the lifts to come. -/
def State.LettingGo (n : Nat) (w : View) (xs : List Nat) (s : State) : Prop :=
  ∃ p : Prop, s.Beside n { w with rides := p } ∧ (p → ∃ l ∈ xs, (s.lift l).hasTenure n = true) ∧ ∀ l ∈ xs, l ∈ liftNumbers

/-- A ticket lets go of its tenure: it rides no more, and nothing else changes of it. -/
theorem State.Beside.letGo {w : View} (hs : s.Beside n w) : (s.letGo n).Beside n { w with rides := False } := by
  have unride {u : State} {p : Prop} (hu : u.Beside n { w with rides := p }) {l : Nat} (lift : l ∈ liftNumbers) (r : Lift)
      (gone : (u.lift l).tickets.Perm (n :: r.tickets)) : (u.setLift l r).Beside n { w with rides := False } := by
    obtain ⟨moves, view⟩ := State.unride hu.shape.riding lift r gone
    exact State.Beside.shift hu moves (by rw [view, hu.own n rfl])
  have one {u : State} {p : Prop} (hu : u.Beside n { w with rides := p }) {l : Nat} (lift : l ∈ liftNumbers) :
      (letGoOn n l u).Beside n { w with rides := False } ∨ letGoOn n l u = u ∧ (u.lift l).hasTenure n = false := by
    unfold letGoOn
    dsimp only
    split
    next queued =>
      refine .inl (State.Sound.grantCheck (unride hu lift _ (Lift.tickets_unqueued ?_ queued)) (fun _ _ => id) l)
      obtain ⟨rest, old, -⟩ := u.riding_setLift lift (u.lift l)
      exact (List.nodup_append.mp (old.nodup hu.shape.riding)).1
    next unqueued =>
      split
      next none => exact .inr ⟨rfl, by simpa [Lift.hasTenure, Lift.tenures, none] using unqueued⟩
      next x current =>
        split
        next own => exact .inl (unride hu lift _ (by simp [Lift.tickets, Lift.tenures, current, own]))
        next other => exact .inr ⟨rfl, by simpa [Lift.hasTenure, Lift.tenures, current, other] using unqueued⟩
  have start : w.rides → ∃ l ∈ liftNumbers, (s.lift l).hasTenure n = true := fun rides => by
    rw [← hs.own n rfl, s.view_rides] at rides
    exact List.any_eq_true.mp rides
  have step (l : Nat) (xs : List Nat) (u : State) (hu : u.LettingGo n w (l :: xs)) : (letGoOn n l u).LettingGo n w xs := by
    obtain ⟨p, hu, rest, lifts⟩ := hu
    have lifts' : ∀ j ∈ xs, j ∈ liftNumbers := fun j mem => lifts j (List.mem_cons_of_mem _ mem)
    rcases one hu (lifts l (List.mem_cons_self ..)) with gone | ⟨same, none⟩
    · exact ⟨False, gone, False.elim, lifts'⟩
    · refine ⟨p, same.symm ▸ hu, fun h => ?_, lifts'⟩
      obtain ⟨j, mem, has⟩ := rest h
      rcases List.mem_cons.mp mem with rfl | mem
      · rw [none] at has
        cases has
      · exact ⟨j, mem, same.symm ▸ has⟩
  obtain ⟨p, end_, none, -⟩ := forEach_rest (State.LettingGo n w) (letGoOn n) step ⟨w.rides, hs, start, fun l mem => mem⟩
  rw [s.letGo_eq]
  rwa [show p = False from propext (iff_false_intro fun h => by simpa using none h)] at end_

/-! ### Acceptance (R47, R52) -/

theorem Footing.asksAs_parking {c : Footing} (state : c.state = .assigned) : c.AsksAs (c.enter .parking) := by
  refine ⟨?_, ?_, rfl, fun k => ?_, fun k => ?_, ?_⟩ <;> simp [state, TicketState.phase, Footing.holds, Footing.fills, Footing.bound]

theorem Footing.asksAs_fetching {c : Footing} (state : c.state = .parked) : c.AsksAs (c.enter .fetching) := by
  refine ⟨?_, ?_, rfl, fun k => ?_, fun k => ?_, ?_⟩ <;> simp [state, TicketState.phase, Footing.holds, Footing.fills, Footing.bound]

theorem State.Right.tellAccept (hs : s.Right) (b n : Nat) : (s.tellAccept b n).Right := by
  have named : (s.modifyTicket n fun t => { t with runner := some b }).Right := right_edgeKeeps.note n hs
  unfold State.tellAccept
  dsimp only
  split
  next assigned =>
    obtain ⟨t, found, state⟩ := Option.map_eq_some_iff.mp assigned
    have own := State.ticket_edit_same found fun t => { t with runner := some b }
    exact named.move own .parking (Footing.asksAs_parking (Ticket.footing_state state)) fun _ => .inl rfl
  next called =>
    obtain ⟨t, found, state⟩ := Option.map_eq_some_iff.mp called
    have own := State.ticket_edit_same (State.ticket_edit_same found fun t => { t with runner := some b })
      fun t => { t with backlog := false }
    have noted := right_edgeKeeps.note (s := s.modifyTicket n fun t => { t with runner := some b }) n
      (f := fun t => { t with backlog := false }) named
    have parked : t.footing.state = .parked := Ticket.footing_state state
    refine noted.move own .fetching (Footing.asksAs_fetching parked) fun rides => ?_
    have may : t.footing.mayRide := (noted.fits own).rides rides
    simp [Footing.mayRide, parked] at may
  · exact named
  · exact hs

theorem State.Right.acceptTask (hs : s.Right) (b n : Nat) : (s.acceptTask b n).Right :=
  State.Right.tellAccept (right_edgeKeeps.raise _ _ (right_edgeKeeps.promote (right_edgeKeeps.setRunner _ _
    (right_edgeKeeps.modifyTask _ _ hs)))) b n

/-! ### AT_LOBBY and DEPARTED (R47, R48, R52) -/

theorem State.Right.lobbyStep (hs : s.Right) (found : s.ticket t.number = some t) (b level : Nat) : (s.lobbyStep b level t).1.Right := by
  have unfiled {p : Prop} (h : ¬ (p ∨ s.hasTenure t.number = true)) : s.hasTenure t.number = false := by
    simpa using fun has => h (.inr has)
  unfold State.lobbyStep
  split
  next parking =>
    unfold State.lobbyParking
    split
    · exact hs
    · split
      · exact hs
      next none => exact hs.fileTenure found (.inl (Ticket.footing_state parking)) (unfiled none) ..
  next restaging stall =>
    unfold State.lobbyRestaging
    dsimp only
    split
    · exact hs
    · split
      · exact hs
      next none =>
        exact hs.fileTenure found (.inr ⟨.inr (.inl (Ticket.footing_state restaging)), stall⟩)
          (unfiled (p := t.lift.getD 0 = 0) fun h => none (h.imp id .inr)) ..
  next fetching stall =>
    unfold State.lobbyFetching
    dsimp only
    split
    · exact hs
    next none => exact hs.fileTenure found (.inr ⟨.inl (Ticket.footing_state fetching), stall⟩) (unfiled none) ..
  · exact hs

/-- The step of a departure leaves a FETCHING or RESTAGING ticket without a bound stall, and its tenure as it is. -/
theorem State.Right.departStep (hs : s.Right) (found : s.ticket t.number = some t) (state : t.state = .fetching ∨ t.state = .restaging)
    (b : Nat) : (s.departStep b t).Right ∧ ((s.departStep b t).table.view t.number).footing = some t.footing.leave ∧
      (((s.departStep b t).table.view t.number).rides ↔ (s.table.view t.number).rides) := by
  have phase : t.footing.state = .fetching ∨ t.footing.state = .restaging := state.imp Ticket.footing_state Ticket.footing_state
  have fits := hs.fits found
  unfold State.departStep
  split
  next stall =>
    refine ⟨hs, ?_, .rfl⟩
    rw [State.view_footing found]
    simp [Ticket.footing, stall]
  next k stall =>
    have fills : t.footing.fills k := ⟨stall, by rcases phase with h | h <;> simp [h]⟩
    have occupied : s.occupiedBy k t.number = true := (s.view_occupied _ k).mp ((fits.occupied k).mpr fills)
    rw [if_pos occupied]
    obtain ⟨left, footing⟩ := hs.depart found occupied state
    have levelled : ((s.depart k t.number).setLevel b (((s.stall k).site.map (·.level)).getD 0)).Right :=
      right_edgeKeeps.setLevel _ _ left
    have rides : ((s.depart k t.number).table.view t.number).rides ↔ (s.table.view t.number).rides := by
      rw [State.table_depart occupied, Table.view_edit_same, Table.view_unclaim]
      exact .rfl
    have same : ((s.depart k t.number).setLevel b (((s.stall k).site.map (·.level)).getD 0)).table = (s.depart k t.number).table :=
      (table_edgeKeeps _).setLevel _ _ rfl
    have after := State.Sound.handOn (levelled.aside t.number) (k := k) (by
      rintro m rfl
      rw [same]
      refine ⟨fun listed => ?_, fun c own => ?_⟩
      · obtain ⟨c, own, unplaced⟩ := (left.right _ fun h => h).listed.mp listed
        rw [footing] at own
        rw [← Option.some.inj own] at unplaced
        rcases phase with h | h <;> simp [h] at unplaced
      · rw [footing] at own
        rw [← Option.some.inj own]
        rcases phase with h | h <;> simp [h])
    refine ⟨levelled.handOn k, ?_⟩
    rw [after.own _ rfl, same]
    exact ⟨footing, rides⟩

/-- An open ticket of a footing, found. -/
theorem State.exists_ticket {c : Footing} (footing : (s.table.view n).footing = some c) : ∃ t, s.ticket n = some t ∧ t.footing = c := by
  rw [show (s.table.view n).footing = s.table.footing n from rfl, s.footing_table] at footing
  exact Option.map_eq_some_iff.mp footing

theorem State.Right.stageCar {c : Footing} (hs : s.Right) (footing : (s.table.view n).footing = some c) (state : c.state = .fetching)
    (stall : c.stall = none) (off : ¬ (s.table.view n).rides) : (s.stageCar n).Right := by
  obtain ⟨t, found, rfl⟩ := State.exists_ticket footing
  unfold State.stageCar
  split
  · have noted : (s.modifyTicket n fun t => { t with laneRequest := some s.now }).Right := right_edgeKeeps.note n hs
    have same : (s.modifyTicket n fun t => { t with laneRequest := some s.now }).table = s.table := (table_edgeKeeps _).note n rfl
    refine right_laneKeeps.laneGrantCheck (noted.move (State.ticket_edit_same found _) .staged
      (Footing.asksAs_enter stall (.inl state) (.inr (.inr rfl))) fun rides => absurd (same ▸ rides) off)
  · exact hs

theorem State.Right.departedStep (hs : s.Right) (found : s.ticket t.number = some t) (b : Nat) : (s.departedStep b t).1.Right := by
  unfold State.departedStep
  split
  next restaging => exact (hs.departStep found (.inr restaging) b).1
  next fetching =>
    dsimp only
    split
    · exact hs
    next off =>
      obtain ⟨left, footing, rides⟩ := hs.departStep found (.inl fetching) b
      exact left.stageCar footing (Ticket.footing_state fetching) rfl fun has => off ((s.view_rides _).mp (rides.mp has))
  · exact hs

end Sys2Proof.Machine
end

section
/-! SUPPORT for O7, continued: a PARKED step keeps the table sound (R5, R6, R47, R48, R51). -/

namespace Sys2Proof.Machine

open Sys2Proof

variable {s u : State} {n k : Nat} {t : Ticket} {x : TicketState} {hook : Option Nat} {R : Prop} {H O : Nat → Prop}

/-! ### A car on its way into a stall -/

/-- The view of a number whose car is being set down: its ticket in state `x` with hook `hook`, the stalls of `H` held for it and
those of `O` occupied by it, and a tenure only if `R`. -/
structure View.Landing (v : View) (x : TicketState) (hook : Option Nat) (R : Prop) (H O : Nat → Prop) : Prop where
  footing : ∃ c, v.footing = some c ∧ c.state = x ∧ c.hook = hook
  listed : ¬ v.listed
  scheduled : ¬ v.scheduled
  hooks : ∀ h, v.hooks h ↔ hook = some h
  rides : v.rides → R
  held : ∀ j, v.held j ↔ H j
  occupied : ∀ j, v.occupied j ↔ O j

/-- Every other number stands right, and number `n` is being set down. -/
def State.Landing (n : Nat) (x : TicketState) (hook : Option Nat) (R : Prop) (H O : Nat → Prop) (s : State) : Prop :=
  ∃ w, s.Beside n w ∧ w.Landing x hook R H O

theorem State.Landing.congr {H' O' : Nat → Prop} (hs : s.Landing n x hook R H O) (held : ∀ j, H j ↔ H' j) (occupied : ∀ j, O j ↔ O' j) :
    s.Landing n x hook R H' O' := by
  obtain rfl : H = H' := funext fun j => propext (held j)
  obtain rfl : O = O' := funext fun j => propext (occupied j)
  exact hs

theorem State.Landing.held (hs : s.Landing n x hook R H O) (j : Nat) : s.heldFor j n = true ↔ H j := by
  obtain ⟨w, hs, landing⟩ := hs
  rw [← s.view_held, hs.own n rfl]
  exact landing.held j

theorem State.Landing.occupied (hs : s.Landing n x hook R H O) (j : Nat) : s.occupiedBy j n = true ↔ O j := by
  obtain ⟨w, hs, landing⟩ := hs
  rw [← s.view_occupied, hs.own n rfl]
  exact landing.occupied j

/-- A stall is not both occupied and held. -/
theorem State.not_held (occupied : s.occupiedBy k n = true) : ¬ s.heldFor k n = true := fun held => by
  have two := (State.stalls_occupied occupied).symm.trans (State.stalls_held held)
  cases two

/-- The ticket's footing changes, but for its state and its hook. -/
theorem State.Landing.edit (hs : s.Landing n x hook R H O) (g : Footing → Footing)
    (same : ∀ c, (g c).state = c.state ∧ (g c).hook = c.hook) (table : u.table = s.table.edit n g) : u.Landing n x hook R H O := by
  obtain ⟨w, hs, ⟨c, footing, state, hook⟩, listed, scheduled, hooks, rides, held, occupied⟩ := hs
  refine ⟨w.edit g, State.Beside.shift hs ?_ ?_, ⟨g c, by simp [footing], ?_, ?_⟩, listed, scheduled, hooks, rides, held, occupied⟩
  · rw [table]
    exact Table.moves_edit _ _ _
  · rw [table, Table.view_edit_same, hs.own n rfl]
  · rw [(same c).1, state]
  · rw [(same c).2, hook]

/-- A stall of the number's own, or of none, is freed. -/
theorem State.Landing.free (hs : s.Landing n x hook R H O) (own : ∀ m, (s.table.stalls k).1 = some m → m = n)
    (table : u.table = s.table.putStall k (none, .free)) : u.Landing n x hook R (fun j => H j ∧ j ≠ k) (fun j => O j ∧ j ≠ k) := by
  obtain ⟨w, hs, footing, listed, scheduled, hooks, rides, held, occupied⟩ := hs
  refine ⟨w.claim k .free, State.Beside.shift hs ?_ ?_, footing, listed, scheduled, hooks, rides, fun j => ?_, fun j => ?_⟩
  · rw [table]
    exact Table.moves_putStall _ own (by simp) (by simp)
  · rw [table, Table.view_unclaim, hs.own n rfl]
  · by_cases same : j = k <;> simp [same, held]
  · by_cases same : j = k <;> simp [same, occupied]

/-- A stall of the number's own, or of none, is occupied. -/
theorem State.Landing.occupy (hs : s.Landing n x hook R H O) (own : ∀ m, (s.table.stalls k).1 = some m → m = n)
    (low : k < Config.stallCount) : (s.occupy k n).Landing n x hook R (fun j => H j ∧ j ≠ k) (fun j => O j ∨ j = k) := by
  have table : (s.occupy k n).table = s.table.putStall k (some n, .occupied) := by
    rw [State.occupy, s.table_putStall low]
    rfl
  obtain ⟨w, hs, footing, listed, scheduled, hooks, rides, held, occupied⟩ := hs
  refine ⟨w.claim k .occupied, State.Beside.shift hs ?_ ?_, footing, listed, scheduled, hooks, rides, fun j => ?_, fun j => ?_⟩
  · rw [table]
    exact Table.moves_putStall _ own (by simp) (by simp)
  · rw [table, Table.view_claim, hs.own n rfl]
  · by_cases same : j = k <;> simp [same, held]
  · by_cases same : j = k <;> simp [same, occupied]

/-! ### The set-down (R5, R6) -/

/-- The stalls that a PARKING or RESTAGING ticket occupies: the old one of a restage. -/
def Ticket.oldStall (t : Ticket) (j : Nat) : Prop := t.state = .restaging ∧ t.stall = some j

theorem State.Right.landing (hs : s.Right) (found : s.ticket t.number = some t) (state : t.state = .parking ∨ t.state = .restaging) :
    s.Landing t.number t.state t.hook True (t.heldStall = some ·) t.oldStall := by
  have fits := hs.fits found
  refine ⟨_, hs.aside t.number, ⟨t.footing, State.view_footing found, ?_, rfl⟩, ?_, ?_, fits.hooks, fun _ => trivial, fun j => ?_, fun j => ?_⟩
  · rcases state with h | h <;> simp [Ticket.footing, h, TicketState.phase]
  · rw [fits.listed]
    rcases state with h | h <;> simp [Ticket.footing, h, TicketState.phase]
  · rw [fits.scheduled]
    rcases state with h | h <;> simp [Ticket.footing, h, TicketState.phase]
  · rw [fits.held]
    rcases state with h | h <;> simp [Ticket.footing, h, TicketState.phase, Footing.holds, Ticket.heldStall]
  · rw [fits.occupied]
    rcases state with h | h <;> simp [Ticket.footing, h, TicketState.phase, Footing.fills, Ticket.oldStall]

/-- The named stall is occupied by the car. -/
theorem State.Right.kept (hs : s.Right) (found : s.ticket t.number = some t) (state : t.state = .parking ∨ t.state = .restaging)
    (low : k < Config.stallCount) (may : s.parkable k t = true) :
    (if s.occupiedBy k t.number then s else s.occupy k t.number).Landing t.number t.state t.hook True
      (fun j => t.heldStall = some j ∧ j ≠ k) (fun j => t.oldStall j ∨ j = k) := by
  have landing := hs.landing found state
  split
  next stands =>
    refine landing.congr (fun j => ?_) fun j => ?_
    · refine (and_iff_left_of_imp fun own same => ?_).symm
      rw [same, ← landing.held] at own
      exact State.not_held stands own
    · exact (or_iff_left_of_imp fun same => same ▸ (landing.occupied k).mp stands).symm
  next vacant =>
    refine landing.occupy (fun m named => ?_) low
    simp only [State.parkable, Bool.or_eq_true, Bool.and_eq_true, beq_iff_eq] at may
    obtain (free | held) | ⟨-, stands⟩ := may
    · rw [hs.idle (by rw [free]; rfl)] at named
      cases named
    · rw [State.stalls_held held] at named
      exact (Option.some.inj named).symm
    · exact absurd stands vacant

/-- The old stall of a restage is given up. -/
theorem State.Landing.departOld (hs : s.Landing t.number x hook R (fun j => t.heldStall = some j ∧ j ≠ k) (fun j => t.oldStall j ∨ j = k)) :
    (s.departOld t k).1.Landing t.number x hook R (fun j => t.heldStall = some j ∧ j ≠ k) (· = k) := by
  unfold State.departOld
  split
  next old restaging stall =>
    split
    next gone =>
      have freed := hs.free (u := s.freeOccupied old ((s.stall old).sensed == .occupied)) (fun m named => by
        rw [State.stalls_occupied gone.2] at named
        exact (Option.some.inj named).symm) (State.table_freeOccupied (State.occupied_low gone.2) _)
      have left := freed.edit (u := s.depart old t.number) Footing.leave (fun _ => ⟨rfl, rfl⟩) (by
        rw [State.table_depart gone.2, State.table_freeOccupied (State.occupied_low gone.2)])
      refine left.congr (fun j => ?_) fun j => ?_
      · refine and_iff_left_of_imp fun held same => ?_
        rw [same, ← hs.held] at held
        exact State.not_held gone.2 held
      · simp only [Ticket.oldStall, restaging, stall, true_and, Option.some.injEq]
        constructor
        · rintro ⟨same | same, other⟩
          exacts [absurd same.symm other, same]
        · rintro rfl
          exact ⟨.inr rfl, Ne.symm gone.1⟩
    next stays =>
      refine hs.congr (fun _ => .rfl) fun j => ?_
      have same : old = k := by
        by_contra other
        exact stays ⟨other, (hs.occupied old).mpr (.inl ⟨restaging, stall⟩)⟩
      simp [Ticket.oldStall, restaging, stall, same, eq_comm]
  next none =>
    refine hs.congr (fun _ => .rfl) fun j => ?_
    refine or_iff_right fun old => ?_
    exact none j old.1 old.2

/-- The hold on another stall is given up. -/
theorem State.Landing.releaseOther (hs : s.Landing t.number x hook R (fun j => t.heldStall = some j ∧ j ≠ k) (· = k)) :
    (s.releaseOther t k).1.Landing t.number x hook R (fun _ => False) (· = k) := by
  unfold State.releaseOther
  split
  next none => exact hs.congr (fun j => by simp [none]) fun _ => .rfl
  next h own =>
    split
    next gone =>
      have freed := hs.free (fun m named => by
        rw [State.stalls_held gone.2] at named
        exact (Option.some.inj named).symm) (State.table_releaseStall gone.2)
      refine freed.congr (fun j => ?_) fun j => ?_
      · simp only [own, Option.some.injEq, iff_false]
        rintro ⟨⟨same, -⟩, other⟩
        exact other same.symm
      · exact and_iff_left_of_imp fun same => same ▸ Ne.symm gone.1
    next stays =>
      refine hs.congr (fun j => iff_false_intro ?_) fun _ => .rfl
      rintro ⟨same, other⟩
      obtain rfl := Option.some.inj (own.symm.trans same)
      exact stays ⟨other, (hs.held _).mpr ⟨own, other⟩⟩

/-- The car stands in stall `k`, its ticket still in state `x`, and its tenure as it was. -/
def State.Landed (n : Nat) (x : TicketState) (k : Nat) (s : State) : Prop :=
  ∃ w hook, s.Beside n w ∧ w.Landing x hook True (fun _ => False) (· = k) ∧ w.footing = some ⟨x, some k, none, hook⟩

theorem State.Landed.of_table (hs : s.Landed n x k) (same : u.table = s.table) : u.Landed n x k := by
  obtain ⟨w, hook, hs, landing, footing⟩ := hs
  exact ⟨w, hook, State.Sound.of_table hs same, landing, footing⟩

theorem State.Landed.handOn (hs : s.Landed n x k) (state : x ≠ .parked) (j : Nat) : (s.handOn j).Landed n x k := by
  obtain ⟨w, hook, hs, landing, footing⟩ := hs
  refine ⟨w, hook, State.Sound.handOn hs (fun m _ => ⟨landing.listed, fun c own => ?_⟩) j, landing, footing⟩
  rw [footing] at own
  exact Option.some.inj own ▸ state

theorem State.Right.setDown (hs : s.Right) (found : s.ticket t.number = some t) (state : t.state = .parking ∨ t.state = .restaging)
    (low : k < Config.stallCount) (may : s.parkable k t = true) : (s.setDown t k).1.Landed t.number t.state k := by
  have put := (hs.kept found state low may).departOld.releaseOther
  unfold State.setDown
  extract_lets kept old released charger bound
  have landed : bound.Landed t.number t.state k := by
    obtain ⟨w, hs, landing⟩ := put
    obtain ⟨c, footing, same, hook⟩ := landing.footing
    have table : bound.table = released.1.table.edit t.number fun c => { c with stall := some k, target := none } :=
      State.table_modify _ _ _
    refine ⟨w.edit fun c => { c with stall := some k, target := none }, t.hook, State.Beside.shift hs ?_ ?_, ?_, ?_⟩
    · rw [table]
      exact Table.moves_edit _ _ _
    · rw [table, Table.view_edit_same]
      exact congrArg (View.edit · _) (hs.own t.number rfl)
    · exact ⟨⟨{ c with stall := some k, target := none }, by simp [footing], same, hook⟩, landing.listed, landing.scheduled,
        landing.hooks, landing.rides, landing.held, landing.occupied⟩
    · simp [footing, same, hook]
  clear_value bound
  dsimp only
  split
  · exact landed
  · exact landed.handOn (by rcases state with h | h <;> simp [h]) _

/-! ### The end of the step (R47, R48, R51) -/

theorem State.Landed.park (hs : s.Landed n x k) {y : TicketState} (new : y.phase = .parked) : ((s.moveTicket n y).letGo n).Right := by
  obtain ⟨w, hook, hs, landing, footing⟩ := hs
  have moved : (s.moveTicket n y).Beside n (w.edit (·.enter y)) := by
    refine State.Beside.shift hs ?_ ?_
    · rw [State.table_move]
      exact Table.moves_edit _ _ _
    · rw [State.table_move, Table.view_edit_same, hs.own n rfl]
  refine State.Beside.rejoin (State.Beside.letGo moved) (View.Fits.right (c := ⟨.parked, some k, none, hook⟩) ?_ ?_)
  · obtain ⟨-, listed, scheduled, hooks, -, held, occupied⟩ := landing
    refine ⟨by simp [listed], by simp [scheduled], hooks, fun j => ?_, fun j => ?_, by simp [Footing.bound], False.elim⟩
    · simp [held, Footing.holds]
    · simp [occupied, Footing.fills, eq_comm]
  · simp [footing, new]

theorem State.Landed.endParking (hs : s.Landed t.number x k) (b : Nat) (slotFree : Bool) : (s.endParking b t slotFree).Right := by
  unfold State.endParking
  dsimp only
  split
  · have noted : (s.modifyTicket t.number fun t => { t with callPending := false }).Landed t.number x k :=
      hs.of_table ((table_edgeKeeps _).note t.number rfl)
    exact right_edgeKeeps.makeTask _ _ _ (right_edgeKeeps.endTask _ _ _ (noted.park rfl))
  · exact right_edgeKeeps.endTask _ _ _ (hs.park rfl)

theorem State.Right.parkedStep (hs : s.Right) (found : s.ticket t.number = some t) (b k : Nat) (slotFree : Bool) :
    (s.parkedStep b k slotFree t).1.Right := by
  have parks (state : t.state = .parking ∨ t.state = .restaging) : (s.parkStep b k slotFree t).1.Right := by
    unfold State.parkStep
    split
    next low =>
      split
      next may =>
        dsimp only
        have levelled (level : Nat) : ((s.setDown t k).1.setLevel b level).Landed t.number t.state k :=
          (hs.setDown found state low may).of_table ((table_edgeKeeps _).setLevel _ _ rfl)
        split
        exacts [(levelled _).endParking b slotFree, State.Right.handOn ((levelled _).endParking b slotFree) _]
      · exact hs
    · exact hs
  unfold State.parkedStep
  split
  next parking => exact parks (.inl parking)
  next restaging => exact parks (.inr restaging)
  · exact hs

end Sys2Proof.Machine
end

section
/-! SUPPORT for O7, continued: a force close and changed parameters keep the table sound (R59, R65, R117, R123, R199). -/

namespace Sys2Proof.Machine

open Sys2Proof

variable {s u : State} {n k p : Nat} {t : Ticket} {x : TicketState} {hook : Option Nat} {R : Prop} {H O : Nat → Prop}

/-! ### Force close (R59) -/

/-- What the ticket has left of tenure, entry and place is undone. -/
theorem State.Right.undone (hs : s.Right) (found : s.ticket t.number = some t) :
    ((((State.withdrawTask { s with unplaced := s.unplaced.filter (· != t.number) } t.number).unschedule t.number).letGo
      t.number).Landing t.number t.footing.state t.hook False t.footing.holds t.footing.fills) := by
  have fits := hs.fits found
  have listed := (sound_edgeKeeps _ _).withdrawTask t.number (hs.unlist t.number)
  have out : (State.unschedule (State.withdrawTask { s with unplaced := s.unplaced.filter (· != t.number) } t.number)
      t.number).Beside t.number { s.table.view t.number with listed := False, scheduled := False } := by
    refine State.Beside.shift listed ?_ ?_
    · rw [State.table_unschedule]
      exact Table.moves_unschedule _ _
    · rw [State.table_unschedule, Table.view_unschedule, listed.own _ rfl]
  exact ⟨_, State.Beside.letGo out, ⟨t.footing, State.view_footing found, rfl, rfl⟩, id, id, fits.hooks, id, fits.held, fits.occupied⟩

/-- The holds of a ticket are given up, one after the other. -/
theorem State.Landing.releaseStalls (hs : s.Landing n x hook R H O) {ks : List Nat} (all : ∀ j, H j → j ∈ ks) :
    (forEach ks (fun k s => s.releaseStall k n) s).Landing n x hook R (fun _ => False) O := by
  have step (k : Nat) (xs : List Nat) (u : State) (hu : ∃ H', u.Landing n x hook R H' O ∧ ∀ j, H' j → j ∈ k :: xs) :
      ∃ H', (u.releaseStall k n).Landing n x hook R H' O ∧ ∀ j, H' j → j ∈ xs := by
    obtain ⟨H', hu, rest⟩ := hu
    by_cases held : u.heldFor k n = true
    · have freed := hu.free (fun m named => by
        rw [State.stalls_held held] at named
        exact (Option.some.inj named).symm) (State.table_releaseStall held)
      refine ⟨fun j => H' j ∧ j ≠ k, freed.congr (fun _ => .rfl) fun j => ?_, fun j own => ?_⟩
      · refine and_iff_left_of_imp fun occupied same => State.not_held ?_ held
        exact same ▸ (hu.occupied j).mpr occupied
      · exact (List.mem_cons.mp (rest j own.1)).resolve_left own.2
    · refine ⟨H', by rwa [State.releaseStall, if_neg held], fun j own => ?_⟩
      refine (List.mem_cons.mp (rest j own)).resolve_left fun same => held ?_
      exact same ▸ (hu.held j).mpr own
  obtain ⟨H', end_, none⟩ := forEach_rest (fun xs (u : State) => ∃ H', u.Landing n x hook R H' O ∧ ∀ j, H' j → j ∈ xs)
    (fun k s => s.releaseStall k n) step ⟨H, hs, all⟩
  exact end_.congr (fun j => iff_false_intro fun own => by simpa using none j own) fun _ => .rfl

theorem State.Landing.freeStalls (hs : s.Landing t.number x hook R t.footing.holds t.footing.fills) :
    (s.freeStalls t).1.Landing t.number x hook R (fun _ => False) fun _ => False := by
  have released := hs.releaseStalls (ks := (t.stall.toList ++ t.target.toList).filter fun k => s.heldFor k t.number) fun j own => by
    rw [List.mem_filter]
    refine ⟨?_, (hs.held j).mpr own⟩
    obtain ⟨stall, -⟩ | ⟨target, -⟩ := own
    · simp [show t.stall = some j from stall]
    · simp [show t.target = some j from target]
  unfold State.freeStalls
  dsimp only
  cases stall : t.stall with
  | none =>
    rw [stall] at released
    refine released.congr (fun _ => .rfl) fun j => iff_false_intro fun own => ?_
    have bound : t.stall = some j := own.1
    rw [stall] at bound
    cases bound
  | some k =>
    rw [stall] at released
    have only (j : Nat) (own : t.footing.fills j) : j = k := by
      have bound : t.stall = some j := own.1
      exact Option.some.inj (bound.symm.trans stall)
    by_cases occupied : s.occupiedBy k t.number = true
    · have still := (released.occupied k).mpr ((hs.occupied k).mp occupied)
      have one : ((some k).toList.filter fun k => s.occupiedBy k t.number) = [k] := by simp [occupied]
      rw [one]
      refine State.Landing.congr (released.free (fun m named => by
        rw [State.stalls_occupied still] at named
        exact (Option.some.inj named).symm) (State.table_freeOccupied (State.occupied_low occupied) true)) (fun j => by simp) fun j => ?_
      exact iff_false_intro fun own => own.2 (only j own.1)
    · have none : ((some k).toList.filter fun k => s.occupiedBy k t.number) = [] := by simp [occupied]
      rw [none]
      refine released.congr (fun _ => .rfl) fun j => iff_false_intro fun own => occupied ?_
      exact only j own ▸ (hs.occupied j).mpr own

theorem State.Right.forceCloseTicket (hs : s.Right) (found : s.ticket t.number = some t) : (s.forceCloseTicket t).Right := by
  have undone := (hs.undone found).freeStalls
  unfold State.forceCloseTicket
  extract_lets listed loose freed closed handed
  have closed_ : closed.Right := by
    obtain ⟨w, hs, landing⟩ := undone
    have cancelled := (sound_laneKeeps _ _).cancelLane t.number hs
    exact State.Beside.closeTicket cancelled ⟨landing.listed, landing.scheduled, landing.hooks, fun j => mt (landing.held j).mp id,
      fun j => mt (landing.occupied j).mp id, mt landing.rides id⟩
  have handed_ : handed.Right := right_laneKeeps.laneGrantCheck
    (forEach_keeps State.Right _ _ _ (fun k _ hu => State.Right.handOn hu k) closed_)
  split
  exacts [handed_.stagingFell _, handed_]

/-! ### Changed parameters (R117, R123, R199) -/

theorem State.Right.handPanelHooks (hs : s.Right) (low : p ≤ Config.panelCount) : (s.handPanelHooks p).Right := by
  refine forEach_keeps_of_mem State.Right _ _ s (fun h mem u hu => State.Right.handHook hu ?_) hs
  simp only [hooksOf, List.mem_map, List.mem_range] at mem
  simp only [Config.panelCount, Config.hooksPerPanel, Config.hookCount] at mem low ⊢
  omega

theorem State.Right.paramChanged (hs : s.Right) (k : Nat) : (s.paramChanged k).Right := by
  have configured (l : Nat) : (if s.liftConfigured l then s.liftConfiguredNow l else s).Right := by
    split
    exacts [(hs.grantCheck l).passage l _, hs]
  have lane (l : Nat) : (if s.laneConfigured l then s.laneGrantCheck else s.laneUnconfigured l).Right := by
    split
    exacts [right_laneKeeps.laneGrantCheck hs, right_laneKeeps.laneUnconfigured _ hs]
  unfold State.paramChanged
  split
  exacts [hs.attemptUnplaced, hs.attemptUnplaced, hs.attemptUnplaced, hs.attemptUnplaced, right_edgeKeeps.takeOverdue hs,
    configured _, configured _, configured _, configured _, lane _, lane _, lane _, lane _, lane _, lane _, hs]

/-- The panel's hooks belong to no ticket. -/
def State.PanelLoose (s : State) (p : Nat) : Prop := ∀ h ∈ hooksOf p, (s.hook h).custody.loose = true

/-- A hook's record is dropped in place: other hooks stay as they are, and it is VACANT. -/
theorem State.PanelLoose.setHook {r : Hook} {h : Nat} (loose : s.PanelLoose p) (vacant : r.custody.loose = true) :
    (s.setHook h r).PanelLoose p := fun j mem => by
  by_cases same : h = j
  · subst same
    by_cases low : h < Config.hookCount
    · rwa [State.hook_setHook_same s h r low]
    · rw [State.setHook, setNth_outside _ _ _ (by omega)]
      exact loose h mem
  · rw [State.hook_setHook_ne s h j r same]
    exact loose j mem

/-- A panel whose hooks belong to no ticket is emptied, and no panel comes to have a hook of a ticket. -/
theorem State.Right.unconfigurePanel (hs : s.Right) {D : Nat → Prop} (loose : ∀ q, D q → s.PanelLoose q) (own : D p) :
    (s.unconfigurePanel p).Right ∧ ∀ q, D q → (s.unconfigurePanel p).PanelLoose q := by
  unfold State.unconfigurePanel
  have emptied := forEach_keeps_of_mem (fun u : State => u.Right ∧ ∀ q, D q → u.PanelLoose q) (hooksOf p)
    (fun h s => s.setHook h { s.hook h with custody := .vacant, accepted := .unknown, pending := none }) s
    (fun h mem u ⟨hu, loose⟩ => ⟨right_edgeKeeps.hookMarks h { u.hook h with custody := .vacant, accepted := .unknown, pending := none }
      rfl (loose p own h mem).symm hu, fun q dropped => (loose q dropped).setHook rfl⟩) ⟨hs, loose⟩
  revert emptied
  generalize forEach (hooksOf p) _ s = u
  rintro ⟨hu, loose⟩
  exact ⟨right_edgeKeeps.setPanel p Panel.cold (fun _ => Panel.cold_countsFit) hu, loose⟩

theorem Hook.loose_of_unbound {r : Hook} (unbound : r.isBound = false) : r.custody.loose = true := by
  unfold Hook.isBound at unbound
  cases own : r.custody <;> simp_all [Custody.loose]

/-- A panel count that would drop a panel with a hook of a ticket is refused. -/
theorem State.loose_of_free (may : s.panelCountBusy n = false) (dropped : n < p ∧ p ≤ s.params.panelCount) (last : p ≤ 9) :
    s.PanelLoose p := fun h mem => by
  refine Hook.loose_of_unbound ?_
  have inside : p ∈ oneTo Config.panelCount := by
    simp only [oneTo, List.mem_map, List.mem_range, Config.panelCount]
    exact ⟨p - 1, by omega, by omega⟩
  have free := List.any_eq_false.mp may p inside
  simp only [State.panelConfigured, Bool.and_eq_true, decide_eq_true_eq, not_and, Bool.not_eq_true] at free
  have none := free ⟨dropped.1, by omega, dropped.2⟩
  exact Bool.eq_false_iff.mpr fun bound => by simpa [bound] using List.any_eq_false.mp none h mem

theorem State.Right.storePanelCount (hs : s.Right) (may : s.panelCountBusy n = false) : (s.storePanelCount n).Right := by
  have stored : State.Right { s with params.panelCount := n } := State.Sound.of_table hs rfl
  have inside {p : Nat} (mem : p ∈ oneTo Config.panelCount) : p ≤ 9 := by
    simp only [oneTo, List.mem_map, List.mem_range, Config.panelCount] at mem
    omega
  unfold State.storePanelCount
  dsimp only
  by_cases fewer : n < s.params.panelCount
  · refine (forEach_keeps_of_mem (fun u : State => u.Right ∧ ∀ q, n < q ∧ q ≤ s.params.panelCount ∧ q ≤ 9 → u.PanelLoose q) _ _ _
      (fun p mem u ⟨hu, loose⟩ => ?_) ⟨stored, fun q ⟨above, old, last⟩ => ?_⟩).1
    · rw [if_neg (by omega)]
      split
      next drops => exact State.Right.unconfigurePanel hu loose ⟨drops.1, drops.2, inside mem⟩
      · exact ⟨hu, loose⟩
    · have loose : s.PanelLoose q := State.loose_of_free may ⟨above, old⟩ last
      exact loose
  · refine forEach_keeps_of_mem State.Right _ _ _ (fun p mem u hu => ?_) stored
    split
    · exact State.Right.handPanelHooks (right_edgeKeeps.setPanel p Panel.cold (fun _ => Panel.cold_countsFit) hu) (inside mem)
    · rwa [if_neg (by omega)]

end Sys2Proof.Machine
end

section
/-! SUPPORT for O7, continued: the starts keep the table sound (R20, R62, R125, R201, R203). -/

namespace Sys2Proof.Machine

open Sys2Proof

variable {s : State} {n : Nat}

/-! ### The blocks of a retained start (R20, R62, R82, R125) -/

/-- The phase of a ticket after a retained start. -/
def Footing.stateAtStart (c : Footing) : TicketState :=
  match c.state with
  | .parking => .assigned
  | .restaging => .parked
  | .fetching => if c.stall.isSome then .parked else .atCurb
  | .descending => .atCurb
  | x => x

/-- The footing of a ticket after a retained start. -/
def Footing.start (c : Footing) : Footing :=
  { c with state := c.stateAtStart, target := if c.state = .restaging then none else c.target }

theorem Ticket.atStart_footing (t : Ticket) (now : SiteTime) : (t.atStart now).footing = t.footing.start := by
  have state : t.stateAtStart.phase = t.footing.stateAtStart := by
    unfold Ticket.stateAtStart Footing.stateAtStart Ticket.footing
    cases t.state <;> cases t.callPending <;> cases t.stall <;> rfl
  have restaging : t.state = .restaging ↔ t.footing.state = .restaging := by
    unfold Ticket.footing
    cases t.state <;> simp [TicketState.phase]
  simp only [Footing.start, ← state, ← restaging]
  rfl

theorem State.table_startTickets (s : State) (strap : Fin 16) :
    (s.blocksAtStart strap).table.tickets = s.table.tickets.map fun c => (c.1, c.2.start) := by
  simp only [State.table, s.blocksAtStart_tickets, List.map_map]
  refine List.map_congr_left fun c _ => ?_
  have flagged : ((s.ticketAtStart c).flaggedBy (s.lateAtStart strap)).footing = c.footing.start := by
    rw [Ticket.flaggedBy_eq]
    exact c.atStart_footing s.now
  rw [Function.comp_apply, Function.comp_apply, flagged, Ticket.flaggedBy_eq]
  rfl

theorem State.table_startHooks (s : State) (strap : Fin 16) : (s.blocksAtStart strap).table.hooks = s.table.hooks := by
  funext h
  simp only [State.table, s.blocksAtStart_hook]
  unfold Hook.atStart
  cases (s.hook h).custody <;> rfl

theorem State.table_startStalls (s : State) (strap : Fin 16) (k : Nat) :
    (s.HeldAsTarget k → (s.blocksAtStart strap).table.stalls k = (none, .free)) ∧
      (¬ s.HeldAsTarget k → (s.blocksAtStart strap).table.stalls k = s.table.stalls k) := by
  obtain ⟨freed, kept⟩ := s.blocksAtStart_stall strap k
  simp only [State.table]
  exact ⟨fun h => by rw [freed h]; rfl, fun h => by rw [kept h]; rfl⟩

theorem State.table_startRiders (s : State) (strap : Fin 16) (l : Nat) : (s.blocksAtStart strap).table.riders l = [] := by
  have cold : (s.blocksAtStart strap).lift l = Lift.cold := by
    cases l with
    | zero => rfl
    | succ i => exact nth_replicate _ i Lift.cold
  simp only [State.table, cold]
  rfl

/-- The view of a number after the blocks of a retained start. -/
theorem State.view_start (s : State) (strap : Fin 16) (n : Nat) : (s.blocksAtStart strap).table.view n =
    { s.table.view n with
      footing := (s.table.view n).footing.map Footing.start
      held := fun k => (s.table.view n).held k ∧ ¬ s.HeldAsTarget k
      occupied := fun k => (s.table.view n).occupied k ∧ ¬ s.HeldAsTarget k
      rides := False } := by
  have footing : (s.blocksAtStart strap).table.footing n = (s.table.footing n).map Footing.start := by
    simp only [Table.footing, s.table_startTickets, List.find?_map, Option.map_map]
    rfl
  have stalls (k : Nat) (x : StallState) (claim : x ≠ .free) : (s.blocksAtStart strap).table.stalls k = (some n, x) ↔
      s.table.stalls k = (some n, x) ∧ ¬ s.HeldAsTarget k := by
    obtain ⟨freed, kept⟩ := s.table_startStalls strap k
    by_cases target : s.HeldAsTarget k
    · simp [freed target, target]
    · simp [kept target, target]
  have riding : (s.blocksAtStart strap).table.riding = [] := by simp [Table.riding, s.table_startRiders]
  simp only [Table.view, footing, s.table_startHooks, riding, List.not_mem_nil, stalls _ StallState.held (by decide),
    stalls _ StallState.occupied (by decide)]
  rfl

/-- A ticket stands after a retained start as the records then say. -/
theorem View.Fits.start {v : View} {c : Footing} (fits : v.Fits c) {freed : Nat → Prop}
    (targets : ∀ k, v.held k → (freed k ↔ c.state = .restaging ∧ c.target = some k)) (others : ∀ k, v.occupied k → ¬ freed k) :
    View.Fits { v with footing := some c.start, held := fun k => v.held k ∧ ¬ freed k,
                       occupied := fun k => v.occupied k ∧ ¬ freed k, rides := False } c.start := by
  obtain ⟨listed, scheduled, hooks, held, occupied, bound, -⟩ := fits
  have targets' (k : Nat) : v.held k ∧ ¬ freed k ↔ c.holds k ∧ ¬ (c.state = .restaging ∧ c.target = some k) := by
    rw [← held]
    exact and_congr_right fun own => not_congr (targets k own)
  have others' (k : Nat) : v.occupied k ∧ ¬ freed k ↔ c.fills k := (and_iff_left_of_imp (others k)).trans (occupied k)
  obtain ⟨state, stall, target, hook⟩ := c
  refine ⟨listed.trans ?_, scheduled.trans ?_, hooks, fun k => (targets' k).trans ?_, fun k => (others' k).trans ?_, ?_, False.elim⟩
  all_goals
    clear targets targets' others others' listed scheduled hooks held occupied
    simp only [Footing.holds, Footing.fills, Footing.bound, Footing.start, Footing.stateAtStart] at bound ⊢
    cases state <;> cases stall <;> simp_all

/-- A stall held for a ticket is freed at a retained start when it is the ticket's restage target. -/
theorem State.heldAsTarget_of_held (s : State) {k : Nat} {t : Ticket} (held : s.table.stalls k = (some n, .held)) (found : s.ticket n = some t) :
    s.HeldAsTarget k ↔ t.footing.state = .restaging ∧ t.footing.target = some k := by
  have state : (s.stall k).state = .held := StallState.claim_held.mp (congrArg Prod.snd held)
  have ticket : (s.stall k).ticket = some n := congrArg Prod.fst held
  have restaging : t.footing.state = .restaging ↔ t.state = .restaging := by
    unfold Ticket.footing
    cases t.state <;> simp [TicketState.phase]
  rw [restaging, show t.footing.target = t.target from rfl]
  simp [State.HeldAsTarget, state, ticket, found]

theorem State.Right.blocksAtStart (hs : s.Right) (strap : Fin 16) : (s.blocksAtStart strap).Right := by
  have right := fun m => hs.right m fun h => h
  refine ⟨⟨?_, hs.shape.unplaced, hs.shape.schedule, fun h => ?_, fun k => ?_, ?_⟩, fun m _ => ?_, nofun⟩
  · rw [s.table_startTickets, List.map_map]
    exact hs.shape.numbers
  · rw [s.table_startHooks]
    exact hs.shape.hooks h
  · obtain ⟨freed, kept⟩ := s.table_startStalls strap k
    by_cases target : s.HeldAsTarget k
    · simp [freed target]
    · rw [kept target]
      exact hs.shape.stalls k
  · have riding : (s.blocksAtStart strap).table.riding = [] := by simp [Table.riding, s.table_startRiders]
    simp [riding]
  · rw [s.view_start]
    cases footing : (s.table.view m).footing with
    | none =>
      obtain ⟨listed, scheduled, hooks, held, occupied, -⟩ := (right m).gone footing
      exact View.Gone.right ⟨listed, scheduled, hooks, fun k own => held k own.1, fun k own => occupied k own.1, id⟩ rfl
    | some c =>
      obtain ⟨t, found, rfl⟩ := State.exists_ticket footing
      refine View.Fits.right (View.Fits.start ((right m).fits footing) (fun k own => ?_) fun k own => ?_) rfl
      · exact s.heldAsTarget_of_held own found
      · exact fun target => by
          have claim : (s.stall k).state.claim = .occupied := congrArg Prod.snd own
          rw [target.1] at claim
          cases claim

/-! ### The starts (R201, R203) -/

theorem State.Right.bindVacant (hs : s.Right) : s.bindVacant.Right := by
  refine forEach_keeps_of_mem State.Right _ _ s (fun p mem u hu => State.Right.handPanelHooks hu ?_) hs
  have inside := (List.mem_filter.mp mem).1
  simp only [oneTo, List.mem_map, List.mem_range] at inside
  omega

theorem State.Right.releaseAllReached (hs : s.Right) : s.releaseAllReached.Right :=
  forEach_keeps State.Right _ _ s (fun n _ hu => State.Right.releaseEntry hu n) hs

theorem State.Right.retainedStart (hs : s.Right) (strap : Fin 16) : (s.retainedStart strap).Right := by
  have started : (s.startBlocks strap).Right := by
    obtain ⟨f, -, same⟩ := s.startBlocks_owes strap
    rw [same]
    exact State.Sound.of_table (hs.blocksAtStart strap) rfl
  have handed := forEach_keeps State.Right s.freedTargets (fun k s => s.handOn k) _ (fun k _ hu => State.Right.handOn hu k) started
  have bound := right_laneKeeps.laneGrantCheck (State.Right.bindVacant (State.Right.attemptUnplaced handed))
  exact right_edgeKeeps.takeOverdue (State.Right.releaseAllReached (right_edgeKeeps.markedEntries
    (fun e => { e with reached := e.reached || e.release.notAfter _ }) (fun _ => rfl) bound))

theorem State.Right.coldStart (s : State) (strap : Fin 16) : (s.coldStart strap).Right :=
  State.Sound.of_table (State.reset.right_iff.mpr State.reset_recordsRight) rfl

end Sys2Proof.Machine
end

section
/-! PROOF. O7: the records of who stands where are in step with the open tickets through every step, put together from the
operations of the blocks. -/

namespace Sys2Proof.Machine

open Sys2Proof

/-- Every operation that a command has a block make keeps the table sound. -/
theorem right_commandKeeps : CommandKeeps State.Right where
  toEdgeKeeps := right_edgeKeeps
  arrives a f hs := hs.takeArrive a f
  calls f hs := hs.requestCall f
  schedules _ time own hs := hs.scheduleTicket own time
  cancels _ own hs := hs.cancelTicket own
  groups _ g _ _ hs := hs.linkGroup g
  accepts b n hs := hs.acceptTask b n
  lobbies b level _ own hs := hs.lobbyStep own b level
  departs b _ own hs := hs.departedStep own b
  parks b k slotFree _ own hs := hs.parkedStep own b k slotFree
  closes _ own state hs := hs.closeTicket own state
  idles l level hs := hs.liftIdle l level
  unloads l hs := hs.liftUnloaded l
  obstructs l hs := hs.liftObstructed l
  faults l hs := hs.liftFaulted l
  delivers n hs := hs.laneOccupied n
  clears n hs := right_laneKeeps.freeLane n hs
  empties k hs := hs.sensedEmpty k
  absences a cls served hs := hs.handAbsence a cls served
  hands k hs := hs.handOn k
  binds _ low hs := hs.handHook low
  changes k hs := hs.paramChanged k
  counts _ _ may hs := hs.storePanelCount may
  releases n hs := hs.releaseEntry n
  rebinds k _ own hs := hs.rebind own k
  restages _ k own _ hs := hs.restageTicket own k
  forces _ own hs := hs.forceCloseTicket own
  starts strap hs := hs.retainedStart strap
  colds {s} strap := State.Right.coldStart s strap

/-- The records of who stands where stay in step with the open tickets (R3, R31, R64, R107, R127). -/
theorem State.RecordsRight.step {s t : State} (right : s.RecordsRight) (run : step s = .next t) : t.RecordsRight :=
  t.right_iff.mp (right_commandKeeps.step_next (s.right_iff.mpr right) run)

/-- Settles O7: the groups through the writes that commands are made of, and the records through the table of who stands
where, which every operation of a block keeps sound. -/
theorem everyStepKeepsGroupsAndRecords : Obligations.EveryStepKeepsGroupsAndRecords :=
  ⟨fun _ _ => State.GroupsRight.step, fun _ _ => State.RecordsRight.step⟩

end Sys2Proof.Machine
end
